-- ==== Sys2Proof/Word.lean ====
section
/-! DEFINITION. The word types of the block (R1: bit 0 is the least significant bit; R3: registers are 32-bit). -/
namespace Sys2Proof

/-- A register of BAR0 (R3). -/
abbrev Word := BitVec 32

/-- A byte of the cellar or of host memory. -/
abbrev Byte := BitVec 8

/-- One word of a source bus (R29: 128 data bits). -/
abbrev BusWord := BitVec 128

end Sys2Proof
end

