-- ==== Sys2Proof/Syntax.lean ====
section
/-! DEFINITION. The commands of the block: one constructor per row of spec/opcode_table.json, with the row's operands.
Indices are `Fin`, so that no command names an index outside the table of 00_scope.md; what else an operand must satisfy
stands in WellFormed.lean. Measurements the manual leaves to the world outside (instants, phases, temperatures, what
arrives on a pin or link) are operands. -/
namespace Sys2Proof

/-- Who makes an access (R5): a partition's function, or the management QSPI port. -/
inductive Req where
  | part (p : Fin 8)
  | mgmt
deriving DecidableEq, Repr

/-- A line record (R115): the raster line and source frame number of its descriptor, its class and member, its words in
order (picture words, then ANC words; sample j of a word in bits [10j+9:10j], bit 120 set in an ANC word). -/
structure LineRec where
  line : Nat
  frame : Nat
  cls : Nat
  member : Nat
  words : List BusWord
deriving DecidableEq, Repr

/-- A commit point (R80). `line` 0 is a switch point that SWITCH_SYNC has not resolved yet. `sw` marks a switch point,
`frame` then being the frame it belongs to until it is resolved. -/
structure Stamp where
  cad : Nat
  frame : Nat
  line : Nat
  sw : Bool
deriving DecidableEq, Repr

/-- A replicated descriptor (R378, R380): epoch, RSEQ, partition, format version, the 64 B descriptor, its stamp with the
LATE flag, and the content its issuer read from host memory (R336) or the base entries of an image (R79), as words. -/
structure ReplMsg where
  epoch : Nat
  rseq : Nat
  part : Nat
  ver : Nat
  bits : BitVec 512
  stamp : Option Stamp
  late : Bool
  content : List Word
deriving DecidableEq, Repr

/-- The registers whose writes are protection writes (R306). -/
inductive ProtReg where
  | dstOwn (d : Fin 1280)
  | srcVis (i : Fin 1280)
  | engAlloc (e : Fin 64)
  | partFlow (p : Fin 8)
  | celBase (p : Fin 8)
  | celLimit (p : Fin 8)
  | audSvis (b : Fin 1024)
deriving DecidableEq, Repr

/-- The readers of the cellar that fetch a line ahead of its use (R289), and the scrubber (R291): a slate line of a
generator, a line of layer 2 + i of channel k of an engine, a line of an extended merge; the line by its index from 0 among the picture
lines. The scrubber reads one 32 B word, by byte address. -/
inductive CelReader where
  | slate (g : Fin 64) (line : Nat)
  | layer (e : Fin 64) (i : Fin 2) (k : Fin 4) (line : Nat)
  | merge (f : Fin 16384) (line : Nat)
  | scrub (addr : Nat)
deriving DecidableEq, Repr

/-- The request that an error of the interconnect ends (R318): a register read of a requester; a bulk read of n dwords at offset o of a
channel; the read of fence k of an engine; a unit read for the twin; the oldest fetch of a ring, and a descriptor's read of host memory;
any other request of a master, of which this block keeps nothing. -/
inductive NocReq where
  | regRead (rq : Req)
  | bulkRead (c : Fin 9) (o n : Nat)
  | fence (e : Fin 64) (k : Fin 4)
  | copy (n : Nat)
  | fetch (p r : Fin 8)
  | hostRead (p r : Fin 8)
  | plain (master : Fin 6)
deriving DecidableEq, Repr

/-- A DECISION of the partner link (R378): a resolved switch point (R74) as the frame it belongs to and where it lies; the
verdict on a flip group (R241), or on a flip or SIG_EXPECT that stands alone (id 0), for a frame; a frame selection
(R384), the selected input frame by the FRAME of its line 1 record, none for black. -/
inductive Decision where
  | switchPoint (c : Fin 8) (frame atFrame atLine : Nat)
  | flip (part : Fin 8) (id : Fin 16) (e : Fin 64) (sig : Bool) (item : Fin 4) (frame : Nat) (proceed : Bool)
  | select (e : Fin 64) (k : Fin 4) (frame : Nat) (sel : Option Nat)
deriving DecidableEq, Repr

/-- The key of a salvo: partition and ID; ID 8 is the salvo without an ID of a route-map image (R79). -/
structure SalvoKey where
  part : Nat
  id : Nat
deriving DecidableEq, Repr

/-- An open or committing salvo (R85). `commit` holds the SALVO_COMMIT's tracker entry and point. -/
structure Salvo where
  key : SalvoKey
  cad : Nat
  commit : Option (Nat × Stamp)
  late : Bool
deriving DecidableEq, Repr

/-- A pending take of the destination signal at slot `d`, base `m` (R75): the signal it is to select, none for an
unroute. -/
structure PendTake where
  tok : Nat
  d : Nat
  m : Nat
  src : Option (Nat × Nat)
  stamp : Stamp
  late : Bool
  salvo : Option SalvoKey
deriving DecidableEq, Repr

/-- A pending change of a cadence's format, rate or switch line (R69), or a realignment (R199). -/
structure PendCad where
  tok : Nat
  stamp : Stamp
  late : Bool
  realign : Bool
  format : Nat
  rate : Nat
  switchLine : Nat
deriving DecidableEq, Repr

/-- A pending AUDIO_TAKE (R259): first destination channel, count, first source channel (none for an unroute), fade
duration in ms (0 for a cut). -/
structure PendAud where
  tok : Nat
  n : Nat
  c : Nat
  src : Option Nat
  fade : Nat
  stamp : Stamp
  late : Bool
  salvo : Option SalvoKey
deriving DecidableEq, Repr

/-- An audio take that has committed and waits for its commit sample (R261, R263): the core cycle of the commit, and of each
channel the source its live entry named before. -/
structure AudCommit where
  tok : Nat
  cycle : Nat
  n : Nat
  c : Nat
  fade : Nat
  olds : List (Option Nat)
  late : Bool
  missing : Bool
  stamp : Stamp
  salvo : Option SalvoKey
deriving DecidableEq, Repr

/-- A fade (R261): destination channel, source faded from, N, and k of the next instant. -/
structure Fade where
  ch : Nat
  old : Option Nat
  n : Nat
  k : Nat
deriving DecidableEq, Repr

/-- An ENGINE_SET accepted and not yet committed (R232): its ECB and the charge it asks for. -/
structure PendEng where
  tok : Nat
  eng : Nat
  stamp : Stamp
  late : Bool
  ecb : List Word
  charge : Nat
deriving DecidableEq, Repr

/-- A LAYER_FLIP or SIG_EXPECT (`sig`) accepted and not yet carried out (R236, R246): its layer or region, what it sets, the
fence and target it waits for, whether its fence was found to have reached the target at the last fence line, and
whether the fence's read is outstanding. -/
structure FlipM where
  tok : Nat
  eng : Nat
  sig : Bool
  item : Nat
  buf : Option Nat
  g : Option Nat
  en : Option Bool
  value : Nat
  fence : Option (Nat × Nat)
  seen : Option Bool
  reading : Bool
deriving DecidableEq, Repr

/-- A flip group (R237); `id` 0 is a flip that stands alone. `verdict` is the decision on the frame it is stamped for. -/
structure FlipGroup where
  part : Nat
  id : Nat
  cad : Nat
  frame : Nat
  closed : Bool
  late : Bool
  defers : Nat
  verdict : Option Bool
  members : List FlipM
deriving DecidableEq, Repr

/-- What a TDM port sees in a cycle in which a frame may begin (R268, R269): FSYNC at BCLK's rising and falling edge, and DIN from that
cycle on at both edges. -/
structure TdmPins where
  fs : Bool × Bool
  din : List (Bool × Bool)
deriving DecidableEq, Repr

/-- Why a reference is no longer valid (R186): 0 its conditions, 1 its frequency, 2 its edges; and its frequency as measured, in
0.01 ppb. -/
structure RefLoss where
  cause : Fin 3
  freq : Int
deriving DecidableEq, Repr

/-- A reference with its frequency as measured (R186), in 0.01 ppb. -/
structure RefMeas where
  ref : Fin 15
  freq : Int
deriving DecidableEq, Repr

/-- A function that gets Bus Master Enable, with the codes of its Max Payload Size and Max Read Request Size (R298). -/
structure BmeWrite where
  part : Fin 8
  mps : Fin 3
  mrrs : Fin 6
deriving DecidableEq, Repr

/-- An entry of an MSI-X table (R299): its vector, address and data. -/
structure MsixEntry where
  vec : Fin 32
  addr : BitVec 64
  data : Word
deriving DecidableEq, Repr

/-- A HEARTBEAT (R378): the sender's plane, state, epoch, QL, whether it selects its partner reference, its H at sending,
the echo of the last heartbeat it received (that one's H, and how long ago it came), RED_REPL_TX and RX, and for each enabled
cadence the frame number and H of its latest frame start. H and durations are in units of the model (`RefHid.h`). -/
structure Heartbeat where
  plane : Bool
  state : Fin 4
  epoch : BitVec 32
  ql : Fin 16
  self : Bool
  h : Nat
  echo : Option (Nat × Nat)
  tx : Nat
  rx : Nat
  frames : List (Nat × Nat × Nat)
deriving DecidableEq, Repr

/-- A line signature (R389): destination slot and base, frame number bits [15:0], LINE, CRC-32C, FORCED. -/
structure SigRec where
  d : Nat
  m : Nat
  frame : Nat
  line : Nat
  crc : Nat
  forced : Bool
deriving DecidableEq, Repr

/-- The control state of a snapshot (R385): the registers of the banks, audio tables, ECBs and fences by address, what is
pending, running fades with the sample instant they stand at, audio takes that wait for their commit sample, the flow table, and
the RSEQ of the capture. -/
structure Snap where
  regs : List (Nat × Word)
  takes : List PendTake
  salvos : List Salvo
  cadOps : List PendCad
  auds : List PendAud
  fades : List Fade
  commits : List AudCommit
  inst : Nat
  engs : List PendEng
  groups : List FlipGroup
  flows : List (Nat × BitVec 512)
  rseq : Nat
deriving DecidableEq, Repr


/-- The commands, in the order of the table: first those with operands, then those without (Lean compiles a value with operands only
of the first 245 constructors of a type). -/
inductive Instr where
  /-- POR_ASSERT (R453): A rail falls below 80 % of nominal for 200 ns, or power is first applied, and the device enters power-on reset. -/
  | porAssert (rails : List (Fin 6))
  /-- POR_RELEASE (R429): The internal POR timer expires 2.0 ms after every rail is valid, the fuses are sensed and stage 1 of the boot ROM starts. -/
  | porRelease (plane : Bool) (normal low high : BitVec 4096) (mv : BitVec 96)
  /-- RESET_N_DEASSERT (R429): RESET_N rises, PLANE_ID is sampled again and the boot sequence runs from stage 1 without fuse sensing. -/
  | resetNDeassert (plane : Bool)
  /-- SOFT_RESET (R427): A write of 1 to SYS_RESET.SOFT takes an ACTIVE device out of ACTIVE and schedules the soft reset. -/
  | softReset (rq : Req)
  /-- SOFT_RESET_EFFECT (R427): The soft reset takes effect, restoring SOFT registers, disabling the rings, discarding open salvos and flip groups and rerunning stage 2. -/
  | softResetEffect (flash : Bool) (r0 r1 : BitVec 128)
  /-- BLOCK_RESET (R428): A write to SYS_BLK_RESET places the selected blocks in reset. -/
  | blockReset (rq : Req) (v : Word)
  /-- REGISTER_WRITE (R7): A BAR0 or management-port write to a register that has no row of its own sets fields by their access codes. -/
  | registerWrite (rq : Req) (a : BitVec 24) (be : BitVec 4) (v : Word) (host : List (BitVec 128 × List Byte))
  /-- PAIR_LO_READ (R5): A read of NAME_LO latches NAME_HI for the requester. -/
  | pairLoRead (rq : Req) (a : BitVec 24)
  /-- PAIR_LO_WRITE (R6): A write to NAME_LO of a writable pair is held for the requester. -/
  | pairLoWrite (rq : Req) (a : BitVec 24) (v : Word)
  /-- PAIR_HI_WRITE (R6): A write to NAME_HI applies both halves together, or with the current low half if none is held. -/
  | pairHiWrite (rq : Req) (a : BitVec 24) (v : Word)
  /-- SRC_LAYOUT_WRITE (R33): A write to XPT_SRC_LAYOUT is checked for complete groups and busy routes and applied or refused. -/
  | srcLayoutWrite (r : Req) (i : Fin 1280) (v : Word)
  /-- DST_LAYOUT_WRITE (R34): A write to XPT_DST_LAYOUT is checked for complete groups and valid entries and applied or refused. -/
  | dstLayoutWrite (r : Req) (i : Fin 1280) (v : Word)
  /-- XING_MODE_WRITE (R61): A write to XPT_XING_CFG.MODE selects elastic or fixed-latency crossings and re-arms fallen-back lanes. -/
  | xingModeWrite (r : Req) (v : Word)
  /-- FIXED_LATENCY_START (R61): A locked lane starts fixed-latency operation at its next ZL frame boundary and fixes its receive hold. -/
  | fixedLatencyStart (n : Fin 576) (h : Fin 16)
  /-- XING_FALLBACK (R57): A crossing whose fill moved outside ±2 cycles switches its lane to elastic operation at the next ZL frame boundary. -/
  | xingFallback (n : Fin 576)
  /-- PROBE_ARM (R61): A write of 1 to XPT_PROBE_CTRL.ARM arms the probe at its source or destination point. -/
  | probeArm (r : Req) (v : Word)
  /-- PROBE_CANCEL (R61): A write of 0 to ARM cancels an armed probe. -/
  | probeCancel (r : Req) (v : Word)
  /-- PROBE_CAPTURE (R61): A matching word passes the armed point and the probe captures the word, tag and cycle and sets DONE. -/
  | probeCapture (w : BusWord) (valid sor eor : Bool) (cycle : Nat)
  /-- GEN_CFG_WRITE (R51): A write to XPT_GEN_CFG is checked for class, format and cellar admission and accepted or refused. -/
  | genCfgWrite (r : Req) (g : Fin 64) (v : Word)
  /-- GEN_CFG_APPLY (R50): An accepted generator change takes effect at the first frame start of its bound cadence at least 10 µs after the write. -/
  | genCfgApply (g : Fin 64)
  /-- GEN_CLR_REPEATS (R61): A write of 1 to XPT_GEN_STAT.CLR_REPEATS clears REPEATS. -/
  | genClrRepeats (r : Req) (g : Fin 64) (v : Word)
  /-- BUS_PARITY_ERROR (R61): A parity error is detected on a word of a source bus, setting PAR_ERR and raising the source bus fault source. -/
  | busParityError (b : Fin 80)
  /-- SEL_PARITY_ERROR (R399): A parity error is detected in a live-bank entry and raises XPT_SEL_ERR. -/
  | selParityError (i : Fin 10240)
  /-- CADENCE_LINE_START (R65): The start cycle of a house line of a running cadence arrives, and everything stamped or scheduled for that line is carried out. -/
  | cadenceLineStart (c : Fin 8) (cycle : Nat)
  /-- CADENCE_START (R182): An enabled cadence begins frame 0 at the first frame start at least 1 ms after the write of ENABLE 1. -/
  | cadenceStart (c : Fin 8) (cycle : Nat)
  /-- CAD_CFG_WRITE (R68): A write to XPT_CAD_CFG is checked against the running state and legality and applied or refused. -/
  | cadCfgWrite (rq : Req) (c : Fin 8) (v : Word)
  /-- CADENCE_ENABLE (R70): A write of ENABLE 1 schedules the cadence to start at frame 0. -/
  | cadenceEnable (rq : Req) (c : Fin 8) (v : Word)
  /-- CADENCE_DISABLE (R71): A write of ENABLE 0 schedules the cadence stop, or stops a cadence that has not yet begun frame 0 at once. -/
  | cadenceDisable (rq : Req) (c : Fin 8) (v : Word)
  /-- CAD_BINDING_WRITE (R67): A write to XPT_SRC_CAD or XPT_DST_CAD is checked for split groups and pending takes and applied or refused. -/
  | cadBindingWrite (r : Req) (dst : Bool) (i : Fin 1280) (v : Word)
  /-- SWITCH_SYNC_EDGE (R73): A rising edge on SWITCH_SYNC resolves the switch point of the frame or is counted OUTSIDE. -/
  | switchSyncEdge (c : Fin 8)
  /-- IMAGE_OPEN_WRITE (R79): A write of 1 to IMAGE_OPEN opens a route-map image or is refused with OPEN_REFUSED. -/
  | imageOpenWrite (r : Req)
  /-- IMAGE_DISCARD (R79): A write of 0 to IMAGE_OPEN discards the open image and restores the loft bank from the live bank. -/
  | imageDiscard (r : Req)
  /-- SSYNC_CLR (R95): A write of 1 to XPT_CAD_SSYNC.CLR clears OUTSIDE, MISSING and LAST_OFFSET. -/
  | ssyncClr (r : Req) (c : Fin 8)
  /-- CLR_TAKES (R95): A write of 1 to XPT_CAD_STAT.CLR_TAKES clears XPT_CAD_TAKES. -/
  | clrTakes (r : Req) (c : Fin 8)
  /-- ALIGN_CLR (R95): A write of 1 to XPT_ALIGN_STAT.CLR clears DIRTY of the source. -/
  | alignClr (r : Req) (i : Fin 10240)
  /-- CAD_POS_READ (R95): A read of XPT_CAD_POS latches XPT_CAD_FRAME for the requester. -/
  | cadPosRead (rq : Req) (c : Fin 8)
  /-- LINE_RECORD_RX (R115): A line record of a source signal enters the source bus, tagged SOR and EOR and checked for CRC, sequence and length. -/
  | lineRecordRx (i : Fin 1280) (m : Fin 8) (d : Int)
  /-- ALIGN_VALID_TIMEOUT (R90): Two consecutive frames pass with no sample and the source's alignment VALID clears. -/
  | alignValidTimeout (i : Fin 10240)
  /-- ZL_FRAME_RECEIVE (R108): A ZL frame is received whole, destuffed, descrambled and frame-checked, its header recorded and its blocks placed. -/
  | zlFrameReceive (n : Fin 584) (start : Nat) (line : List Bool)
  /-- ZL_FRAME_TRANSMIT (R103): A lane with TX_EN builds and sends a ZL frame with comma, header, scrambled and stuffed payload. -/
  | zlFrameTransmit (n : Fin 584) (arr : List Nat)
  /-- QUAD_MODE_WRITE (R97): A write that changes ZL_QUAD_CFG.MODE is applied only when the quad is idle, unrouted and has no flows. -/
  | quadModeWrite (rq : Req) (q : Fin 146) (v : Word)
  /-- LANE_CTRL_WRITE (R129): A write to ZL_LANE_CTRL sets enables and test functions, refusing a non-zero TEST on a transmitting lane of an ACTIVE device. -/
  | laneCtrlWrite (rq : Req) (n : Fin 584) (v : Word)
  /-- RETRAIN (R127): A write of 1 to ZL_LANE_CTRL.RETRAIN restarts training at CTLE_SWEEP. -/
  | retrain (rq : Req) (n : Fin 584)
  /-- TRAIN_STATE_ADVANCE (R125): A training state's exit condition is met and the lane moves to the next state. -/
  | trainStateAdvance (n : Fin 584) (code : Fin 16) (h : Fin 16)
  /-- TRAIN_TIMEOUT (R125): A training state's timeout expires, ATTEMPTS and LAST_FAIL are recorded and the lane moves as the table gives. -/
  | trainTimeout (n : Fin 584)
  /-- BACKOFF_EXPIRY (R125): 1 ms in BACKOFF elapses and the lane returns to CTLE_SWEEP. -/
  | backoffExpiry (n : Fin 584)
  /-- CDR_LOSS_OF_LOCK (R127): The lane's CDR loses lock and the lane returns to CDR_LOCK. -/
  | cdrLossOfLock (n : Fin 584)
  /-- COMMA_LOSS (R127): No comma is found where expected in 4 consecutive frames and the lane returns to COMMA_ALIGN. -/
  | commaLoss (n : Fin 584)
  /-- QUAD_PLL_LOSS (R127): The quad's transmit PLL loses lock and its lanes return to CDR_LOCK. -/
  | quadPllLoss (q : Fin 146)
  /-- PEER_WINDOW_CLOSE (R132): A peer's 100 µs window closes without PEER_LOST and each held lane failure is reported. -/
  | peerWindowClose (p : Fin 127)
  /-- LANE_ERR_CLR (R133): A write of 1 to ZL_LANE_ERRCLR.CLR clears the lane error counters and ATTEMPTS. -/
  | laneErrClr (rq : Req) (n : Fin 584)
  /-- PRBS_ERR_CLR (R133): A write of 1 to ZL_LANE_PRBS.CLR clears ZL_LANE_PRBS_ERR. -/
  | prbsErrClr (rq : Req) (n : Fin 584)
  /-- PRBS_CHK_LOCK (R130): The PRBS checker sees 64 consecutive error-free bits and sets CHK_LOCK. -/
  | prbsChkLock (n : Fin 584) (bits : List Bool)
  /-- PRBS_CHK_UNLOCK (R130): The PRBS checker sees 64 errors in 1,024 bits and loses lock. -/
  | prbsChkUnlock (n : Fin 584) (bits : List Bool)
  /-- EYE_RUN (R131): A write of 1 to ZL_LANE_EYE_CTRL.RUN starts an eye measurement at the set offsets. -/
  | eyeRun (rq : Req) (n : Fin 584) (v : Word)
  /-- EYE_DONE (R131): The eye measurement completes after 2^DWELL bits, writes ZL_LANE_EYE_RES, sets DONE and clears RUN. -/
  | eyeDone (n : Fin 584) (errs : Nat)
  /-- EYE_MARGIN_UPDATE (R131): Every 10 ms the background eye scan updates ZL_LANE_EYE_MARGIN. -/
  | eyeMarginUpdate (n : Fin 584) (left : BitVec 8) (right : BitVec 8) (up : BitVec 8) (down : BitVec 8)
  /-- ETH_FRAME_RECEIVE (R138): An Ethernet frame is received whole and is discarded, matched to a flow, or delivered to the host ring with statistics counted. -/
  | ethFrameReceive (p : Fin 16) (k : Fin 4) (b : List Byte) (pcsErr : Bool) (age : Nat) (d : BitVec 256)
  /-- PFC_FRAME_RECEIVE (R140): A PFC frame pauses, replaces or ends the pause of the transmit queues of its priority. -/
  | pfcFrameReceive (p : Fin 16) (k : Fin 4) (vec : BitVec 8) (times : BitVec 128)
  /-- PFC_PAUSE_EXPIRY (R140): The pause time of a queue expires and the queue resumes. -/
  | pfcPauseExpiry (p : Fin 16) (k : Fin 4) (q : Fin 8)
  /-- ETH_TX_FRAME_END (R139): A frame ends on the wire and the MAC starts the oldest frame of the highest unpaused queue. -/
  | ethTxFrameEnd (p : Fin 16) (k : Fin 4)
  /-- HOST_RING_TAIL_WRITE (R144): A write of ETH_HRING_TAIL makes host transmit descriptors or receive buffers available. -/
  | hostRingTailWrite (rq : Req) (p : Fin 16) (k : Fin 4) (v : Word) (descs : List (BitVec 128 × List Byte))
  /-- HOST_RING_ENABLE (R170): A host ring's enable going from 0 to 1 takes its size and base and zeroes its head and tail. -/
  | hostRingEnable (rq : Req) (p : Fin 16) (k : Fin 4) (v : Word)
  /-- ETH_LINK_CHANGE (R170): LINK_UP of a sub-port changes and LINK_CHANGED is set. -/
  | ethLinkChange (p : Fin 16) (k : Fin 4) (up : Bool) (fecLock : Bool) (loc : Bool) (rem : Bool)
  /-- FLOW_PACKET_ENQUEUE (R167): A packetised ST 2110 video or ancillary packet enters its transmit queue at its scheduled time, or is dropped. -/
  | flowPacketEnqueue (f : Fin 16384)
  /-- AUDIO_PACKET_ENQUEUE (R267): A transmit audio entry enqueues a packet of one packet time of samples. -/
  | audioPacketEnqueue (f : Fin 16384)
  /-- EXT_FLOW_MATCH_START (R149): An extended-merge receive entry starts matching packets 10 µs after acceptance. -/
  | extFlowMatchStart (f : Fin 16384)
  /-- LARDER_RECORD_PLAYOUT (R155): At a record's play time the larder emits it onto the source bus, concealing missing positions and truncating overlong records. -/
  | larderRecordPlayout (f : Fin 16384) (wait : Fin 128)
  /-- FLOW_LOST_ENTER (R157): After 16 consecutive picture lines with no packet written a receive entry enters LOST. -/
  | flowLostEnter (f : Fin 16384)
  /-- PAIR_LEG_TIMEOUT (R161): A pair leg writes or duplicates no packet for 16 picture lines and its LEG_OK clears. -/
  | pairLegTimeout (f : Fin 16384)
  /-- FLOW_COUNTERS_CLEAR (R170): A write of any value to FLW_CNT0 clears all three counters of the entry. -/
  | flowCountersClear (rq : Req) (f : Fin 16384)
  /-- INCR_WRITE (R172): A write of the PTP_INCR pair sets a new increment at the next counter cycle or is refused. -/
  | incrWrite (rq : Req) (d : Fin 2) (v : BitVec 64)
  /-- ADJ_STEP (R173): A write of PTP_ADJ_HI adds the signed offset step to the counter in one cycle. -/
  | adjStep (rq : Req) (d : Fin 2) (v : BitVec 64)
  /-- PTP_TIME_READ (R174): A read of PTP_TIME_NS latches the seconds and status for the requester. -/
  | ptpTimeRead (rq : Req) (d : Fin 2)
  /-- TXTS_ID_READ (R178): A read of PTP_TXTS_ID removes the oldest timestamp entry and latches its time. -/
  | txtsIdRead (rq : Req) (p : Fin 16) (k : Fin 4)
  /-- TXTS_DROPS_CLR (R208): A write of 1 to PTP_TXTS_STAT.CLR clears DROPS. -/
  | txtsDropsClr (rq : Req) (p : Fin 16) (k : Fin 4)
  /-- SYNC_IN_EDGE (R184): An edge on a SYNC_IN pin is time-stamped and measured as a reference event. -/
  | syncInEdge (k : Fin 4) (rising : Bool)
  /-- REF_INVALID (R189): A reference stops being VALID, starting a hold-off if selected or marking it failed at once otherwise. -/
  | refInvalid (i : Fin 15) (x : RefLoss)
  /-- REF_VALID_RESTORE (R190): A reference becomes VALID again, resuming tracking within hold-off or starting its wait-to-restore. -/
  | refValidRestore (x : RefMeas)
  /-- WTR_EXPIRY (R190): A failed reference has stayed VALID for WTR seconds and becomes SELECTABLE. -/
  | wtrExpiry (i : Fin 15)
  /-- REF_SELECTION (R191): Every 1 ms the DPLL evaluates reference selection and changes state as the choice requires. -/
  | refSelection (freq : Int) (temp : Int)
  /-- HOLDOVER_UPDATE (R198): Once per second in HOLDOVER the output frequency is recomputed from the model. -/
  | holdoverUpdate (temp : Int)
  /-- HISTORY_ENTRY (R196): Every HIST_INT seconds a frequency and temperature history entry is written to REF_HIST. -/
  | historyEntry (temp : Int)
  /-- CAD_LAG_WRITE (R182): A write to REF_CAD_LAG is applied or refused while the cadence is enabled or LAG is too large. -/
  | cadLagWrite (rq : Req) (c : Fin 8) (v : Word)
  /-- SYNC_OUT_PULSE (R183): A SYNC_OUT pin emits its pulse at an instant counted from H. -/
  | syncOutPulse (k : Fin 4)
  /-- CAL_SET_WRITE (R201): A write to REF_CAL_SET sets a valid date or is rejected with DATE_ERR. -/
  | calSetWrite (rq : Req) (v : Word)
  /-- TC_SKIPPED_CLR (R208): A write of 1 to REF_TC_STAT.CLR clears SKIPPED. -/
  | tcSkippedClr (rq : Req)
  /-- DEST_RECORD_EMIT (R389): A destination line record leaves the destination multiplex with re-embedding, timecode and its line signature. -/
  | destRecordEmit (d : Fin 1280) (m : Fin 8)
  /-- ENG_INPUT_LOST (R219): No record of a channel has begun on input A for 4 line periods and the channel is judged lost. -/
  | engInputLost (e : Fin 64) (k : Fin 4)
  /-- SIG_REGION_JUDGE (R245): At the end of a region's last line the engine judges the region CRC and counts or raises a mismatch run. -/
  | sigRegionJudge (e : Fin 64) (r : Fin 4)
  /-- WB_FRAME_COMPLETE (R243): A writeback frame completes and LAST advances, or is abandoned and SKIPS counted. -/
  | wbFrameComplete (e : Fin 64) (ok : Bool)
  /-- FENCE_READ_COMPLETE (R238): A host-memory or cellar fence read returns the fence value for the group's decision. -/
  | fenceReadComplete (e : Fin 64) (k : Fin 4) (v : Option (BitVec 64))
  /-- ENG_B_LATE_CLR (R248): A write of 1 to ENG_STAT.CLR clears B_LATE. -/
  | engBLateClr (rq : Req) (e : Fin 64)
  /-- FS_STAT_CLEAR (R248): A write of any value to ENG_FS_STAT clears both frame synchroniser status registers. -/
  | fsStatClear (rq : Req) (e : Fin 64)
  /-- FLIP_STAT_CLR (R248): A write of 1 to ENG_FLIP_STAT.CLR clears DEFERRED and TIMEOUTS. -/
  | flipStatClr (rq : Req) (e : Fin 64)
  /-- SIG_MISMATCH_CLR (R248): A write of 1 to ENG_SIG_STAT.CLR clears MISMATCH. -/
  | sigMismatchClr (rq : Req) (e : Fin 64) (r : Fin 4)
  /-- DEEMB_GROUP_STOP (R256): A group absent for one frame, or whose source lost VALID, stops and empties its buffer. -/
  | deembGroupStop (i : Fin 10240) (g : Fin 8)
  /-- AUDIO_RATE_WRITE (R253): A write of AUD_CFG.RATE is accepted only with all audio producers and consumers idle. -/
  | audioRateWrite (rq : Req) (v : Word)
  /-- AUDIO_MAP_WRITE (R250): A write to AUD_DEEMB, AUD_REEMB or AUD_TDM_MAP is checked for second producers and range and applied or refused. -/
  | audioMapWrite (rq : Req) (which : Fin 3) (i : Fin 10240) (v : Word)
  /-- AUD_DCAD_WRITE (R258): A write to AUD_DCAD is refused while a channel of the block has a pending take or the binding would mismatch a re-embedder. -/
  | audDcadWrite (rq : Req) (b : Fin 1024) (v : Word)
  /-- TDM_CFG_WRITE (R270): A write to AUD_TDM_CFG is checked for frame fit and EN and applied or refused. -/
  | tdmCfgWrite (rq : Req) (t : Fin 16) (v : Word)
  /-- TDM_PORT_START (R273): An enabled TDM port starts at the first block boundary after EN becomes 1. -/
  | tdmPortStart (t : Fin 16)
  /-- TDM_PORT_STOP (R273): A TDM port whose EN became 0 stops at the end of the frame in progress and floats its pins. -/
  | tdmPortStop (t : Fin 16)
  /-- TDM_FRAME (R272): A TDM port frame begins, moving one sample instant in and out and applying any plane-state drive change. -/
  | tdmFrame (t : Fin 16) (pins : TdmPins)
  /-- TDM_FSYNC_ERROR (R271): An external FSYNC at a wrong spacing resynchronises the port and sets FS_ERR. -/
  | tdmFsyncError (t : Fin 16)
  /-- TDM_CLK_LOSS (R271): BCLK has not toggled within 1 µs and CLK_OK clears. -/
  | tdmClkLoss (t : Fin 16)
  /-- TDM_BLOCK_START (R275): A block of 48 frames starts and its timestamp and count are recorded. -/
  | tdmBlockStart (t : Fin 16)
  /-- TDM_TS_READ (R276): A read of AUD_TDM_TS_NS latches the block timestamp fields and count for the requester. -/
  | tdmTsRead (rq : Req) (t : Fin 16)
  /-- AUD_POOL_CLR (R278): A write of 1 to AUD_POOL.CLR clears PEAK and CUTS. -/
  | audPoolClr (rq : Req)
  /-- TDM_SLIPS_CLR (R278): A write of 1 to AUD_TDM_STAT.CLR clears SLIPS. -/
  | tdmSlipsClr (rq : Req) (t : Fin 16)
  /-- DEEMB_SLIPS_CLR (R278): A write of 1 to AUD_DEEMB_STAT.CLR clears SLIPS. -/
  | deembSlipsClr (rq : Req) (i : Fin 10240)
  /-- REEMB_SKIPPED_CLR (R278): A write of 1 to AUD_REEMB_STAT.CLR clears SKIPPED. -/
  | reembSkippedClr (rq : Req) (i : Fin 9216)
  /-- CEL_CFG_WRITE (R280): A write to CEL_CFG changes GRAIN only with no load and no access in flight, otherwise refused. -/
  | celCfgWrite (rq : Req) (v : Word)
  /-- BUDGET_WRITE (R293): A write to CEL_BUDGET.PCT is refused above 75 or below the current load. -/
  | budgetWrite (rq : Req) (v : Word)
  /-- CEL_TRAIN_START (R286): A write of 1 to CEL_TRAIN.START starts cellar training or is refused. -/
  | celTrainStart (rq : Req)
  /-- CEL_TRAIN_DONE (R287): Cellar training completes, setting CH_OK and TRAIN_FAIL as the channels trained. -/
  | celTrainDone (ok : BitVec 16)
  /-- REFRESH_DUE (R283): A bank's refresh interval expires and a per-bank refresh is issued or postponed. -/
  | refreshDue (b : Fin 1024) (live : Bool)
  /-- STACK_TEMP_READ (R283): Every 1 ms the controller reads the stack temperature and sets the refresh rate. -/
  | stackTempRead (t : Int)
  /-- CELLAR_READ_COMPLETE (R289): A cellar read returns with ECC correction or an uncorrectable error handled by requester. -/
  | cellarReadComplete (who : CelReader) (upsets : List (Nat × Nat))
  /-- SCRUB_PERIOD_END (R291): A scrub period ends, counting a completed pass or setting LATE. -/
  | scrubPeriodEnd (complete : Bool)
  /-- CEL_ECC_CLR (R297): A write of 1 to CEL_ECC_CTRL.CLR clears the ECC counters. -/
  | celEccClr (rq : Req)
  /-- CMD_TAIL (R326): A doorbell write of CMD_TAIL announces descriptors of a command ring or is discarded. -/
  | cmdTail (fn : Fin 8) (page : Fin 8) (r : Fin 8) (v : Word)
  /-- CPL_HEAD (R327): A doorbell write of CPL_HEAD frees completion ring entries. -/
  | cplHead (fn : Fin 8) (page : Fin 8) (v : Word)
  /-- EVT_HEAD (R327): A doorbell write of EVT_HEAD frees event ring entries. -/
  | evtHead (fn : Fin 8) (page : Fin 8) (v : Word)
  /-- PROTECTION_WRITE (R306): A PF write changing ownership, visibility or windows is applied in one cycle and PROT_SEQ rises. -/
  | protectionWrite (rq : Req) (k : ProtReg) (v : Word)
  /-- FLR (R309): A Function Level Reset stops the partition's fetches and records and resets its pages. -/
  | flr (p : Fin 8)
  /-- FLR_DRAIN_DONE (R309): No host-memory access remains outstanding for the partition and FLR_BUSY clears. -/
  | flrDrainDone (p : Fin 8)
  /-- BME_CLEAR (R309): Bus Master Enable of a function is cleared and its fetches stop with records held. -/
  | bmeClear (p : Fin 8)
  /-- BME_SET (R360): Bus Master Enable returns to 1 and held records are written. -/
  | bmeSet (x : BmeWrite)
  /-- BDP_APERTURE_WRITE (R312): A write to a bulk data port aperture reaches the window target or is discarded with a flag, and W advances. -/
  | bdpApertureWrite (p : Fin 8) (o : Fin 1024) (data : List Word) (whole : Bool)
  /-- BDP_APERTURE_READ (R311): A read of a bulk data port aperture returns target data or error patterns, and W advances. -/
  | bdpApertureRead (p : Fin 8) (o : Fin 1024) (n : Fin 1025)
  /-- BDP_CTRL_WRITE (R311): A write to HIF_BDP_CTRL or the ADDR pair takes effect after earlier channel accesses complete. -/
  | bdpCtrlWrite (rq : Req) (c : Fin 9) (which : Fin 3) (v : Word)
  /-- BDP_STAT_READ (R313): A read of HIF_BDP_STAT returns only after every earlier aperture write has reached its target. -/
  | bdpStatRead (rq : Req) (c : Fin 9)
  /-- BDP_DENIED_CLR (R320): A write of 1 to HIF_BDP_STAT.CLR clears DENIED. -/
  | bdpDeniedClr (rq : Req) (p : Fin 9)
  /-- WR_DENIED_CLR (R320): A write of 1 to HIF_PART_STAT.CLR clears WR_DENIED. -/
  | wrDeniedClr (rq : Req) (p : Fin 8)
  /-- MGMT_CMD_ERR_CLR (R320): A write of 1 to HIF_MGMT_STAT.CLR clears CMD_ERR. -/
  | mgmtCmdErrClr (rq : Req)
  /-- REG_READ (R315): The management port command REG_READ returns a BAR0 register with the rights of p0. -/
  | regRead (off : Word)
  /-- REG_WRITE (R315): The management port command REG_WRITE writes a BAR0 register with the rights of p0. -/
  | regWrite (off v : Word) (host : List (BitVec 128 × List Byte))
  /-- BDP_READ (R315): The management port command BDP_READ reads dwords through bulk data channel 8. -/
  | bdpRead (n : BitVec 16)
  /-- BDP_WRITE (R315): The management port command BDP_WRITE writes dwords through bulk data channel 8. -/
  | bdpWrite (data : List Word)
  /-- MGMT_UNKNOWN_OPCODE (R315): An unknown management opcode or bad offset increments CMD_ERR and has no other effect. -/
  | mgmtUnknownOpcode (op : BitVec 8)
  /-- NOC_TIMEOUT (R318): An interconnect request receives no response in 100 µs and ends with an error that is recorded. -/
  | nocTimeout (what : NocReq) (target : Fin 5) (addr : BitVec 40)
  /-- NOC_DECODE_ERROR (R318): An interconnect request decodes to no target and ends with an error. -/
  | nocDecodeError (what : NocReq) (addr : BitVec 40)
  /-- IRQ_HOLDOFF_EXPIRY (R319): An interrupt cause's hold-off ends and one message is sent for the records that arrived. -/
  | irqHoldoffExpiry (p : Fin 8) (k : Fin 4)
  /-- CMD_RING_ENABLE (R322): A write of EN 1 to a command ring takes its base, size and version or is refused. -/
  | cmdRingEnable (rq : Req) (p : Fin 8) (r : Fin 8) (v : Word)
  /-- CMD_RING_DISABLE (R323): A write of EN 0 stops fetching from a command ring. -/
  | cmdRingDisable (rq : Req) (p : Fin 8) (r : Fin 8) (v : Word)
  /-- CPL_RING_ENABLE (R322): A write of EN 1 to the completion ring takes its base and size and resets its indices and phase. -/
  | cplRingEnable (rq : Req) (p : Fin 8) (v : Word)
  /-- CPL_RING_DISABLE (R323): A write of EN 0 to the completion ring stops fetching and discards due records. -/
  | cplRingDisable (rq : Req) (p : Fin 8) (v : Word)
  /-- EVT_RING_ENABLE (R322): A write of EN 1 to the event ring takes its base and size and resets its indices and phase. -/
  | evtRingEnable (rq : Req) (p : Fin 8) (v : Word)
  /-- EVT_RING_DISABLE (R323): A write of EN 0 to the event ring stops event delivery. -/
  | evtRingDisable (rq : Req) (p : Fin 8) (v : Word)
  /-- RING_REFUSED_CLR (R361): A write of 1 to CMD_RING_STAT.CLR clears REFUSED. -/
  | ringRefusedClr (rq : Req) (p : Fin 8) (r : Fin 8)
  /-- DESCRIPTOR_FETCH (R328): The command processor issues a fetch of up to 16 descriptors for a partition that has credits. -/
  | descriptorFetch (p : Fin 8) (r : Fin 8) (n : Nat)
  /-- FETCH_COMPLETE (R328): Fetched descriptors arrive and are checked against the protection set-up in force. -/
  | fetchComplete (p : Fin 8) (r : Fin 8) (data : List (BitVec 512))
  /-- NOP (R335): The NOP descriptor is accepted and completes with no other effect. -/
  | nop (p : Fin 8) (r : Fin 8)
  /-- QUERY_CAPS (R347): QUERY_CAPS writes the capability block to host memory and then its record. -/
  | queryCaps (p : Fin 8) (r : Fin 8)
  /-- MARK (R348): MARK is accepted and waits for earlier descriptors and, with WAIT_TWIN, the twin's acknowledgement. -/
  | mark (p : Fin 8) (r : Fin 8)
  /-- MARK_COMPLETE (R348): The conditions of a pending MARK are met and its record is written with NO_TWIN as applicable. -/
  | markComplete (p : Fin 8)
  /-- TAKE (R83): A TAKE is checked, stamped with its commit point and staged in the loft bank, superseding any pending take, or refused. -/
  | take (p : Fin 8) (r : Fin 8)
  /-- SALVO_OPEN (R85): SALVO_OPEN opens a free salvo ID on a running cadence or is refused. -/
  | salvoOpen (p : Fin 8) (r : Fin 8)
  /-- SALVO_COMMIT (R87): SALVO_COMMIT stamps and closes a salvo, aborts it, or closes a route-map image. -/
  | salvoCommit (p : Fin 8) (r : Fin 8)
  /-- AUDIO_TAKE (R259): An AUDIO_TAKE stages channel routes with a transition and commit point, superseding overlapping takes, or is refused. -/
  | audioTake (p : Fin 8) (r : Fin 8)
  /-- CADENCE_SET (R342): CADENCE_SET is checked and stamped to change a running cadence's format, rate or switch line. -/
  | cadenceSet (p : Fin 8) (r : Fin 8)
  /-- REALIGN_PULSES (R199): REALIGN_PULSES is stamped for line 1 of a frame to remove the pending phase. -/
  | realignPulses (p : Fin 8) (r : Fin 8)
  /-- ENGINE_SET (R234): ENGINE_SET starts the read of its ECB for checking, stamping and admission. -/
  | engineSet (p : Fin 8) (r : Fin 8)
  /-- ECB_READ_COMPLETE (R344): The ECB read returns and the ENGINE_SET is checked, admitted and stamped or refused. -/
  | ecbReadComplete (p : Fin 8) (r : Fin 8) (ecb : BitVec 2048)
  /-- HOST_READ_TIMEOUT (R344): A host read for an ECB or flow entry errs or exceeds 100 µs and the descriptor is refused with HOST_READ. -/
  | hostReadTimeout (p : Fin 8) (r : Fin 8)
  /-- LAYER_FLIP (R236): LAYER_FLIP stages a layer buffer, alpha or enable change with an optional fence and group, or is refused. -/
  | layerFlip (p : Fin 8) (r : Fin 8)
  /-- FENCE_SET (R345): FENCE_SET is accepted and waits for earlier bulk data port writes to reach the cellar. -/
  | fenceSet (p : Fin 8) (r : Fin 8)
  /-- SIG_EXPECT (R246): SIG_EXPECT stages a new expected region CRC alone or with a flip group. -/
  | sigExpect (p : Fin 8) (r : Fin 8)
  /-- FLOW_ADD (R148): FLOW_ADD starts the read of its 64 B flow entry for checking. -/
  | flowAdd (p : Fin 8) (r : Fin 8)
  /-- FLOW_ENTRY_READ_COMPLETE (R148): The flow entry read returns and the FLOW_ADD is checked, admitted and written or refused. -/
  | flowEntryReadComplete (p : Fin 8) (r : Fin 8) (e : BitVec 512)
  /-- FLOW_DEL (R149): FLOW_DEL clears a flow entry, with its secondary where it is a primary. -/
  | flowDel (p : Fin 8) (r : Fin 8)
  /-- FW_UPDATE (R349): FW_UPDATE starts writing a firmware image from the cellar to the inactive flash slot, or is refused. -/
  | fwUpdate (p r : Fin 8)
  /-- FW_UPDATE_COMPLETE (R445): The update's erase, program, read-back and slot record steps finish or fail and the record is written. -/
  | fwUpdateComplete (ok kept : Bool)
  /-- BAD_OPCODE (R335): A descriptor with an unknown opcode code is refused with BAD_OPCODE. -/
  | badOpcode (p : Fin 8) (r : Fin 8)
  /-- COMPLETION_RECORD_WRITE (R353): A due completion record is written to the completion ring in two posted writes with its MSI-X message. -/
  | completionRecordWrite (p : Fin 8)
  /-- EVENT_RECORD_WRITE (R355): A raised event is written to each partition's event ring, or counted lost. -/
  | eventRecordWrite (p : Fin 8)
  /-- LOST_ONLY (R358): Room returns on an event ring with lost events pending and a LOST_ONLY record carries them. -/
  | lostOnly (p : Fin 8)
  /-- GRANT_RECEIVE (R366): An authenticated GRANT is checked and accepted, extending the lease and possibly making the device ACTIVE, or discarded. -/
  | grantReceive (bytes : List Byte)
  /-- ACK_RECEIVE (R369): An ACK is received, updating hearing and seen epoch and stepping down if it names the other plane. -/
  | ackReceive (bytes : List Byte)
  /-- BAD_MSG_RECEIVE (R362): A lease message with a coding, length, type or TAG error is discarded and counted. -/
  | badMsgReceive (rd : Bool) (groups : List (BitVec 10))
  /-- JOIN (R375): A write of 1 to RED_CTRL.JOIN takes an ISOLATED device to SYNCING or STANDBY. -/
  | join (rq : Req)
  /-- ISOLATE (R375): A write of 1 to RED_CTRL.ISOLATE relinquishes if ACTIVE and goes to ISOLATED. -/
  | isolate (rq : Req)
  /-- RESYNC (R375): A write of 1 to RED_CTRL.RESYNC sends a STANDBY device to SYNCING. -/
  | resync (rq : Req)
  /-- RELINQUISH (R369): A write of 1 to RED_CTRL.RELINQUISH makes an ACTIVE device leave ACTIVE. -/
  | relinquish (rq : Req)
  /-- HEARTBEAT_RECEIVE (R378): A HEARTBEAT updates twin state, epoch, round trip and frame starts, and detects identity clash or conflict. -/
  | heartbeatReceive (m : Heartbeat)
  /-- REPL_RECEIVE (R381): A replicated descriptor is staged in RSEQ order, dropped, or reveals a gap, and is acknowledged. -/
  | replReceive (m : ReplMsg)
  /-- REPL_ACK_RECEIVE (R382): A REPL_ACK records the highest RSEQ the twin has staged. -/
  | replAckReceive (rseq : Nat)
  /-- DECISION_RECEIVE (R378): A switch point, flip group decision or frame selection from the active is received for use. -/
  | decisionReceive (d : Decision)
  /-- SIG_RECEIVE (R390): An active line signature is compared with the standby's own, counting mismatch runs. -/
  | sigReceive (y : SigRec)
  /-- SIG_MISSING_TIMEOUT (R390): The active's signature has not arrived within 8 line periods and MISSING is counted. -/
  | sigMissingTimeout (d : Fin 1280) (m : Fin 8)
  /-- COPY_REQ_RECEIVE (R385): The twin serves a resync unit from its cellar or tables. -/
  | copyReqReceive (u : Option Nat)
  /-- COPY_DATA_RECEIVE (R386): A resync unit arrives and is stored, discarded or requested again if errored. -/
  | copyDataReceive (u : Nat) (data : List Byte) (errored : List Nat)
  /-- SNAPSHOT_INSTALL (R385): The received control snapshot is installed and queued replicated descriptors are applied. -/
  | snapshotInstall (x : Snap) (cycle : Nat)
  /-- SELFTEST_TICK (R391): Once per second a STANDBY device exercises idle selectors and checks named LUT sets. -/
  | selftestTick (sels : List Nat) (upsets : List (Nat × Byte))
  /-- LEASE_CNT_CLEAR (R395): A write of any value to RED_LEASE_CNT clears it. -/
  | leaseCntClear (rq : Req)
  /-- REPL_DROPPED_CLR (R395): A write of 1 to RED_REPL_STAT.CLR clears DROPPED. -/
  | replDroppedClr (rq : Req)
  /-- SIG_CNT_CLEAR (R395): A write of any value to RED_SIG_CNT clears it. -/
  | sigCntClear (rq : Req)
  /-- CHECK_STAT_CLEAR (R395): A write of any value to RED_CHECK_STAT clears it. -/
  | checkStatClear (rq : Req)
  /-- FAULT_OCCURRENCE (R397): An occurrence reaches the fault collector and latches, repeats, escalates or is masked, applying its class reaction. -/
  | faultOccurrence (i : Fin 333) (inst : Fin 65536)
  /-- FAULT_ACK (R406): A write of 1 to a FLT_LATCH bit acknowledges the source, ending its reactions where no condition remains. -/
  | faultAck (rq : Req) (j : Fin 11) (v : Word)
  /-- FAULT_INJECT (R410): A write of 1 to FLT_SRC_CFG.FORCE injects one unmaskable occurrence. -/
  | faultInject (rq : Req) (i : Fin 333) (v : Word)
  /-- SAFE_SOURCE_WRITE (R401): A write to FLT_SAFE is checked and accepted or refused with SAFE_ERR. -/
  | safeSourceWrite (rq : Req) (i : Fin 10240) (v : Word)
  /-- FLT_CFG_WRITE (R412): A write to FLT_CFG with an out-of-range MASK_WIN is refused whole. -/
  | fltCfgWrite (rq : Req) (v : Word)
  /-- FLT_MASKED_CLEAR (R412): A write of any value to FLT_SRC_CNT clears MASKED. -/
  | fltMaskedClear (rq : Req) (i : Fin 333)
  /-- SUPPLY_EXCURSION (R453): A rail stays outside ±5 % of nominal for 1 µs and SYS_SUPPLY occurs. -/
  | supplyExcursion (i : Fin 6) (mv : BitVec 16)
  /-- TEMP_SENSOR_READ (R458): Every 1 ms the sensors measure the junction and the temperature warning conditions update. -/
  | tempSensorRead (t : BitVec 128) (mv : BitVec 96)
  /-- CORE_PLL_UNLOCK (R399): The core PLL loses lock and SYS_CORE_PLL occurs. -/
  | corePllUnlock (system : Bool)
  /-- TEMP_PEAK_CLEAR (R474): A write of any value to SYS_TEMP_SNS clears its PEAK. -/
  | tempPeakClear (rq : Req) (i : Fin 8)
  /-- MONITOR_TICK (R415): Each 10 ns tick of the monitor clock advances LEVEL counters and completes snapshot copies. -/
  | monitorTick (td : List (Nat × Nat × Nat × Nat)) (depth : Option (Nat × Nat × Nat × Nat))
  /-- SNAP_TAKE (R416): A write of 1 to PMU_SNAP_CTRL.TAKE copies every event and top-down counter at one tick. -/
  | snapTake (rq : Req)
  /-- SAMP_READ_WRITE (R421): A write of PMU_SAMP_PTR.READ frees sampling entries and rearms the NOTIFY event. -/
  | sampReadWrite (rq : Req) (v : Word)
  /-- SAMP_DROPS_CLR (R425): A write of 1 to PMU_SAMP_STAT.CLR clears DROPS. -/
  | sampDropsClr (rq : Req)
  /-- HIST_CFG_WRITE (R424): A write of a histogram unit's configuration is refused while EN is 1. -/
  | histCfgWrite (rq : Req) (u : Fin 32) (which : Fin 3) (v : Word)
  /-- HIST_CLEAR (R424): A write of 1 to PMU_HIST_CFG.CLEAR empties the bins and resets MIN, MAX, DONE and OVF. -/
  | histClear (rq : Req) (u : Fin 32)
  /-- BOOT_STAGE1_DONE (R429): Stage 1 ends and the management port and PCIe configuration space start serving. -/
  | bootStage1Done (flash : Bool) (r0 r1 : BitVec 128)
  /-- SLOT_COPY_DONE (R440): A slot's header and body copy into SRAM completes and is checked, skipping the slot or starting it. -/
  | slotCopyDone (data : Option (List Byte))
  /-- FW_WDOG_EXPIRY (R444): The management watchdog expires, the management core resets and stage 2 runs again. -/
  | fwWdogExpiry (flash : Bool) (r0 r1 : BitVec 128)
  /-- DERIVE (R436): A write of 1 to KEY_CTRL.DERIVE starts the HKDF derivation of a key, or is refused. -/
  | derive (rq : Req) (v : Word)
  /-- CLEAR (R436): A write of 1 to KEY_CTRL.CLEAR zeroes the key register, or is refused. -/
  | clear (rq : Req) (v : Word)
  /-- ADVANCE (R448): A write of 1 to BOOT_ROLLBACK.ADVANCE starts programming anti-rollback bits, or is refused. -/
  | advance (rq : Req) (v : Word)
  /-- RB_BIT_PROGRAMMED (R448): An anti-rollback bit finishes its 100 µs programming and is verified, continuing or stopping the advance. -/
  | rbBitProgrammed (ok one : Bool)
  /-- PCIE_LINK_UP (R399): The PCIe link comes back up after it went down, setting HIF_LINK.UP and ending the HIF_LINK_DOWN level condition. -/
  | pcieLinkUp (width : Nat) (speed : Nat)
  /-- PCIE_AER_ERROR (R399): An uncorrectable PCIe error is reported through Advanced Error Reporting and raises HIF_PCIE_ERR for the function. -/
  | pcieAerError (fn : Fin 8)
  /-- MSIX_VECTOR_UNMASK (R319): The host unmasks an MSI-X vector whose Pending Bit Array bit is set, and the device sends the pending message. -/
  | msixVectorUnmask (p : Fin 8) (x : MsixEntry)
  /-- RAIL_WITHIN_TOLERANCE (R453): A monitored rail returns within ±5 % of nominal, setting SYS_RAIL.OK and ending the SYS_SUPPLY level condition. -/
  | railWithinTolerance (i : Fin 6) (mv : BitVec 16)
  /-- CORE_PLL_RELOCK (R474): The core or system PLL regains lock, setting its lock bit and ending the SYS_CORE_PLL level condition. -/
  | corePllRelock (system : Bool)
  /-- REFCLK_SDS_LOSS (R474): A REFCLK_SDS input stops toggling for 1 µs and its REFCLK_SDS_OK bit clears. -/
  | refclkSdsLoss (k : Fin 4)
  /-- REFCLK_SDS_RETURN (R474): A REFCLK_SDS input toggles again and its REFCLK_SDS_OK bit sets. -/
  | refclkSdsReturn (k : Fin 4)
  /-- QUAD_PLL_RELOCK (R133): A quad's transmit PLL regains lock and ZL_QUAD_STAT.PLL_LOCK returns to 1. -/
  | quadPllRelock (q : Fin 146)
  /-- FEC_CODEWORD_RECEIVE (R146): A received FEC codeword or PCS block is corrected, found uncorrectable or has an invalid sync header, counting the PCS statistics and raising ETH_FEC_UNCORR. -/
  | fecCodewordReceive (p : Fin 16) (k : Fin 4) (kind : Fin 3)
  /-- NOC_PORT_IDLE_ENTRY (R317): An idle interconnect port drops to low-power idle and sets its NOC_IDLE bit. -/
  | nocPortIdleEntry (i : Fin 11)
  /-- RESET_N_ASSERT (R426): RESET_N is held low for at least 1 µs and every register not marked POR returns to reset. -/
  | resetNAssert
  /-- BLOCK_RESET_RELEASE (R428): After 1 µs the block reset bit clears and the block leaves reset. -/
  | blockResetRelease
  /-- TIME_COUNTER_TICK (R171): Each 500 MHz cycle advances both system time counters by their increments. -/
  | timeCounterTick
  /-- PPS_IN_EDGE (R175): A rising edge on PPS_IN captures the nanoseconds of both counters and sets NEW. -/
  | ppsInEdge
  /-- HOLDOFF_EXPIRY (R189): The hold-off of the selected reference ends, the reference is marked failed and selection reruns. -/
  | holdoffExpiry
  /-- DPLL_LOCKED (R193): The frequency error has stayed within 10 ppb for 10 s and the DPLL enters LOCKED. -/
  | dpllLocked
  /-- DPLL_LOCK_LOST (R193): The 1 s frequency error exceeds 100 ppb and the DPLL falls from LOCKED to ACQUIRING. -/
  | dpllLockLost
  /-- HO_VALID_SET (R197): AVG_S seconds of locked operation have accumulated and HO_VALID becomes 1. -/
  | hoValidSet
  /-- PPS_OUT_PULSE (R183): PPS_OUT rises at each whole second of H. -/
  | ppsOutPulse
  /-- MIDNIGHT (R202): Local time passes 24:00:00 and the date advances, or stays at the range end with CAL_RANGE. -/
  | midnight
  /-- LEAP_APPLY (R204): At the end of the UTC day a pending leap second is applied and UTC_OFFSET adjusted. -/
  | leapApply
  /-- AUDIO_SAMPLE_INSTANT (R183): A house sample instant arrives and every producer and consumer of the matrix moves one sample. -/
  | audioSampleInstant
  /-- SR_ENTRY (R284): No request has reached the stack for SR_IDLE µs and the controller enters self-refresh. -/
  | srEntry
  /-- SR_WAKE (R285): A request or a load-raising admission wakes the stack and the exit sequence begins. -/
  | srWake
  /-- SR_EXIT_COMPLETE (R285): The self-refresh exit sequence completes and the first held request is issued. -/
  | srExitComplete
  /-- PERST_N_ASSERT (R309): PERST_N asserts, resetting the PCIe controller and acting as an FLR of every function. -/
  | perstNAssert
  /-- PERST_N_DEASSERT (R429): PERST_N rises, the link trains and the subsystem IDs take effect. -/
  | perstNDeassert
  /-- PCIE_LINK_DOWN (R399): The PCIe link goes down and HIF_LINK_DOWN is raised. -/
  | pcieLinkDown
  /-- READ_ID (R315): The management port command READ_ID returns a status byte and HIF_ID. -/
  | readId
  /-- READ_STATUS (R315): The management port command READ_STATUS returns the link, firmware, recovery and error status byte. -/
  | readStatus
  /-- FENCE_SET_EXECUTE (R235): Once earlier bulk data writes have landed, the fence register is set unless that would move it backwards. -/
  | fenceSetExecute
  /-- HELLO_SEND (R365): The HELLO interval expires and a HELLO with a fresh nonce is sent. -/
  | helloSend
  /-- HEALTH_SEND (R365): A HEALTH message is sent every 1 s and within 1 ms of a change of its status bytes. -/
  | healthSend
  /-- LEASE_EXPIRY (R369): The present time reaches t_exp and a holder leaves ACTIVE. -/
  | leaseExpiry
  /-- LEASE_GUARD_STEPDOWN (R369): A holder that hears the frame controller reaches t_exp minus the guard and leaves ACTIVE. -/
  | leaseGuardStepdown
  /-- HEARS_FC_LAPSE (R368): No valid GRANT or ACK has arrived within the hearing interval and the device stops hearing the frame controller. -/
  | hearsFcLapse
  /-- EPOCH_STEPDOWN (R373): An ACTIVE device whose seen epoch rose above its own leaves ACTIVE at the next house line start. -/
  | epochStepdown
  /-- HEARTBEAT_SEND (R378): Every 10 µs a HEARTBEAT is sent on the partner link. -/
  | heartbeatSend
  /-- PARTNER_LINK_DOWN (R377): Lanes fall below MIN_LANES or no heartbeat arrives for 100 µs and the partner link goes down. -/
  | partnerLinkDown
  /-- PARTNER_LINK_UP (R377): The partner link comes up and a SYNCING device makes its resync decision. -/
  | partnerLinkUp
  /-- RESYNC_SETTLE_END (R385): Four frames of SETTLE elapse and the device goes to STANDBY. -/
  | resyncSettleEnd
  /-- RECOVERY_END (R393): The recovery window's term ends and RECOVERY clears. -/
  | recoveryEnd
  /-- MASK_WINDOW_END (R408): A masking window ends and its blocks' occurrences latch again. -/
  | maskWindowEnd
  /-- REFCLK_CORE_LOSS (R399): REFCLK_CORE has been absent for 1 µs and SYS_REFCLK occurs. -/
  | refclkCoreLoss
  /-- BOOT_READY (R429): Cellar training completes after firmware start and the remaining blocks leave reset with READY set. -/
  | bootReady
  /-- KEY_DERIVE_DONE (R436): The derivation completes and the key register takes the new key and purpose. -/
  | keyDeriveDone
  /-- REFCLK_CORE_RETURN (R474): REFCLK_CORE toggles again, setting REFCLK_CORE_OK and ending the SYS_REFCLK level condition. -/
  | refclkCoreReturn
  /-- REFCLK_PCIE_LOSS (R474): REFCLK_PCIE stops toggling for 1 µs and REFCLK_PCIE_OK clears. -/
  | refclkPcieLoss
  /-- REFCLK_PCIE_RETURN (R474): REFCLK_PCIE toggles again and REFCLK_PCIE_OK sets. -/
  | refclkPcieReturn
deriving DecidableEq, Repr

end Sys2Proof
end

