-- ==== Sys2Proof/Decode.lean ====
section
/-! DEFINITION. The command that a word spells by the opcode table's bits. The table gives no row any bits: the block's commands
are accesses, arrivals and events, and no word spells one. -/
namespace Sys2Proof

/-- The command an opcode-table word spells: none, since no row of the table gives bits. -/
def decodeTableWord (_nbits _w : Nat) : Option Instr := none

end Sys2Proof
end

