-- ==== Sys2Proof/Machine/LineCode.lean ====
section
/-! DEFINITION. 8b/10b coding of the lease port (R362). The manual names the code; its tables are those of the code as
published (PRESUMED, log 94). A code group is 10 bits, the bit sent first highest. -/
namespace Sys2Proof.Machine

/-- Bits at 1 among the lowest n. -/
def oneBits (n v : Nat) : Nat := ((List.range n).filter (fun i => v.testBit i)).length

/-- The 6-bit sub-blocks of D.0 to D.31 at negative running disparity. -/
def subBlocks6 : List Nat :=
  [0b100111, 0b011101, 0b101101, 0b110001, 0b110101, 0b101001, 0b011001, 0b111000,
   0b111001, 0b100101, 0b010101, 0b110100, 0b001101, 0b101100, 0b011100, 0b010111]
  ++ [0b011011, 0b100011, 0b010011, 0b110010, 0b001011, 0b101010, 0b011010, 0b111010,
   0b110011, 0b100110, 0b010110, 0b110110, 0b001110, 0b101110, 0b011110, 0b101011]

/-- The 4-bit sub-blocks of y = 0 to 6 at negative running disparity. -/
def subBlocks4 : List Nat := [0b1011, 0b1001, 0b0101, 0b1100, 0b1101, 0b1010, 0b0110]

/-- The first sub-block; `pos` is the running disparity before it, `ctrl` a K character. -/
def code6 (pos ctrl : Bool) (x : Nat) : Nat :=
  let v := if ctrl && x = 28 then 0b001111 else subBlocks6.getD x 0
  if pos && (oneBits 6 v != 3 || x = 7) then 63 - v else v

/-- The second sub-block; the alternate form of y = 7 keeps runs below six bits. -/
def code4 (pos ctrl : Bool) (x y : Nat) : Nat :=
  let alt := ctrl || (if pos then [11, 13, 14] else [17, 18, 20]).contains x
  let v := if y = 7 then (if alt then 0b0111 else 0b1110) else if ctrl then 0b0101 else subBlocks4.getD y 0
  if pos && (oneBits 4 v != 2 || y = 3 || ctrl) then 15 - v else v

/-- A character: its code group and the running disparity after it. -/
def codeGroup (pos ctrl : Bool) (b : Nat) : BitVec 10 × Bool :=
  let x := b % 32
  let c6 := code6 pos ctrl x
  let mid := if oneBits 6 c6 = 3 then pos else !pos
  let c4 := code4 mid ctrl x (b / 32)
  (BitVec.ofNat 10 (c6 * 16 + c4), if oneBits 4 c4 = 2 then mid else !mid)

/-- Characters to code groups from a running disparity. -/
def codeGroups (pos : Bool) : List (Bool × Nat) → List (BitVec 10) × Bool
  | [] => ([], pos)
  | (k, b) :: r =>
    let (g, p) := codeGroup pos k b
    let (gs, q) := codeGroups p r
    (g :: gs, q)

/-- The characters of a message (R362): K27.7, its bytes, K29.7, and the idle ordered set K28.5 D16.2 that follows. -/
def messageChars (bytes : List Byte) : List (Bool × Nat) :=
  (true, 0xFB) :: bytes.map (fun b => (false, b.toNat)) ++ [(true, 0xFD), (true, 0xBC), (false, 0x50)]

/-- The character that a code group stands for at a running disparity, and the disparity after it; none is a code or disparity
error. -/
def readGroup (pos : Bool) (g : BitVec 10) : Option ((Bool × Nat) × Bool) :=
  let chars : List (Bool × Nat) := [(true, 0xFB), (true, 0xFD), (true, 0xBC)] ++ (List.range 256).map (fun b => (false, b))
  (chars.find? (fun c => (codeGroup pos c.1 c.2).1 == g)).map (fun c => (c, (codeGroup pos c.1 c.2).2))

/-- The data bytes up to K29.7, which closes the message. -/
def readBytes (pos : Bool) : List (BitVec 10) → Option (List Byte)
  | [] => none
  | g :: r =>
    match readGroup pos g with
    | none => none
    | some ((k, b), p) =>
      if k then (if b = 0xFD && r.isEmpty then some [] else none)
      else (readBytes p r).map (BitVec.ofNat 8 b :: ·)

/-- The bytes of a message on the line from its opening K27.7; none is a code or disparity error, or a missing frame character. -/
def lineRead (pos : Bool) : List (BitVec 10) → Option (List Byte)
  | [] => none
  | g :: r =>
    match readGroup pos g with
    | some ((true, 0xFB), p) => readBytes p r
    | _ => none

end Sys2Proof.Machine
end

