-- ==== Sys2Proof/Machine/Maps.lean ====
section
/-! DEFINITION. Sparse maps as plain data: a list of key and value pairs with strictly rising keys in which an
unlisted key holds a default, so that equal maps are equal lists. -/
namespace Sys2Proof.Machine

/-- The value listed at a key. -/
def find? {α : Type} : List (Nat × α) → Nat → Option α
  | [], _ => none
  | (j, v) :: m, k => if j = k then some v else find? m k

/-- The value at a key, `d` where the key is not listed. -/
def getD {α : Type} (d : α) (m : List (Nat × α)) (k : Nat) : α := (find? m k).getD d

/-- The list with `v` at `k`, at its place in rising order. -/
def put {α : Type} : List (Nat × α) → Nat → α → List (Nat × α)
  | [], k, v => [(k, v)]
  | (j, w) :: m, k, v =>
    if j < k then (j, w) :: put m k v
    else if j = k then (k, v) :: m
    else (k, v) :: (j, w) :: m

/-- The list without `k`. -/
def drop1 {α : Type} : List (Nat × α) → Nat → List (Nat × α)
  | [], _ => []
  | (j, w) :: m, k => if j = k then drop1 m k else (j, w) :: drop1 m k

/-- Write `v` at `k` in the canonical form: writing the default removes the entry. -/
def putD {α : Type} [DecidableEq α] (d : α) (m : List (Nat × α)) (k : Nat) (v : α) : List (Nat × α) :=
  if v = d then drop1 m k else put m k v

/-- Every key of the list lies above `k`. -/
def keysAbove {α : Type} (k : Nat) (m : List (Nat × α)) : Bool := m.all (fun e => decide (k < e.1))

/-- Keys strictly rising. -/
def rising {α : Type} : List (Nat × α) → Bool
  | [] => true
  | (j, _) :: m => keysAbove j m && rising m

/-- No entry holds the default `d`. -/
def noDefault {α : Type} [DecidableEq α] (d : α) (m : List (Nat × α)) : Bool := m.all (fun e => decide (e.2 ≠ d))

/-- Replace the first element that satisfies `p`. -/
def mapFirst {α : Type} (p : α → Bool) (f : α → α) : List α → List α
  | [] => []
  | a :: l => if p a then f a :: l else a :: mapFirst p f l

/-- Remove the first element that satisfies `p`. -/
def eraseFirst {α : Type} (p : α → Bool) : List α → List α
  | [] => []
  | a :: l => if p a then l else a :: eraseFirst p l

/-- Keep the last `n` elements. -/
def lastN {α : Type} (n : Nat) (l : List α) : List α := l.drop (l.length - n)

/-- `a + b`, not above `top`: the saturating counters of the manual. -/
def satAdd (top a b : Nat) : Nat := min top (a + b)

/-- The two's complement reading of the low `w` bits of `n`. -/
def toSigned (w n : Nat) : Int :=
  let m := n % 2 ^ w
  if 2 * m < 2 ^ w then (m : Int) else (m : Int) - (2 ^ w : Nat)

/-- The `w`-bit two's complement code of an integer. -/
def ofSigned (w : Nat) (i : Int) : Nat := (i % ((2 ^ w : Nat) : Int)).toNat

/-- Bits `hi` to `lo` of a number. -/
def bitsOf (n hi lo : Nat) : Nat := (n >>> lo) % 2 ^ (hi + 1 - lo)

/-- The bit at place `i` of a number. -/
def bitOf (n i : Nat) : Bool := n.testBit i

/-- 1 for true. -/
def b2n (b : Bool) : Nat := if b then 1 else 0

/-- The number with its low bits replaced where `m` has ones. -/
def maskIn (m old new : Word) : Word := (old &&& ~~~m) ||| (new &&& m)

/-- Quotient rounded up. -/
def ceilDiv (a b : Nat) : Nat := (a + b - 1) / b

/-- Apply an operation at each element of a list in turn. -/
def each {σ α : Type} (l : List α) (f : α → σ → σ) (s : σ) : σ := l.foldl (fun t a => f a t) s

/-- Do the operation where the condition holds. -/
def when {σ : Type} (b : Bool) (f : σ → σ) (s : σ) : σ := if b then f s else s

end Sys2Proof.Machine
end

