-- ==== Sys2Proof/Machine/Crypto.lean ====
section
/-! DEFINITION. SHA-256 (FIPS 180-4), HMAC-SHA-256 (FIPS 198-1, named by R364) and HKDF (named by the key chapter), and
the CRCs of R108, R117 and R389, over lists of bytes. -/
namespace Sys2Proof.Machine

/-- The 64 round constants of SHA-256. -/
def shaK : List Word :=
  [0x428a2f98, 0x71374491, 0xb5c0fbcf, 0xe9b5dba5, 0x3956c25b, 0x59f111f1, 0x923f82a4, 0xab1c5ed5] ++
  [0xd807aa98, 0x12835b01, 0x243185be, 0x550c7dc3, 0x72be5d74, 0x80deb1fe, 0x9bdc06a7, 0xc19bf174] ++
  [0xe49b69c1, 0xefbe4786, 0x0fc19dc6, 0x240ca1cc, 0x2de92c6f, 0x4a7484aa, 0x5cb0a9dc, 0x76f988da] ++
  [0x983e5152, 0xa831c66d, 0xb00327c8, 0xbf597fc7, 0xc6e00bf3, 0xd5a79147, 0x06ca6351, 0x14292967] ++
  [0x27b70a85, 0x2e1b2138, 0x4d2c6dfc, 0x53380d13, 0x650a7354, 0x766a0abb, 0x81c2c92e, 0x92722c85] ++
  [0xa2bfe8a1, 0xa81a664b, 0xc24b8b70, 0xc76c51a3, 0xd192e819, 0xd6990624, 0xf40e3585, 0x106aa070] ++
  [0x19a4c116, 0x1e376c08, 0x2748774c, 0x34b0bcb5, 0x391c0cb3, 0x4ed8aa4a, 0x5b9cca4f, 0x682e6ff3] ++
  [0x748f82ee, 0x78a5636f, 0x84c87814, 0x8cc70208, 0x90befffa, 0xa4506ceb, 0xbef9a3f7, 0xc67178f2]

/-- The initial hash of SHA-256. -/
def shaH0 : List Word :=
  [0x6a09e667, 0xbb67ae85, 0x3c6ef372, 0xa54ff53a, 0x510e527f, 0x9b05688c, 0x1f83d9ab, 0x5be0cd19]

def rotr (x : Word) (n : Nat) : Word := x.rotateRight n

/-- Extend the message schedule: the list holds the words so far, newest first. -/
def shaExtend : Nat → List Word → List Word
  | 0, w => w
  | n + 1, w =>
    let a := w.getD 1 0
    let b := w.getD 6 0
    let c := w.getD 14 0
    let d := w.getD 15 0
    let s1 := rotr a 17 ^^^ rotr a 19 ^^^ (a >>> 10)
    let s0 := rotr c 7 ^^^ rotr c 18 ^^^ (c >>> 3)
    shaExtend n ((s1 + b + s0 + d) :: w)

/-- The rounds over schedule and constants. -/
def shaRounds : List (Word × Word) → List Word → List Word
  | (k, w) :: r, [a, b, c, d, e, f, g, h] =>
    let t1 := h + (rotr e 6 ^^^ rotr e 11 ^^^ rotr e 25) + ((e &&& f) ^^^ (~~~e &&& g)) + k + w
    let t2 := (rotr a 2 ^^^ rotr a 13 ^^^ rotr a 22) + ((a &&& b) ^^^ (a &&& c) ^^^ (b &&& c))
    shaRounds r [t1 + t2, a, b, c, d + t1, e, f, g]
  | _, v => v

/-- Four bytes as a big-endian word. -/
def beWords : List Byte → List Word
  | a :: b :: c :: d :: r => (a ++ b ++ c ++ d) :: beWords r
  | _ => []

/-- One 64-byte block. -/
def shaBlock (h : List Word) (b : List Byte) : List Word :=
  let w := (shaExtend 48 (beWords b).reverse).reverse
  List.zipWith (· + ·) h (shaRounds (shaK.zip w) h)

/-- All blocks of a padded message. -/
def shaBlocks : Nat → List Word → List Byte → List Word
  | 0, h, _ => h
  | n + 1, h, m => shaBlocks n (shaBlock h (m.take 64)) (m.drop 64)

/-- The bytes of a number, big-endian, `n` of them. -/
def beBytes (n v : Nat) : List Byte := (List.range n).map (fun i => BitVec.ofNat 8 (v >>> (8 * (n - 1 - i))))

/-- The bytes of a number, little-endian, `n` of them. -/
def leBytes (n v : Nat) : List Byte := (List.range n).map (fun i => BitVec.ofNat 8 (v >>> (8 * i)))

/-- A little-endian number from bytes. -/
def ofLE : List Byte → Nat
  | [] => 0
  | b :: r => b.toNat + 256 * ofLE r

/-- A big-endian number from bytes. -/
def ofBE (l : List Byte) : Nat := ofLE l.reverse

/-- SHA-256 of a message. -/
def sha256 (m : List Byte) : List Byte :=
  let z := (119 - m.length % 64) % 64
  let p := m ++ [0x80] ++ List.replicate z 0 ++ beBytes 8 (8 * m.length)
  (shaBlocks (p.length / 64) shaH0 p).flatMap (fun w => beBytes 4 w.toNat)

/-- HMAC-SHA-256. -/
def hmac (key m : List Byte) : List Byte :=
  let k0 := if key.length ≤ 64 then key else sha256 key
  let k := k0 ++ List.replicate (64 - k0.length) 0
  sha256 (k.map (· ^^^ 0x5c) ++ sha256 (k.map (· ^^^ 0x36) ++ m))

/-- HKDF-SHA-256 with one block of output (32 bytes). -/
def hkdf (salt ikm info : List Byte) : List Byte := hmac (hmac salt ikm) (info ++ [1])

/-- One byte into a reflected 32-bit CRC. -/
def crc32Byte (poly : Word) : Nat → Word → Word
  | 0, c => c
  | n + 1, c => crc32Byte poly n (if c.getLsbD 0 then (c >>> 1) ^^^ poly else c >>> 1)

/-- CRC-32C (R117, version 2): reflected polynomial 0x82F63B78, initial value and final XOR of ones. -/
def crc32c (m : List Byte) : Word :=
  ~~~(m.foldl (fun c b => crc32Byte 0x82F63B78 8 (c ^^^ b.zeroExtend 32)) 0xFFFFFFFF)

/-- CRC-16 with polynomial 0x1021, initial value ones, no final XOR, most significant bit first (R108, R117). -/
def crc16Bits (n : Nat) (c : BitVec 16) : BitVec 16 :=
  match n with
  | 0 => c
  | k + 1 => crc16Bits k (if c.getLsbD 15 then (c <<< 1) ^^^ 0x1021 else c <<< 1)

def crc16 (m : List Byte) : BitVec 16 :=
  m.foldl (fun c b => crc16Bits 8 (c ^^^ (b ++ (0 : Byte)))) 0xFFFF

/-- The 15 bytes of a line-record word that its CRC covers (R117): bits [119:0], byte i holding bits [8i+7:8i]. -/
def wordBytes (w : BusWord) : List Byte := leBytes 15 w.toNat

/-- The signature of a line record (R389): CRC-32C over the bytes of its words. -/
def recCrc (ws : List BusWord) : Word := crc32c (ws.flatMap wordBytes)

end Sys2Proof.Machine
end

