-- ==== Sys2Proof/Config.lean ====
section
/-! DEFINITION. What an implementation fixes and the values the manual leaves open: opaque constants, so that nothing
can be proved of them that does not hold of every value. -/
namespace Sys2Proof.Config

/-- The free values: the n-th value the manual leaves open (random nonces, undefined results). -/
opaque freeValue : Nat → BitVec 512

/-- Whether the SerDes reference clocks and REFCLK_CORE of the card come from one oscillator (R56): fixed by the card. -/
opaque refsCommon : Bool

/-- Which way a stage of an engine rounds a value that lies half way between two (R224, R229 name no rule for ties): up from
the integer below, or not. -/
opaque tieUp : Int → Bool

/-- How a result with more than 6 fraction bits is brought to 6 (R223 gives no rule): up from the value below, or not. -/
opaque keepUp : Int → Bool

/-- Whether a fade's gain, held to 2⁻²³ (R261 names no rounding), is held above its exact value where that lies in the lower half
between two values: k, N, and whether it is the gain of the new source. -/
opaque gainUp : Nat → Nat → Bool → Bool

/-- The line rate in bit/s that R169 charges an ancillary flow (the manual gives its packets no rate): format, rate. -/
opaque ancLineRate : Nat → Nat → Nat

/-- Samples of the colour bars (R46 names SMPTE RP 219-1 and ITU-R BT.2111 and does not reproduce them): pattern, colourimetry,
format, picture line, sample of the line. -/
opaque barSample : Nat → Nat → Nat → Nat → Nat → BitVec 10

/-- Whether a ramp's value that is no whole code (R46 names no rounding) becomes the code above it: position, last position. -/
opaque rampUp : Nat → Nat → Bool

/-- Whether a frequency, temperature or phase that is no whole number of a register's units shows as the number above it (no
rounding is named): numerator, denominator. -/
opaque roundUp : Int → Nat → Bool

/-- The time zone code of SMPTE ST 309 for a local offset in 15 min steps (R205 names it and does not give the codes): the user
bits of binary groups 7 and 8. -/
opaque zoneCode : Int → BitVec 8

/-- The output frequency of the DPLL a millisecond on (R192 gives the loop's bandwidth and not its filter): bandwidth in 0.01 Hz, phase
error of the loop in H units, measured frequency of the reference and output frequency in 0.01 ppb. -/
opaque loopFreq : Nat → Int → Int → Int → Int

/-- The clock in Hz whose periods the clock phase of an embedded audio sample counts in a signal of a class (R264 names none). -/
opaque phaseClock : Nat → Nat

/-- Blocks beyond the first of a partner message (R378 gives its content and not its length): its kind, the items it carries. -/
opaque partnerLen : Nat → Nat → Nat

/-- Control byte of a partner block (R377 does not give its codes): whether it starts a message, whether a response. -/
opaque partnerControl : Bool → Bool → BitVec 8

end Sys2Proof.Config
end

