-- ==== Sys2Proof/Machine/RegMap.lean ====
section
/-! DEFINITION. What a register of BAR0 is (00_scope.md, R3 to R9): its address, array strides, reset kind, reset
value, access codes and the special behaviour a write or read of it has. -/
namespace Sys2Proof.Machine

/-- Access codes of R7. -/
inductive Acc where
  | rw | ro | w1c | w1s | wo | rwp
deriving DecidableEq, Repr

/-- Reset kinds of R9. `block` restores least, `por` most. -/
inductive RKind where
  | block | soft | resetN | por
deriving DecidableEq, Repr

/-- The rows of the table of R9, in the order in which each restores everything the ones below restore. -/
def RKind.rank : RKind → Nat
  | .block => 0
  | .soft => 1
  | .resetN => 2
  | .por => 3

/-- Register blocks of R301. -/
inductive Blk where
  | hif | cmd | xpt | ref | ptp | eth | flw | aud | eng | cel | zl | red | flt | pmu | key | boot | noc | sys
deriving DecidableEq, Repr

/-- One field of a register: bits, access, the index below which the access code holds (at and above it the field is
read only, as the tables of the layouts and of the quads say), and a reset kind of its own where the table gives one. -/
structure Fld where
  hi : Nat
  lo : Nat
  acc : Acc
  lim : Option Nat
  kind : Option RKind
deriving DecidableEq, Repr

/-- Registers whose write or read does more than the access codes say; `plain` for the others. -/
inductive Hook where
  | plain
  | srcLayout
deriving DecidableEq, Repr

/-- One register or register array of the manual. `dims` holds (count, stride) from the outer index to the inner. -/
structure Reg where
  base : Nat
  dims : List (Nat × Nat)
  kind : RKind
  blk : Blk
  hook : Hook
  rst : List Nat → Nat
  flds : List Fld

/-- A field of a register. -/
structure FR where
  reg : Reg
  hi : Nat
  lo : Nat

/-- Offset of an array element from the base; an index wraps at the array's count, so that every offset is an element's. -/
def idxOff : List (Nat × Nat) → List Nat → Nat
  | (n, st) :: ds, i :: is => i % n * st + idxOff ds is
  | _, _ => 0

/-- BAR0 address of an element. -/
def Reg.addr (r : Reg) (i : List Nat) : Nat := r.base + idxOff r.dims i

/-- The word an element takes at reset. -/
def Reg.resetWord (r : Reg) (i : List Nat) : Word := BitVec.ofNat 32 (r.rst i)

/-- The index at an offset, if the offset is that of an element. -/
def idxAt : List (Nat × Nat) → Nat → Option (List Nat)
  | [], 0 => some []
  | [], _ + 1 => none
  | (n, st) :: ds, o =>
    if o / st < n then (idxAt ds (o % st)).map (o / st :: ·) else none

/-- The element of a register at an address. -/
def Reg.at? (r : Reg) (a : Nat) : Option (List Nat) := if r.base ≤ a then idxAt r.dims (a - r.base) else none

/-- The bits of a field. -/
def fldMask (hi lo : Nat) : Word := BitVec.ofNat 32 ((2 ^ (hi + 1 - lo) - 1) <<< lo)

/-- The value of a field in a word. -/
def FR.of (f : FR) (w : Word) : Nat := (w.toNat >>> f.lo) % 2 ^ (f.hi + 1 - f.lo)

/-- A word with a field replaced; a value too wide for the field loses its upper bits. -/
def FR.into (f : FR) (v : Nat) (w : Word) : Word :=
  maskIn (fldMask f.hi f.lo) w (BitVec.ofNat 32 (v <<< f.lo))

/-- The block whose range of R301 holds an address. -/
def blkAt (a : Nat) : Option Blk :=
  if a < 0x100000 then some .hif else if a < 0x200000 then some .cmd else if a < 0x300000 then some .xpt
  else if a < 0x340000 then some .ref else if a < 0x400000 then some .ptp else if a < 0x500000 then some .eth
  else if a < 0x600000 then some .flw else if a < 0x800000 then some .aud else if a < 0xC00000 then some .eng
  else if a < 0x1000000 then some .cel else if a < 0x1400000 then some .zl else if a < 0x1500000 then some .red
  else if a < 0x1600000 then some .flt else if a < 0x1700000 then some .pmu else if a < 0x1780000 then some .key
  else if a < 0x1800000 then some .boot else if a < 0x1900000 then some .noc else if a < 0x1A00000 then some .sys
  else none

/-- Class of each fault source at reset (R399): 0 NOTICE, 1 DEGRADED, 2 CRITICAL, 3 FATAL. -/
def classReset (i : Nat) : Nat :=
  if i = 169 || i = 321 || (329 ≤ i && i ≤ 332) then 3
  else if (4 ≤ i && i ≤ 84) || (101 ≤ i && i ≤ 164) then 2
  else if [2, 3, 87, 90, 91, 93, 95, 96, 97, 99, 100, 165, 167, 168, 170, 173, 174, 311, 312, 322].contains i then 0
  else 1

/-- Dependents of each block at reset (R396), a bit for each top bit. -/
def depReset (b : Nat) : Nat :=
  match b with
  | 2 => 2 ^ 8 + 2 ^ 6 + 2 ^ 7 + 2 ^ 11
  | 5 => 2 ^ 6
  | 6 => 2 ^ 8 + 2 ^ 11
  | 8 => 2 ^ 8 + 2 ^ 6 + 2 ^ 7 + 2 ^ 11
  | 9 => 2 ^ 2 + 2 ^ 6 + 2 ^ 8
  | 10 => 2 ^ 2 + 2 ^ 3 + 2 ^ 6 + 2 ^ 7 + 2 ^ 8
  | _ => 0

end Sys2Proof.Machine
end

