-- ==== Sys2Proof/Machine/RegsBoot.lean ====
section
/-! DEFINITION. The registers of the KEY, BOOT, SYS blocks, as the register tables of the manual give them: address, strides,
reset kind, reset value, fields with their access codes. -/
namespace Sys2Proof.Machine

/-- KEY_FUSE_STATUS: spec/15_boot_keys_firmware.md, the table of its name. -/
def R.KEY_FUSE_STATUS : Reg := ⟨0x1700000, [], .por, .key, .plain, (fun _ => 0x0),
   [⟨31, 31, .ro, none, none⟩, ⟨30, 24, .ro, none, none⟩, ⟨3, 3, .ro, none, none⟩,
    ⟨2, 2, .ro, none, none⟩, ⟨1, 1, .ro, none, none⟩, ⟨0, 0, .ro, none, none⟩]⟩
def F.KEY_FUSE_STATUS_SENSED : FR := ⟨R.KEY_FUSE_STATUS, 31, 31⟩
def F.KEY_FUSE_STATUS_MARG_COUNT : FR := ⟨R.KEY_FUSE_STATUS, 30, 24⟩
def F.KEY_FUSE_STATUS_TRIM_MARGINAL : FR := ⟨R.KEY_FUSE_STATUS, 3, 3⟩
def F.KEY_FUSE_STATUS_RB_MARGINAL : FR := ⟨R.KEY_FUSE_STATUS, 2, 2⟩
def F.KEY_FUSE_STATUS_PKH_MARGINAL : FR := ⟨R.KEY_FUSE_STATUS, 1, 1⟩
def F.KEY_FUSE_STATUS_ROOT_MARGINAL : FR := ⟨R.KEY_FUSE_STATUS, 0, 0⟩
/-- KEY_FUSE_MARG: spec/15_boot_keys_firmware.md, the table of its name. -/
def R.KEY_FUSE_MARG : Reg := ⟨0x1700010, [(4, 0x4)], .por, .key, .plain, (fun _ => 0x0),
   [⟨31, 0, .ro, none, none⟩]⟩
def F.KEY_FUSE_MARG_MARG : FR := ⟨R.KEY_FUSE_MARG, 31, 0⟩
/-- KEY_FUSE: spec/15_boot_keys_firmware.md, the table of its name. -/
def R.KEY_FUSE : Reg := ⟨0x1700100, [(128, 0x4)], .por, .key, .plain, (fun _ => 0x0),
   [⟨31, 0, .ro, none, none⟩]⟩
def F.KEY_FUSE_WORD : FR := ⟨R.KEY_FUSE, 31, 0⟩
/-- KEY_LABEL: spec/15_boot_keys_firmware.md, the table of its name. -/
def R.KEY_LABEL : Reg := ⟨0x1700400, [(8, 0x4)], .resetN, .key, .plain, (fun _ => 0x0),
   [⟨31, 0, .rwp, none, none⟩]⟩
def F.KEY_LABEL_BYTES : FR := ⟨R.KEY_LABEL, 31, 0⟩
/-- KEY_CTRL: spec/15_boot_keys_firmware.md, the table of its name. -/
def R.KEY_CTRL : Reg := ⟨0x1700420, [], .resetN, .key, .plain, (fun _ => 0x10000000),
   [⟨31, 31, .wo, none, none⟩, ⟨30, 30, .wo, none, none⟩, ⟨29, 28, .rwp, none, none⟩,
    ⟨5, 0, .rwp, none, none⟩]⟩
def F.KEY_CTRL_DERIVE : FR := ⟨R.KEY_CTRL, 31, 31⟩
def F.KEY_CTRL_CLEAR : FR := ⟨R.KEY_CTRL, 30, 30⟩
def F.KEY_CTRL_USE : FR := ⟨R.KEY_CTRL, 29, 28⟩
def F.KEY_CTRL_LABEL_LEN : FR := ⟨R.KEY_CTRL, 5, 0⟩
/-- KEY_STAT: spec/15_boot_keys_firmware.md, the table of its name. -/
def R.KEY_STAT : Reg := ⟨0x1700424, [], .resetN, .key, .plain, (fun _ => 0x0),
   [⟨31, 31, .ro, none, none⟩, ⟨30, 29, .ro, none, none⟩, ⟨28, 28, .ro, none, none⟩,
    ⟨2, 2, .w1c, none, none⟩, ⟨1, 1, .w1c, none, none⟩, ⟨0, 0, .w1c, none, none⟩]⟩
def F.KEY_STAT_LOADED : FR := ⟨R.KEY_STAT, 31, 31⟩
def F.KEY_STAT_USE : FR := ⟨R.KEY_STAT, 30, 29⟩
def F.KEY_STAT_BUSY : FR := ⟨R.KEY_STAT, 28, 28⟩
def F.KEY_STAT_REF_HOLDER : FR := ⟨R.KEY_STAT, 2, 2⟩
def F.KEY_STAT_REF_MARGINAL : FR := ⟨R.KEY_STAT, 1, 1⟩
def F.KEY_STAT_LEN_ERR : FR := ⟨R.KEY_STAT, 0, 0⟩
/-- KEY_REG: spec/15_boot_keys_firmware.md, the table of its name. -/
def R.KEY_REG : Reg := ⟨0x1700440, [(8, 0x4)], .resetN, .key, .plain, (fun _ => 0x0),
   [⟨31, 0, .ro, none, none⟩]⟩
def F.KEY_REG_KEY : FR := ⟨R.KEY_REG, 31, 0⟩

/-- The registers of block KEY. -/
def regsKey : List Reg :=
  [R.KEY_FUSE_STATUS, R.KEY_FUSE_MARG, R.KEY_FUSE, R.KEY_LABEL, R.KEY_CTRL, R.KEY_STAT] ++
  [R.KEY_REG]

/-- BOOT_STAT: spec/15_boot_keys_firmware.md, the table of its name. -/
def R.BOOT_STAT : Reg := ⟨0x1780000, [], .resetN, .boot, .plain, (fun _ => 0x0),
   [⟨31, 28, .ro, none, none⟩, ⟨27, 27, .ro, none, none⟩, ⟨26, 26, .ro, none, none⟩,
    ⟨25, 25, .ro, none, none⟩, ⟨24, 23, .ro, none, none⟩, ⟨7, 0, .ro, none, none⟩]⟩
def F.BOOT_STAT_STAGE : FR := ⟨R.BOOT_STAT, 31, 28⟩
def F.BOOT_STAT_FW_RUNNING : FR := ⟨R.BOOT_STAT, 27, 27⟩
def F.BOOT_STAT_READY : FR := ⟨R.BOOT_STAT, 26, 26⟩
def F.BOOT_STAT_SLOT_RUN : FR := ⟨R.BOOT_STAT, 25, 25⟩
def F.BOOT_STAT_SKIPPED : FR := ⟨R.BOOT_STAT, 24, 23⟩
def F.BOOT_STAT_RECOV : FR := ⟨R.BOOT_STAT, 7, 0⟩
/-- BOOT_VERSION: spec/15_boot_keys_firmware.md, the table of its name. -/
def R.BOOT_VERSION : Reg := ⟨0x1780004, [], .resetN, .boot, .plain, (fun _ => 0x0),
   [⟨31, 0, .ro, none, none⟩]⟩
def F.BOOT_VERSION_VERSION : FR := ⟨R.BOOT_VERSION, 31, 0⟩
/-- BOOT_SLOT_VER: spec/15_boot_keys_firmware.md, the table of its name. -/
def R.BOOT_SLOT_VER : Reg := ⟨0x1780010, [(2, 0x10)], .resetN, .boot, .plain, (fun _ => 0x0),
   [⟨31, 0, .ro, none, none⟩]⟩
def F.BOOT_SLOT_VER_VERSION : FR := ⟨R.BOOT_SLOT_VER, 31, 0⟩
/-- BOOT_SLOT_SEQ: spec/15_boot_keys_firmware.md, the table of its name. -/
def R.BOOT_SLOT_SEQ : Reg := ⟨0x1780014, [(2, 0x10)], .resetN, .boot, .plain, (fun _ => 0x0),
   [⟨31, 0, .ro, none, none⟩]⟩
def F.BOOT_SLOT_SEQ_UPDATE_SEQ : FR := ⟨R.BOOT_SLOT_SEQ, 31, 0⟩
/-- BOOT_SLOT_STAT: spec/15_boot_keys_firmware.md, the table of its name. -/
def R.BOOT_SLOT_STAT : Reg := ⟨0x1780018, [(2, 0x10)], .resetN, .boot, .plain, (fun _ => 0x0),
   [⟨15, 15, .ro, none, none⟩, ⟨3, 0, .ro, none, none⟩]⟩
def F.BOOT_SLOT_STAT_RECORD : FR := ⟨R.BOOT_SLOT_STAT, 15, 15⟩
def F.BOOT_SLOT_STAT_REASON : FR := ⟨R.BOOT_SLOT_STAT, 3, 0⟩
/-- BOOT_ROLLBACK: spec/15_boot_keys_firmware.md, the table of its name. -/
def R.BOOT_ROLLBACK : Reg := ⟨0x1780040, [], .resetN, .boot, .plain, (fun _ => 0x0),
   [⟨31, 31, .wo, none, none⟩, ⟨30, 30, .ro, none, none⟩, ⟨29, 29, .w1c, none, none⟩,
    ⟨22, 16, .ro, none, some .por⟩, ⟨6, 0, .rwp, none, none⟩]⟩
def F.BOOT_ROLLBACK_ADVANCE : FR := ⟨R.BOOT_ROLLBACK, 31, 31⟩
def F.BOOT_ROLLBACK_BUSY : FR := ⟨R.BOOT_ROLLBACK, 30, 30⟩
def F.BOOT_ROLLBACK_ERR : FR := ⟨R.BOOT_ROLLBACK, 29, 29⟩
def F.BOOT_ROLLBACK_FLOOR : FR := ⟨R.BOOT_ROLLBACK, 22, 16⟩
def F.BOOT_ROLLBACK_TARGET : FR := ⟨R.BOOT_ROLLBACK, 6, 0⟩

/-- The registers of block BOOT. -/
def regsBoot : List Reg :=
  [R.BOOT_STAT, R.BOOT_VERSION, R.BOOT_SLOT_VER, R.BOOT_SLOT_SEQ, R.BOOT_SLOT_STAT, R.BOOT_ROLLBACK]

/-- SYS_STRAP: spec/01_planes_and_frame.md, the table of its name. -/
def R.SYS_STRAP : Reg := ⟨0x1900100, [], .resetN, .sys, .plain, (fun _ => 0x0),
   [⟨1, 1, .ro, none, none⟩, ⟨0, 0, .ro, none, none⟩]⟩
def F.SYS_STRAP_ID_CLASH : FR := ⟨R.SYS_STRAP, 1, 1⟩
def F.SYS_STRAP_PLANE_ID : FR := ⟨R.SYS_STRAP, 0, 0⟩
/-- SYS_RESET: spec/15_boot_keys_firmware.md, the table of its name. -/
def R.SYS_RESET : Reg := ⟨0x1900000, [], .resetN, .sys, .plain, (fun _ => 0x0),
   [⟨0, 0, .wo, none, none⟩]⟩
def F.SYS_RESET_SOFT : FR := ⟨R.SYS_RESET, 0, 0⟩
/-- SYS_RESET_STAT: spec/15_boot_keys_firmware.md, the table of its name. -/
def R.SYS_RESET_STAT : Reg := ⟨0x1900004, [], .por, .sys, .plain, (fun _ => 0x0),
   [⟨31, 30, .ro, none, none⟩, ⟨15, 0, .ro, none, none⟩]⟩
def F.SYS_RESET_STAT_LAST : FR := ⟨R.SYS_RESET_STAT, 31, 30⟩
def F.SYS_RESET_STAT_RESETS : FR := ⟨R.SYS_RESET_STAT, 15, 0⟩
/-- SYS_BLK_RESET: spec/15_boot_keys_firmware.md, the table of its name. -/
def R.SYS_BLK_RESET : Reg := ⟨0x1900008, [], .resetN, .sys, .plain, (fun _ => 0x0),
   [⟨13, 13, .w1s, none, none⟩, ⟨10, 10, .w1s, none, none⟩, ⟨9, 9, .w1s, none, none⟩,
    ⟨2, 2, .w1s, none, none⟩]⟩
def F.SYS_BLK_RESET_PMU : FR := ⟨R.SYS_BLK_RESET, 13, 13⟩
def F.SYS_BLK_RESET_ZL : FR := ⟨R.SYS_BLK_RESET, 10, 10⟩
def F.SYS_BLK_RESET_CEL : FR := ⟨R.SYS_BLK_RESET, 9, 9⟩
def F.SYS_BLK_RESET_XPT : FR := ⟨R.SYS_BLK_RESET, 2, 2⟩
/-- SYS_TEMP: spec/16_electrical_and_package.md, the table of its name. -/
def R.SYS_TEMP : Reg := ⟨0x1900200, [], .resetN, .sys, .plain, (fun _ => 0x0),
   [⟨31, 31, .ro, none, none⟩, ⟨30, 28, .ro, none, none⟩, ⟨15, 0, .ro, none, none⟩]⟩
def F.SYS_TEMP_VALID : FR := ⟨R.SYS_TEMP, 31, 31⟩
def F.SYS_TEMP_HOT_SNS : FR := ⟨R.SYS_TEMP, 30, 28⟩
def F.SYS_TEMP_DIE : FR := ⟨R.SYS_TEMP, 15, 0⟩
/-- SYS_TEMP_SNS: spec/16_electrical_and_package.md, the table of its name. -/
def R.SYS_TEMP_SNS : Reg := ⟨0x1900210, [(8, 0x4)], .resetN, .sys, .plain, (fun _ => 0x0),
   [⟨31, 16, .ro, none, none⟩, ⟨15, 0, .ro, none, none⟩]⟩
def F.SYS_TEMP_SNS_PEAK : FR := ⟨R.SYS_TEMP_SNS, 31, 16⟩
def F.SYS_TEMP_SNS_TEMP : FR := ⟨R.SYS_TEMP_SNS, 15, 0⟩
/-- SYS_RAIL: spec/16_electrical_and_package.md, the table of its name. -/
def R.SYS_RAIL : Reg := ⟨0x1900240, [(6, 0x4)], .resetN, .sys, .plain, (fun _ => 0x0),
   [⟨31, 31, .ro, none, none⟩, ⟨30, 30, .w1c, none, none⟩, ⟨15, 0, .ro, none, none⟩]⟩
def F.SYS_RAIL_OK : FR := ⟨R.SYS_RAIL, 31, 31⟩
def F.SYS_RAIL_EXCURSION : FR := ⟨R.SYS_RAIL, 30, 30⟩
def F.SYS_RAIL_MV : FR := ⟨R.SYS_RAIL, 15, 0⟩
/-- SYS_CLK_STAT: spec/16_electrical_and_package.md, the table of its name. -/
def R.SYS_CLK_STAT : Reg := ⟨0x1900280, [], .resetN, .sys, .plain, (fun _ => 0x0),
   [⟨31, 31, .ro, none, none⟩, ⟨30, 30, .ro, none, none⟩, ⟨29, 29, .ro, none, none⟩,
    ⟨28, 28, .ro, none, none⟩, ⟨27, 24, .ro, none, none⟩]⟩
def F.SYS_CLK_STAT_CORE_PLL_LOCK : FR := ⟨R.SYS_CLK_STAT, 31, 31⟩
def F.SYS_CLK_STAT_SYS_PLL_LOCK : FR := ⟨R.SYS_CLK_STAT, 30, 30⟩
def F.SYS_CLK_STAT_REFCLK_CORE_OK : FR := ⟨R.SYS_CLK_STAT, 29, 29⟩
def F.SYS_CLK_STAT_REFCLK_PCIE_OK : FR := ⟨R.SYS_CLK_STAT, 28, 28⟩
def F.SYS_CLK_STAT_REFCLK_SDS_OK : FR := ⟨R.SYS_CLK_STAT, 27, 24⟩

/-- The registers of block SYS. -/
def regsSys : List Reg :=
  [R.SYS_STRAP, R.SYS_RESET, R.SYS_RESET_STAT, R.SYS_BLK_RESET, R.SYS_TEMP, R.SYS_TEMP_SNS] ++
  [R.SYS_RAIL, R.SYS_CLK_STAT]

end Sys2Proof.Machine
end

