-- ==== Sys2Proof/Machine/RegsHost.lean ====
section
/-! DEFINITION. The registers of the HIF, CMD, NOC blocks, as the register tables of the manual give them: address, strides,
reset kind, reset value, fields with their access codes. -/
namespace Sys2Proof.Machine

/-- HIF_ID: spec/10_host_interface.md, the table of its name. -/
def R.HIF_ID : Reg := ⟨0x0, [], .por, .hif, .plain, (fun _ => 0x11520000),
   [⟨31, 16, .ro, none, none⟩, ⟨15, 8, .ro, none, none⟩]⟩
def F.HIF_ID_DEVICE : FR := ⟨R.HIF_ID, 31, 16⟩
def F.HIF_ID_REV : FR := ⟨R.HIF_ID, 15, 8⟩
/-- HIF_LINK: spec/10_host_interface.md, the table of its name. -/
def R.HIF_LINK : Reg := ⟨0x4, [], .resetN, .hif, .plain, (fun _ => 0x0),
   [⟨31, 31, .ro, none, none⟩, ⟨7, 4, .ro, none, none⟩, ⟨3, 0, .ro, none, none⟩]⟩
def F.HIF_LINK_UP : FR := ⟨R.HIF_LINK, 31, 31⟩
def F.HIF_LINK_WIDTH : FR := ⟨R.HIF_LINK, 7, 4⟩
def F.HIF_LINK_SPEED : FR := ⟨R.HIF_LINK, 3, 0⟩
/-- HIF_PROT_STAT: spec/10_host_interface.md, the table of its name. -/
def R.HIF_PROT_STAT : Reg := ⟨0x8, [], .resetN, .hif, .plain, (fun _ => 0x0),
   [⟨31, 0, .ro, none, none⟩]⟩
def F.HIF_PROT_STAT_PROT_SEQ : FR := ⟨R.HIF_PROT_STAT, 31, 0⟩
/-- HIF_SUBSYS: spec/10_host_interface.md, the table of its name. -/
def R.HIF_SUBSYS : Reg := ⟨0xc, [], .por, .hif, .plain, (fun _ => 0x0),
   [⟨31, 16, .rwp, none, none⟩, ⟨15, 0, .rwp, none, none⟩]⟩
def F.HIF_SUBSYS_SSID : FR := ⟨R.HIF_SUBSYS, 31, 16⟩
def F.HIF_SUBSYS_SSVID : FR := ⟨R.HIF_SUBSYS, 15, 0⟩
/-- HIF_MGMT_STAT: spec/10_host_interface.md, the table of its name. -/
def R.HIF_MGMT_STAT : Reg := ⟨0x10, [], .resetN, .hif, .plain, (fun _ => 0x0),
   [⟨31, 31, .ro, none, none⟩, ⟨16, 16, .wo, none, none⟩, ⟨15, 0, .ro, none, none⟩]⟩
def F.HIF_MGMT_STAT_ACTIVE : FR := ⟨R.HIF_MGMT_STAT, 31, 31⟩
def F.HIF_MGMT_STAT_CLR : FR := ⟨R.HIF_MGMT_STAT, 16, 16⟩
def F.HIF_MGMT_STAT_CMD_ERR : FR := ⟨R.HIF_MGMT_STAT, 15, 0⟩
/-- HIF_DST_OWN: spec/10_host_interface.md, the table of its name. -/
def R.HIF_DST_OWN : Reg := ⟨0x10000, [(1280, 0x4)], .resetN, .hif, .plain, (fun _ => 0x0),
   [⟨2, 0, .rwp, some 1152, none⟩]⟩
def F.HIF_DST_OWN_OWNER : FR := ⟨R.HIF_DST_OWN, 2, 0⟩
/-- HIF_SRC_VIS: spec/10_host_interface.md, the table of its name. -/
def R.HIF_SRC_VIS : Reg := ⟨0x20000, [(1280, 0x4)], .resetN, .hif, .plain, (fun _ => 0x1),
   [⟨7, 0, .rwp, none, none⟩]⟩
def F.HIF_SRC_VIS_VIS : FR := ⟨R.HIF_SRC_VIS, 7, 0⟩
/-- HIF_ENG_ALLOC: spec/10_host_interface.md, the table of its name. -/
def R.HIF_ENG_ALLOC : Reg := ⟨0x30000, [(64, 0x4)], .resetN, .hif, .plain, (fun _ => 0x0),
   [⟨2, 0, .rwp, none, none⟩]⟩
def F.HIF_ENG_ALLOC_PART : FR := ⟨R.HIF_ENG_ALLOC, 2, 0⟩
/-- HIF_PART_FLOW: spec/10_host_interface.md, the table of its name. -/
def R.HIF_PART_FLOW : Reg := ⟨0x40000, [(8, 0x10)], .resetN, .hif, .plain, (fun i => match i with | [0] => 0x40000000 | _ => 0),
   [⟨30, 16, .rwp, none, none⟩, ⟨13, 0, .rwp, none, none⟩]⟩
def F.HIF_PART_FLOW_COUNT : FR := ⟨R.HIF_PART_FLOW, 30, 16⟩
def F.HIF_PART_FLOW_BASE : FR := ⟨R.HIF_PART_FLOW, 13, 0⟩
/-- HIF_PART_CEL_BASE: spec/10_host_interface.md, the table of its name. -/
def R.HIF_PART_CEL_BASE : Reg := ⟨0x40004, [(8, 0x10)], .resetN, .hif, .plain, (fun _ => 0x0),
   [⟨31, 31, .rwp, none, none⟩, ⟨21, 0, .rwp, none, none⟩]⟩
def F.HIF_PART_CEL_BASE_VALID : FR := ⟨R.HIF_PART_CEL_BASE, 31, 31⟩
def F.HIF_PART_CEL_BASE_BASE : FR := ⟨R.HIF_PART_CEL_BASE, 21, 0⟩
/-- HIF_PART_CEL_LIMIT: spec/10_host_interface.md, the table of its name. -/
def R.HIF_PART_CEL_LIMIT : Reg := ⟨0x40008, [(8, 0x10)], .resetN, .hif, .plain, (fun _ => 0x0),
   [⟨21, 0, .rwp, none, none⟩]⟩
def F.HIF_PART_CEL_LIMIT_LIMIT : FR := ⟨R.HIF_PART_CEL_LIMIT, 21, 0⟩
/-- HIF_BDP_CTRL: spec/10_host_interface.md, the table of its name. -/
def R.HIF_BDP_CTRL : Reg := ⟨0x80000, [(9, 0x1000)], .block, .hif, .plain, (fun _ => 0x0),
   [⟨31, 31, .rw, none, none⟩, ⟨30, 30, .rw, none, none⟩, ⟨29, 29, .rw, none, none⟩]⟩
def F.HIF_BDP_CTRL_EN : FR := ⟨R.HIF_BDP_CTRL, 31, 31⟩
def F.HIF_BDP_CTRL_DIR : FR := ⟨R.HIF_BDP_CTRL, 30, 30⟩
def F.HIF_BDP_CTRL_SPACE : FR := ⟨R.HIF_BDP_CTRL, 29, 29⟩
/-- HIF_BDP_ADDR_LO: spec/10_host_interface.md, the table of its name. -/
def R.HIF_BDP_ADDR_LO : Reg := ⟨0x80004, [(9, 0x1000)], .block, .hif, .plain, (fun _ => 0x0),
   [⟨31, 12, .rw, none, none⟩]⟩
def F.HIF_BDP_ADDR_LO_W_LO : FR := ⟨R.HIF_BDP_ADDR_LO, 31, 12⟩
/-- HIF_BDP_ADDR_HI: spec/10_host_interface.md, the table of its name. -/
def R.HIF_BDP_ADDR_HI : Reg := ⟨0x80008, [(9, 0x1000)], .block, .hif, .plain, (fun _ => 0x0),
   [⟨1, 0, .rw, none, none⟩]⟩
def F.HIF_BDP_ADDR_HI_W_HI : FR := ⟨R.HIF_BDP_ADDR_HI, 1, 0⟩
/-- HIF_BDP_STAT: spec/10_host_interface.md, the table of its name. -/
def R.HIF_BDP_STAT : Reg := ⟨0x8000c, [(9, 0x1000)], .block, .hif, .plain, (fun _ => 0x0),
   [⟨31, 16, .ro, none, none⟩, ⟨4, 4, .wo, none, none⟩, ⟨3, 3, .w1c, none, none⟩,
    ⟨2, 2, .w1c, none, none⟩, ⟨1, 1, .w1c, none, none⟩, ⟨0, 0, .w1c, none, none⟩]⟩
def F.HIF_BDP_STAT_DENIED : FR := ⟨R.HIF_BDP_STAT, 31, 16⟩
def F.HIF_BDP_STAT_CLR : FR := ⟨R.HIF_BDP_STAT, 4, 4⟩
def F.HIF_BDP_STAT_UE : FR := ⟨R.HIF_BDP_STAT, 3, 3⟩
def F.HIF_BDP_STAT_BE_ERR : FR := ⟨R.HIF_BDP_STAT, 2, 2⟩
def F.HIF_BDP_STAT_RANGE : FR := ⟨R.HIF_BDP_STAT, 1, 1⟩
def F.HIF_BDP_STAT_DENY : FR := ⟨R.HIF_BDP_STAT, 0, 0⟩
/-- HIF_IRQ_MAP: spec/10_host_interface.md, the table of its name. -/
def R.HIF_IRQ_MAP : Reg := ⟨0x80010, [(8, 0x1000)], .block, .hif, .plain, (fun _ => 0x18820),
   [⟨31, 31, .rw, none, none⟩, ⟨30, 30, .rw, none, none⟩, ⟨29, 29, .rw, some 1, none⟩,
    ⟨28, 28, .rw, some 1, none⟩, ⟨19, 15, .rw, none, none⟩, ⟨14, 10, .rw, none, none⟩,
    ⟨9, 5, .rw, none, none⟩, ⟨4, 0, .rw, none, none⟩]⟩
def F.HIF_IRQ_MAP_CPL_EN : FR := ⟨R.HIF_IRQ_MAP, 31, 31⟩
def F.HIF_IRQ_MAP_EVT_EN : FR := ⟨R.HIF_IRQ_MAP, 30, 30⟩
def F.HIF_IRQ_MAP_FLT_EN : FR := ⟨R.HIF_IRQ_MAP, 29, 29⟩
def F.HIF_IRQ_MAP_NET_EN : FR := ⟨R.HIF_IRQ_MAP, 28, 28⟩
def F.HIF_IRQ_MAP_NET_VEC : FR := ⟨R.HIF_IRQ_MAP, 19, 15⟩
def F.HIF_IRQ_MAP_FLT_VEC : FR := ⟨R.HIF_IRQ_MAP, 14, 10⟩
def F.HIF_IRQ_MAP_EVT_VEC : FR := ⟨R.HIF_IRQ_MAP, 9, 5⟩
def F.HIF_IRQ_MAP_CPL_VEC : FR := ⟨R.HIF_IRQ_MAP, 4, 0⟩
/-- HIF_IRQ_MOD: spec/10_host_interface.md, the table of its name. -/
def R.HIF_IRQ_MOD : Reg := ⟨0x80014, [(8, 0x1000)], .block, .hif, .plain, (fun _ => 0x0),
   [⟨15, 0, .rw, none, none⟩]⟩
def F.HIF_IRQ_MOD_HOLDOFF : FR := ⟨R.HIF_IRQ_MOD, 15, 0⟩
/-- HIF_PART_STAT: spec/10_host_interface.md, the table of its name. -/
def R.HIF_PART_STAT : Reg := ⟨0x80018, [(8, 0x1000)], .block, .hif, .plain, (fun _ => 0x0),
   [⟨31, 31, .ro, none, none⟩, ⟨30, 30, .ro, none, none⟩, ⟨16, 16, .wo, none, none⟩,
    ⟨15, 0, .ro, none, none⟩]⟩
def F.HIF_PART_STAT_BME : FR := ⟨R.HIF_PART_STAT, 31, 31⟩
def F.HIF_PART_STAT_FLR_BUSY : FR := ⟨R.HIF_PART_STAT, 30, 30⟩
def F.HIF_PART_STAT_CLR : FR := ⟨R.HIF_PART_STAT, 16, 16⟩
def F.HIF_PART_STAT_WR_DENIED : FR := ⟨R.HIF_PART_STAT, 15, 0⟩

/-- The registers of block HIF. -/
def regsHif : List Reg :=
  [R.HIF_ID, R.HIF_LINK, R.HIF_PROT_STAT, R.HIF_SUBSYS, R.HIF_MGMT_STAT, R.HIF_DST_OWN] ++
  [R.HIF_SRC_VIS, R.HIF_ENG_ALLOC, R.HIF_PART_FLOW, R.HIF_PART_CEL_BASE, R.HIF_PART_CEL_LIMIT, R.HIF_BDP_CTRL] ++
  [R.HIF_BDP_ADDR_LO, R.HIF_BDP_ADDR_HI, R.HIF_BDP_STAT, R.HIF_IRQ_MAP, R.HIF_IRQ_MOD, R.HIF_PART_STAT]

/-- CMD_RING_BASE_LO: spec/11_command_rings.md, the table of its name. -/
def R.CMD_RING_BASE_LO : Reg := ⟨0x100000, [(8, 0x1000), (8, 0x20)], .block, .cmd, .plain, (fun _ => 0x0),
   [⟨31, 12, .rw, none, none⟩]⟩
def F.CMD_RING_BASE_LO_ADDR_LO : FR := ⟨R.CMD_RING_BASE_LO, 31, 12⟩
/-- CMD_RING_BASE_HI: spec/11_command_rings.md, the table of its name. -/
def R.CMD_RING_BASE_HI : Reg := ⟨0x100004, [(8, 0x1000), (8, 0x20)], .block, .cmd, .plain, (fun _ => 0x0),
   [⟨31, 0, .rw, none, none⟩]⟩
def F.CMD_RING_BASE_HI_ADDR_HI : FR := ⟨R.CMD_RING_BASE_HI, 31, 0⟩
/-- CMD_RING_CFG: spec/11_command_rings.md, the table of its name. -/
def R.CMD_RING_CFG : Reg := ⟨0x100008, [(8, 0x1000), (8, 0x20)], .block, .cmd, .plain, (fun _ => 0x10000000),
   [⟨31, 31, .rw, none, none⟩, ⟨30, 28, .rw, none, none⟩, ⟨27, 24, .rw, none, none⟩,
    ⟨23, 22, .rw, none, none⟩, ⟨21, 21, .rw, none, none⟩]⟩
def F.CMD_RING_CFG_EN : FR := ⟨R.CMD_RING_CFG, 31, 31⟩
def F.CMD_RING_CFG_VERSION : FR := ⟨R.CMD_RING_CFG, 30, 28⟩
def F.CMD_RING_CFG_SIZE : FR := ⟨R.CMD_RING_CFG, 27, 24⟩
def F.CMD_RING_CFG_PRIO : FR := ⟨R.CMD_RING_CFG, 23, 22⟩
def F.CMD_RING_CFG_SEQ_CHECK : FR := ⟨R.CMD_RING_CFG, 21, 21⟩
/-- CMD_RING_PTR: spec/11_command_rings.md, the table of its name. -/
def R.CMD_RING_PTR : Reg := ⟨0x10000c, [(8, 0x1000), (8, 0x20)], .block, .cmd, .plain, (fun _ => 0x0),
   [⟨30, 16, .ro, none, none⟩, ⟨14, 0, .ro, none, none⟩]⟩
def F.CMD_RING_PTR_TAIL : FR := ⟨R.CMD_RING_PTR, 30, 16⟩
def F.CMD_RING_PTR_HEAD : FR := ⟨R.CMD_RING_PTR, 14, 0⟩
/-- CMD_RING_STAT: spec/11_command_rings.md, the table of its name. -/
def R.CMD_RING_STAT : Reg := ⟨0x100010, [(8, 0x1000), (8, 0x20)], .block, .cmd, .plain, (fun _ => 0x0),
   [⟨31, 16, .ro, none, none⟩, ⟨5, 5, .wo, none, none⟩, ⟨4, 4, .ro, none, none⟩,
    ⟨3, 3, .w1c, none, none⟩, ⟨2, 2, .w1c, none, none⟩, ⟨1, 1, .w1c, none, none⟩]⟩
def F.CMD_RING_STAT_REFUSED : FR := ⟨R.CMD_RING_STAT, 31, 16⟩
def F.CMD_RING_STAT_CLR : FR := ⟨R.CMD_RING_STAT, 5, 5⟩
def F.CMD_RING_STAT_BUSY : FR := ⟨R.CMD_RING_STAT, 4, 4⟩
def F.CMD_RING_STAT_DB_ERR : FR := ⟨R.CMD_RING_STAT, 3, 3⟩
def F.CMD_RING_STAT_SEQ_ERR : FR := ⟨R.CMD_RING_STAT, 2, 2⟩
def F.CMD_RING_STAT_CFG_ERR : FR := ⟨R.CMD_RING_STAT, 1, 1⟩
/-- CMD_RING_SEQ: spec/11_command_rings.md, the table of its name. -/
def R.CMD_RING_SEQ : Reg := ⟨0x100014, [(8, 0x1000), (8, 0x20)], .block, .cmd, .plain, (fun _ => 0x0),
   [⟨31, 0, .ro, none, none⟩]⟩
def F.CMD_RING_SEQ_EXPECT : FR := ⟨R.CMD_RING_SEQ, 31, 0⟩
/-- CMD_CPL_BASE_LO: spec/11_command_rings.md, the table of its name. -/
def R.CMD_CPL_BASE_LO : Reg := ⟨0x100100, [(8, 0x1000)], .block, .cmd, .plain, (fun _ => 0x0),
   [⟨31, 12, .rw, none, none⟩]⟩
def F.CMD_CPL_BASE_LO_ADDR_LO : FR := ⟨R.CMD_CPL_BASE_LO, 31, 12⟩
/-- CMD_CPL_BASE_HI: spec/11_command_rings.md, the table of its name. -/
def R.CMD_CPL_BASE_HI : Reg := ⟨0x100104, [(8, 0x1000)], .block, .cmd, .plain, (fun _ => 0x0),
   [⟨31, 0, .rw, none, none⟩]⟩
def F.CMD_CPL_BASE_HI_ADDR_HI : FR := ⟨R.CMD_CPL_BASE_HI, 31, 0⟩
/-- CMD_EVT_BASE_LO: spec/11_command_rings.md, the table of its name. -/
def R.CMD_EVT_BASE_LO : Reg := ⟨0x100120, [(8, 0x1000)], .block, .cmd, .plain, (fun _ => 0x0),
   [⟨31, 12, .rw, none, none⟩]⟩
def F.CMD_EVT_BASE_LO_ADDR_LO : FR := ⟨R.CMD_EVT_BASE_LO, 31, 12⟩
/-- CMD_EVT_BASE_HI: spec/11_command_rings.md, the table of its name. -/
def R.CMD_EVT_BASE_HI : Reg := ⟨0x100124, [(8, 0x1000)], .block, .cmd, .plain, (fun _ => 0x0),
   [⟨31, 0, .rw, none, none⟩]⟩
def F.CMD_EVT_BASE_HI_ADDR_HI : FR := ⟨R.CMD_EVT_BASE_HI, 31, 0⟩
/-- CMD_CPL_CFG: spec/11_command_rings.md, the table of its name. -/
def R.CMD_CPL_CFG : Reg := ⟨0x100108, [(8, 0x1000)], .block, .cmd, .plain, (fun _ => 0x0),
   [⟨31, 31, .rw, none, none⟩, ⟨27, 24, .rw, none, none⟩]⟩
def F.CMD_CPL_CFG_EN : FR := ⟨R.CMD_CPL_CFG, 31, 31⟩
def F.CMD_CPL_CFG_SIZE : FR := ⟨R.CMD_CPL_CFG, 27, 24⟩
/-- CMD_EVT_CFG: spec/11_command_rings.md, the table of its name. -/
def R.CMD_EVT_CFG : Reg := ⟨0x100128, [(8, 0x1000)], .block, .cmd, .plain, (fun _ => 0x0),
   [⟨31, 31, .rw, none, none⟩, ⟨27, 24, .rw, none, none⟩, ⟨2, 0, .rw, none, none⟩]⟩
def F.CMD_EVT_CFG_EN : FR := ⟨R.CMD_EVT_CFG, 31, 31⟩
def F.CMD_EVT_CFG_SIZE : FR := ⟨R.CMD_EVT_CFG, 27, 24⟩
def F.CMD_EVT_CFG_CAD : FR := ⟨R.CMD_EVT_CFG, 2, 0⟩
/-- CMD_CPL_PTR: spec/11_command_rings.md, the table of its name. -/
def R.CMD_CPL_PTR : Reg := ⟨0x10010c, [(8, 0x1000)], .block, .cmd, .plain, (fun _ => 0x80000000),
   [⟨31, 31, .ro, none, none⟩, ⟨30, 16, .ro, none, none⟩, ⟨14, 0, .ro, none, none⟩]⟩
def F.CMD_CPL_PTR_PHASE : FR := ⟨R.CMD_CPL_PTR, 31, 31⟩
def F.CMD_CPL_PTR_WRITE : FR := ⟨R.CMD_CPL_PTR, 30, 16⟩
def F.CMD_CPL_PTR_HOST_HEAD : FR := ⟨R.CMD_CPL_PTR, 14, 0⟩
/-- CMD_EVT_PTR: spec/11_command_rings.md, the table of its name. -/
def R.CMD_EVT_PTR : Reg := ⟨0x10012c, [(8, 0x1000)], .block, .cmd, .plain, (fun _ => 0x80000000),
   [⟨31, 31, .ro, none, none⟩, ⟨30, 16, .ro, none, none⟩, ⟨14, 0, .ro, none, none⟩]⟩
def F.CMD_EVT_PTR_PHASE : FR := ⟨R.CMD_EVT_PTR, 31, 31⟩
def F.CMD_EVT_PTR_WRITE : FR := ⟨R.CMD_EVT_PTR, 30, 16⟩
def F.CMD_EVT_PTR_HOST_HEAD : FR := ⟨R.CMD_EVT_PTR, 14, 0⟩
/-- CMD_CPL_STAT: spec/11_command_rings.md, the table of its name. -/
def R.CMD_CPL_STAT : Reg := ⟨0x100110, [(8, 0x1000)], .block, .cmd, .plain, (fun _ => 0x0),
   [⟨31, 16, .ro, none, none⟩, ⟨15, 0, .ro, none, none⟩]⟩
def F.CMD_CPL_STAT_CREDITS : FR := ⟨R.CMD_CPL_STAT, 31, 16⟩
def F.CMD_CPL_STAT_DISCARDED : FR := ⟨R.CMD_CPL_STAT, 15, 0⟩
/-- CMD_EVT_STAT: spec/11_command_rings.md, the table of its name. -/
def R.CMD_EVT_STAT : Reg := ⟨0x100130, [(8, 0x1000)], .block, .cmd, .plain, (fun _ => 0x0),
   [⟨31, 16, .ro, none, none⟩, ⟨15, 0, .ro, none, none⟩]⟩
def F.CMD_EVT_STAT_LOST_TOTAL : FR := ⟨R.CMD_EVT_STAT, 31, 16⟩
def F.CMD_EVT_STAT_PENDING : FR := ⟨R.CMD_EVT_STAT, 15, 0⟩
/-- CMD_EVT_MASK: spec/11_command_rings.md, the table of its name. -/
def R.CMD_EVT_MASK : Reg := ⟨0x100134, [(8, 0x1000)], .block, .cmd, .plain, (fun _ => 0x0),
   [⟨31, 0, .rw, none, none⟩]⟩
def F.CMD_EVT_MASK_MASK : FR := ⟨R.CMD_EVT_MASK, 31, 0⟩
/-- CMD_CAPS: spec/11_command_rings.md, the table of its name. -/
def R.CMD_CAPS : Reg := ⟨0x108000, [], .por, .cmd, .plain, (fun _ => 0x803),
   [⟨11, 8, .ro, none, none⟩, ⟨7, 0, .ro, none, none⟩]⟩
def F.CMD_CAPS_RINGS : FR := ⟨R.CMD_CAPS, 11, 8⟩
def F.CMD_CAPS_VERSIONS : FR := ⟨R.CMD_CAPS, 7, 0⟩
/-- CMD_TRACK: spec/11_command_rings.md, the table of its name. -/
def R.CMD_TRACK : Reg := ⟨0x108004, [], .resetN, .cmd, .plain, (fun _ => 0x0),
   [⟨16, 0, .ro, none, none⟩]⟩
def F.CMD_TRACK_USED : FR := ⟨R.CMD_TRACK, 16, 0⟩
/-- CMD_PART_QUOTA: spec/11_command_rings.md, the table of its name. -/
def R.CMD_PART_QUOTA : Reg := ⟨0x108010, [(8, 0x4)], .resetN, .cmd, .plain, (fun _ => 0x2000),
   [⟨16, 0, .rwp, none, none⟩]⟩
def F.CMD_PART_QUOTA_QUOTA : FR := ⟨R.CMD_PART_QUOTA, 16, 0⟩

/-- The registers of block CMD. -/
def regsCmd : List Reg :=
  [R.CMD_RING_BASE_LO, R.CMD_RING_BASE_HI, R.CMD_RING_CFG, R.CMD_RING_PTR, R.CMD_RING_STAT, R.CMD_RING_SEQ] ++
  [R.CMD_CPL_BASE_LO, R.CMD_CPL_BASE_HI, R.CMD_EVT_BASE_LO, R.CMD_EVT_BASE_HI, R.CMD_CPL_CFG, R.CMD_EVT_CFG] ++
  [R.CMD_CPL_PTR, R.CMD_EVT_PTR, R.CMD_CPL_STAT, R.CMD_EVT_STAT, R.CMD_EVT_MASK, R.CMD_CAPS] ++
  [R.CMD_TRACK, R.CMD_PART_QUOTA]

/-- NOC_HOLD: spec/10_host_interface.md, the table of its name. -/
def R.NOC_HOLD : Reg := ⟨0x1800000, [], .resetN, .noc, .plain, (fun _ => 0x0),
   [⟨31, 16, .ro, none, none⟩, ⟨15, 0, .ro, none, none⟩]⟩
def F.NOC_HOLD_NP_HELD : FR := ⟨R.NOC_HOLD, 31, 16⟩
def F.NOC_HOLD_ORDER_HELD : FR := ⟨R.NOC_HOLD, 15, 0⟩
/-- NOC_ERR: spec/10_host_interface.md, the table of its name. -/
def R.NOC_ERR : Reg := ⟨0x1800004, [], .resetN, .noc, .plain, (fun _ => 0x0),
   [⟨31, 31, .w1c, none, none⟩, ⟨30, 29, .ro, none, none⟩, ⟨28, 26, .ro, none, none⟩,
    ⟨25, 23, .ro, none, none⟩]⟩
def F.NOC_ERR_VALID : FR := ⟨R.NOC_ERR, 31, 31⟩
def F.NOC_ERR_KIND : FR := ⟨R.NOC_ERR, 30, 29⟩
def F.NOC_ERR_MASTER : FR := ⟨R.NOC_ERR, 28, 26⟩
def F.NOC_ERR_TARGET : FR := ⟨R.NOC_ERR, 25, 23⟩
/-- NOC_ERR_ADDR_LO: spec/10_host_interface.md, the table of its name. -/
def R.NOC_ERR_ADDR_LO : Reg := ⟨0x1800008, [], .resetN, .noc, .plain, (fun _ => 0x0),
   [⟨31, 0, .ro, none, none⟩]⟩
def F.NOC_ERR_ADDR_LO_ADDR_LO : FR := ⟨R.NOC_ERR_ADDR_LO, 31, 0⟩
/-- NOC_ERR_ADDR_HI: spec/10_host_interface.md, the table of its name. -/
def R.NOC_ERR_ADDR_HI : Reg := ⟨0x180000c, [], .resetN, .noc, .plain, (fun _ => 0x0),
   [⟨7, 0, .ro, none, none⟩]⟩
def F.NOC_ERR_ADDR_HI_ADDR_HI : FR := ⟨R.NOC_ERR_ADDR_HI, 7, 0⟩
/-- NOC_IDLE: spec/10_host_interface.md, the table of its name. -/
def R.NOC_IDLE : Reg := ⟨0x1800010, [], .resetN, .noc, .plain, (fun _ => 0x0),
   [⟨10, 0, .ro, none, none⟩]⟩
def F.NOC_IDLE_IDLE : FR := ⟨R.NOC_IDLE, 10, 0⟩

/-- The registers of block NOC. -/
def regsNoc : List Reg :=
  [R.NOC_HOLD, R.NOC_ERR, R.NOC_ERR_ADDR_LO, R.NOC_ERR_ADDR_HI, R.NOC_IDLE]

end Sys2Proof.Machine
end

