-- ==== Sys2Proof/Machine/RegsLanes.lean ====
section
/-! DEFINITION. The registers of the ZL, ETH, FLW blocks, as the register tables of the manual give them: address, strides,
reset kind, reset value, fields with their access codes. -/
namespace Sys2Proof.Machine

/-- ZL_LANE_CTRL: spec/04_zwialnik_lanes.md, the table of its name. -/
def R.ZL_LANE_CTRL : Reg := ⟨0x1000000, [(584, 0x1000)], .resetN, .zl, .plain, (fun _ => 0xc0000),
   [⟨31, 31, .rwp, none, none⟩, ⟨30, 30, .rwp, none, none⟩, ⟨29, 29, .wo, none, none⟩,
    ⟨28, 28, .rwp, none, none⟩, ⟨27, 24, .rwp, none, none⟩, ⟨23, 21, .rwp, none, none⟩,
    ⟨20, 18, .rwp, none, none⟩]⟩
def F.ZL_LANE_CTRL_RX_EN : FR := ⟨R.ZL_LANE_CTRL, 31, 31⟩
def F.ZL_LANE_CTRL_TX_EN : FR := ⟨R.ZL_LANE_CTRL, 30, 30⟩
def F.ZL_LANE_CTRL_RETRAIN : FR := ⟨R.ZL_LANE_CTRL, 29, 29⟩
def F.ZL_LANE_CTRL_CTLE_MANUAL : FR := ⟨R.ZL_LANE_CTRL, 28, 28⟩
def F.ZL_LANE_CTRL_CTLE_CODE : FR := ⟨R.ZL_LANE_CTRL, 27, 24⟩
def F.ZL_LANE_CTRL_TEST : FR := ⟨R.ZL_LANE_CTRL, 23, 21⟩
def F.ZL_LANE_CTRL_TX_AMP : FR := ⟨R.ZL_LANE_CTRL, 20, 18⟩
/-- ZL_LANE_STAT: spec/04_zwialnik_lanes.md, the table of its name. -/
def R.ZL_LANE_STAT : Reg := ⟨0x1000004, [(584, 0x1000)], .resetN, .zl, .plain, (fun _ => 0x200000),
   [⟨31, 29, .ro, none, none⟩, ⟨28, 28, .ro, none, none⟩, ⟨27, 26, .ro, none, none⟩,
    ⟨25, 22, .ro, none, none⟩, ⟨21, 21, .ro, none, none⟩, ⟨20, 20, .w1c, none, none⟩,
    ⟨19, 19, .w1c, none, none⟩]⟩
def F.ZL_LANE_STAT_TRAIN_STATE : FR := ⟨R.ZL_LANE_STAT, 31, 29⟩
def F.ZL_LANE_STAT_UP : FR := ⟨R.ZL_LANE_STAT, 28, 28⟩
def F.ZL_LANE_STAT_VER : FR := ⟨R.ZL_LANE_STAT, 27, 26⟩
def F.ZL_LANE_STAT_CTLE_USED : FR := ⟨R.ZL_LANE_STAT, 25, 22⟩
def F.ZL_LANE_STAT_FCRC_FAIL : FR := ⟨R.ZL_LANE_STAT, 21, 21⟩
def F.ZL_LANE_STAT_XING_FALLBACK : FR := ⟨R.ZL_LANE_STAT, 20, 20⟩
def F.ZL_LANE_STAT_TEST_REFUSED : FR := ⟨R.ZL_LANE_STAT, 19, 19⟩
/-- ZL_LANE_RXHDR: spec/04_zwialnik_lanes.md, the table of its name. -/
def R.ZL_LANE_RXHDR : Reg := ⟨0x1000008, [(584, 0x1000)], .resetN, .zl, .plain, (fun _ => 0x0),
   [⟨31, 30, .ro, none, none⟩, ⟨29, 28, .ro, none, none⟩, ⟨27, 26, .ro, none, none⟩,
    ⟨25, 22, .ro, none, none⟩, ⟨21, 21, .ro, none, none⟩]⟩
def F.ZL_LANE_RXHDR_OFFER : FR := ⟨R.ZL_LANE_RXHDR, 31, 30⟩
def F.ZL_LANE_RXHDR_USE : FR := ⟨R.ZL_LANE_RXHDR, 29, 28⟩
def F.ZL_LANE_RXHDR_STATE : FR := ⟨R.ZL_LANE_RXHDR, 27, 26⟩
def F.ZL_LANE_RXHDR_QL : FR := ⟨R.ZL_LANE_RXHDR, 25, 22⟩
def F.ZL_LANE_RXHDR_RX_OK : FR := ⟨R.ZL_LANE_RXHDR, 21, 21⟩
/-- ZL_LANE_RXEPOCH: spec/04_zwialnik_lanes.md, the table of its name. -/
def R.ZL_LANE_RXEPOCH : Reg := ⟨0x100000c, [(584, 0x1000)], .resetN, .zl, .plain, (fun _ => 0x0),
   [⟨31, 0, .ro, none, none⟩]⟩
def F.ZL_LANE_RXEPOCH_EPOCH : FR := ⟨R.ZL_LANE_RXEPOCH, 31, 0⟩
/-- ZL_LANE_ERR0: spec/04_zwialnik_lanes.md, the table of its name. -/
def R.ZL_LANE_ERR0 : Reg := ⟨0x1000010, [(584, 0x1000)], .resetN, .zl, .plain, (fun _ => 0x0),
   [⟨31, 16, .ro, none, none⟩, ⟨15, 0, .ro, none, none⟩]⟩
def F.ZL_LANE_ERR0_FCRC : FR := ⟨R.ZL_LANE_ERR0, 31, 16⟩
def F.ZL_LANE_ERR0_LCRC : FR := ⟨R.ZL_LANE_ERR0, 15, 0⟩
/-- ZL_LANE_ERR1: spec/04_zwialnik_lanes.md, the table of its name. -/
def R.ZL_LANE_ERR1 : Reg := ⟨0x1000014, [(584, 0x1000)], .resetN, .zl, .plain, (fun _ => 0x0),
   [⟨31, 16, .ro, none, none⟩, ⟨15, 0, .ro, none, none⟩]⟩
def F.ZL_LANE_ERR1_OVR : FR := ⟨R.ZL_LANE_ERR1, 31, 16⟩
def F.ZL_LANE_ERR1_ERRBLK : FR := ⟨R.ZL_LANE_ERR1, 15, 0⟩
/-- ZL_LANE_ERR2: spec/04_zwialnik_lanes.md, the table of its name. -/
def R.ZL_LANE_ERR2 : Reg := ⟨0x1000018, [(584, 0x1000)], .resetN, .zl, .plain, (fun _ => 0x0),
   [⟨31, 16, .ro, none, none⟩, ⟨15, 0, .ro, none, none⟩]⟩
def F.ZL_LANE_ERR2_SHORT : FR := ⟨R.ZL_LANE_ERR2, 31, 16⟩
def F.ZL_LANE_ERR2_LONG : FR := ⟨R.ZL_LANE_ERR2, 15, 0⟩
/-- ZL_LANE_ERR3: spec/04_zwialnik_lanes.md, the table of its name. -/
def R.ZL_LANE_ERR3 : Reg := ⟨0x100001c, [(584, 0x1000)], .resetN, .zl, .plain, (fun _ => 0x0),
   [⟨31, 16, .ro, none, none⟩, ⟨15, 0, .ro, none, none⟩]⟩
def F.ZL_LANE_ERR3_STUFF_OVR : FR := ⟨R.ZL_LANE_ERR3, 31, 16⟩
def F.ZL_LANE_ERR3_SEQ : FR := ⟨R.ZL_LANE_ERR3, 15, 0⟩
/-- ZL_LANE_ERRCLR: spec/04_zwialnik_lanes.md, the table of its name. -/
def R.ZL_LANE_ERRCLR : Reg := ⟨0x1000020, [(584, 0x1000)], .resetN, .zl, .plain, (fun _ => 0x0),
   [⟨0, 0, .wo, none, none⟩]⟩
def F.ZL_LANE_ERRCLR_CLR : FR := ⟨R.ZL_LANE_ERRCLR, 0, 0⟩
/-- ZL_LANE_TRAIN: spec/04_zwialnik_lanes.md, the table of its name. -/
def R.ZL_LANE_TRAIN : Reg := ⟨0x1000024, [(584, 0x1000)], .resetN, .zl, .plain, (fun _ => 0x0),
   [⟨31, 16, .ro, none, none⟩, ⟨15, 13, .ro, none, none⟩]⟩
def F.ZL_LANE_TRAIN_ATTEMPTS : FR := ⟨R.ZL_LANE_TRAIN, 31, 16⟩
def F.ZL_LANE_TRAIN_LAST_FAIL : FR := ⟨R.ZL_LANE_TRAIN, 15, 13⟩
/-- ZL_LANE_PRBS: spec/04_zwialnik_lanes.md, the table of its name. -/
def R.ZL_LANE_PRBS : Reg := ⟨0x1000040, [(584, 0x1000)], .resetN, .zl, .plain, (fun _ => 0x20000000),
   [⟨30, 30, .rwp, none, none⟩, ⟨29, 27, .rwp, none, none⟩, ⟨26, 26, .rwp, none, none⟩,
    ⟨25, 25, .ro, none, none⟩, ⟨24, 24, .wo, none, none⟩]⟩
def F.ZL_LANE_PRBS_CHK_EN : FR := ⟨R.ZL_LANE_PRBS, 30, 30⟩
def F.ZL_LANE_PRBS_POLY : FR := ⟨R.ZL_LANE_PRBS, 29, 27⟩
def F.ZL_LANE_PRBS_INV : FR := ⟨R.ZL_LANE_PRBS, 26, 26⟩
def F.ZL_LANE_PRBS_CHK_LOCK : FR := ⟨R.ZL_LANE_PRBS, 25, 25⟩
def F.ZL_LANE_PRBS_CLR : FR := ⟨R.ZL_LANE_PRBS, 24, 24⟩
/-- ZL_LANE_PRBS_ERR: spec/04_zwialnik_lanes.md, the table of its name. -/
def R.ZL_LANE_PRBS_ERR : Reg := ⟨0x1000044, [(584, 0x1000)], .resetN, .zl, .plain, (fun _ => 0x0),
   [⟨31, 0, .ro, none, none⟩]⟩
def F.ZL_LANE_PRBS_ERR_ERRORS : FR := ⟨R.ZL_LANE_PRBS_ERR, 31, 0⟩
/-- ZL_LANE_EYE_CTRL: spec/04_zwialnik_lanes.md, the table of its name. -/
def R.ZL_LANE_EYE_CTRL : Reg := ⟨0x1000060, [(584, 0x1000)], .block, .zl, .plain, (fun _ => 0x14000),
   [⟨31, 31, .rw, none, none⟩, ⟨30, 30, .ro, none, none⟩, ⟨29, 24, .rw, none, none⟩,
    ⟨23, 17, .rw, none, none⟩, ⟨16, 12, .rw, none, none⟩]⟩
def F.ZL_LANE_EYE_CTRL_RUN : FR := ⟨R.ZL_LANE_EYE_CTRL, 31, 31⟩
def F.ZL_LANE_EYE_CTRL_DONE : FR := ⟨R.ZL_LANE_EYE_CTRL, 30, 30⟩
def F.ZL_LANE_EYE_CTRL_H_OFF : FR := ⟨R.ZL_LANE_EYE_CTRL, 29, 24⟩
def F.ZL_LANE_EYE_CTRL_V_OFF : FR := ⟨R.ZL_LANE_EYE_CTRL, 23, 17⟩
def F.ZL_LANE_EYE_CTRL_DWELL : FR := ⟨R.ZL_LANE_EYE_CTRL, 16, 12⟩
/-- ZL_LANE_EYE_RES: spec/04_zwialnik_lanes.md, the table of its name. -/
def R.ZL_LANE_EYE_RES : Reg := ⟨0x1000064, [(584, 0x1000)], .block, .zl, .plain, (fun _ => 0x0),
   [⟨31, 0, .ro, none, none⟩]⟩
def F.ZL_LANE_EYE_RES_ERRORS : FR := ⟨R.ZL_LANE_EYE_RES, 31, 0⟩
/-- ZL_LANE_EYE_MARGIN: spec/04_zwialnik_lanes.md, the table of its name. -/
def R.ZL_LANE_EYE_MARGIN : Reg := ⟨0x1000068, [(584, 0x1000)], .block, .zl, .plain, (fun _ => 0x0),
   [⟨31, 24, .ro, none, none⟩, ⟨23, 16, .ro, none, none⟩, ⟨15, 8, .ro, none, none⟩,
    ⟨7, 0, .ro, none, none⟩]⟩
def F.ZL_LANE_EYE_MARGIN_LEFT : FR := ⟨R.ZL_LANE_EYE_MARGIN, 31, 24⟩
def F.ZL_LANE_EYE_MARGIN_RIGHT : FR := ⟨R.ZL_LANE_EYE_MARGIN, 23, 16⟩
def F.ZL_LANE_EYE_MARGIN_UP : FR := ⟨R.ZL_LANE_EYE_MARGIN, 15, 8⟩
def F.ZL_LANE_EYE_MARGIN_DOWN : FR := ⟨R.ZL_LANE_EYE_MARGIN, 7, 0⟩
/-- ZL_QUAD_CFG: spec/04_zwialnik_lanes.md, the table of its name. -/
def R.ZL_QUAD_CFG : Reg := ⟨0x1000800, [(146, 0x4000)], .resetN, .zl, .plain, (fun _ => 0x0),
   [⟨31, 30, .rwp, some 16, none⟩, ⟨29, 28, .rwp, none, none⟩, ⟨27, 27, .rwp, none, none⟩,
    ⟨26, 20, .rwp, none, none⟩]⟩
def F.ZL_QUAD_CFG_MODE : FR := ⟨R.ZL_QUAD_CFG, 31, 30⟩
def F.ZL_QUAD_CFG_REFCLK : FR := ⟨R.ZL_QUAD_CFG, 29, 28⟩
def F.ZL_QUAD_CFG_PEER_VALID : FR := ⟨R.ZL_QUAD_CFG, 27, 27⟩
def F.ZL_QUAD_CFG_PEER : FR := ⟨R.ZL_QUAD_CFG, 26, 20⟩
/-- ZL_QUAD_STAT: spec/04_zwialnik_lanes.md, the table of its name. -/
def R.ZL_QUAD_STAT : Reg := ⟨0x1000804, [(146, 0x4000)], .resetN, .zl, .plain, (fun _ => 0x0),
   [⟨31, 31, .ro, none, none⟩, ⟨30, 30, .w1c, none, none⟩]⟩
def F.ZL_QUAD_STAT_PLL_LOCK : FR := ⟨R.ZL_QUAD_STAT, 31, 31⟩
def F.ZL_QUAD_STAT_MODE_REFUSED : FR := ⟨R.ZL_QUAD_STAT, 30, 30⟩
/-- ZL_CFG: spec/04_zwialnik_lanes.md, the table of its name. -/
def R.ZL_CFG : Reg := ⟨0x1300000, [], .resetN, .zl, .plain, (fun _ => 0x80000000),
   [⟨31, 30, .rwp, none, none⟩]⟩
def F.ZL_CFG_MAX_VER : FR := ⟨R.ZL_CFG, 31, 30⟩
/-- ZL_PEER_CFG: spec/04_zwialnik_lanes.md, the table of its name. -/
def R.ZL_PEER_CFG : Reg := ⟨0x1300004, [], .resetN, .zl, .plain, (fun _ => 0x3),
   [⟨7, 0, .rwp, none, none⟩]⟩
def F.ZL_PEER_CFG_THRESH : FR := ⟨R.ZL_PEER_CFG, 7, 0⟩
/-- ZL_ECHO: spec/04_zwialnik_lanes.md, the table of its name. -/
def R.ZL_ECHO : Reg := ⟨0x1300008, [], .resetN, .zl, .plain, (fun _ => 0x0),
   [⟨31, 31, .ro, none, none⟩, ⟨9, 0, .ro, none, none⟩]⟩
def F.ZL_ECHO_SEEN : FR := ⟨R.ZL_ECHO, 31, 31⟩
def F.ZL_ECHO_LANE : FR := ⟨R.ZL_ECHO, 9, 0⟩
/-- ZL_ECHO_EPOCH: spec/04_zwialnik_lanes.md, the table of its name. -/
def R.ZL_ECHO_EPOCH : Reg := ⟨0x130000c, [], .resetN, .zl, .plain, (fun _ => 0x0),
   [⟨31, 0, .ro, none, none⟩]⟩
def F.ZL_ECHO_EPOCH_EPOCH : FR := ⟨R.ZL_ECHO_EPOCH, 31, 0⟩
/-- ZL_PEER_STAT: spec/04_zwialnik_lanes.md, the table of its name. -/
def R.ZL_PEER_STAT : Reg := ⟨0x1300100, [(127, 0x4)], .resetN, .zl, .plain, (fun _ => 0x0),
   [⟨31, 31, .ro, none, none⟩, ⟨30, 30, .ro, none, none⟩, ⟨9, 0, .ro, none, none⟩]⟩
def F.ZL_PEER_STAT_LOST : FR := ⟨R.ZL_PEER_STAT, 31, 31⟩
def F.ZL_PEER_STAT_SUPPRESS : FR := ⟨R.ZL_PEER_STAT, 30, 30⟩
def F.ZL_PEER_STAT_FAILED : FR := ⟨R.ZL_PEER_STAT, 9, 0⟩

/-- The registers of block ZL. -/
def regsZl : List Reg :=
  [R.ZL_LANE_CTRL, R.ZL_LANE_STAT, R.ZL_LANE_RXHDR, R.ZL_LANE_RXEPOCH, R.ZL_LANE_ERR0, R.ZL_LANE_ERR1] ++
  [R.ZL_LANE_ERR2, R.ZL_LANE_ERR3, R.ZL_LANE_ERRCLR, R.ZL_LANE_TRAIN, R.ZL_LANE_PRBS, R.ZL_LANE_PRBS_ERR] ++
  [R.ZL_LANE_EYE_CTRL, R.ZL_LANE_EYE_RES, R.ZL_LANE_EYE_MARGIN, R.ZL_QUAD_CFG, R.ZL_QUAD_STAT, R.ZL_CFG] ++
  [R.ZL_PEER_CFG, R.ZL_ECHO, R.ZL_ECHO_EPOCH, R.ZL_PEER_STAT]

/-- ETH_MAC_CFG: spec/05_packet_ports.md, the table of its name. -/
def R.ETH_MAC_CFG : Reg := ⟨0x400000, [(16, 0x10000), (4, 0x4000)], .resetN, .eth, .plain, (fun _ => 0xbe4000),
   [⟨31, 31, .rwp, none, none⟩, ⟨30, 30, .rwp, none, none⟩, ⟨29, 28, .rwp, none, none⟩,
    ⟨27, 27, .rwp, none, none⟩, ⟨26, 13, .rwp, none, none⟩]⟩
def F.ETH_MAC_CFG_RX_EN : FR := ⟨R.ETH_MAC_CFG, 31, 31⟩
def F.ETH_MAC_CFG_TX_EN : FR := ⟨R.ETH_MAC_CFG, 30, 30⟩
def F.ETH_MAC_CFG_FEC : FR := ⟨R.ETH_MAC_CFG, 29, 28⟩
def F.ETH_MAC_CFG_ALLMULTI : FR := ⟨R.ETH_MAC_CFG, 27, 27⟩
def F.ETH_MAC_CFG_MAX_LEN : FR := ⟨R.ETH_MAC_CFG, 26, 13⟩
/-- ETH_MAC_ADDR_LO: spec/05_packet_ports.md, the table of its name. -/
def R.ETH_MAC_ADDR_LO : Reg := ⟨0x400004, [(16, 0x10000), (4, 0x4000)], .resetN, .eth, .plain, (fun _ => 0x0),
   [⟨31, 0, .rwp, none, none⟩]⟩
def F.ETH_MAC_ADDR_LO_ADDR_LO : FR := ⟨R.ETH_MAC_ADDR_LO, 31, 0⟩
/-- ETH_MAC_ADDR_HI: spec/05_packet_ports.md, the table of its name. -/
def R.ETH_MAC_ADDR_HI : Reg := ⟨0x400008, [(16, 0x10000), (4, 0x4000)], .resetN, .eth, .plain, (fun _ => 0x0),
   [⟨15, 0, .rwp, none, none⟩]⟩
def F.ETH_MAC_ADDR_HI_ADDR_HI : FR := ⟨R.ETH_MAC_ADDR_HI, 15, 0⟩
/-- ETH_IP_ADDR: spec/05_packet_ports.md, the table of its name. -/
def R.ETH_IP_ADDR : Reg := ⟨0x40000c, [(16, 0x10000), (4, 0x4000)], .resetN, .eth, .plain, (fun _ => 0x0),
   [⟨31, 0, .rwp, none, none⟩]⟩
def F.ETH_IP_ADDR_ADDR : FR := ⟨R.ETH_IP_ADDR, 31, 0⟩
/-- ETH_LINK_STAT: spec/05_packet_ports.md, the table of its name. -/
def R.ETH_LINK_STAT : Reg := ⟨0x400010, [(16, 0x10000), (4, 0x4000)], .resetN, .eth, .plain, (fun _ => 0x0),
   [⟨31, 31, .ro, none, none⟩, ⟨30, 30, .ro, none, none⟩, ⟨29, 29, .ro, none, none⟩,
    ⟨28, 28, .ro, none, none⟩, ⟨27, 27, .w1c, none, none⟩]⟩
def F.ETH_LINK_STAT_LINK_UP : FR := ⟨R.ETH_LINK_STAT, 31, 31⟩
def F.ETH_LINK_STAT_FEC_LOCK : FR := ⟨R.ETH_LINK_STAT, 30, 30⟩
def F.ETH_LINK_STAT_LOCAL_FAULT : FR := ⟨R.ETH_LINK_STAT, 29, 29⟩
def F.ETH_LINK_STAT_REMOTE_FAULT : FR := ⟨R.ETH_LINK_STAT, 28, 28⟩
def F.ETH_LINK_STAT_LINK_CHANGED : FR := ⟨R.ETH_LINK_STAT, 27, 27⟩
/-- ETH_TXQ_CFG: spec/05_packet_ports.md, the table of its name. -/
def R.ETH_TXQ_CFG : Reg := ⟨0x400014, [(16, 0x10000), (4, 0x4000)], .resetN, .eth, .plain, (fun _ => 0x80fac688),
   [⟨31, 31, .rwp, none, none⟩, ⟨2, 0, .rwp, none, none⟩, ⟨5, 3, .rwp, none, none⟩,
    ⟨8, 6, .rwp, none, none⟩, ⟨11, 9, .rwp, none, none⟩, ⟨14, 12, .rwp, none, none⟩,
    ⟨17, 15, .rwp, none, none⟩, ⟨20, 18, .rwp, none, none⟩, ⟨23, 21, .rwp, none, none⟩]⟩
def F.ETH_TXQ_CFG_PFC_EN : FR := ⟨R.ETH_TXQ_CFG, 31, 31⟩
def F.ETH_TXQ_CFG_PRI_0 : FR := ⟨R.ETH_TXQ_CFG, 2, 0⟩
def F.ETH_TXQ_CFG_PRI_1 : FR := ⟨R.ETH_TXQ_CFG, 5, 3⟩
def F.ETH_TXQ_CFG_PRI_2 : FR := ⟨R.ETH_TXQ_CFG, 8, 6⟩
def F.ETH_TXQ_CFG_PRI_3 : FR := ⟨R.ETH_TXQ_CFG, 11, 9⟩
def F.ETH_TXQ_CFG_PRI_4 : FR := ⟨R.ETH_TXQ_CFG, 14, 12⟩
def F.ETH_TXQ_CFG_PRI_5 : FR := ⟨R.ETH_TXQ_CFG, 17, 15⟩
def F.ETH_TXQ_CFG_PRI_6 : FR := ⟨R.ETH_TXQ_CFG, 20, 18⟩
def F.ETH_TXQ_CFG_PRI_7 : FR := ⟨R.ETH_TXQ_CFG, 23, 21⟩
/-- ETH_TXQ_STAT: spec/05_packet_ports.md, the table of its name. -/
def R.ETH_TXQ_STAT : Reg := ⟨0x400018, [(16, 0x10000), (4, 0x4000)], .resetN, .eth, .plain, (fun _ => 0x0),
   [⟨7, 0, .ro, none, none⟩]⟩
def F.ETH_TXQ_STAT_PAUSED : FR := ⟨R.ETH_TXQ_STAT, 7, 0⟩
/-- ETH_HTX_BASE_LO: spec/05_packet_ports.md, the table of its name. -/
def R.ETH_HTX_BASE_LO : Reg := ⟨0x400020, [(16, 0x10000), (4, 0x4000)], .resetN, .eth, .plain, (fun _ => 0x0),
   [⟨31, 0, .rwp, none, none⟩]⟩
def F.ETH_HTX_BASE_LO_ADDR : FR := ⟨R.ETH_HTX_BASE_LO, 31, 0⟩
/-- ETH_HTX_BASE_HI: spec/05_packet_ports.md, the table of its name. -/
def R.ETH_HTX_BASE_HI : Reg := ⟨0x400024, [(16, 0x10000), (4, 0x4000)], .resetN, .eth, .plain, (fun _ => 0x0),
   [⟨31, 0, .rwp, none, none⟩]⟩
def F.ETH_HTX_BASE_HI_ADDR : FR := ⟨R.ETH_HTX_BASE_HI, 31, 0⟩
/-- ETH_HRX_BASE_LO: spec/05_packet_ports.md, the table of its name. -/
def R.ETH_HRX_BASE_LO : Reg := ⟨0x400028, [(16, 0x10000), (4, 0x4000)], .resetN, .eth, .plain, (fun _ => 0x0),
   [⟨31, 0, .rwp, none, none⟩]⟩
def F.ETH_HRX_BASE_LO_ADDR : FR := ⟨R.ETH_HRX_BASE_LO, 31, 0⟩
/-- ETH_HRX_BASE_HI: spec/05_packet_ports.md, the table of its name. -/
def R.ETH_HRX_BASE_HI : Reg := ⟨0x40002c, [(16, 0x10000), (4, 0x4000)], .resetN, .eth, .plain, (fun _ => 0x0),
   [⟨31, 0, .rwp, none, none⟩]⟩
def F.ETH_HRX_BASE_HI_ADDR : FR := ⟨R.ETH_HRX_BASE_HI, 31, 0⟩
/-- ETH_HRING_CFG: spec/05_packet_ports.md, the table of its name. -/
def R.ETH_HRING_CFG : Reg := ⟨0x400030, [(16, 0x10000), (4, 0x4000)], .resetN, .eth, .plain, (fun _ => 0x0),
   [⟨31, 31, .rwp, none, none⟩, ⟨30, 30, .rwp, none, none⟩, ⟨19, 16, .rwp, none, none⟩,
    ⟨3, 0, .rwp, none, none⟩]⟩
def F.ETH_HRING_CFG_TX_EN : FR := ⟨R.ETH_HRING_CFG, 31, 31⟩
def F.ETH_HRING_CFG_RX_EN : FR := ⟨R.ETH_HRING_CFG, 30, 30⟩
def F.ETH_HRING_CFG_TX_SIZE : FR := ⟨R.ETH_HRING_CFG, 19, 16⟩
def F.ETH_HRING_CFG_RX_SIZE : FR := ⟨R.ETH_HRING_CFG, 3, 0⟩
/-- ETH_HRING_TAIL: spec/05_packet_ports.md, the table of its name. -/
def R.ETH_HRING_TAIL : Reg := ⟨0x400034, [(16, 0x10000), (4, 0x4000)], .resetN, .eth, .plain, (fun _ => 0x0),
   [⟨31, 16, .rw, none, none⟩, ⟨15, 0, .rw, none, none⟩]⟩
def F.ETH_HRING_TAIL_TX_TAIL : FR := ⟨R.ETH_HRING_TAIL, 31, 16⟩
def F.ETH_HRING_TAIL_RX_TAIL : FR := ⟨R.ETH_HRING_TAIL, 15, 0⟩
/-- ETH_HRING_HEAD: spec/05_packet_ports.md, the table of its name. -/
def R.ETH_HRING_HEAD : Reg := ⟨0x400038, [(16, 0x10000), (4, 0x4000)], .resetN, .eth, .plain, (fun _ => 0x0),
   [⟨31, 16, .ro, none, none⟩, ⟨15, 0, .ro, none, none⟩]⟩
def F.ETH_HRING_HEAD_TX_HEAD : FR := ⟨R.ETH_HRING_HEAD, 31, 16⟩
def F.ETH_HRING_HEAD_RX_HEAD : FR := ⟨R.ETH_HRING_HEAD, 15, 0⟩
/-- ETH_STAT_HALF0: spec/05_packet_ports.md, the table of its name. -/
def R.ETH_STAT_HALF0 : Reg := ⟨0x400040, [(16, 0x10000), (4, 0x4000)], .resetN, .eth, .plain, (fun _ => 0x0),
   [⟨31, 0, .w1c, none, none⟩]⟩
def F.ETH_STAT_HALF0_HALF : FR := ⟨R.ETH_STAT_HALF0, 31, 0⟩
/-- ETH_STAT_HALF1: spec/05_packet_ports.md, the table of its name. -/
def R.ETH_STAT_HALF1 : Reg := ⟨0x400044, [(16, 0x10000), (4, 0x4000)], .resetN, .eth, .plain, (fun _ => 0x0),
   [⟨31, 0, .w1c, none, none⟩]⟩
def F.ETH_STAT_HALF1_HALF : FR := ⟨R.ETH_STAT_HALF1, 31, 0⟩
/-- ETH_STAT_LO: spec/05_packet_ports.md, the table of its name. -/
def R.ETH_STAT_LO : Reg := ⟨0x401000, [(16, 0x10000), (4, 0x4000), (64, 0x8)], .resetN, .eth, .plain, (fun _ => 0x0),
   [⟨31, 0, .ro, none, none⟩]⟩
def F.ETH_STAT_LO_COUNT_LO : FR := ⟨R.ETH_STAT_LO, 31, 0⟩
/-- ETH_STAT_HI: spec/05_packet_ports.md, the table of its name. -/
def R.ETH_STAT_HI : Reg := ⟨0x401004, [(16, 0x10000), (4, 0x4000), (64, 0x8)], .resetN, .eth, .plain, (fun _ => 0x0),
   [⟨31, 0, .ro, none, none⟩]⟩
def F.ETH_STAT_HI_COUNT_HI : FR := ⟨R.ETH_STAT_HI, 31, 0⟩

/-- The registers of block ETH. -/
def regsEth : List Reg :=
  [R.ETH_MAC_CFG, R.ETH_MAC_ADDR_LO, R.ETH_MAC_ADDR_HI, R.ETH_IP_ADDR, R.ETH_LINK_STAT, R.ETH_TXQ_CFG] ++
  [R.ETH_TXQ_STAT, R.ETH_HTX_BASE_LO, R.ETH_HTX_BASE_HI, R.ETH_HRX_BASE_LO, R.ETH_HRX_BASE_HI, R.ETH_HRING_CFG] ++
  [R.ETH_HRING_TAIL, R.ETH_HRING_HEAD, R.ETH_STAT_HALF0, R.ETH_STAT_HALF1, R.ETH_STAT_LO, R.ETH_STAT_HI]

/-- FLW_CFG: spec/05_packet_ports.md, the table of its name. -/
def R.FLW_CFG : Reg := ⟨0x500000, [], .resetN, .flw, .plain, (fun _ => 0x0),
   [⟨31, 31, .rwp, none, none⟩]⟩
def F.FLW_CFG_TX_ANY_STATE : FR := ⟨R.FLW_CFG, 31, 31⟩
/-- FLW_TABLE_BASE: spec/05_packet_ports.md, the table of its name. -/
def R.FLW_TABLE_BASE : Reg := ⟨0x500004, [], .por, .flw, .plain, (fun _ => 0x10000000),
   [⟨31, 0, .ro, none, none⟩]⟩
def F.FLW_TABLE_BASE_ADDR : FR := ⟨R.FLW_TABLE_BASE, 31, 0⟩
/-- FLW_LARDER: spec/05_packet_ports.md, the table of its name. -/
def R.FLW_LARDER : Reg := ⟨0x500008, [], .resetN, .flw, .plain, (fun _ => 0x0),
   [⟨14, 0, .ro, none, none⟩]⟩
def F.FLW_LARDER_USED : FR := ⟨R.FLW_LARDER, 14, 0⟩
/-- FLW_EXT: spec/05_packet_ports.md, the table of its name. -/
def R.FLW_EXT : Reg := ⟨0x50000c, [], .resetN, .flw, .plain, (fun _ => 0x0),
   [⟨31, 26, .ro, none, none⟩, ⟨11, 0, .ro, none, none⟩]⟩
def F.FLW_EXT_PAIRS : FR := ⟨R.FLW_EXT, 31, 26⟩
def F.FLW_EXT_LOAD : FR := ⟨R.FLW_EXT, 11, 0⟩
/-- FLW_STAT: spec/05_packet_ports.md, the table of its name. -/
def R.FLW_STAT : Reg := ⟨0x540000, [(16384, 0x4)], .resetN, .flw, .plain, (fun _ => 0x0),
   [⟨31, 31, .ro, none, none⟩, ⟨30, 30, .ro, none, none⟩, ⟨29, 29, .ro, none, none⟩,
    ⟨28, 28, .ro, none, none⟩]⟩
def F.FLW_STAT_VALID : FR := ⟨R.FLW_STAT, 31, 31⟩
def F.FLW_STAT_LOST : FR := ⟨R.FLW_STAT, 30, 30⟩
def F.FLW_STAT_LEG_OK : FR := ⟨R.FLW_STAT, 29, 29⟩
def F.FLW_STAT_SENDING : FR := ⟨R.FLW_STAT, 28, 28⟩
/-- FLW_CNT0: spec/05_packet_ports.md, the table of its name. -/
def R.FLW_CNT0 : Reg := ⟨0x550000, [(16384, 0x4)], .resetN, .flw, .plain, (fun _ => 0x0),
   [⟨31, 16, .ro, none, none⟩, ⟨15, 0, .ro, none, none⟩]⟩
def F.FLW_CNT0_EARLY : FR := ⟨R.FLW_CNT0, 31, 16⟩
def F.FLW_CNT0_LATE : FR := ⟨R.FLW_CNT0, 15, 0⟩
/-- FLW_CNT1: spec/05_packet_ports.md, the table of its name. -/
def R.FLW_CNT1 : Reg := ⟨0x560000, [(16384, 0x4)], .resetN, .flw, .plain, (fun _ => 0x0),
   [⟨31, 16, .ro, none, none⟩, ⟨15, 0, .ro, none, none⟩]⟩
def F.FLW_CNT1_CONCEAL : FR := ⟨R.FLW_CNT1, 31, 16⟩
def F.FLW_CNT1_DUP : FR := ⟨R.FLW_CNT1, 15, 0⟩
/-- FLW_CNT2: spec/05_packet_ports.md, the table of its name. -/
def R.FLW_CNT2 : Reg := ⟨0x570000, [(16384, 0x4)], .resetN, .flw, .plain, (fun _ => 0x0),
   [⟨31, 24, .ro, none, none⟩, ⟨23, 16, .ro, none, none⟩, ⟨15, 8, .ro, none, none⟩,
    ⟨7, 0, .ro, none, none⟩]⟩
def F.FLW_CNT2_FORMAT : FR := ⟨R.FLW_CNT2, 31, 24⟩
def F.FLW_CNT2_GRID : FR := ⟨R.FLW_CNT2, 23, 16⟩
def F.FLW_CNT2_TRUNC : FR := ⟨R.FLW_CNT2, 15, 8⟩
def F.FLW_CNT2_ANC_OVF : FR := ⟨R.FLW_CNT2, 7, 0⟩

/-- The registers of block FLW. -/
def regsFlw : List Reg :=
  [R.FLW_CFG, R.FLW_TABLE_BASE, R.FLW_LARDER, R.FLW_EXT, R.FLW_STAT, R.FLW_CNT0] ++
  [R.FLW_CNT1, R.FLW_CNT2]

end Sys2Proof.Machine
end

