-- ==== Sys2Proof/Machine/RegsMedia.lean ====
section
/-! DEFINITION. The registers of the ENG, AUD, CEL blocks, as the register tables of the manual give them: address, strides,
reset kind, reset value, fields with their access codes. -/
namespace Sys2Proof.Machine

/-- ENG_ECB: spec/07_processing_engines.md, the table of its name. -/
def R.ENG_ECB : Reg := ⟨0x800000, [(64, 0x10000), (64, 0x4)], .resetN, .eng, .plain, (fun _ => 0x0),
   [⟨31, 0, .ro, none, none⟩]⟩
def F.ENG_ECB_WORD : FR := ⟨R.ENG_ECB, 31, 0⟩
/-- ENG_STAT: spec/07_processing_engines.md, the table of its name. -/
def R.ENG_STAT : Reg := ⟨0x800100, [(64, 0x10000)], .resetN, .eng, .plain, (fun _ => 0x0),
   [⟨31, 31, .ro, none, none⟩, ⟨30, 30, .ro, none, none⟩, ⟨15, 8, .ro, none, none⟩,
    ⟨3, 3, .w1c, none, none⟩, ⟨2, 2, .w1c, none, none⟩, ⟨1, 1, .w1c, none, none⟩,
    ⟨0, 0, .wo, none, none⟩]⟩
def F.ENG_STAT_RUNNING : FR := ⟨R.ENG_STAT, 31, 31⟩
def F.ENG_STAT_A_LOST : FR := ⟨R.ENG_STAT, 30, 30⟩
def F.ENG_STAT_B_LATE : FR := ⟨R.ENG_STAT, 15, 8⟩
def F.ENG_STAT_CAD_OFF : FR := ⟨R.ENG_STAT, 3, 3⟩
def F.ENG_STAT_LUT_WR_ERR : FR := ⟨R.ENG_STAT, 2, 2⟩
def F.ENG_STAT_LAYER_MISS : FR := ⟨R.ENG_STAT, 1, 1⟩
def F.ENG_STAT_CLR : FR := ⟨R.ENG_STAT, 0, 0⟩
/-- ENG_FS_STAT: spec/07_processing_engines.md, the table of its name. -/
def R.ENG_FS_STAT : Reg := ⟨0x800104, [(64, 0x10000)], .resetN, .eng, .plain, (fun _ => 0x0),
   [⟨31, 16, .ro, none, none⟩, ⟨15, 0, .ro, none, none⟩]⟩
def F.ENG_FS_STAT_REPEATS : FR := ⟨R.ENG_FS_STAT, 31, 16⟩
def F.ENG_FS_STAT_DROPS : FR := ⟨R.ENG_FS_STAT, 15, 0⟩
/-- ENG_FS_STAT2: spec/07_processing_engines.md, the table of its name. -/
def R.ENG_FS_STAT2 : Reg := ⟨0x800108, [(64, 0x10000)], .resetN, .eng, .plain, (fun _ => 0x0),
   [⟨31, 16, .ro, none, none⟩, ⟨15, 0, .ro, none, none⟩]⟩
def F.ENG_FS_STAT2_TRUNC : FR := ⟨R.ENG_FS_STAT2, 31, 16⟩
def F.ENG_FS_STAT2_LOST_FRAMES : FR := ⟨R.ENG_FS_STAT2, 15, 0⟩
/-- ENG_CHARGE: spec/07_processing_engines.md, the table of its name. -/
def R.ENG_CHARGE : Reg := ⟨0x80010c, [(64, 0x10000)], .resetN, .eng, .plain, (fun _ => 0x0),
   [⟨15, 0, .ro, none, none⟩]⟩
def F.ENG_CHARGE_CHARGE : FR := ⟨R.ENG_CHARGE, 15, 0⟩
/-- ENG_FLIP_STAT: spec/07_processing_engines.md, the table of its name. -/
def R.ENG_FLIP_STAT : Reg := ⟨0x800110, [(64, 0x10000)], .resetN, .eng, .plain, (fun _ => 0x0),
   [⟨31, 16, .ro, none, none⟩, ⟨15, 8, .ro, none, none⟩, ⟨7, 4, .ro, none, none⟩,
    ⟨1, 1, .w1c, none, none⟩, ⟨0, 0, .wo, none, none⟩]⟩
def F.ENG_FLIP_STAT_DEFERRED : FR := ⟨R.ENG_FLIP_STAT, 31, 16⟩
def F.ENG_FLIP_STAT_TIMEOUTS : FR := ⟨R.ENG_FLIP_STAT, 15, 8⟩
def F.ENG_FLIP_STAT_PENDING : FR := ⟨R.ENG_FLIP_STAT, 7, 4⟩
def F.ENG_FLIP_STAT_REPL_LATE : FR := ⟨R.ENG_FLIP_STAT, 1, 1⟩
def F.ENG_FLIP_STAT_CLR : FR := ⟨R.ENG_FLIP_STAT, 0, 0⟩
/-- ENG_FENCE_LO: spec/07_processing_engines.md, the table of its name. -/
def R.ENG_FENCE_LO : Reg := ⟨0x800120, [(64, 0x10000), (4, 0x10)], .resetN, .eng, .plain, (fun _ => 0x0),
   [⟨31, 0, .ro, none, none⟩]⟩
def F.ENG_FENCE_LO_VALUE_LO : FR := ⟨R.ENG_FENCE_LO, 31, 0⟩
/-- ENG_FENCE_HI: spec/07_processing_engines.md, the table of its name. -/
def R.ENG_FENCE_HI : Reg := ⟨0x800124, [(64, 0x10000), (4, 0x10)], .resetN, .eng, .plain, (fun _ => 0x0),
   [⟨31, 0, .ro, none, none⟩]⟩
def F.ENG_FENCE_HI_VALUE_HI : FR := ⟨R.ENG_FENCE_HI, 31, 0⟩
/-- ENG_FENCE_SEEN_LO: spec/07_processing_engines.md, the table of its name. -/
def R.ENG_FENCE_SEEN_LO : Reg := ⟨0x800128, [(64, 0x10000), (4, 0x10)], .resetN, .eng, .plain, (fun _ => 0x0),
   [⟨31, 0, .ro, none, none⟩]⟩
def F.ENG_FENCE_SEEN_LO_SEEN_LO : FR := ⟨R.ENG_FENCE_SEEN_LO, 31, 0⟩
/-- ENG_FENCE_SEEN_HI: spec/07_processing_engines.md, the table of its name. -/
def R.ENG_FENCE_SEEN_HI : Reg := ⟨0x80012c, [(64, 0x10000), (4, 0x10)], .resetN, .eng, .plain, (fun _ => 0x0),
   [⟨31, 0, .ro, none, none⟩]⟩
def F.ENG_FENCE_SEEN_HI_SEEN_HI : FR := ⟨R.ENG_FENCE_SEEN_HI, 31, 0⟩
/-- ENG_SIG_CRC: spec/07_processing_engines.md, the table of its name. -/
def R.ENG_SIG_CRC : Reg := ⟨0x800180, [(64, 0x10000), (4, 0x10)], .resetN, .eng, .plain, (fun _ => 0x0),
   [⟨31, 0, .ro, none, none⟩]⟩
def F.ENG_SIG_CRC_CRC : FR := ⟨R.ENG_SIG_CRC, 31, 0⟩
/-- ENG_SIG_FRAME: spec/07_processing_engines.md, the table of its name. -/
def R.ENG_SIG_FRAME : Reg := ⟨0x800184, [(64, 0x10000), (4, 0x10)], .resetN, .eng, .plain, (fun _ => 0x0),
   [⟨31, 0, .ro, none, none⟩]⟩
def F.ENG_SIG_FRAME_FRAME : FR := ⟨R.ENG_SIG_FRAME, 31, 0⟩
/-- ENG_SIG_STAT: spec/07_processing_engines.md, the table of its name. -/
def R.ENG_SIG_STAT : Reg := ⟨0x800188, [(64, 0x10000), (4, 0x10)], .resetN, .eng, .plain, (fun _ => 0x0),
   [⟨31, 16, .ro, none, none⟩, ⟨15, 8, .ro, none, none⟩, ⟨1, 1, .wo, none, none⟩,
    ⟨0, 0, .ro, none, none⟩]⟩
def F.ENG_SIG_STAT_MISMATCH : FR := ⟨R.ENG_SIG_STAT, 31, 16⟩
def F.ENG_SIG_STAT_RUN : FR := ⟨R.ENG_SIG_STAT, 15, 8⟩
def F.ENG_SIG_STAT_CLR : FR := ⟨R.ENG_SIG_STAT, 1, 1⟩
def F.ENG_SIG_STAT_MATCH : FR := ⟨R.ENG_SIG_STAT, 0, 0⟩
/-- ENG_WB_STAT: spec/07_processing_engines.md, the table of its name. -/
def R.ENG_WB_STAT : Reg := ⟨0x8001c0, [(64, 0x10000)], .resetN, .eng, .plain, (fun _ => 0x0),
   [⟨31, 16, .ro, none, none⟩, ⟨15, 15, .ro, none, none⟩, ⟨6, 0, .ro, none, none⟩]⟩
def F.ENG_WB_STAT_SKIPS : FR := ⟨R.ENG_WB_STAT, 31, 16⟩
def F.ENG_WB_STAT_VALID : FR := ⟨R.ENG_WB_STAT, 15, 15⟩
def F.ENG_WB_STAT_LAST : FR := ⟨R.ENG_WB_STAT, 6, 0⟩
/-- ENG_WB_FRAME: spec/07_processing_engines.md, the table of its name. -/
def R.ENG_WB_FRAME : Reg := ⟨0x8001c4, [(64, 0x10000)], .resetN, .eng, .plain, (fun _ => 0x0),
   [⟨31, 0, .ro, none, none⟩]⟩
def F.ENG_WB_FRAME_FRAME : FR := ⟨R.ENG_WB_FRAME, 31, 0⟩
/-- ENG_LUT_POOL: spec/07_processing_engines.md, the table of its name. -/
def R.ENG_LUT_POOL : Reg := ⟨0x800200, [(64, 0x10000)], .por, .eng, .plain, (fun _ => 0x20000000),
   [⟨31, 0, .ro, none, none⟩]⟩
def F.ENG_LUT_POOL_ADDR : FR := ⟨R.ENG_LUT_POOL, 31, 0⟩

/-- The registers of block ENG. -/
def regsEng : List Reg :=
  [R.ENG_ECB, R.ENG_STAT, R.ENG_FS_STAT, R.ENG_FS_STAT2, R.ENG_CHARGE, R.ENG_FLIP_STAT] ++
  [R.ENG_FENCE_LO, R.ENG_FENCE_HI, R.ENG_FENCE_SEEN_LO, R.ENG_FENCE_SEEN_HI, R.ENG_SIG_CRC, R.ENG_SIG_FRAME] ++
  [R.ENG_SIG_STAT, R.ENG_WB_STAT, R.ENG_WB_FRAME, R.ENG_LUT_POOL]

/-- AUD_CFG: spec/08_audio_matrix.md, the table of its name. -/
def R.AUD_CFG : Reg := ⟨0x600000, [], .resetN, .aud, .plain, (fun _ => 0x0),
   [⟨0, 0, .rwp, none, none⟩]⟩
def F.AUD_CFG_RATE : FR := ⟨R.AUD_CFG, 0, 0⟩
/-- AUD_STAT: spec/08_audio_matrix.md, the table of its name. -/
def R.AUD_STAT : Reg := ⟨0x600004, [], .resetN, .aud, .plain, (fun _ => 0x0),
   [⟨31, 16, .ro, none, none⟩, ⟨2, 2, .w1c, none, none⟩, ⟨1, 1, .w1c, none, none⟩,
    ⟨0, 0, .w1c, none, none⟩]⟩
def F.AUD_STAT_CUTS : FR := ⟨R.AUD_STAT, 31, 16⟩
def F.AUD_STAT_MAP_BUSY : FR := ⟨R.AUD_STAT, 2, 2⟩
def F.AUD_STAT_MAP_ERR : FR := ⟨R.AUD_STAT, 1, 1⟩
def F.AUD_STAT_CFG_ERR : FR := ⟨R.AUD_STAT, 0, 0⟩
/-- AUD_POOL: spec/08_audio_matrix.md, the table of its name. -/
def R.AUD_POOL : Reg := ⟨0x600008, [], .resetN, .aud, .plain, (fun _ => 0x0),
   [⟨31, 31, .wo, none, none⟩, ⟨28, 16, .ro, none, none⟩, ⟨12, 0, .ro, none, none⟩]⟩
def F.AUD_POOL_CLR : FR := ⟨R.AUD_POOL, 31, 31⟩
def F.AUD_POOL_PEAK : FR := ⟨R.AUD_POOL, 28, 16⟩
def F.AUD_POOL_USED : FR := ⟨R.AUD_POOL, 12, 0⟩
/-- AUD_DCAD: spec/08_audio_matrix.md, the table of its name. -/
def R.AUD_DCAD : Reg := ⟨0x601000, [(1024, 0x4)], .resetN, .aud, .plain, (fun _ => 0x0),
   [⟨10, 8, .rwp, none, none⟩, ⟨2, 0, .rwp, none, none⟩]⟩
def F.AUD_DCAD_PART : FR := ⟨R.AUD_DCAD, 10, 8⟩
def F.AUD_DCAD_CAD : FR := ⟨R.AUD_DCAD, 2, 0⟩
/-- AUD_SVIS: spec/08_audio_matrix.md, the table of its name. -/
def R.AUD_SVIS : Reg := ⟨0x602000, [(1024, 0x4)], .resetN, .aud, .plain, (fun _ => 0x1),
   [⟨7, 0, .rwp, none, none⟩]⟩
def F.AUD_SVIS_VIS : FR := ⟨R.AUD_SVIS, 7, 0⟩
/-- AUD_TDM_CFG: spec/08_audio_matrix.md, the table of its name. -/
def R.AUD_TDM_CFG : Reg := ⟨0x603000, [(16, 0x40)], .resetN, .aud, .plain, (fun _ => 0x37e02000),
   [⟨31, 31, .rwp, none, none⟩, ⟨30, 30, .rwp, none, none⟩, ⟨29, 29, .rwp, none, none⟩,
    ⟨28, 27, .rwp, none, none⟩, ⟨26, 22, .rwp, none, none⟩, ⟨21, 19, .rwp, none, none⟩,
    ⟨18, 13, .rwp, none, none⟩, ⟨12, 12, .rwp, none, none⟩, ⟨11, 11, .rwp, none, none⟩,
    ⟨10, 10, .rwp, none, none⟩, ⟨9, 9, .rwp, none, none⟩]⟩
def F.AUD_TDM_CFG_EN : FR := ⟨R.AUD_TDM_CFG, 31, 31⟩
def F.AUD_TDM_CFG_CLK_EXT : FR := ⟨R.AUD_TDM_CFG, 30, 30⟩
def F.AUD_TDM_CFG_ACTIVE_ONLY : FR := ⟨R.AUD_TDM_CFG, 29, 29⟩
def F.AUD_TDM_CFG_WIDTH : FR := ⟨R.AUD_TDM_CFG, 28, 27⟩
def F.AUD_TDM_CFG_SLOTS : FR := ⟨R.AUD_TDM_CFG, 26, 22⟩
def F.AUD_TDM_CFG_FRAME_BITS : FR := ⟨R.AUD_TDM_CFG, 21, 19⟩
def F.AUD_TDM_CFG_OFFSET : FR := ⟨R.AUD_TDM_CFG, 18, 13⟩
def F.AUD_TDM_CFG_FS_FORM : FR := ⟨R.AUD_TDM_CFG, 12, 12⟩
def F.AUD_TDM_CFG_FS_POL : FR := ⟨R.AUD_TDM_CFG, 11, 11⟩
def F.AUD_TDM_CFG_EDGE : FR := ⟨R.AUD_TDM_CFG, 10, 10⟩
def F.AUD_TDM_CFG_DOMAIN : FR := ⟨R.AUD_TDM_CFG, 9, 9⟩
/-- AUD_TDM_MAP: spec/08_audio_matrix.md, the table of its name. -/
def R.AUD_TDM_MAP : Reg := ⟨0x603004, [(16, 0x40)], .resetN, .aud, .plain, (fun _ => 0x0),
   [⟨31, 31, .rwp, none, none⟩, ⟨30, 16, .rwp, none, none⟩, ⟨15, 15, .rwp, none, none⟩,
    ⟨14, 0, .rwp, none, none⟩]⟩
def F.AUD_TDM_MAP_IN_EN : FR := ⟨R.AUD_TDM_MAP, 31, 31⟩
def F.AUD_TDM_MAP_IN_BASE : FR := ⟨R.AUD_TDM_MAP, 30, 16⟩
def F.AUD_TDM_MAP_OUT_EN : FR := ⟨R.AUD_TDM_MAP, 15, 15⟩
def F.AUD_TDM_MAP_OUT_BASE : FR := ⟨R.AUD_TDM_MAP, 14, 0⟩
/-- AUD_TDM_STAT: spec/08_audio_matrix.md, the table of its name. -/
def R.AUD_TDM_STAT : Reg := ⟨0x603008, [(16, 0x40)], .resetN, .aud, .plain, (fun _ => 0x0),
   [⟨31, 31, .ro, none, none⟩, ⟨30, 30, .ro, none, none⟩, ⟨29, 29, .ro, none, none⟩,
    ⟨28, 28, .w1c, none, none⟩, ⟨27, 27, .w1c, none, none⟩, ⟨26, 26, .wo, none, none⟩,
    ⟨15, 0, .ro, none, none⟩]⟩
def F.AUD_TDM_STAT_RUNNING : FR := ⟨R.AUD_TDM_STAT, 31, 31⟩
def F.AUD_TDM_STAT_CLK_OK : FR := ⟨R.AUD_TDM_STAT, 30, 30⟩
def F.AUD_TDM_STAT_DRIVING : FR := ⟨R.AUD_TDM_STAT, 29, 29⟩
def F.AUD_TDM_STAT_CFG_ERR : FR := ⟨R.AUD_TDM_STAT, 28, 28⟩
def F.AUD_TDM_STAT_FS_ERR : FR := ⟨R.AUD_TDM_STAT, 27, 27⟩
def F.AUD_TDM_STAT_CLR : FR := ⟨R.AUD_TDM_STAT, 26, 26⟩
def F.AUD_TDM_STAT_SLIPS : FR := ⟨R.AUD_TDM_STAT, 15, 0⟩
/-- AUD_TDM_TS_NS: spec/08_audio_matrix.md, the table of its name. -/
def R.AUD_TDM_TS_NS : Reg := ⟨0x60300c, [(16, 0x40)], .resetN, .aud, .plain, (fun _ => 0x0),
   [⟨31, 0, .ro, none, none⟩]⟩
def F.AUD_TDM_TS_NS_NS : FR := ⟨R.AUD_TDM_TS_NS, 31, 0⟩
/-- AUD_TDM_TS_SEC_LO: spec/08_audio_matrix.md, the table of its name. -/
def R.AUD_TDM_TS_SEC_LO : Reg := ⟨0x603010, [(16, 0x40)], .resetN, .aud, .plain, (fun _ => 0x0),
   [⟨31, 0, .ro, none, none⟩]⟩
def F.AUD_TDM_TS_SEC_LO_SEC_LO : FR := ⟨R.AUD_TDM_TS_SEC_LO, 31, 0⟩
/-- AUD_TDM_TS_SEC_HI: spec/08_audio_matrix.md, the table of its name. -/
def R.AUD_TDM_TS_SEC_HI : Reg := ⟨0x603014, [(16, 0x40)], .resetN, .aud, .plain, (fun _ => 0x0),
   [⟨15, 0, .ro, none, none⟩]⟩
def F.AUD_TDM_TS_SEC_HI_SEC_HI : FR := ⟨R.AUD_TDM_TS_SEC_HI, 15, 0⟩
/-- AUD_TDM_TS_BLOCK: spec/08_audio_matrix.md, the table of its name. -/
def R.AUD_TDM_TS_BLOCK : Reg := ⟨0x603018, [(16, 0x40)], .resetN, .aud, .plain, (fun _ => 0x0),
   [⟨31, 0, .ro, none, none⟩]⟩
def F.AUD_TDM_TS_BLOCK_BLOCK : FR := ⟨R.AUD_TDM_TS_BLOCK, 31, 0⟩
/-- AUD_DEEMB: spec/08_audio_matrix.md, the table of its name. -/
def R.AUD_DEEMB : Reg := ⟨0x610000, [(10240, 0x4)], .resetN, .aud, .plain, (fun _ => 0x0),
   [⟨31, 31, .rwp, none, none⟩, ⟨30, 27, .rwp, none, none⟩, ⟨26, 12, .rwp, none, none⟩]⟩
def F.AUD_DEEMB_EN : FR := ⟨R.AUD_DEEMB, 31, 31⟩
def F.AUD_DEEMB_GROUPS : FR := ⟨R.AUD_DEEMB, 30, 27⟩
def F.AUD_DEEMB_CHAN_BASE : FR := ⟨R.AUD_DEEMB, 26, 12⟩
/-- AUD_DEEMB_STAT: spec/08_audio_matrix.md, the table of its name. -/
def R.AUD_DEEMB_STAT : Reg := ⟨0x620000, [(10240, 0x4)], .resetN, .aud, .plain, (fun _ => 0x0),
   [⟨31, 16, .ro, none, none⟩, ⟨15, 8, .ro, none, none⟩, ⟨3, 3, .wo, none, none⟩,
    ⟨2, 2, .w1c, none, none⟩, ⟨1, 1, .w1c, none, none⟩, ⟨0, 0, .ro, none, none⟩]⟩
def F.AUD_DEEMB_STAT_SLIPS : FR := ⟨R.AUD_DEEMB_STAT, 31, 16⟩
def F.AUD_DEEMB_STAT_PRESENT : FR := ⟨R.AUD_DEEMB_STAT, 15, 8⟩
def F.AUD_DEEMB_STAT_CLR : FR := ⟨R.AUD_DEEMB_STAT, 3, 3⟩
def F.AUD_DEEMB_STAT_ECC_ERR : FR := ⟨R.AUD_DEEMB_STAT, 2, 2⟩
def F.AUD_DEEMB_STAT_RATE_ERR : FR := ⟨R.AUD_DEEMB_STAT, 1, 1⟩
def F.AUD_DEEMB_STAT_RUNNING : FR := ⟨R.AUD_DEEMB_STAT, 0, 0⟩
/-- AUD_REEMB: spec/08_audio_matrix.md, the table of its name. -/
def R.AUD_REEMB : Reg := ⟨0x630000, [(9216, 0x4)], .resetN, .aud, .plain, (fun _ => 0x0),
   [⟨31, 31, .rwp, none, none⟩, ⟨30, 27, .rwp, none, none⟩, ⟨26, 12, .rwp, none, none⟩,
    ⟨11, 11, .rwp, none, none⟩]⟩
def F.AUD_REEMB_EN : FR := ⟨R.AUD_REEMB, 31, 31⟩
def F.AUD_REEMB_GROUPS : FR := ⟨R.AUD_REEMB, 30, 27⟩
def F.AUD_REEMB_CHAN_BASE : FR := ⟨R.AUD_REEMB, 26, 12⟩
def F.AUD_REEMB_MODE : FR := ⟨R.AUD_REEMB, 11, 11⟩
/-- AUD_REEMB_STAT: spec/08_audio_matrix.md, the table of its name. -/
def R.AUD_REEMB_STAT : Reg := ⟨0x640000, [(9216, 0x4)], .resetN, .aud, .plain, (fun _ => 0x0),
   [⟨31, 16, .ro, none, none⟩, ⟨0, 0, .wo, none, none⟩]⟩
def F.AUD_REEMB_STAT_SKIPPED : FR := ⟨R.AUD_REEMB_STAT, 31, 16⟩
def F.AUD_REEMB_STAT_CLR : FR := ⟨R.AUD_REEMB_STAT, 0, 0⟩
/-- AUD_LIVE: spec/08_audio_matrix.md, the table of its name. -/
def R.AUD_LIVE : Reg := ⟨0x700000, [(32768, 0x4)], .resetN, .aud, .plain, (fun _ => 0x0),
   [⟨31, 31, .ro, none, none⟩, ⟨30, 30, .ro, none, none⟩, ⟨14, 0, .ro, none, none⟩]⟩
def F.AUD_LIVE_VALID : FR := ⟨R.AUD_LIVE, 31, 31⟩
def F.AUD_LIVE_FADING : FR := ⟨R.AUD_LIVE, 30, 30⟩
def F.AUD_LIVE_SRC : FR := ⟨R.AUD_LIVE, 14, 0⟩
/-- AUD_LOFT: spec/08_audio_matrix.md, the table of its name. -/
def R.AUD_LOFT : Reg := ⟨0x720000, [(32768, 0x4)], .resetN, .aud, .plain, (fun _ => 0x0),
   [⟨31, 31, .ro, none, none⟩, ⟨30, 30, .ro, none, none⟩, ⟨14, 0, .ro, none, none⟩]⟩
def F.AUD_LOFT_VALID : FR := ⟨R.AUD_LOFT, 31, 31⟩
def F.AUD_LOFT_FADING : FR := ⟨R.AUD_LOFT, 30, 30⟩
def F.AUD_LOFT_SRC : FR := ⟨R.AUD_LOFT, 14, 0⟩

/-- The registers of block AUD. -/
def regsAud : List Reg :=
  [R.AUD_CFG, R.AUD_STAT, R.AUD_POOL, R.AUD_DCAD, R.AUD_SVIS, R.AUD_TDM_CFG] ++
  [R.AUD_TDM_MAP, R.AUD_TDM_STAT, R.AUD_TDM_TS_NS, R.AUD_TDM_TS_SEC_LO, R.AUD_TDM_TS_SEC_HI, R.AUD_TDM_TS_BLOCK] ++
  [R.AUD_DEEMB, R.AUD_DEEMB_STAT, R.AUD_REEMB, R.AUD_REEMB_STAT, R.AUD_LIVE, R.AUD_LOFT]

/-- CEL_CFG: spec/09_cellar_memory.md, the table of its name. -/
def R.CEL_CFG : Reg := ⟨0xc00000, [], .resetN, .cel, .plain, (fun _ => 0xc0000804),
   [⟨31, 31, .rwp, none, none⟩, ⟨30, 30, .rwp, none, none⟩, ⟨15, 8, .rwp, none, none⟩,
    ⟨3, 0, .rwp, none, some .por⟩]⟩
def F.CEL_CFG_SR_EN : FR := ⟨R.CEL_CFG, 31, 31⟩
def F.CEL_CFG_SCRUB_EN : FR := ⟨R.CEL_CFG, 30, 30⟩
def F.CEL_CFG_PAGE_IDLE : FR := ⟨R.CEL_CFG, 15, 8⟩
def F.CEL_CFG_GRAIN : FR := ⟨R.CEL_CFG, 3, 0⟩
/-- CEL_SR_CFG: spec/09_cellar_memory.md, the table of its name. -/
def R.CEL_SR_CFG : Reg := ⟨0xc00004, [], .resetN, .cel, .plain, (fun _ => 0x64),
   [⟨15, 0, .rwp, none, none⟩]⟩
def F.CEL_SR_CFG_SR_IDLE : FR := ⟨R.CEL_SR_CFG, 15, 0⟩
/-- CEL_BUDGET: spec/09_cellar_memory.md, the table of its name. -/
def R.CEL_BUDGET : Reg := ⟨0xc00008, [], .resetN, .cel, .plain, (fun _ => 0x4b),
   [⟨6, 0, .rwp, none, none⟩]⟩
def F.CEL_BUDGET_PCT : FR := ⟨R.CEL_BUDGET, 6, 0⟩
/-- CEL_LOAD: spec/09_cellar_memory.md, the table of its name. -/
def R.CEL_LOAD : Reg := ⟨0xc0000c, [], .resetN, .cel, .plain, (fun _ => 0x0),
   [⟨19, 0, .ro, none, none⟩]⟩
def F.CEL_LOAD_LOAD : FR := ⟨R.CEL_LOAD, 19, 0⟩
/-- CEL_STAT: spec/09_cellar_memory.md, the table of its name. -/
def R.CEL_STAT : Reg := ⟨0xc00010, [], .resetN, .cel, .plain, (fun _ => 0x0),
   [⟨31, 30, .ro, none, none⟩, ⟨29, 29, .ro, none, none⟩, ⟨4, 4, .w1c, none, none⟩,
    ⟨3, 3, .ro, none, none⟩, ⟨2, 2, .w1c, none, none⟩, ⟨1, 1, .w1c, none, none⟩,
    ⟨0, 0, .ro, none, none⟩]⟩
def F.CEL_STAT_STATE : FR := ⟨R.CEL_STAT, 31, 30⟩
def F.CEL_STAT_TEMP_HIGH : FR := ⟨R.CEL_STAT, 29, 29⟩
def F.CEL_STAT_BDP_UE : FR := ⟨R.CEL_STAT, 4, 4⟩
def F.CEL_STAT_OVER : FR := ⟨R.CEL_STAT, 3, 3⟩
def F.CEL_STAT_TRAIN_REFUSED : FR := ⟨R.CEL_STAT, 2, 2⟩
def F.CEL_STAT_CFG_ERR : FR := ⟨R.CEL_STAT, 1, 1⟩
def F.CEL_STAT_TRAIN_FAIL : FR := ⟨R.CEL_STAT, 0, 0⟩
/-- CEL_TRAIN: spec/09_cellar_memory.md, the table of its name. -/
def R.CEL_TRAIN : Reg := ⟨0xc00014, [], .resetN, .cel, .plain, (fun _ => 0x0),
   [⟨31, 16, .ro, none, none⟩, ⟨0, 0, .wo, none, none⟩]⟩
def F.CEL_TRAIN_CH_OK : FR := ⟨R.CEL_TRAIN, 31, 16⟩
def F.CEL_TRAIN_START : FR := ⟨R.CEL_TRAIN, 0, 0⟩
/-- CEL_SR_STAT: spec/09_cellar_memory.md, the table of its name. -/
def R.CEL_SR_STAT : Reg := ⟨0xc00018, [], .resetN, .cel, .plain, (fun _ => 0x0),
   [⟨31, 16, .ro, none, none⟩, ⟨15, 0, .ro, none, none⟩]⟩
def F.CEL_SR_STAT_ENTRIES : FR := ⟨R.CEL_SR_STAT, 31, 16⟩
def F.CEL_SR_STAT_LAST_EXIT : FR := ⟨R.CEL_SR_STAT, 15, 0⟩
/-- CEL_ECC_CE: spec/09_cellar_memory.md, the table of its name. -/
def R.CEL_ECC_CE : Reg := ⟨0xc00020, [], .resetN, .cel, .plain, (fun _ => 0x0),
   [⟨31, 0, .ro, none, none⟩]⟩
def F.CEL_ECC_CE_COUNT : FR := ⟨R.CEL_ECC_CE, 31, 0⟩
/-- CEL_ECC_UE: spec/09_cellar_memory.md, the table of its name. -/
def R.CEL_ECC_UE : Reg := ⟨0xc00024, [], .resetN, .cel, .plain, (fun _ => 0x0),
   [⟨31, 0, .ro, none, none⟩]⟩
def F.CEL_ECC_UE_COUNT : FR := ⟨R.CEL_ECC_UE, 31, 0⟩
/-- CEL_ECC_CTRL: spec/09_cellar_memory.md, the table of its name. -/
def R.CEL_ECC_CTRL : Reg := ⟨0xc00028, [], .resetN, .cel, .plain, (fun _ => 0x0),
   [⟨2, 2, .wo, none, none⟩, ⟨1, 0, .rwp, none, none⟩]⟩
def F.CEL_ECC_CTRL_CLR : FR := ⟨R.CEL_ECC_CTRL, 2, 2⟩
def F.CEL_ECC_CTRL_INJ : FR := ⟨R.CEL_ECC_CTRL, 1, 0⟩
/-- CEL_CE_ADDR_LO: spec/09_cellar_memory.md, the table of its name. -/
def R.CEL_CE_ADDR_LO : Reg := ⟨0xc00030, [], .resetN, .cel, .plain, (fun _ => 0x0),
   [⟨31, 5, .ro, none, none⟩]⟩
def F.CEL_CE_ADDR_LO_ADDR : FR := ⟨R.CEL_CE_ADDR_LO, 31, 5⟩
/-- CEL_CE_ADDR_HI: spec/09_cellar_memory.md, the table of its name. -/
def R.CEL_CE_ADDR_HI : Reg := ⟨0xc00034, [], .resetN, .cel, .plain, (fun _ => 0x0),
   [⟨31, 31, .w1c, none, none⟩, ⟨30, 28, .ro, none, none⟩, ⟨1, 0, .ro, none, none⟩]⟩
def F.CEL_CE_ADDR_HI_VALID : FR := ⟨R.CEL_CE_ADDR_HI, 31, 31⟩
def F.CEL_CE_ADDR_HI_CLASS : FR := ⟨R.CEL_CE_ADDR_HI, 30, 28⟩
def F.CEL_CE_ADDR_HI_ADDR_HI : FR := ⟨R.CEL_CE_ADDR_HI, 1, 0⟩
/-- CEL_UE_ADDR_LO: spec/09_cellar_memory.md, the table of its name. -/
def R.CEL_UE_ADDR_LO : Reg := ⟨0xc00038, [], .resetN, .cel, .plain, (fun _ => 0x0),
   [⟨31, 5, .ro, none, none⟩]⟩
def F.CEL_UE_ADDR_LO_ADDR : FR := ⟨R.CEL_UE_ADDR_LO, 31, 5⟩
/-- CEL_UE_ADDR_HI: spec/09_cellar_memory.md, the table of its name. -/
def R.CEL_UE_ADDR_HI : Reg := ⟨0xc0003c, [], .resetN, .cel, .plain, (fun _ => 0x0),
   [⟨31, 31, .w1c, none, none⟩, ⟨30, 28, .ro, none, none⟩, ⟨1, 0, .ro, none, none⟩]⟩
def F.CEL_UE_ADDR_HI_VALID : FR := ⟨R.CEL_UE_ADDR_HI, 31, 31⟩
def F.CEL_UE_ADDR_HI_CLASS : FR := ⟨R.CEL_UE_ADDR_HI, 30, 28⟩
def F.CEL_UE_ADDR_HI_ADDR_HI : FR := ⟨R.CEL_UE_ADDR_HI, 1, 0⟩
/-- CEL_SCRUB: spec/09_cellar_memory.md, the table of its name. -/
def R.CEL_SCRUB : Reg := ⟨0xc00040, [], .resetN, .cel, .plain, (fun _ => 0x18),
   [⟨31, 31, .w1c, none, none⟩, ⟨30, 16, .ro, none, none⟩, ⟨15, 0, .rwp, none, none⟩]⟩
def F.CEL_SCRUB_LATE : FR := ⟨R.CEL_SCRUB, 31, 31⟩
def F.CEL_SCRUB_PASSES : FR := ⟨R.CEL_SCRUB, 30, 16⟩
def F.CEL_SCRUB_PERIOD : FR := ⟨R.CEL_SCRUB, 15, 0⟩

/-- The registers of block CEL. -/
def regsCel : List Reg :=
  [R.CEL_CFG, R.CEL_SR_CFG, R.CEL_BUDGET, R.CEL_LOAD, R.CEL_STAT, R.CEL_TRAIN] ++
  [R.CEL_SR_STAT, R.CEL_ECC_CE, R.CEL_ECC_UE, R.CEL_ECC_CTRL, R.CEL_CE_ADDR_LO, R.CEL_CE_ADDR_HI] ++
  [R.CEL_UE_ADDR_LO, R.CEL_UE_ADDR_HI, R.CEL_SCRUB]

end Sys2Proof.Machine
end

