-- ==== Sys2Proof/Machine/RegsPlane.lean ====
section
/-! DEFINITION. The registers of the RED, FLT, PMU blocks, as the register tables of the manual give them: address, strides,
reset kind, reset value, fields with their access codes. -/
namespace Sys2Proof.Machine

/-- RED_STATE: spec/12_plane_redundancy.md, the table of its name. -/
def R.RED_STATE : Reg := ⟨0x1400000, [], .resetN, .red, .plain, (fun _ => 0x0),
   [⟨31, 30, .ro, none, none⟩, ⟨29, 29, .ro, none, none⟩, ⟨28, 28, .ro, none, none⟩,
    ⟨27, 27, .ro, none, none⟩, ⟨26, 26, .ro, none, none⟩, ⟨25, 25, .ro, none, none⟩]⟩
def F.RED_STATE_STATE : FR := ⟨R.RED_STATE, 31, 30⟩
def F.RED_STATE_HOLDER : FR := ⟨R.RED_STATE, 29, 29⟩
def F.RED_STATE_HEARS_FC : FR := ⟨R.RED_STATE, 28, 28⟩
def F.RED_STATE_RECOVERY : FR := ⟨R.RED_STATE, 27, 27⟩
def F.RED_STATE_PARTNER_UP : FR := ⟨R.RED_STATE, 26, 26⟩
def F.RED_STATE_KEY_OK : FR := ⟨R.RED_STATE, 25, 25⟩
/-- RED_CTRL: spec/12_plane_redundancy.md, the table of its name. -/
def R.RED_CTRL : Reg := ⟨0x1400004, [], .resetN, .red, .plain, (fun _ => 0x0),
   [⟨3, 3, .wo, none, none⟩, ⟨2, 2, .wo, none, none⟩, ⟨1, 1, .wo, none, none⟩,
    ⟨0, 0, .wo, none, none⟩]⟩
def F.RED_CTRL_RELINQUISH : FR := ⟨R.RED_CTRL, 3, 3⟩
def F.RED_CTRL_RESYNC : FR := ⟨R.RED_CTRL, 2, 2⟩
def F.RED_CTRL_ISOLATE : FR := ⟨R.RED_CTRL, 1, 1⟩
def F.RED_CTRL_JOIN : FR := ⟨R.RED_CTRL, 0, 0⟩
/-- RED_LEASE_CFG: spec/12_plane_redundancy.md, the table of its name. -/
def R.RED_LEASE_CFG : Reg := ⟨0x1400008, [], .resetN, .red, .plain, (fun _ => 0xc),
   [⟨31, 31, .rwp, none, none⟩, ⟨9, 0, .rwp, none, none⟩]⟩
def F.RED_LEASE_CFG_EN : FR := ⟨R.RED_LEASE_CFG, 31, 31⟩
def F.RED_LEASE_CFG_HELLO_MS : FR := ⟨R.RED_LEASE_CFG, 9, 0⟩
/-- RED_EPOCH: spec/12_plane_redundancy.md, the table of its name. -/
def R.RED_EPOCH : Reg := ⟨0x140000c, [], .resetN, .red, .plain, (fun _ => 0x0),
   [⟨31, 0, .ro, none, none⟩]⟩
def F.RED_EPOCH_EPOCH : FR := ⟨R.RED_EPOCH, 31, 0⟩
/-- RED_SEEN: spec/12_plane_redundancy.md, the table of its name. -/
def R.RED_SEEN : Reg := ⟨0x1400010, [], .resetN, .red, .plain, (fun _ => 0x0),
   [⟨31, 0, .ro, none, none⟩]⟩
def F.RED_SEEN_SEEN : FR := ⟨R.RED_SEEN, 31, 0⟩
/-- RED_SEEN_SRC: spec/12_plane_redundancy.md, the table of its name. -/
def R.RED_SEEN_SRC : Reg := ⟨0x1400014, [], .resetN, .red, .plain, (fun _ => 0x0),
   [⟨1, 0, .ro, none, none⟩]⟩
def F.RED_SEEN_SRC_SRC : FR := ⟨R.RED_SEEN_SRC, 1, 0⟩
/-- RED_LEASE_LEFT: spec/12_plane_redundancy.md, the table of its name. -/
def R.RED_LEASE_LEFT : Reg := ⟨0x1400018, [], .resetN, .red, .plain, (fun _ => 0x0),
   [⟨31, 0, .ro, none, none⟩]⟩
def F.RED_LEASE_LEFT_LEFT : FR := ⟨R.RED_LEASE_LEFT, 31, 0⟩
/-- RED_LEASE_TERM: spec/12_plane_redundancy.md, the table of its name. -/
def R.RED_LEASE_TERM : Reg := ⟨0x140001c, [], .resetN, .red, .plain, (fun _ => 0x0),
   [⟨8, 0, .ro, none, none⟩]⟩
def F.RED_LEASE_TERM_TERM : FR := ⟨R.RED_LEASE_TERM, 8, 0⟩
/-- RED_LEASE_CNT: spec/12_plane_redundancy.md, the table of its name. -/
def R.RED_LEASE_CNT : Reg := ⟨0x1400020, [], .resetN, .red, .plain, (fun _ => 0x0),
   [⟨31, 24, .ro, none, none⟩, ⟨23, 16, .ro, none, none⟩, ⟨15, 8, .ro, none, none⟩,
    ⟨7, 0, .ro, none, none⟩]⟩
def F.RED_LEASE_CNT_BAD_MSG : FR := ⟨R.RED_LEASE_CNT, 31, 24⟩
def F.RED_LEASE_CNT_WRONG_PLANE : FR := ⟨R.RED_LEASE_CNT, 23, 16⟩
def F.RED_LEASE_CNT_STALE : FR := ⟨R.RED_LEASE_CNT, 15, 8⟩
def F.RED_LEASE_CNT_REFUSED : FR := ⟨R.RED_LEASE_CNT, 7, 0⟩
/-- RED_PARTNER_STAT: spec/12_plane_redundancy.md, the table of its name. -/
def R.RED_PARTNER_STAT : Reg := ⟨0x1400030, [], .resetN, .red, .plain, (fun _ => 0x0),
   [⟨31, 24, .ro, none, none⟩, ⟨23, 22, .ro, none, none⟩, ⟨21, 21, .ro, none, none⟩,
    ⟨20, 20, .ro, none, none⟩, ⟨19, 0, .ro, none, none⟩]⟩
def F.RED_PARTNER_STAT_LANES : FR := ⟨R.RED_PARTNER_STAT, 31, 24⟩
def F.RED_PARTNER_STAT_TWIN_STATE : FR := ⟨R.RED_PARTNER_STAT, 23, 22⟩
def F.RED_PARTNER_STAT_TWIN_PLANE : FR := ⟨R.RED_PARTNER_STAT, 21, 21⟩
def F.RED_PARTNER_STAT_UP : FR := ⟨R.RED_PARTNER_STAT, 20, 20⟩
def F.RED_PARTNER_STAT_RTT : FR := ⟨R.RED_PARTNER_STAT, 19, 0⟩
/-- RED_TWIN_EPOCH: spec/12_plane_redundancy.md, the table of its name. -/
def R.RED_TWIN_EPOCH : Reg := ⟨0x1400034, [], .resetN, .red, .plain, (fun _ => 0x0),
   [⟨31, 0, .ro, none, none⟩]⟩
def F.RED_TWIN_EPOCH_EPOCH : FR := ⟨R.RED_TWIN_EPOCH, 31, 0⟩
/-- RED_PARTNER_CFG: spec/12_plane_redundancy.md, the table of its name. -/
def R.RED_PARTNER_CFG : Reg := ⟨0x1400038, [], .resetN, .red, .plain, (fun _ => 0x6),
   [⟨3, 0, .rwp, none, none⟩]⟩
def F.RED_PARTNER_CFG_MIN_LANES : FR := ⟨R.RED_PARTNER_CFG, 3, 0⟩
/-- RED_REPL_TX_LO: spec/12_plane_redundancy.md, the table of its name. -/
def R.RED_REPL_TX_LO : Reg := ⟨0x1400040, [], .resetN, .red, .plain, (fun _ => 0x0),
   [⟨31, 0, .ro, none, none⟩]⟩
def F.RED_REPL_TX_LO_TX : FR := ⟨R.RED_REPL_TX_LO, 31, 0⟩
/-- RED_REPL_TX_HI: spec/12_plane_redundancy.md, the table of its name. -/
def R.RED_REPL_TX_HI : Reg := ⟨0x1400044, [], .resetN, .red, .plain, (fun _ => 0x0),
   [⟨31, 0, .ro, none, none⟩]⟩
def F.RED_REPL_TX_HI_TX : FR := ⟨R.RED_REPL_TX_HI, 31, 0⟩
/-- RED_REPL_ACK_LO: spec/12_plane_redundancy.md, the table of its name. -/
def R.RED_REPL_ACK_LO : Reg := ⟨0x1400048, [], .resetN, .red, .plain, (fun _ => 0x0),
   [⟨31, 0, .ro, none, none⟩]⟩
def F.RED_REPL_ACK_LO_ACK : FR := ⟨R.RED_REPL_ACK_LO, 31, 0⟩
/-- RED_REPL_ACK_HI: spec/12_plane_redundancy.md, the table of its name. -/
def R.RED_REPL_ACK_HI : Reg := ⟨0x140004c, [], .resetN, .red, .plain, (fun _ => 0x0),
   [⟨31, 0, .ro, none, none⟩]⟩
def F.RED_REPL_ACK_HI_ACK : FR := ⟨R.RED_REPL_ACK_HI, 31, 0⟩
/-- RED_REPL_RX_LO: spec/12_plane_redundancy.md, the table of its name. -/
def R.RED_REPL_RX_LO : Reg := ⟨0x1400050, [], .resetN, .red, .plain, (fun _ => 0x0),
   [⟨31, 0, .ro, none, none⟩]⟩
def F.RED_REPL_RX_LO_RX : FR := ⟨R.RED_REPL_RX_LO, 31, 0⟩
/-- RED_REPL_RX_HI: spec/12_plane_redundancy.md, the table of its name. -/
def R.RED_REPL_RX_HI : Reg := ⟨0x1400054, [], .resetN, .red, .plain, (fun _ => 0x0),
   [⟨31, 0, .ro, none, none⟩]⟩
def F.RED_REPL_RX_HI_RX : FR := ⟨R.RED_REPL_RX_HI, 31, 0⟩
/-- RED_REPL_STAT: spec/12_plane_redundancy.md, the table of its name. -/
def R.RED_REPL_STAT : Reg := ⟨0x1400058, [], .resetN, .red, .plain, (fun _ => 0x0),
   [⟨31, 16, .ro, none, none⟩, ⟨2, 2, .wo, none, none⟩, ⟨1, 1, .w1c, none, none⟩,
    ⟨0, 0, .w1c, none, none⟩]⟩
def F.RED_REPL_STAT_DROPPED : FR := ⟨R.RED_REPL_STAT, 31, 16⟩
def F.RED_REPL_STAT_CLR : FR := ⟨R.RED_REPL_STAT, 2, 2⟩
def F.RED_REPL_STAT_GAP : FR := ⟨R.RED_REPL_STAT, 1, 1⟩
def F.RED_REPL_STAT_UNACKED : FR := ⟨R.RED_REPL_STAT, 0, 0⟩
/-- RED_REPL_TAG_LO: spec/12_plane_redundancy.md, the table of its name. -/
def R.RED_REPL_TAG_LO : Reg := ⟨0x1400080, [(8, 0x8)], .resetN, .red, .plain, (fun _ => 0x0),
   [⟨31, 0, .ro, none, none⟩]⟩
def F.RED_REPL_TAG_LO_TAG_LO : FR := ⟨R.RED_REPL_TAG_LO, 31, 0⟩
/-- RED_REPL_TAG_HI: spec/12_plane_redundancy.md, the table of its name. -/
def R.RED_REPL_TAG_HI : Reg := ⟨0x1400084, [(8, 0x8)], .resetN, .red, .plain, (fun _ => 0x0),
   [⟨31, 0, .ro, none, none⟩]⟩
def F.RED_REPL_TAG_HI_TAG_HI : FR := ⟨R.RED_REPL_TAG_HI, 31, 0⟩
/-- RED_SYNC_STAT: spec/12_plane_redundancy.md, the table of its name. -/
def R.RED_SYNC_STAT : Reg := ⟨0x14000c0, [], .resetN, .red, .plain, (fun _ => 0x0),
   [⟨31, 30, .ro, none, none⟩, ⟨29, 20, .ro, none, none⟩, ⟨19, 16, .ro, none, none⟩,
    ⟨15, 0, .ro, none, none⟩]⟩
def F.RED_SYNC_STAT_PHASE : FR := ⟨R.RED_SYNC_STAT, 31, 30⟩
def F.RED_SYNC_STAT_PROGRESS : FR := ⟨R.RED_SYNC_STAT, 29, 20⟩
def F.RED_SYNC_STAT_ATTEMPTS : FR := ⟨R.RED_SYNC_STAT, 19, 16⟩
def F.RED_SYNC_STAT_ERRORED : FR := ⟨R.RED_SYNC_STAT, 15, 0⟩
/-- RED_SIG_CFG: spec/12_plane_redundancy.md, the table of its name. -/
def R.RED_SIG_CFG : Reg := ⟨0x14000d0, [], .resetN, .red, .plain, (fun _ => 0x80000004),
   [⟨31, 31, .rwp, none, none⟩, ⟨7, 0, .rwp, none, none⟩]⟩
def F.RED_SIG_CFG_EN : FR := ⟨R.RED_SIG_CFG, 31, 31⟩
def F.RED_SIG_CFG_PERSIST : FR := ⟨R.RED_SIG_CFG, 7, 0⟩
/-- RED_SIG_STAT: spec/12_plane_redundancy.md, the table of its name. -/
def R.RED_SIG_STAT : Reg := ⟨0x14000d4, [], .resetN, .red, .plain, (fun _ => 0x0),
   [⟨31, 18, .ro, none, none⟩, ⟨17, 17, .w1c, none, none⟩, ⟨16, 6, .ro, none, none⟩,
    ⟨5, 3, .ro, none, none⟩]⟩
def F.RED_SIG_STAT_MISMATCHING : FR := ⟨R.RED_SIG_STAT, 31, 18⟩
def F.RED_SIG_STAT_FIRST_VALID : FR := ⟨R.RED_SIG_STAT, 17, 17⟩
def F.RED_SIG_STAT_FIRST_SLOT : FR := ⟨R.RED_SIG_STAT, 16, 6⟩
def F.RED_SIG_STAT_FIRST_BASE : FR := ⟨R.RED_SIG_STAT, 5, 3⟩
/-- RED_SIG_CNT: spec/12_plane_redundancy.md, the table of its name. -/
def R.RED_SIG_CNT : Reg := ⟨0x14000d8, [], .resetN, .red, .plain, (fun _ => 0x0),
   [⟨31, 16, .ro, none, none⟩, ⟨15, 0, .ro, none, none⟩]⟩
def F.RED_SIG_CNT_RUNS : FR := ⟨R.RED_SIG_CNT, 31, 16⟩
def F.RED_SIG_CNT_MISSING : FR := ⟨R.RED_SIG_CNT, 15, 0⟩
/-- RED_CHECK_STAT: spec/12_plane_redundancy.md, the table of its name. -/
def R.RED_CHECK_STAT : Reg := ⟨0x14000e0, [], .resetN, .red, .plain, (fun _ => 0x0),
   [⟨31, 16, .ro, none, none⟩, ⟨15, 0, .ro, none, none⟩]⟩
def F.RED_CHECK_STAT_SEL_ERR : FR := ⟨R.RED_CHECK_STAT, 31, 16⟩
def F.RED_CHECK_STAT_LUT_ERR : FR := ⟨R.RED_CHECK_STAT, 15, 0⟩
/-- RED_FRAME_ADJ: spec/12_plane_redundancy.md, the table of its name. -/
def R.RED_FRAME_ADJ : Reg := ⟨0x14000e4, [], .resetN, .red, .plain, (fun _ => 0x0),
   [⟨31, 16, .ro, none, none⟩, ⟨15, 0, .ro, none, none⟩]⟩
def F.RED_FRAME_ADJ_UNALIGNED : FR := ⟨R.RED_FRAME_ADJ, 31, 16⟩
def F.RED_FRAME_ADJ_ADJ : FR := ⟨R.RED_FRAME_ADJ, 15, 0⟩
/-- RED_HEALTH: spec/12_plane_redundancy.md, the table of its name. -/
def R.RED_HEALTH : Reg := ⟨0x1400100, [(16, 0x4)], .resetN, .red, .plain, (fun _ => 0x0),
   [⟨31, 0, .ro, none, none⟩]⟩
def F.RED_HEALTH_WORD : FR := ⟨R.RED_HEALTH, 31, 0⟩

/-- The registers of block RED. -/
def regsRed : List Reg :=
  [R.RED_STATE, R.RED_CTRL, R.RED_LEASE_CFG, R.RED_EPOCH, R.RED_SEEN, R.RED_SEEN_SRC] ++
  [R.RED_LEASE_LEFT, R.RED_LEASE_TERM, R.RED_LEASE_CNT, R.RED_PARTNER_STAT, R.RED_TWIN_EPOCH, R.RED_PARTNER_CFG] ++
  [R.RED_REPL_TX_LO, R.RED_REPL_TX_HI, R.RED_REPL_ACK_LO, R.RED_REPL_ACK_HI, R.RED_REPL_RX_LO, R.RED_REPL_RX_HI] ++
  [R.RED_REPL_STAT, R.RED_REPL_TAG_LO, R.RED_REPL_TAG_HI, R.RED_SYNC_STAT, R.RED_SIG_CFG, R.RED_SIG_STAT] ++
  [R.RED_SIG_CNT, R.RED_CHECK_STAT, R.RED_FRAME_ADJ, R.RED_HEALTH]

/-- FLT_TOP_LO: spec/13_fault_handling.md, the table of its name. -/
def R.FLT_TOP_LO : Reg := ⟨0x1500000, [], .resetN, .flt, .plain, (fun _ => 0x0),
   [⟨17, 0, .ro, none, none⟩]⟩
def F.FLT_TOP_LO_BLOCKS : FR := ⟨R.FLT_TOP_LO, 17, 0⟩
/-- FLT_TOP_HI: spec/13_fault_handling.md, the table of its name. -/
def R.FLT_TOP_HI : Reg := ⟨0x1500004, [], .resetN, .flt, .plain, (fun _ => 0x0),
   []⟩
/-- FLT_CFG: spec/13_fault_handling.md, the table of its name. -/
def R.FLT_CFG : Reg := ⟨0x1500008, [], .resetN, .flt, .plain, (fun _ => 0x8000000a),
   [⟨31, 30, .rwp, none, none⟩, ⟨9, 0, .rwp, none, none⟩]⟩
def F.FLT_CFG_FAULT_N_CLASS : FR := ⟨R.FLT_CFG, 31, 30⟩
def F.FLT_CFG_MASK_WIN : FR := ⟨R.FLT_CFG, 9, 0⟩
/-- FLT_STAT: spec/13_fault_handling.md, the table of its name. -/
def R.FLT_STAT : Reg := ⟨0x150000c, [], .resetN, .flt, .plain, (fun _ => 0x0),
   [⟨31, 31, .ro, none, none⟩, ⟨29, 16, .ro, none, none⟩, ⟨2, 2, .w1c, none, none⟩,
    ⟨1, 1, .w1c, none, none⟩, ⟨0, 0, .w1c, none, none⟩]⟩
def F.FLT_STAT_FATAL_HELD : FR := ⟨R.FLT_STAT, 31, 31⟩
def F.FLT_STAT_FORCED : FR := ⟨R.FLT_STAT, 29, 16⟩
def F.FLT_STAT_SAFE_ERR : FR := ⟨R.FLT_STAT, 2, 2⟩
def F.FLT_STAT_CFG_ERR : FR := ⟨R.FLT_STAT, 1, 1⟩
def F.FLT_STAT_SAFE_FALLBACK : FR := ⟨R.FLT_STAT, 0, 0⟩
/-- FLT_FIRST: spec/13_fault_handling.md, the table of its name. -/
def R.FLT_FIRST : Reg := ⟨0x1500010, [], .resetN, .flt, .plain, (fun _ => 0x0),
   [⟨31, 31, .w1c, none, none⟩, ⟨30, 29, .ro, none, none⟩, ⟨28, 28, .ro, none, none⟩,
    ⟨27, 27, .ro, none, none⟩, ⟨24, 16, .ro, none, none⟩, ⟨15, 0, .ro, none, none⟩]⟩
def F.FLT_FIRST_VALID : FR := ⟨R.FLT_FIRST, 31, 31⟩
def F.FLT_FIRST_CLASS : FR := ⟨R.FLT_FIRST, 30, 29⟩
def F.FLT_FIRST_ESCALATED : FR := ⟨R.FLT_FIRST, 28, 28⟩
def F.FLT_FIRST_INJECTED : FR := ⟨R.FLT_FIRST, 27, 27⟩
def F.FLT_FIRST_INDEX : FR := ⟨R.FLT_FIRST, 24, 16⟩
def F.FLT_FIRST_INSTANCE : FR := ⟨R.FLT_FIRST, 15, 0⟩
/-- FLT_FIRST_NS: spec/13_fault_handling.md, the table of its name. -/
def R.FLT_FIRST_NS : Reg := ⟨0x1500014, [], .resetN, .flt, .plain, (fun _ => 0x0),
   [⟨31, 0, .ro, none, none⟩]⟩
def F.FLT_FIRST_NS_NS : FR := ⟨R.FLT_FIRST_NS, 31, 0⟩
/-- FLT_FIRST_SEC: spec/13_fault_handling.md, the table of its name. -/
def R.FLT_FIRST_SEC : Reg := ⟨0x1500018, [], .resetN, .flt, .plain, (fun _ => 0x0),
   [⟨31, 0, .ro, none, none⟩]⟩
def F.FLT_FIRST_SEC_SEC : FR := ⟨R.FLT_FIRST_SEC, 31, 0⟩
/-- FLT_DEP: spec/13_fault_handling.md, the table of its name. -/
def R.FLT_DEP : Reg := ⟨0x1500100, [(18, 0x4)], .resetN, .flt, .plain, (fun i => Sys2Proof.Machine.depReset i.head!),
   [⟨17, 0, .rwp, none, none⟩]⟩
def F.FLT_DEP_DEP : FR := ⟨R.FLT_DEP, 17, 0⟩
/-- FLT_LATCH: spec/13_fault_handling.md, the table of its name. -/
def R.FLT_LATCH : Reg := ⟨0x1500200, [(11, 0x4)], .resetN, .flt, .plain, (fun _ => 0x0),
   [⟨31, 0, .w1c, none, none⟩]⟩
def F.FLT_LATCH_LATCH : FR := ⟨R.FLT_LATCH, 31, 0⟩
/-- FLT_COND: spec/13_fault_handling.md, the table of its name. -/
def R.FLT_COND : Reg := ⟨0x1500280, [(11, 0x4)], .resetN, .flt, .plain, (fun _ => 0x0),
   [⟨31, 0, .ro, none, none⟩]⟩
def F.FLT_COND_COND : FR := ⟨R.FLT_COND, 31, 0⟩
/-- FLT_SRC_CFG: spec/13_fault_handling.md, the table of its name. -/
def R.FLT_SRC_CFG : Reg := ⟨0x1501000, [(333, 0x4)], .resetN, .flt, .plain, (fun i => Sys2Proof.Machine.classReset i.head! * 0x20000000),
   [⟨31, 31, .wo, none, none⟩, ⟨30, 29, .rwp, none, none⟩, ⟨28, 28, .rwp, none, none⟩]⟩
def F.FLT_SRC_CFG_FORCE : FR := ⟨R.FLT_SRC_CFG, 31, 31⟩
def F.FLT_SRC_CFG_CLASS : FR := ⟨R.FLT_SRC_CFG, 30, 29⟩
def F.FLT_SRC_CFG_RESET_BLK : FR := ⟨R.FLT_SRC_CFG, 28, 28⟩
/-- FLT_SRC_STAT: spec/13_fault_handling.md, the table of its name. -/
def R.FLT_SRC_STAT : Reg := ⟨0x1501800, [(333, 0x4)], .resetN, .flt, .plain, (fun _ => 0x0),
   [⟨31, 31, .ro, none, none⟩, ⟨30, 29, .ro, none, none⟩, ⟨28, 28, .ro, none, none⟩,
    ⟨27, 27, .ro, none, none⟩, ⟨26, 26, .ro, none, none⟩, ⟨15, 0, .ro, none, none⟩]⟩
def F.FLT_SRC_STAT_LATCHED : FR := ⟨R.FLT_SRC_STAT, 31, 31⟩
def F.FLT_SRC_STAT_CLASS : FR := ⟨R.FLT_SRC_STAT, 30, 29⟩
def F.FLT_SRC_STAT_ESCALATED : FR := ⟨R.FLT_SRC_STAT, 28, 28⟩
def F.FLT_SRC_STAT_COND : FR := ⟨R.FLT_SRC_STAT, 27, 27⟩
def F.FLT_SRC_STAT_INJECTED : FR := ⟨R.FLT_SRC_STAT, 26, 26⟩
def F.FLT_SRC_STAT_INSTANCE : FR := ⟨R.FLT_SRC_STAT, 15, 0⟩
/-- FLT_SRC_CNT: spec/13_fault_handling.md, the table of its name. -/
def R.FLT_SRC_CNT : Reg := ⟨0x1502000, [(333, 0x4)], .resetN, .flt, .plain, (fun _ => 0x0),
   [⟨31, 16, .ro, none, none⟩, ⟨15, 0, .ro, none, none⟩]⟩
def F.FLT_SRC_CNT_REPEATS : FR := ⟨R.FLT_SRC_CNT, 31, 16⟩
def F.FLT_SRC_CNT_MASKED : FR := ⟨R.FLT_SRC_CNT, 15, 0⟩
/-- FLT_SAFE: spec/13_fault_handling.md, the table of its name. -/
def R.FLT_SAFE : Reg := ⟨0x1510000, [(10240, 0x4)], .resetN, .flt, .plain, (fun _ => 0x0),
   [⟨31, 30, .rwp, none, none⟩, ⟨26, 16, .rwp, none, none⟩, ⟨15, 13, .rwp, none, none⟩]⟩
def F.FLT_SAFE_KIND : FR := ⟨R.FLT_SAFE, 31, 30⟩
def F.FLT_SAFE_SRC_SLOT : FR := ⟨R.FLT_SAFE, 26, 16⟩
def F.FLT_SAFE_SRC_BASE : FR := ⟨R.FLT_SAFE, 15, 13⟩

/-- The registers of block FLT. -/
def regsFlt : List Reg :=
  [R.FLT_TOP_LO, R.FLT_TOP_HI, R.FLT_CFG, R.FLT_STAT, R.FLT_FIRST, R.FLT_FIRST_NS] ++
  [R.FLT_FIRST_SEC, R.FLT_DEP, R.FLT_LATCH, R.FLT_COND, R.FLT_SRC_CFG, R.FLT_SRC_STAT] ++
  [R.FLT_SRC_CNT, R.FLT_SAFE]

/-- PMU_CNT_LO: spec/14_counters_and_monitors.md, the table of its name. -/
def R.PMU_CNT_LO : Reg := ⟨0x1600000, [(586, 0x8)], .resetN, .pmu, .plain, (fun _ => 0x0),
   [⟨31, 0, .ro, none, none⟩]⟩
def F.PMU_CNT_LO_COUNT_LO : FR := ⟨R.PMU_CNT_LO, 31, 0⟩
/-- PMU_CNT_HI: spec/14_counters_and_monitors.md, the table of its name. -/
def R.PMU_CNT_HI : Reg := ⟨0x1600004, [(586, 0x8)], .resetN, .pmu, .plain, (fun _ => 0x0),
   [⟨15, 0, .ro, none, none⟩]⟩
def F.PMU_CNT_HI_COUNT_HI : FR := ⟨R.PMU_CNT_HI, 15, 0⟩
/-- PMU_CNT_CFG: spec/14_counters_and_monitors.md, the table of its name. -/
def R.PMU_CNT_CFG : Reg := ⟨0x1602000, [(586, 0x4)], .resetN, .pmu, .plain, (fun i => if [102, 103, 181, 194, 310, 358, 406].contains (i.headD 0) then 1 else 0),
   [⟨0, 0, .rwp, none, none⟩]⟩
def F.PMU_CNT_CFG_MODE : FR := ⟨R.PMU_CNT_CFG, 0, 0⟩
/-- PMU_WRAP: spec/14_counters_and_monitors.md, the table of its name. -/
def R.PMU_WRAP : Reg := ⟨0x1603000, [(19, 0x4)], .resetN, .pmu, .plain, (fun _ => 0x0),
   [⟨31, 0, .w1c, none, none⟩]⟩
def F.PMU_WRAP_WRAP : FR := ⟨R.PMU_WRAP, 31, 0⟩
/-- PMU_SNAP_CTRL: spec/14_counters_and_monitors.md, the table of its name. -/
def R.PMU_SNAP_CTRL : Reg := ⟨0x1603100, [], .resetN, .pmu, .plain, (fun _ => 0x0),
   [⟨31, 31, .wo, none, none⟩, ⟨30, 30, .ro, none, none⟩, ⟨15, 0, .ro, none, none⟩]⟩
def F.PMU_SNAP_CTRL_TAKE : FR := ⟨R.PMU_SNAP_CTRL, 31, 31⟩
def F.PMU_SNAP_CTRL_BUSY : FR := ⟨R.PMU_SNAP_CTRL, 30, 30⟩
def F.PMU_SNAP_CTRL_SEQ : FR := ⟨R.PMU_SNAP_CTRL, 15, 0⟩
/-- PMU_SNAP_LO: spec/14_counters_and_monitors.md, the table of its name. -/
def R.PMU_SNAP_LO : Reg := ⟨0x1604000, [(586, 0x8)], .resetN, .pmu, .plain, (fun _ => 0x0),
   [⟨31, 0, .ro, none, none⟩]⟩
def F.PMU_SNAP_LO_COPY_LO : FR := ⟨R.PMU_SNAP_LO, 31, 0⟩
/-- PMU_SNAP_HI: spec/14_counters_and_monitors.md, the table of its name. -/
def R.PMU_SNAP_HI : Reg := ⟨0x1604004, [(586, 0x8)], .resetN, .pmu, .plain, (fun _ => 0x0),
   [⟨15, 0, .ro, none, none⟩]⟩
def F.PMU_SNAP_HI_COPY_HI : FR := ⟨R.PMU_SNAP_HI, 15, 0⟩
/-- PMU_TD_LO: spec/14_counters_and_monitors.md, the table of its name. -/
def R.PMU_TD_LO : Reg := ⟨0x1606000, [(65, 0x20), (4, 0x8)], .resetN, .pmu, .plain, (fun _ => 0x0),
   [⟨31, 0, .ro, none, none⟩]⟩
def F.PMU_TD_LO_SLOTS_LO : FR := ⟨R.PMU_TD_LO, 31, 0⟩
/-- PMU_TD_HI: spec/14_counters_and_monitors.md, the table of its name. -/
def R.PMU_TD_HI : Reg := ⟨0x1606004, [(65, 0x20), (4, 0x8)], .resetN, .pmu, .plain, (fun _ => 0x0),
   [⟨15, 0, .ro, none, none⟩]⟩
def F.PMU_TD_HI_SLOTS_HI : FR := ⟨R.PMU_TD_HI, 15, 0⟩
/-- PMU_SAMP_CFG: spec/14_counters_and_monitors.md, the table of its name. -/
def R.PMU_SAMP_CFG : Reg := ⟨0x1607000, [], .block, .pmu, .plain, (fun _ => 0x3fd00000),
   [⟨31, 31, .rw, none, none⟩, ⟨30, 30, .rw, none, none⟩, ⟨29, 22, .rw, none, none⟩,
    ⟨21, 11, .rw, none, none⟩]⟩
def F.PMU_SAMP_CFG_PERIOD_EN : FR := ⟨R.PMU_SAMP_CFG, 31, 31⟩
def F.PMU_SAMP_CFG_LAT_EN : FR := ⟨R.PMU_SAMP_CFG, 30, 30⟩
def F.PMU_SAMP_CFG_PART_MASK : FR := ⟨R.PMU_SAMP_CFG, 29, 22⟩
def F.PMU_SAMP_CFG_NOTIFY : FR := ⟨R.PMU_SAMP_CFG, 21, 11⟩
/-- PMU_SAMP_THRESH: spec/14_counters_and_monitors.md, the table of its name. -/
def R.PMU_SAMP_THRESH : Reg := ⟨0x1607004, [], .block, .pmu, .plain, (fun _ => 0x3e82710),
   [⟨31, 16, .rw, none, none⟩, ⟨15, 0, .rw, none, none⟩]⟩
def F.PMU_SAMP_THRESH_PERIOD : FR := ⟨R.PMU_SAMP_THRESH, 31, 16⟩
def F.PMU_SAMP_THRESH_THRESH : FR := ⟨R.PMU_SAMP_THRESH, 15, 0⟩
/-- PMU_SAMP_PTR: spec/14_counters_and_monitors.md, the table of its name. -/
def R.PMU_SAMP_PTR : Reg := ⟨0x1607008, [], .block, .pmu, .plain, (fun _ => 0x0),
   [⟨26, 16, .ro, none, none⟩, ⟨10, 0, .rw, none, none⟩]⟩
def F.PMU_SAMP_PTR_WRITE : FR := ⟨R.PMU_SAMP_PTR, 26, 16⟩
def F.PMU_SAMP_PTR_READ : FR := ⟨R.PMU_SAMP_PTR, 10, 0⟩
/-- PMU_SAMP_STAT: spec/14_counters_and_monitors.md, the table of its name. -/
def R.PMU_SAMP_STAT : Reg := ⟨0x160700c, [], .block, .pmu, .plain, (fun _ => 0x0),
   [⟨31, 31, .w1c, none, none⟩, ⟨30, 30, .wo, none, none⟩, ⟨15, 0, .ro, none, none⟩]⟩
def F.PMU_SAMP_STAT_OVF : FR := ⟨R.PMU_SAMP_STAT, 31, 31⟩
def F.PMU_SAMP_STAT_CLR : FR := ⟨R.PMU_SAMP_STAT, 30, 30⟩
def F.PMU_SAMP_STAT_DROPS : FR := ⟨R.PMU_SAMP_STAT, 15, 0⟩
/-- PMU_SAMP: spec/14_counters_and_monitors.md, the table of its name. -/
def R.PMU_SAMP : Reg := ⟨0x1608000, [(1024, 0x20), (8, 0x4)], .block, .pmu, .plain, (fun _ => 0x0),
   [⟨31, 0, .ro, none, none⟩]⟩
def F.PMU_SAMP_WORD : FR := ⟨R.PMU_SAMP, 31, 0⟩
/-- PMU_HIST_CFG: spec/14_counters_and_monitors.md, the table of its name. -/
def R.PMU_HIST_CFG : Reg := ⟨0x1610000, [(32, 0x200)], .block, .pmu, .plain, (fun _ => 0x0),
   [⟨31, 31, .rw, none, none⟩, ⟨30, 30, .rw, none, none⟩, ⟨29, 29, .wo, none, none⟩,
    ⟨28, 26, .rw, none, none⟩, ⟨25, 12, .rw, none, none⟩, ⟨11, 7, .rw, none, none⟩]⟩
def F.PMU_HIST_CFG_EN : FR := ⟨R.PMU_HIST_CFG, 31, 31⟩
def F.PMU_HIST_CFG_FREEZE : FR := ⟨R.PMU_HIST_CFG, 30, 30⟩
def F.PMU_HIST_CFG_CLEAR : FR := ⟨R.PMU_HIST_CFG, 29, 29⟩
def F.PMU_HIST_CFG_SEL : FR := ⟨R.PMU_HIST_CFG, 28, 26⟩
def F.PMU_HIST_CFG_INDEX : FR := ⟨R.PMU_HIST_CFG, 25, 12⟩
def F.PMU_HIST_CFG_WIDTH : FR := ⟨R.PMU_HIST_CFG, 11, 7⟩
/-- PMU_HIST_LOW: spec/14_counters_and_monitors.md, the table of its name. -/
def R.PMU_HIST_LOW : Reg := ⟨0x1610004, [(32, 0x200)], .block, .pmu, .plain, (fun _ => 0x0),
   [⟨31, 0, .rw, none, none⟩]⟩
def F.PMU_HIST_LOW_LOW : FR := ⟨R.PMU_HIST_LOW, 31, 0⟩
/-- PMU_HIST_MIN: spec/14_counters_and_monitors.md, the table of its name. -/
def R.PMU_HIST_MIN : Reg := ⟨0x1610008, [(32, 0x200)], .block, .pmu, .plain, (fun _ => 0x7fffffff),
   [⟨31, 0, .ro, none, none⟩]⟩
def F.PMU_HIST_MIN_MIN : FR := ⟨R.PMU_HIST_MIN, 31, 0⟩
/-- PMU_HIST_MAX: spec/14_counters_and_monitors.md, the table of its name. -/
def R.PMU_HIST_MAX : Reg := ⟨0x161000c, [(32, 0x200)], .block, .pmu, .plain, (fun _ => 0x80000000),
   [⟨31, 0, .ro, none, none⟩]⟩
def F.PMU_HIST_MAX_MAX : FR := ⟨R.PMU_HIST_MAX, 31, 0⟩
/-- PMU_HIST_SAMPLES: spec/14_counters_and_monitors.md, the table of its name. -/
def R.PMU_HIST_SAMPLES : Reg := ⟨0x1610010, [(32, 0x200)], .block, .pmu, .plain, (fun _ => 0x0),
   [⟨31, 0, .ro, none, none⟩]⟩
def F.PMU_HIST_SAMPLES_SAMPLES : FR := ⟨R.PMU_HIST_SAMPLES, 31, 0⟩
/-- PMU_HIST_STAT: spec/14_counters_and_monitors.md, the table of its name. -/
def R.PMU_HIST_STAT : Reg := ⟨0x1610014, [(32, 0x200)], .block, .pmu, .plain, (fun _ => 0x0),
   [⟨31, 31, .ro, none, none⟩, ⟨30, 30, .w1c, none, none⟩, ⟨29, 29, .w1c, none, none⟩,
    ⟨28, 16, .ro, none, none⟩, ⟨15, 0, .rw, none, none⟩]⟩
def F.PMU_HIST_STAT_DONE : FR := ⟨R.PMU_HIST_STAT, 31, 31⟩
def F.PMU_HIST_STAT_OVF : FR := ⟨R.PMU_HIST_STAT, 30, 30⟩
def F.PMU_HIST_STAT_CFG_ERR : FR := ⟨R.PMU_HIST_STAT, 29, 29⟩
def F.PMU_HIST_STAT_MISSED : FR := ⟨R.PMU_HIST_STAT, 28, 16⟩
def F.PMU_HIST_STAT_WINDOW : FR := ⟨R.PMU_HIST_STAT, 15, 0⟩
/-- PMU_HIST_BIN: spec/14_counters_and_monitors.md, the table of its name. -/
def R.PMU_HIST_BIN : Reg := ⟨0x1610100, [(32, 0x200), (64, 0x4)], .block, .pmu, .plain, (fun _ => 0x0),
   [⟨31, 0, .ro, none, none⟩]⟩
def F.PMU_HIST_BIN_COUNT : FR := ⟨R.PMU_HIST_BIN, 31, 0⟩

/-- The registers of block PMU. -/
def regsPmu : List Reg :=
  [R.PMU_CNT_LO, R.PMU_CNT_HI, R.PMU_CNT_CFG, R.PMU_WRAP, R.PMU_SNAP_CTRL, R.PMU_SNAP_LO] ++
  [R.PMU_SNAP_HI, R.PMU_TD_LO, R.PMU_TD_HI, R.PMU_SAMP_CFG, R.PMU_SAMP_THRESH, R.PMU_SAMP_PTR] ++
  [R.PMU_SAMP_STAT, R.PMU_SAMP, R.PMU_HIST_CFG, R.PMU_HIST_LOW, R.PMU_HIST_MIN, R.PMU_HIST_MAX] ++
  [R.PMU_HIST_SAMPLES, R.PMU_HIST_STAT, R.PMU_HIST_BIN]

end Sys2Proof.Machine
end

