-- ==== Sys2Proof/Machine/RegsTime.lean ====
section
/-! DEFINITION. The registers of the REF, PTP blocks, as the register tables of the manual give them: address, strides,
reset kind, reset value, fields with their access codes. -/
namespace Sys2Proof.Machine

/-- REF_DPLL_CFG: spec/06_time_and_house_reference.md, the table of its name. -/
def R.REF_DPLL_CFG : Reg := ⟨0x300000, [], .resetN, .ref, .plain, (fun _ => 0x8051e000),
   [⟨31, 31, .rwp, none, none⟩, ⟨30, 30, .rwp, none, none⟩, ⟨29, 26, .rwp, none, none⟩,
    ⟨25, 19, .rwp, none, none⟩, ⟨18, 12, .rwp, none, none⟩]⟩
def F.REF_DPLL_CFG_REVERT : FR := ⟨R.REF_DPLL_CFG, 31, 31⟩
def F.REF_DPLL_CFG_FORCE : FR := ⟨R.REF_DPLL_CFG, 30, 30⟩
def F.REF_DPLL_CFG_FORCE_REF : FR := ⟨R.REF_DPLL_CFG, 29, 26⟩
def F.REF_DPLL_CFG_SLOPE : FR := ⟨R.REF_DPLL_CFG, 25, 19⟩
def F.REF_DPLL_CFG_FREQ_RANGE : FR := ⟨R.REF_DPLL_CFG, 18, 12⟩
/-- REF_DPLL_STAT: spec/06_time_and_house_reference.md, the table of its name. -/
def R.REF_DPLL_STAT : Reg := ⟨0x300004, [], .resetN, .ref, .plain, (fun _ => 0x580000),
   [⟨31, 30, .ro, none, none⟩, ⟨29, 26, .ro, none, none⟩, ⟨25, 25, .ro, none, none⟩,
    ⟨24, 24, .ro, none, none⟩, ⟨23, 23, .ro, none, none⟩, ⟨22, 19, .ro, none, none⟩,
    ⟨18, 18, .w1c, none, none⟩, ⟨17, 17, .w1c, none, none⟩]⟩
def F.REF_DPLL_STAT_STATE : FR := ⟨R.REF_DPLL_STAT, 31, 30⟩
def F.REF_DPLL_STAT_SELECTED : FR := ⟨R.REF_DPLL_STAT, 29, 26⟩
def F.REF_DPLL_STAT_FROZEN : FR := ⟨R.REF_DPLL_STAT, 25, 25⟩
def F.REF_DPLL_STAT_PHASE_ALIGNED : FR := ⟨R.REF_DPLL_STAT, 24, 24⟩
def F.REF_DPLL_STAT_HO_VALID : FR := ⟨R.REF_DPLL_STAT, 23, 23⟩
def F.REF_DPLL_STAT_QL_SENT : FR := ⟨R.REF_DPLL_STAT, 22, 19⟩
def F.REF_DPLL_STAT_SWITCHED : FR := ⟨R.REF_DPLL_STAT, 18, 18⟩
def F.REF_DPLL_STAT_CFG_ERR : FR := ⟨R.REF_DPLL_STAT, 17, 17⟩
/-- REF_DPLL_PHASE: spec/06_time_and_house_reference.md, the table of its name. -/
def R.REF_DPLL_PHASE : Reg := ⟨0x300008, [], .resetN, .ref, .plain, (fun _ => 0x0),
   [⟨31, 0, .ro, none, none⟩]⟩
def F.REF_DPLL_PHASE_P : FR := ⟨R.REF_DPLL_PHASE, 31, 0⟩
/-- REF_DPLL_FREQ: spec/06_time_and_house_reference.md, the table of its name. -/
def R.REF_DPLL_FREQ : Reg := ⟨0x30000c, [], .resetN, .ref, .plain, (fun _ => 0x0),
   [⟨31, 0, .ro, none, none⟩]⟩
def F.REF_DPLL_FREQ_FREQ : FR := ⟨R.REF_DPLL_FREQ, 31, 0⟩
/-- REF_BW: spec/06_time_and_house_reference.md, the table of its name. -/
def R.REF_BW : Reg := ⟨0x300020, [(5, 0x4)], .resetN, .ref, .plain, (fun i => match i with | [0] => 5 | [1] => 100 | [2] => 100 | [3] => 1000 | [4] => 1000 | _ => 0),
   [⟨13, 0, .rwp, none, none⟩]⟩
def F.REF_BW_BW : FR := ⟨R.REF_BW, 13, 0⟩
/-- REF_IN_CFG: spec/06_time_and_house_reference.md, the table of its name. -/
def R.REF_IN_CFG : Reg := ⟨0x300100, [(15, 0x10)], .resetN, .ref, .plain, (fun _ => 0x40140780),
   [⟨31, 31, .rwp, none, none⟩, ⟨30, 27, .rwp, none, none⟩, ⟨26, 17, .rwp, none, none⟩,
    ⟨16, 5, .rwp, none, none⟩]⟩
def F.REF_IN_CFG_ENABLE : FR := ⟨R.REF_IN_CFG, 31, 31⟩
def F.REF_IN_CFG_PRIORITY : FR := ⟨R.REF_IN_CFG, 30, 27⟩
def F.REF_IN_CFG_HOLDOFF : FR := ⟨R.REF_IN_CFG, 26, 17⟩
def F.REF_IN_CFG_WTR : FR := ⟨R.REF_IN_CFG, 16, 5⟩
/-- REF_IN_SRC: spec/06_time_and_house_reference.md, the table of its name. -/
def R.REF_IN_SRC : Reg := ⟨0x300104, [(15, 0x10)], .resetN, .ref, .plain, (fun _ => 0x1800000),
   [⟨31, 30, .rwp, none, none⟩, ⟨29, 27, .rwp, none, none⟩, ⟨26, 26, .rwp, none, none⟩,
    ⟨25, 22, .rwp, none, none⟩, ⟨21, 12, .rwp, none, none⟩, ⟨11, 11, .rwp, none, none⟩,
    ⟨10, 8, .rwp, none, none⟩]⟩
def F.REF_IN_SRC_TYPE : FR := ⟨R.REF_IN_SRC, 31, 30⟩
def F.REF_IN_SRC_CAD : FR := ⟨R.REF_IN_SRC, 29, 27⟩
def F.REF_IN_SRC_POL : FR := ⟨R.REF_IN_SRC, 26, 26⟩
def F.REF_IN_SRC_QL_FIXED : FR := ⟨R.REF_IN_SRC, 25, 22⟩
def F.REF_IN_SRC_LANE : FR := ⟨R.REF_IN_SRC, 21, 12⟩
def F.REF_IN_SRC_SLOT : FR := ⟨R.REF_IN_SRC, 11, 11⟩
def F.REF_IN_SRC_BASE : FR := ⟨R.REF_IN_SRC, 10, 8⟩
/-- REF_IN_OFFSET: spec/06_time_and_house_reference.md, the table of its name. -/
def R.REF_IN_OFFSET : Reg := ⟨0x300108, [(15, 0x10)], .resetN, .ref, .plain, (fun _ => 0x0),
   [⟨31, 0, .rwp, none, none⟩]⟩
def F.REF_IN_OFFSET_OFFSET : FR := ⟨R.REF_IN_OFFSET, 31, 0⟩
/-- REF_IN_STAT: spec/06_time_and_house_reference.md, the table of its name. -/
def R.REF_IN_STAT : Reg := ⟨0x30010c, [(15, 0x10)], .resetN, .ref, .plain, (fun _ => 0xf000000),
   [⟨31, 31, .ro, none, none⟩, ⟨30, 30, .ro, none, none⟩, ⟨29, 29, .ro, none, none⟩,
    ⟨28, 28, .ro, none, none⟩, ⟨27, 24, .ro, none, none⟩, ⟨23, 23, .w1c, none, none⟩]⟩
def F.REF_IN_STAT_VALID : FR := ⟨R.REF_IN_STAT, 31, 31⟩
def F.REF_IN_STAT_SELECTABLE : FR := ⟨R.REF_IN_STAT, 30, 30⟩
def F.REF_IN_STAT_HOLDOFF_RUN : FR := ⟨R.REF_IN_STAT, 29, 29⟩
def F.REF_IN_STAT_WTR_RUN : FR := ⟨R.REF_IN_STAT, 28, 28⟩
def F.REF_IN_STAT_QL : FR := ⟨R.REF_IN_STAT, 27, 24⟩
def F.REF_IN_STAT_FAILED : FR := ⟨R.REF_IN_STAT, 23, 23⟩
/-- REF_CAD_LAG: spec/06_time_and_house_reference.md, the table of its name. -/
def R.REF_CAD_LAG : Reg := ⟨0x300400, [(8, 0x4)], .resetN, .ref, .plain, (fun _ => 0x0),
   [⟨31, 0, .rwp, none, none⟩]⟩
def F.REF_CAD_LAG_LAG : FR := ⟨R.REF_CAD_LAG, 31, 0⟩
/-- REF_SYNC_OUT: spec/06_time_and_house_reference.md, the table of its name. -/
def R.REF_SYNC_OUT : Reg := ⟨0x300500, [(4, 0x8)], .resetN, .ref, .plain, (fun _ => 0x64),
   [⟨31, 31, .rwp, none, none⟩, ⟨30, 29, .rwp, none, none⟩, ⟨28, 26, .rwp, none, none⟩,
    ⟨25, 25, .rwp, none, none⟩, ⟨15, 0, .rwp, none, none⟩]⟩
def F.REF_SYNC_OUT_ENABLE : FR := ⟨R.REF_SYNC_OUT, 31, 31⟩
def F.REF_SYNC_OUT_TYPE : FR := ⟨R.REF_SYNC_OUT, 30, 29⟩
def F.REF_SYNC_OUT_CAD : FR := ⟨R.REF_SYNC_OUT, 28, 26⟩
def F.REF_SYNC_OUT_POL : FR := ⟨R.REF_SYNC_OUT, 25, 25⟩
def F.REF_SYNC_OUT_WIDTH : FR := ⟨R.REF_SYNC_OUT, 15, 0⟩
/-- REF_SYNC_OUT_OFS: spec/06_time_and_house_reference.md, the table of its name. -/
def R.REF_SYNC_OUT_OFS : Reg := ⟨0x300504, [(4, 0x8)], .resetN, .ref, .plain, (fun _ => 0x0),
   [⟨31, 0, .rwp, none, none⟩]⟩
def F.REF_SYNC_OUT_OFS_OFFSET : FR := ⟨R.REF_SYNC_OUT_OFS, 31, 0⟩
/-- REF_PPS_OUT: spec/06_time_and_house_reference.md, the table of its name. -/
def R.REF_PPS_OUT : Reg := ⟨0x300520, [], .resetN, .ref, .plain, (fun _ => 0x2710),
   [⟨31, 31, .rwp, none, none⟩, ⟨15, 0, .rwp, none, none⟩]⟩
def F.REF_PPS_OUT_ENABLE : FR := ⟨R.REF_PPS_OUT, 31, 31⟩
def F.REF_PPS_OUT_WIDTH : FR := ⟨R.REF_PPS_OUT, 15, 0⟩
/-- REF_HO_CFG: spec/06_time_and_house_reference.md, the table of its name. -/
def R.REF_HO_CFG : Reg := ⟨0x300600, [], .resetN, .ref, .plain, (fun _ => 0x960003c),
   [⟨31, 31, .rwp, none, none⟩, ⟨30, 19, .rwp, none, none⟩, ⟨15, 0, .rwp, none, none⟩]⟩
def F.REF_HO_CFG_COEF_VALID : FR := ⟨R.REF_HO_CFG, 31, 31⟩
def F.REF_HO_CFG_AVG_S : FR := ⟨R.REF_HO_CFG, 30, 19⟩
def F.REF_HO_CFG_HIST_INT : FR := ⟨R.REF_HO_CFG, 15, 0⟩
/-- REF_HO_T0: spec/06_time_and_house_reference.md, the table of its name. -/
def R.REF_HO_T0 : Reg := ⟨0x300604, [], .resetN, .ref, .plain, (fun _ => 0x0),
   [⟨15, 0, .rwp, none, none⟩]⟩
def F.REF_HO_T0_T0 : FR := ⟨R.REF_HO_T0, 15, 0⟩
/-- REF_HO_A1: spec/06_time_and_house_reference.md, the table of its name. -/
def R.REF_HO_A1 : Reg := ⟨0x300608, [], .resetN, .ref, .plain, (fun _ => 0x0),
   [⟨31, 0, .rwp, none, none⟩]⟩
def F.REF_HO_A1_A1 : FR := ⟨R.REF_HO_A1, 31, 0⟩
/-- REF_HO_A2: spec/06_time_and_house_reference.md, the table of its name. -/
def R.REF_HO_A2 : Reg := ⟨0x30060c, [], .resetN, .ref, .plain, (fun _ => 0x0),
   [⟨31, 0, .rwp, none, none⟩]⟩
def F.REF_HO_A2_A2 : FR := ⟨R.REF_HO_A2, 31, 0⟩
/-- REF_HO_B: spec/06_time_and_house_reference.md, the table of its name. -/
def R.REF_HO_B : Reg := ⟨0x300610, [], .resetN, .ref, .plain, (fun _ => 0x0),
   [⟨31, 0, .rwp, none, none⟩]⟩
def F.REF_HO_B_B : FR := ⟨R.REF_HO_B, 31, 0⟩
/-- REF_HO_STAT: spec/06_time_and_house_reference.md, the table of its name. -/
def R.REF_HO_STAT : Reg := ⟨0x300614, [], .resetN, .ref, .plain, (fun _ => 0x0),
   [⟨21, 16, .ro, none, none⟩, ⟨6, 0, .ro, none, none⟩]⟩
def F.REF_HO_STAT_NEXT : FR := ⟨R.REF_HO_STAT, 21, 16⟩
def F.REF_HO_STAT_COUNT : FR := ⟨R.REF_HO_STAT, 6, 0⟩
/-- REF_HO_FAVG: spec/06_time_and_house_reference.md, the table of its name. -/
def R.REF_HO_FAVG : Reg := ⟨0x300618, [], .resetN, .ref, .plain, (fun _ => 0x0),
   [⟨31, 0, .ro, none, none⟩]⟩
def F.REF_HO_FAVG_F_AVG : FR := ⟨R.REF_HO_FAVG, 31, 0⟩
/-- REF_HO_TAVG: spec/06_time_and_house_reference.md, the table of its name. -/
def R.REF_HO_TAVG : Reg := ⟨0x30061c, [], .resetN, .ref, .plain, (fun _ => 0x0),
   [⟨15, 0, .ro, none, none⟩]⟩
def F.REF_HO_TAVG_T_AVG : FR := ⟨R.REF_HO_TAVG, 15, 0⟩
/-- REF_HIST_FREQ: spec/06_time_and_house_reference.md, the table of its name. -/
def R.REF_HIST_FREQ : Reg := ⟨0x300800, [(64, 0x8)], .resetN, .ref, .plain, (fun _ => 0x0),
   [⟨31, 0, .ro, none, none⟩]⟩
def F.REF_HIST_FREQ_FREQ : FR := ⟨R.REF_HIST_FREQ, 31, 0⟩
/-- REF_HIST_TEMP: spec/06_time_and_house_reference.md, the table of its name. -/
def R.REF_HIST_TEMP : Reg := ⟨0x300804, [(64, 0x8)], .resetN, .ref, .plain, (fun _ => 0x0),
   [⟨31, 31, .ro, none, none⟩, ⟨15, 0, .ro, none, none⟩]⟩
def F.REF_HIST_TEMP_LOCKED_ALL : FR := ⟨R.REF_HIST_TEMP, 31, 31⟩
def F.REF_HIST_TEMP_TEMP : FR := ⟨R.REF_HIST_TEMP, 15, 0⟩
/-- REF_CAL_SET: spec/06_time_and_house_reference.md, the table of its name. -/
def R.REF_CAL_SET : Reg := ⟨0x300a00, [], .resetN, .ref, .plain, (fun _ => 0x7d00101),
   [⟨27, 16, .rwp, none, none⟩, ⟨11, 8, .rwp, none, none⟩, ⟨4, 0, .rwp, none, none⟩]⟩
def F.REF_CAL_SET_YEAR : FR := ⟨R.REF_CAL_SET, 27, 16⟩
def F.REF_CAL_SET_MONTH : FR := ⟨R.REF_CAL_SET, 11, 8⟩
def F.REF_CAL_SET_DAY : FR := ⟨R.REF_CAL_SET, 4, 0⟩
/-- REF_CAL_DATE: spec/06_time_and_house_reference.md, the table of its name. -/
def R.REF_CAL_DATE : Reg := ⟨0x300a04, [], .resetN, .ref, .plain, (fun _ => 0x7d00101),
   [⟨27, 16, .ro, none, none⟩, ⟨11, 8, .ro, none, none⟩, ⟨4, 0, .ro, none, none⟩]⟩
def F.REF_CAL_DATE_YEAR : FR := ⟨R.REF_CAL_DATE, 27, 16⟩
def F.REF_CAL_DATE_MONTH : FR := ⟨R.REF_CAL_DATE, 11, 8⟩
def F.REF_CAL_DATE_DAY : FR := ⟨R.REF_CAL_DATE, 4, 0⟩
/-- REF_CAL_STAT: spec/06_time_and_house_reference.md, the table of its name. -/
def R.REF_CAL_STAT : Reg := ⟨0x300a08, [], .resetN, .ref, .plain, (fun _ => 0x0),
   [⟨1, 1, .ro, none, none⟩, ⟨0, 0, .w1c, none, none⟩]⟩
def F.REF_CAL_STAT_CAL_RANGE : FR := ⟨R.REF_CAL_STAT, 1, 1⟩
def F.REF_CAL_STAT_DATE_ERR : FR := ⟨R.REF_CAL_STAT, 0, 0⟩
/-- REF_LEAP: spec/06_time_and_house_reference.md, the table of its name. -/
def R.REF_LEAP : Reg := ⟨0x300a0c, [], .resetN, .ref, .plain, (fun _ => 0x0),
   [⟨17, 16, .rwp, none, none⟩, ⟨15, 0, .rwp, none, none⟩]⟩
def F.REF_LEAP_PENDING : FR := ⟨R.REF_LEAP, 17, 16⟩
def F.REF_LEAP_UTC_OFFSET : FR := ⟨R.REF_LEAP, 15, 0⟩
/-- REF_TC_CFG: spec/06_time_and_house_reference.md, the table of its name. -/
def R.REF_TC_CFG : Reg := ⟨0x300a10, [], .resetN, .ref, .plain, (fun _ => 0x10014000),
   [⟨31, 31, .rwp, none, none⟩, ⟨30, 29, .rwp, none, none⟩, ⟨28, 28, .rwp, none, none⟩,
    ⟨27, 27, .rwp, none, none⟩, ⟨26, 26, .rwp, none, none⟩, ⟨25, 13, .rwp, none, none⟩,
    ⟨12, 6, .rwp, none, none⟩]⟩
def F.REF_TC_CFG_DOMAIN : FR := ⟨R.REF_TC_CFG, 31, 31⟩
def F.REF_TC_CFG_TYPE : FR := ⟨R.REF_TC_CFG, 30, 29⟩
def F.REF_TC_CFG_DF : FR := ⟨R.REF_TC_CFG, 28, 28⟩
def F.REF_TC_CFG_DATE_EN : FR := ⟨R.REF_TC_CFG, 27, 27⟩
def F.REF_TC_CFG_DATE_FORM : FR := ⟨R.REF_TC_CFG, 26, 26⟩
def F.REF_TC_CFG_LINE : FR := ⟨R.REF_TC_CFG, 25, 13⟩
def F.REF_TC_CFG_LOCAL : FR := ⟨R.REF_TC_CFG, 12, 6⟩
/-- REF_TC_STAT: spec/06_time_and_house_reference.md, the table of its name. -/
def R.REF_TC_STAT : Reg := ⟨0x300a14, [], .resetN, .ref, .plain, (fun _ => 0x0),
   [⟨16, 16, .wo, none, none⟩, ⟨15, 0, .ro, none, none⟩]⟩
def F.REF_TC_STAT_CLR : FR := ⟨R.REF_TC_STAT, 16, 16⟩
def F.REF_TC_STAT_SKIPPED : FR := ⟨R.REF_TC_STAT, 15, 0⟩
/-- REF_TC_DST: spec/06_time_and_house_reference.md, the table of its name. -/
def R.REF_TC_DST : Reg := ⟨0x302000, [(1152, 0x4)], .resetN, .ref, .plain, (fun _ => 0x0),
   [⟨7, 0, .rwp, none, none⟩]⟩
def F.REF_TC_DST_EN : FR := ⟨R.REF_TC_DST, 7, 0⟩

/-- The registers of block REF. -/
def regsRef : List Reg :=
  [R.REF_DPLL_CFG, R.REF_DPLL_STAT, R.REF_DPLL_PHASE, R.REF_DPLL_FREQ, R.REF_BW, R.REF_IN_CFG] ++
  [R.REF_IN_SRC, R.REF_IN_OFFSET, R.REF_IN_STAT, R.REF_CAD_LAG, R.REF_SYNC_OUT, R.REF_SYNC_OUT_OFS] ++
  [R.REF_PPS_OUT, R.REF_HO_CFG, R.REF_HO_T0, R.REF_HO_A1, R.REF_HO_A2, R.REF_HO_B] ++
  [R.REF_HO_STAT, R.REF_HO_FAVG, R.REF_HO_TAVG, R.REF_HIST_FREQ, R.REF_HIST_TEMP, R.REF_CAL_SET] ++
  [R.REF_CAL_DATE, R.REF_CAL_STAT, R.REF_LEAP, R.REF_TC_CFG, R.REF_TC_STAT, R.REF_TC_DST]

/-- PTP_DOM_CFG: spec/06_time_and_house_reference.md, the table of its name. -/
def R.PTP_DOM_CFG : Reg := ⟨0x340000, [(2, 0x40)], .resetN, .ptp, .plain, (fun _ => 0x7f800000),
   [⟨31, 31, .rwp, none, none⟩, ⟨30, 23, .rwp, none, none⟩]⟩
def F.PTP_DOM_CFG_VALID : FR := ⟨R.PTP_DOM_CFG, 31, 31⟩
def F.PTP_DOM_CFG_CLASS : FR := ⟨R.PTP_DOM_CFG, 30, 23⟩
/-- PTP_INCR_LO: spec/06_time_and_house_reference.md, the table of its name. -/
def R.PTP_INCR_LO : Reg := ⟨0x340004, [(2, 0x40)], .resetN, .ptp, .plain, (fun _ => 0x0),
   [⟨31, 0, .rwp, none, none⟩]⟩
def F.PTP_INCR_LO_INCR_LO : FR := ⟨R.PTP_INCR_LO, 31, 0⟩
/-- PTP_INCR_HI: spec/06_time_and_house_reference.md, the table of its name. -/
def R.PTP_INCR_HI : Reg := ⟨0x340008, [(2, 0x40)], .resetN, .ptp, .plain, (fun _ => 0x20000),
   [⟨31, 0, .rwp, none, none⟩]⟩
def F.PTP_INCR_HI_INCR_HI : FR := ⟨R.PTP_INCR_HI, 31, 0⟩
/-- PTP_ADJ_LO: spec/06_time_and_house_reference.md, the table of its name. -/
def R.PTP_ADJ_LO : Reg := ⟨0x34000c, [(2, 0x40)], .resetN, .ptp, .plain, (fun _ => 0x0),
   [⟨31, 0, .wo, none, none⟩]⟩
def F.PTP_ADJ_LO_ADJ_LO : FR := ⟨R.PTP_ADJ_LO, 31, 0⟩
/-- PTP_ADJ_HI: spec/06_time_and_house_reference.md, the table of its name. -/
def R.PTP_ADJ_HI : Reg := ⟨0x340010, [(2, 0x40)], .resetN, .ptp, .plain, (fun _ => 0x0),
   [⟨31, 0, .wo, none, none⟩]⟩
def F.PTP_ADJ_HI_ADJ_HI : FR := ⟨R.PTP_ADJ_HI, 31, 0⟩
/-- PTP_TIME_NS: spec/06_time_and_house_reference.md, the table of its name. -/
def R.PTP_TIME_NS : Reg := ⟨0x340014, [(2, 0x40)], .resetN, .ptp, .plain, (fun _ => 0x0),
   [⟨31, 0, .ro, none, none⟩]⟩
def F.PTP_TIME_NS_NS : FR := ⟨R.PTP_TIME_NS, 31, 0⟩
/-- PTP_TIME_SEC_LO: spec/06_time_and_house_reference.md, the table of its name. -/
def R.PTP_TIME_SEC_LO : Reg := ⟨0x340018, [(2, 0x40)], .resetN, .ptp, .plain, (fun _ => 0x0),
   [⟨31, 0, .ro, none, none⟩]⟩
def F.PTP_TIME_SEC_LO_SEC_LO : FR := ⟨R.PTP_TIME_SEC_LO, 31, 0⟩
/-- PTP_TIME_SEC_HI: spec/06_time_and_house_reference.md, the table of its name. -/
def R.PTP_TIME_SEC_HI : Reg := ⟨0x34001c, [(2, 0x40)], .resetN, .ptp, .plain, (fun _ => 0x80000000),
   [⟨31, 31, .ro, none, none⟩, ⟨30, 29, .ro, none, none⟩, ⟨15, 0, .ro, none, none⟩]⟩
def F.PTP_TIME_SEC_HI_HOLDOVER : FR := ⟨R.PTP_TIME_SEC_HI, 31, 31⟩
def F.PTP_TIME_SEC_HI_DPLL_STATE : FR := ⟨R.PTP_TIME_SEC_HI, 30, 29⟩
def F.PTP_TIME_SEC_HI_SEC_HI : FR := ⟨R.PTP_TIME_SEC_HI, 15, 0⟩
/-- PTP_PPS_CAP: spec/06_time_and_house_reference.md, the table of its name. -/
def R.PTP_PPS_CAP : Reg := ⟨0x340020, [(2, 0x40)], .resetN, .ptp, .plain, (fun _ => 0x0),
   [⟨31, 31, .w1c, none, none⟩, ⟨29, 0, .ro, none, none⟩]⟩
def F.PTP_PPS_CAP_NEW : FR := ⟨R.PTP_PPS_CAP, 31, 31⟩
def F.PTP_PPS_CAP_NS : FR := ⟨R.PTP_PPS_CAP, 29, 0⟩
/-- PTP_DOM_STAT: spec/06_time_and_house_reference.md, the table of its name. -/
def R.PTP_DOM_STAT : Reg := ⟨0x340024, [(2, 0x40)], .resetN, .ptp, .plain, (fun _ => 0x0),
   [⟨0, 0, .w1c, none, none⟩]⟩
def F.PTP_DOM_STAT_INCR_ERR : FR := ⟨R.PTP_DOM_STAT, 0, 0⟩
/-- PTP_PORT_CFG: spec/06_time_and_house_reference.md, the table of its name. -/
def R.PTP_PORT_CFG : Reg := ⟨0x341000, [(16, 0x400), (4, 0x100)], .resetN, .ptp, .plain, (fun _ => 0x0),
   [⟨31, 31, .rwp, none, none⟩, ⟨19, 10, .rwp, none, none⟩, ⟨9, 0, .rwp, none, none⟩]⟩
def F.PTP_PORT_CFG_DOMAIN : FR := ⟨R.PTP_PORT_CFG, 31, 31⟩
def F.PTP_PORT_CFG_RX_LAT : FR := ⟨R.PTP_PORT_CFG, 19, 10⟩
def F.PTP_PORT_CFG_TX_LAT : FR := ⟨R.PTP_PORT_CFG, 9, 0⟩
/-- PTP_TXTS_ID: spec/06_time_and_house_reference.md, the table of its name. -/
def R.PTP_TXTS_ID : Reg := ⟨0x341004, [(16, 0x400), (4, 0x100)], .resetN, .ptp, .plain, (fun _ => 0x0),
   [⟨31, 31, .ro, none, none⟩, ⟨15, 0, .ro, none, none⟩]⟩
def F.PTP_TXTS_ID_VALID : FR := ⟨R.PTP_TXTS_ID, 31, 31⟩
def F.PTP_TXTS_ID_TS_ID : FR := ⟨R.PTP_TXTS_ID, 15, 0⟩
/-- PTP_TXTS_NS: spec/06_time_and_house_reference.md, the table of its name. -/
def R.PTP_TXTS_NS : Reg := ⟨0x341008, [(16, 0x400), (4, 0x100)], .resetN, .ptp, .plain, (fun _ => 0x0),
   [⟨31, 0, .ro, none, none⟩]⟩
def F.PTP_TXTS_NS_NS : FR := ⟨R.PTP_TXTS_NS, 31, 0⟩
/-- PTP_TXTS_SEC_LO: spec/06_time_and_house_reference.md, the table of its name. -/
def R.PTP_TXTS_SEC_LO : Reg := ⟨0x34100c, [(16, 0x400), (4, 0x100)], .resetN, .ptp, .plain, (fun _ => 0x0),
   [⟨31, 0, .ro, none, none⟩]⟩
def F.PTP_TXTS_SEC_LO_SEC_LO : FR := ⟨R.PTP_TXTS_SEC_LO, 31, 0⟩
/-- PTP_TXTS_SEC_HI: spec/06_time_and_house_reference.md, the table of its name. -/
def R.PTP_TXTS_SEC_HI : Reg := ⟨0x341010, [(16, 0x400), (4, 0x100)], .resetN, .ptp, .plain, (fun _ => 0x0),
   [⟨16, 16, .ro, none, none⟩, ⟨15, 0, .ro, none, none⟩]⟩
def F.PTP_TXTS_SEC_HI_DOMAIN : FR := ⟨R.PTP_TXTS_SEC_HI, 16, 16⟩
def F.PTP_TXTS_SEC_HI_SEC_HI : FR := ⟨R.PTP_TXTS_SEC_HI, 15, 0⟩
/-- PTP_TXTS_STAT: spec/06_time_and_house_reference.md, the table of its name. -/
def R.PTP_TXTS_STAT : Reg := ⟨0x341014, [(16, 0x400), (4, 0x100)], .resetN, .ptp, .plain, (fun _ => 0x0),
   [⟨31, 31, .w1c, none, none⟩, ⟨30, 30, .wo, none, none⟩, ⟨20, 16, .ro, none, none⟩,
    ⟨15, 0, .ro, none, none⟩]⟩
def F.PTP_TXTS_STAT_OVF : FR := ⟨R.PTP_TXTS_STAT, 31, 31⟩
def F.PTP_TXTS_STAT_CLR : FR := ⟨R.PTP_TXTS_STAT, 30, 30⟩
def F.PTP_TXTS_STAT_COUNT : FR := ⟨R.PTP_TXTS_STAT, 20, 16⟩
def F.PTP_TXTS_STAT_DROPS : FR := ⟨R.PTP_TXTS_STAT, 15, 0⟩

/-- The registers of block PTP. -/
def regsPtp : List Reg :=
  [R.PTP_DOM_CFG, R.PTP_INCR_LO, R.PTP_INCR_HI, R.PTP_ADJ_LO, R.PTP_ADJ_HI, R.PTP_TIME_NS] ++
  [R.PTP_TIME_SEC_LO, R.PTP_TIME_SEC_HI, R.PTP_PPS_CAP, R.PTP_DOM_STAT, R.PTP_PORT_CFG, R.PTP_TXTS_ID] ++
  [R.PTP_TXTS_NS, R.PTP_TXTS_SEC_LO, R.PTP_TXTS_SEC_HI, R.PTP_TXTS_STAT]

end Sys2Proof.Machine
end

