-- ==== Sys2Proof/Machine/RegsWeave.lean ====
section
/-! DEFINITION. The registers of the XPT blocks, as the register tables of the manual give them: address, strides,
reset kind, reset value, fields with their access codes. -/
namespace Sys2Proof.Machine

/-- XPT_XING_CFG: spec/02_weave.md, the table of its name. -/
def R.XPT_XING_CFG : Reg := ⟨0x200000, [], .resetN, .xpt, .plain, (fun _ => 0x0),
   [⟨0, 0, .rwp, none, none⟩]⟩
def F.XPT_XING_CFG_MODE : FR := ⟨R.XPT_XING_CFG, 0, 0⟩
/-- XPT_XING_STAT: spec/02_weave.md, the table of its name. -/
def R.XPT_XING_STAT : Reg := ⟨0x200004, [], .resetN, .xpt, .plain, (fun _ => 0x0),
   [⟨1, 1, .w1c, none, none⟩, ⟨0, 0, .ro, none, none⟩]⟩
def F.XPT_XING_STAT_FALLBACK : FR := ⟨R.XPT_XING_STAT, 1, 1⟩
def F.XPT_XING_STAT_FIXED_ACTIVE : FR := ⟨R.XPT_XING_STAT, 0, 0⟩
/-- XPT_LAYOUT_STAT: spec/02_weave.md, the table of its name. -/
def R.XPT_LAYOUT_STAT : Reg := ⟨0x200008, [], .resetN, .xpt, .plain, (fun _ => 0x0),
   [⟨27, 27, .ro, none, none⟩, ⟨26, 16, .ro, none, none⟩, ⟨1, 1, .w1c, none, none⟩,
    ⟨0, 0, .w1c, none, none⟩]⟩
def F.XPT_LAYOUT_STAT_LAST_DIR : FR := ⟨R.XPT_LAYOUT_STAT, 27, 27⟩
def F.XPT_LAYOUT_STAT_LAST_INDEX : FR := ⟨R.XPT_LAYOUT_STAT, 26, 16⟩
def F.XPT_LAYOUT_STAT_BUSY : FR := ⟨R.XPT_LAYOUT_STAT, 1, 1⟩
def F.XPT_LAYOUT_STAT_ERR : FR := ⟨R.XPT_LAYOUT_STAT, 0, 0⟩
/-- XPT_PROBE_CTRL: spec/02_weave.md, the table of its name. -/
def R.XPT_PROBE_CTRL : Reg := ⟨0x200100, [], .block, .xpt, .plain, (fun _ => 0x0),
   [⟨31, 31, .rw, none, none⟩, ⟨30, 30, .ro, none, none⟩, ⟨29, 28, .rw, none, none⟩,
    ⟨27, 27, .rw, none, none⟩, ⟨26, 20, .rw, none, none⟩, ⟨19, 13, .rw, none, none⟩]⟩
def F.XPT_PROBE_CTRL_ARM : FR := ⟨R.XPT_PROBE_CTRL, 31, 31⟩
def F.XPT_PROBE_CTRL_DONE : FR := ⟨R.XPT_PROBE_CTRL, 30, 30⟩
def F.XPT_PROBE_CTRL_MODE : FR := ⟨R.XPT_PROBE_CTRL, 29, 28⟩
def F.XPT_PROBE_CTRL_TRIG : FR := ⟨R.XPT_PROBE_CTRL, 27, 27⟩
def F.XPT_PROBE_CTRL_BUS : FR := ⟨R.XPT_PROBE_CTRL, 26, 20⟩
def F.XPT_PROBE_CTRL_SUBPHASE : FR := ⟨R.XPT_PROBE_CTRL, 19, 13⟩
/-- XPT_PROBE_DST: spec/02_weave.md, the table of its name. -/
def R.XPT_PROBE_DST : Reg := ⟨0x200104, [], .block, .xpt, .plain, (fun _ => 0x0),
   [⟨13, 3, .rw, none, none⟩, ⟨2, 0, .rw, none, none⟩]⟩
def F.XPT_PROBE_DST_DST_SLOT : FR := ⟨R.XPT_PROBE_DST, 13, 3⟩
def F.XPT_PROBE_DST_SUB_SLOT : FR := ⟨R.XPT_PROBE_DST, 2, 0⟩
/-- XPT_PROBE_WORD: spec/02_weave.md, the table of its name. -/
def R.XPT_PROBE_WORD : Reg := ⟨0x200110, [(4, 0x4)], .block, .xpt, .plain, (fun _ => 0x0),
   [⟨31, 0, .ro, none, none⟩]⟩
def F.XPT_PROBE_WORD_WORD : FR := ⟨R.XPT_PROBE_WORD, 31, 0⟩
/-- XPT_PROBE_TAG: spec/02_weave.md, the table of its name. -/
def R.XPT_PROBE_TAG : Reg := ⟨0x200120, [], .block, .xpt, .plain, (fun _ => 0x0),
   [⟨31, 16, .ro, none, none⟩, ⟨2, 2, .ro, none, none⟩, ⟨1, 1, .ro, none, none⟩,
    ⟨0, 0, .ro, none, none⟩]⟩
def F.XPT_PROBE_TAG_CYCLE : FR := ⟨R.XPT_PROBE_TAG, 31, 16⟩
def F.XPT_PROBE_TAG_EOR : FR := ⟨R.XPT_PROBE_TAG, 2, 2⟩
def F.XPT_PROBE_TAG_SOR : FR := ⟨R.XPT_PROBE_TAG, 1, 1⟩
def F.XPT_PROBE_TAG_VALID : FR := ⟨R.XPT_PROBE_TAG, 0, 0⟩
/-- XPT_GEN_CFG: spec/02_weave.md, the table of its name. -/
def R.XPT_GEN_CFG : Reg := ⟨0x200400, [(64, 0x10)], .resetN, .xpt, .plain, (fun _ => 0xc0000000),
   [⟨31, 31, .rwp, none, none⟩, ⟨30, 28, .rwp, none, none⟩, ⟨27, 25, .rwp, none, none⟩,
    ⟨24, 22, .rwp, none, none⟩, ⟨21, 20, .rwp, none, none⟩]⟩
def F.XPT_GEN_CFG_ENABLE : FR := ⟨R.XPT_GEN_CFG, 31, 31⟩
def F.XPT_GEN_CFG_CLASS : FR := ⟨R.XPT_GEN_CFG, 30, 28⟩
def F.XPT_GEN_CFG_CADENCE : FR := ⟨R.XPT_GEN_CFG, 27, 25⟩
def F.XPT_GEN_CFG_PATTERN : FR := ⟨R.XPT_GEN_CFG, 24, 22⟩
def F.XPT_GEN_CFG_COLOUR : FR := ⟨R.XPT_GEN_CFG, 21, 20⟩
/-- XPT_GEN_SLATE_LO: spec/02_weave.md, the table of its name. -/
def R.XPT_GEN_SLATE_LO : Reg := ⟨0x200404, [(64, 0x10)], .resetN, .xpt, .plain, (fun _ => 0x0),
   [⟨31, 12, .rwp, none, none⟩]⟩
def F.XPT_GEN_SLATE_LO_ADDR_LO : FR := ⟨R.XPT_GEN_SLATE_LO, 31, 12⟩
/-- XPT_GEN_SLATE_HI: spec/02_weave.md, the table of its name. -/
def R.XPT_GEN_SLATE_HI : Reg := ⟨0x200408, [(64, 0x10)], .resetN, .xpt, .plain, (fun _ => 0x0),
   [⟨1, 0, .rwp, none, none⟩]⟩
def F.XPT_GEN_SLATE_HI_ADDR_HI : FR := ⟨R.XPT_GEN_SLATE_HI, 1, 0⟩
/-- XPT_GEN_STAT: spec/02_weave.md, the table of its name. -/
def R.XPT_GEN_STAT : Reg := ⟨0x20040c, [(64, 0x10)], .resetN, .xpt, .plain, (fun _ => 0x0),
   [⟨31, 16, .ro, none, none⟩, ⟨2, 2, .wo, none, none⟩, ⟨1, 1, .w1c, none, none⟩,
    ⟨0, 0, .w1c, none, none⟩]⟩
def F.XPT_GEN_STAT_REPEATS : FR := ⟨R.XPT_GEN_STAT, 31, 16⟩
def F.XPT_GEN_STAT_CLR_REPEATS : FR := ⟨R.XPT_GEN_STAT, 2, 2⟩
def F.XPT_GEN_STAT_ADMIT_ERR : FR := ⟨R.XPT_GEN_STAT, 1, 1⟩
def F.XPT_GEN_STAT_CFG_ERR : FR := ⟨R.XPT_GEN_STAT, 0, 0⟩
/-- XPT_BUS_STAT: spec/02_weave.md, the table of its name. -/
def R.XPT_BUS_STAT : Reg := ⟨0x200800, [(80, 0x4)], .block, .xpt, .plain, (fun _ => 0x0),
   [⟨31, 16, .ro, none, none⟩, ⟨1, 1, .ro, none, none⟩, ⟨0, 0, .w1c, none, none⟩]⟩
def F.XPT_BUS_STAT_USERS : FR := ⟨R.XPT_BUS_STAT, 31, 16⟩
def F.XPT_BUS_STAT_FAULT : FR := ⟨R.XPT_BUS_STAT, 1, 1⟩
def F.XPT_BUS_STAT_PAR_ERR : FR := ⟨R.XPT_BUS_STAT, 0, 0⟩
/-- XPT_SRC_LAYOUT: spec/02_weave.md, the table of its name. -/
def R.XPT_SRC_LAYOUT : Reg := ⟨0x204000, [(1280, 0x4)], .resetN, .xpt, .srcLayout, (fun _ => 0x0),
   [⟨3, 0, .rw, some 1152, none⟩, ⟨7, 4, .rw, some 1152, none⟩, ⟨11, 8, .rw, some 1152, none⟩,
    ⟨15, 12, .rw, some 1152, none⟩, ⟨19, 16, .rw, some 1152, none⟩, ⟨23, 20, .rw, some 1152, none⟩,
    ⟨27, 24, .rw, some 1152, none⟩, ⟨31, 28, .rw, some 1152, none⟩]⟩
def F.XPT_SRC_LAYOUT_SUB_0 : FR := ⟨R.XPT_SRC_LAYOUT, 3, 0⟩
def F.XPT_SRC_LAYOUT_SUB_1 : FR := ⟨R.XPT_SRC_LAYOUT, 7, 4⟩
def F.XPT_SRC_LAYOUT_SUB_2 : FR := ⟨R.XPT_SRC_LAYOUT, 11, 8⟩
def F.XPT_SRC_LAYOUT_SUB_3 : FR := ⟨R.XPT_SRC_LAYOUT, 15, 12⟩
def F.XPT_SRC_LAYOUT_SUB_4 : FR := ⟨R.XPT_SRC_LAYOUT, 19, 16⟩
def F.XPT_SRC_LAYOUT_SUB_5 : FR := ⟨R.XPT_SRC_LAYOUT, 23, 20⟩
def F.XPT_SRC_LAYOUT_SUB_6 : FR := ⟨R.XPT_SRC_LAYOUT, 27, 24⟩
def F.XPT_SRC_LAYOUT_SUB_7 : FR := ⟨R.XPT_SRC_LAYOUT, 31, 28⟩
/-- XPT_DST_LAYOUT: spec/02_weave.md, the table of its name. -/
def R.XPT_DST_LAYOUT : Reg := ⟨0x206000, [(1280, 0x4)], .resetN, .xpt, .plain, (fun _ => 0x0),
   [⟨3, 0, .rw, some 1152, none⟩, ⟨7, 4, .rw, some 1152, none⟩, ⟨11, 8, .rw, some 1152, none⟩,
    ⟨15, 12, .rw, some 1152, none⟩, ⟨19, 16, .rw, some 1152, none⟩, ⟨23, 20, .rw, some 1152, none⟩,
    ⟨27, 24, .rw, some 1152, none⟩, ⟨31, 28, .rw, some 1152, none⟩]⟩
def F.XPT_DST_LAYOUT_SUB_0 : FR := ⟨R.XPT_DST_LAYOUT, 3, 0⟩
def F.XPT_DST_LAYOUT_SUB_1 : FR := ⟨R.XPT_DST_LAYOUT, 7, 4⟩
def F.XPT_DST_LAYOUT_SUB_2 : FR := ⟨R.XPT_DST_LAYOUT, 11, 8⟩
def F.XPT_DST_LAYOUT_SUB_3 : FR := ⟨R.XPT_DST_LAYOUT, 15, 12⟩
def F.XPT_DST_LAYOUT_SUB_4 : FR := ⟨R.XPT_DST_LAYOUT, 19, 16⟩
def F.XPT_DST_LAYOUT_SUB_5 : FR := ⟨R.XPT_DST_LAYOUT, 23, 20⟩
def F.XPT_DST_LAYOUT_SUB_6 : FR := ⟨R.XPT_DST_LAYOUT, 27, 24⟩
def F.XPT_DST_LAYOUT_SUB_7 : FR := ⟨R.XPT_DST_LAYOUT, 31, 28⟩
/-- XPT_RX_HOLD: spec/02_weave.md, the table of its name. -/
def R.XPT_RX_HOLD : Reg := ⟨0x207400, [(576, 0x4)], .resetN, .xpt, .plain, (fun _ => 0x0),
   [⟨31, 31, .ro, none, none⟩, ⟨3, 0, .ro, none, none⟩]⟩
def F.XPT_RX_HOLD_HELD : FR := ⟨R.XPT_RX_HOLD, 31, 31⟩
def F.XPT_RX_HOLD_HOLD : FR := ⟨R.XPT_RX_HOLD, 3, 0⟩
/-- XPT_LIVE: spec/02_weave.md, the table of its name. -/
def R.XPT_LIVE : Reg := ⟨0x280000, [(10240, 0x4)], .resetN, .xpt, .plain, (fun _ => 0x0),
   [⟨31, 0, .ro, none, none⟩]⟩
def F.XPT_LIVE_ENTRY : FR := ⟨R.XPT_LIVE, 31, 0⟩
/-- XPT_LOFT: spec/02_weave.md, the table of its name. -/
def R.XPT_LOFT : Reg := ⟨0x2a0000, [(10240, 0x4)], .resetN, .xpt, .plain, (fun _ => 0x0),
   [⟨31, 0, .ro, none, none⟩]⟩
def F.XPT_LOFT_ENTRY : FR := ⟨R.XPT_LOFT, 31, 0⟩
/-- XPT_BANK_CTRL: spec/03_takes_and_cadences.md, the table of its name. -/
def R.XPT_BANK_CTRL : Reg := ⟨0x200010, [], .resetN, .xpt, .plain, (fun _ => 0x0),
   [⟨0, 0, .rwp, none, none⟩]⟩
def F.XPT_BANK_CTRL_IMAGE_OPEN : FR := ⟨R.XPT_BANK_CTRL, 0, 0⟩
/-- XPT_BANK_STAT: spec/03_takes_and_cadences.md, the table of its name. -/
def R.XPT_BANK_STAT : Reg := ⟨0x200014, [], .resetN, .xpt, .plain, (fun _ => 0x0),
   [⟨29, 16, .ro, none, none⟩, ⟨3, 3, .w1c, none, none⟩, ⟨2, 2, .w1c, none, none⟩,
    ⟨1, 1, .w1c, none, none⟩, ⟨0, 0, .w1c, none, none⟩]⟩
def F.XPT_BANK_STAT_PENDING : FR := ⟨R.XPT_BANK_STAT, 29, 16⟩
def F.XPT_BANK_STAT_IMAGE_ERR : FR := ⟨R.XPT_BANK_STAT, 3, 3⟩
def F.XPT_BANK_STAT_OPEN_REFUSED : FR := ⟨R.XPT_BANK_STAT, 2, 2⟩
def F.XPT_BANK_STAT_CAD_BUSY : FR := ⟨R.XPT_BANK_STAT, 1, 1⟩
def F.XPT_BANK_STAT_CAD_ERR : FR := ⟨R.XPT_BANK_STAT, 0, 0⟩
/-- XPT_IMAGE_ERR: spec/03_takes_and_cadences.md, the table of its name. -/
def R.XPT_IMAGE_ERR : Reg := ⟨0x200018, [], .resetN, .xpt, .plain, (fun _ => 0x0),
   [⟨13, 0, .ro, none, none⟩]⟩
def F.XPT_IMAGE_ERR_INDEX : FR := ⟨R.XPT_IMAGE_ERR, 13, 0⟩
/-- XPT_CAD_CFG: spec/03_takes_and_cadences.md, the table of its name. -/
def R.XPT_CAD_CFG : Reg := ⟨0x201000, [(8, 0x20)], .resetN, .xpt, .plain, (fun _ => 0x3a007180),
   [⟨31, 31, .rwp, none, none⟩, ⟨30, 28, .rwp, none, none⟩, ⟨27, 25, .rwp, none, none⟩,
    ⟨24, 12, .rwp, none, none⟩, ⟨11, 7, .rwp, none, none⟩]⟩
def F.XPT_CAD_CFG_ENABLE : FR := ⟨R.XPT_CAD_CFG, 31, 31⟩
def F.XPT_CAD_CFG_FORMAT : FR := ⟨R.XPT_CAD_CFG, 30, 28⟩
def F.XPT_CAD_CFG_RATE : FR := ⟨R.XPT_CAD_CFG, 27, 25⟩
def F.XPT_CAD_CFG_SWITCH_LINE : FR := ⟨R.XPT_CAD_CFG, 24, 12⟩
def F.XPT_CAD_CFG_DEADLINE : FR := ⟨R.XPT_CAD_CFG, 11, 7⟩
/-- XPT_CAD_CTRL: spec/03_takes_and_cadences.md, the table of its name. -/
def R.XPT_CAD_CTRL : Reg := ⟨0x201004, [(8, 0x20)], .resetN, .xpt, .plain, (fun _ => 0x1),
   [⟨31, 31, .rwp, none, none⟩, ⟨7, 0, .rwp, none, none⟩]⟩
def F.XPT_CAD_CTRL_SSYNC_EN : FR := ⟨R.XPT_CAD_CTRL, 31, 31⟩
def F.XPT_CAD_CTRL_CLEAN_WIN : FR := ⟨R.XPT_CAD_CTRL, 7, 0⟩
/-- XPT_CAD_POS: spec/03_takes_and_cadences.md, the table of its name. -/
def R.XPT_CAD_POS : Reg := ⟨0x201008, [(8, 0x20)], .resetN, .xpt, .plain, (fun _ => 0x0),
   [⟨31, 31, .ro, none, none⟩, ⟨28, 16, .ro, none, none⟩, ⟨12, 0, .ro, none, none⟩]⟩
def F.XPT_CAD_POS_RUNNING : FR := ⟨R.XPT_CAD_POS, 31, 31⟩
def F.XPT_CAD_POS_LINE : FR := ⟨R.XPT_CAD_POS, 28, 16⟩
def F.XPT_CAD_POS_SWITCH : FR := ⟨R.XPT_CAD_POS, 12, 0⟩
/-- XPT_CAD_FRAME: spec/03_takes_and_cadences.md, the table of its name. -/
def R.XPT_CAD_FRAME : Reg := ⟨0x20100c, [(8, 0x20)], .resetN, .xpt, .plain, (fun _ => 0x0),
   [⟨31, 0, .ro, none, none⟩]⟩
def F.XPT_CAD_FRAME_FRAME : FR := ⟨R.XPT_CAD_FRAME, 31, 0⟩
/-- XPT_CAD_SSYNC: spec/03_takes_and_cadences.md, the table of its name. -/
def R.XPT_CAD_SSYNC : Reg := ⟨0x201010, [(8, 0x20)], .resetN, .xpt, .plain, (fun _ => 0x0),
   [⟨31, 20, .ro, none, none⟩, ⟨19, 8, .ro, none, none⟩, ⟨7, 7, .wo, none, none⟩,
    ⟨6, 0, .ro, none, none⟩]⟩
def F.XPT_CAD_SSYNC_OUTSIDE : FR := ⟨R.XPT_CAD_SSYNC, 31, 20⟩
def F.XPT_CAD_SSYNC_MISSING : FR := ⟨R.XPT_CAD_SSYNC, 19, 8⟩
def F.XPT_CAD_SSYNC_CLR : FR := ⟨R.XPT_CAD_SSYNC, 7, 7⟩
def F.XPT_CAD_SSYNC_LAST_OFFSET : FR := ⟨R.XPT_CAD_SSYNC, 6, 0⟩
/-- XPT_CAD_TAKES: spec/03_takes_and_cadences.md, the table of its name. -/
def R.XPT_CAD_TAKES : Reg := ⟨0x201014, [(8, 0x20)], .resetN, .xpt, .plain, (fun _ => 0x0),
   [⟨31, 16, .ro, none, none⟩, ⟨15, 0, .ro, none, none⟩]⟩
def F.XPT_CAD_TAKES_LATE : FR := ⟨R.XPT_CAD_TAKES, 31, 16⟩
def F.XPT_CAD_TAKES_DIRTY : FR := ⟨R.XPT_CAD_TAKES, 15, 0⟩
/-- XPT_CAD_STAT: spec/03_takes_and_cadences.md, the table of its name. -/
def R.XPT_CAD_STAT : Reg := ⟨0x201018, [(8, 0x20)], .resetN, .xpt, .plain, (fun _ => 0x0),
   [⟨3, 3, .wo, none, none⟩, ⟨2, 2, .w1c, none, none⟩, ⟨1, 1, .w1c, none, none⟩,
    ⟨0, 0, .w1c, none, none⟩]⟩
def F.XPT_CAD_STAT_CLR_TAKES : FR := ⟨R.XPT_CAD_STAT, 3, 3⟩
def F.XPT_CAD_STAT_SSYNC_DIFF : FR := ⟨R.XPT_CAD_STAT, 2, 2⟩
def F.XPT_CAD_STAT_REPL_LATE : FR := ⟨R.XPT_CAD_STAT, 1, 1⟩
def F.XPT_CAD_STAT_CFG_ERR : FR := ⟨R.XPT_CAD_STAT, 0, 0⟩
/-- XPT_SRC_CAD: spec/03_takes_and_cadences.md, the table of its name. -/
def R.XPT_SRC_CAD : Reg := ⟨0x20c000, [(1280, 0x4)], .resetN, .xpt, .plain, (fun _ => 0x0),
   [⟨2, 0, .rw, some 1152, none⟩, ⟨5, 3, .rw, some 1152, none⟩, ⟨8, 6, .rw, some 1152, none⟩,
    ⟨11, 9, .rw, some 1152, none⟩, ⟨14, 12, .rw, some 1152, none⟩, ⟨17, 15, .rw, some 1152, none⟩,
    ⟨20, 18, .rw, some 1152, none⟩, ⟨23, 21, .rw, some 1152, none⟩]⟩
def F.XPT_SRC_CAD_CAD_0 : FR := ⟨R.XPT_SRC_CAD, 2, 0⟩
def F.XPT_SRC_CAD_CAD_1 : FR := ⟨R.XPT_SRC_CAD, 5, 3⟩
def F.XPT_SRC_CAD_CAD_2 : FR := ⟨R.XPT_SRC_CAD, 8, 6⟩
def F.XPT_SRC_CAD_CAD_3 : FR := ⟨R.XPT_SRC_CAD, 11, 9⟩
def F.XPT_SRC_CAD_CAD_4 : FR := ⟨R.XPT_SRC_CAD, 14, 12⟩
def F.XPT_SRC_CAD_CAD_5 : FR := ⟨R.XPT_SRC_CAD, 17, 15⟩
def F.XPT_SRC_CAD_CAD_6 : FR := ⟨R.XPT_SRC_CAD, 20, 18⟩
def F.XPT_SRC_CAD_CAD_7 : FR := ⟨R.XPT_SRC_CAD, 23, 21⟩
/-- XPT_DST_CAD: spec/03_takes_and_cadences.md, the table of its name. -/
def R.XPT_DST_CAD : Reg := ⟨0x20e000, [(1280, 0x4)], .resetN, .xpt, .plain, (fun _ => 0x0),
   [⟨2, 0, .rw, some 1152, none⟩, ⟨5, 3, .rw, some 1152, none⟩, ⟨8, 6, .rw, some 1152, none⟩,
    ⟨11, 9, .rw, some 1152, none⟩, ⟨14, 12, .rw, some 1152, none⟩, ⟨17, 15, .rw, some 1152, none⟩,
    ⟨20, 18, .rw, some 1152, none⟩, ⟨23, 21, .rw, some 1152, none⟩]⟩
def F.XPT_DST_CAD_CAD_0 : FR := ⟨R.XPT_DST_CAD, 2, 0⟩
def F.XPT_DST_CAD_CAD_1 : FR := ⟨R.XPT_DST_CAD, 5, 3⟩
def F.XPT_DST_CAD_CAD_2 : FR := ⟨R.XPT_DST_CAD, 8, 6⟩
def F.XPT_DST_CAD_CAD_3 : FR := ⟨R.XPT_DST_CAD, 11, 9⟩
def F.XPT_DST_CAD_CAD_4 : FR := ⟨R.XPT_DST_CAD, 14, 12⟩
def F.XPT_DST_CAD_CAD_5 : FR := ⟨R.XPT_DST_CAD, 17, 15⟩
def F.XPT_DST_CAD_CAD_6 : FR := ⟨R.XPT_DST_CAD, 20, 18⟩
def F.XPT_DST_CAD_CAD_7 : FR := ⟨R.XPT_DST_CAD, 23, 21⟩
/-- XPT_ALIGN: spec/03_takes_and_cadences.md, the table of its name. -/
def R.XPT_ALIGN : Reg := ⟨0x2c0000, [(10240, 0x4)], .resetN, .xpt, .plain, (fun _ => 0x0),
   [⟨31, 0, .ro, none, none⟩]⟩
def F.XPT_ALIGN_OFFSET : FR := ⟨R.XPT_ALIGN, 31, 0⟩
/-- XPT_ALIGN_STAT: spec/03_takes_and_cadences.md, the table of its name. -/
def R.XPT_ALIGN_STAT : Reg := ⟨0x2e0000, [(10240, 0x4)], .resetN, .xpt, .plain, (fun _ => 0x0),
   [⟨31, 31, .ro, none, none⟩, ⟨30, 30, .ro, none, none⟩, ⟨16, 16, .wo, none, none⟩,
    ⟨15, 0, .ro, none, none⟩]⟩
def F.XPT_ALIGN_STAT_VALID : FR := ⟨R.XPT_ALIGN_STAT, 31, 31⟩
def F.XPT_ALIGN_STAT_OUTSIDE : FR := ⟨R.XPT_ALIGN_STAT, 30, 30⟩
def F.XPT_ALIGN_STAT_CLR : FR := ⟨R.XPT_ALIGN_STAT, 16, 16⟩
def F.XPT_ALIGN_STAT_DIRTY : FR := ⟨R.XPT_ALIGN_STAT, 15, 0⟩

/-- The registers of block XPT. -/
def regsXpt : List Reg :=
  [R.XPT_XING_CFG, R.XPT_XING_STAT, R.XPT_LAYOUT_STAT, R.XPT_PROBE_CTRL, R.XPT_PROBE_DST, R.XPT_PROBE_WORD] ++
  [R.XPT_PROBE_TAG, R.XPT_GEN_CFG, R.XPT_GEN_SLATE_LO, R.XPT_GEN_SLATE_HI, R.XPT_GEN_STAT, R.XPT_BUS_STAT] ++
  [R.XPT_SRC_LAYOUT, R.XPT_DST_LAYOUT, R.XPT_RX_HOLD, R.XPT_LIVE, R.XPT_LOFT, R.XPT_BANK_CTRL] ++
  [R.XPT_BANK_STAT, R.XPT_IMAGE_ERR, R.XPT_CAD_CFG, R.XPT_CAD_CTRL, R.XPT_CAD_POS, R.XPT_CAD_FRAME] ++
  [R.XPT_CAD_SSYNC, R.XPT_CAD_TAKES, R.XPT_CAD_STAT, R.XPT_SRC_CAD, R.XPT_DST_CAD, R.XPT_ALIGN] ++
  [R.XPT_ALIGN_STAT]

end Sys2Proof.Machine
end

