-- ==== Sys2Proof/Machine/RegTable.lean ====
section
/-! DEFINITION. The register map of R301: the registers of each block, and the search for the register at an address. -/
namespace Sys2Proof.Machine

/-- The registers of a block. -/
def regsOf : Blk → List Reg
  | .hif => regsHif
  | .cmd => regsCmd
  | .noc => regsNoc
  | .xpt => regsXpt
  | .zl => regsZl
  | .eth => regsEth
  | .flw => regsFlw
  | .ref => regsRef
  | .ptp => regsPtp
  | .eng => regsEng
  | .aud => regsAud
  | .cel => regsCel
  | .red => regsRed
  | .flt => regsFlt
  | .pmu => regsPmu
  | .key => regsKey
  | .boot => regsBoot
  | .sys => regsSys

/-- The first register of a list that has an element at an address, with its index. -/
def findIn (a : Nat) : List Reg → Option (Reg × List Nat)
  | [] => none
  | r :: rs => match r.at? a with
    | some i => some (r, i)
    | none => findIn a rs

/-- The register and index at a BAR0 address (R301); none where the address names no register (R4). -/
def findReg (a : Nat) : Option (Reg × List Nat) := (blkAt a).bind (fun b => findIn a (regsOf b))

end Sys2Proof.Machine
end

