-- ==== Sys2Proof/Machine/TypesCmd.lean ====
section
/-! DEFINITION. Data that the command processor, the fault collector, the lease and the weave hold beside their
registers (chapters 02, 03, 10 to 14). -/
namespace Sys2Proof.Machine

/-- A descriptor fetched and not yet accepted or refused (R328), with the protection set-up in force when it was
fetched (R306): the registers of the protection set-up that differed from reset then. -/
structure Desc where
  part : Nat
  ring : Nat
  bits : BitVec 512
  addr : Nat
  bell : Nat
  bellTick : Nat
  bellNs : Nat
  prot : List (Nat × Word)
  ver : Nat
deriving DecidableEq, Repr

/-- Descriptors announced by one doorbell write and not yet fetched (R330): entries up to `tail`. -/
structure Ann where
  part : Nat
  ring : Nat
  tail : Nat
  bell : Nat
  bellTick : Nat
  bellNs : Nat
deriving DecidableEq, Repr

/-- An outstanding fetch (R328). -/
structure Flight where
  part : Nat
  ring : Nat
  first : Nat
  count : Nat
deriving DecidableEq, Repr

/-- A tracker entry (R331): a descriptor accepted and not yet ended. `dead` once its partition was reset (R360). -/
structure Tok where
  id : Nat
  part : Nat
  ring : Nat
  ver : Nat
  opcode : Nat
  tag : Nat
  seq : Nat
  noCpl : Bool
  credit : Bool
  dead : Bool
  repl : Bool
  addr : Nat
  bellTick : Nat
  bellNs : Nat
  accTick : Nat
  period : Bool
  bell : Nat
deriving DecidableEq, Repr

/-- A completion record that has fallen due (R350, R354), at a tick. -/
structure Due where
  tok : Tok
  code : Nat
  flags : Nat
  result : Nat
  sFrame : Nat
  sLine : Nat
  sCad : Nat
  tick : Nat
deriving DecidableEq, Repr

/-- An event waiting for its record (R355). -/
structure Evt where
  part : Nat
  code : Nat
  cls : Nat
  index : Nat
  detail : Nat
  ns : Nat
  sec : Nat
  frame : Nat
  line : Nat
deriving DecidableEq, Repr

/-- The hold-off of one interrupt cause of a partition (R319): its end, and whether a message is owed. -/
structure Holdoff where
  part : Nat
  cause : Nat
  until_ : Nat
  owed : Bool
deriving DecidableEq, Repr

/-- A cadence generator (R64). `n` is the number of the line it is on, counted on the grid of R181 from H = LAG; `base`
is the H at which a frame cut by CADENCE_SET began with the number of the grid frame that ends it (R69); `startN` the
grid line of a scheduled start (R182); `stopDue` a scheduled stop (R71); `points` the resolved switch points as (frame
it belongs to, frame and line where it lies) (R73); `edgeFrame` the frame from which edges count (R69); `cut` a forward
step of H not yet followed (R200); `frameH` and `frameTick` the H and the tick of its latest frame start; `first` the frame it began
with, which has none before it; `unaligned` a run of frames that R379 counts. -/
structure Cad where
  running : Bool := false
  frame : Nat := 0
  line : Nat := 0
  n : Nat := 0
  base : Option (Nat × Nat) := none
  startN : Option Nat := none
  stopDue : Bool := false
  points : List (Nat × Nat × Nat) := []
  lastSwitch : Nat := 0
  edgeFrame : Option Nat := none
  cut : Bool := false
  frameH : Nat := 0
  frameTick : Nat := 0
  first : Bool := false
  unaligned : Bool := false
deriving DecidableEq, Repr

/-- A take that has committed and is judged at the end of its commit line (R91, R84). -/
structure Judging where
  tok : Nat
  d : Nat
  m : Nat
  src : Option (Nat × Nat)
  stamp : Stamp
  late : Bool
  missing : Bool
  forced : Bool
  cycle : Nat
  salvo : Option SalvoKey
deriving DecidableEq, Repr

/-- A salvo that has committed and whose record waits for its members' judgement and for the commit sample of its audio
members (R84, R87). -/
structure SalvoEnd where
  key : SalvoKey
  tok : Nat
  stamp : Stamp
  late : Bool
  missing : Bool
  members : Nat
  dirty : Nat
  lowest : Nat
  forced : Nat
  cuts : Nat
  judged : Bool
  audioDue : Bool
deriving DecidableEq, Repr

end Sys2Proof.Machine
end

