-- ==== Sys2Proof/Machine/TypesMedia.lean ====
section
/-! DEFINITION. Data that the lanes, ports, engines and audio hold beside their registers, and what leaves the
device. -/
namespace Sys2Proof.Machine

/-- An accepted change of a generator that waits for its frame start (R50): the tick from which a frame start counts, none where the
change waits for frame 0. -/
structure GenWait where
  after : Option Nat
deriving DecidableEq, Repr

/-- The configuration a generator runs now (R50): its word of XPT_GEN_CFG and its slate address. -/
structure GenRun where
  cfg : Word
  slate : Nat
deriving DecidableEq, Repr

/-- A MARK accepted and waiting (R348). -/
structure PendMark where
  tok : Nat
  value : Nat
  waitTwin : Bool
  bell : Nat
  rseq : Nat
deriving DecidableEq, Repr

/-- A FENCE_SET accepted and waiting for earlier bulk data writes (R235, R313). -/
structure PendFence where
  tok : Nat
  engine : Nat
  fence : Nat
  force : Bool
  value : Nat
deriving DecidableEq, Repr

/-- A descriptor whose host read is outstanding (R344): ENGINE_SET or FLOW_ADD. -/
structure PendRead where
  desc : Desc
  addr : Nat
deriving DecidableEq, Repr

/-- A forced destination signal, key 8d + m (R402): the source it takes its safety picture from, none for BLACK; and what had
passed when it was forced, so that it delivers no word of a record begun before: the serial number of the next record on a source
bus, and the house line of its cadence as frame × 2¹³ + line. `why` lists the latched sources it is an affected signal of (R400,
R403), and 333 while the forcing of R394 holds it. -/
structure ForcedStart where
  group : Nat
  src : Option (Nat × Nat)
  serial : Nat
  line : Nat
  why : List Nat
deriving DecidableEq, Repr

/-- What leaves the device. Byte strings are numbers, little-endian (R1), with their length in bytes. -/
inductive Output where
  /-- A posted write to host memory under the requester ID of a partition (R299). -/
  | hostWrite (part addr len value : Nat)
  /-- A read request to host memory. -/
  | hostRead (part addr len : Nat)
  /-- An MSI-X message (R299, R319): a write of the vector's data to its address. -/
  | msix (part vector : Nat) (addr : BitVec 64) (data : Word)
  /-- The answer to a register read (R3). -/
  | regRead (r : Req) (addr : Nat) (value : Word)
  /-- The dwords a bulk data port read returns (R311, R312). -/
  | bdpRead (chan : Nat) (data : List Word)
  /-- What the management port returns: status byte, then data bytes (R315). -/
  | mgmt (status : Nat) (data : List Byte)
  /-- A message on LEASE_TX (R363), and its code groups on the line with the idle that follows (R362). -/
  | lease (bytes : List Byte) (line : List (BitVec 10))
  /-- A replicated descriptor on the partner link (R380). -/
  | repl (m : ReplMsg)
  /-- A DECISION on the partner link (R378). -/
  | decision (d : Decision)
  /-- A TDM port's frame on its pins (R268, R269): whether BCLK and FSYNC are driven too, whether levels change on the rising edge of
  BCLK, and cycle by cycle the levels of FSYNC and DOUT. -/
  | tdm (t : Nat) (clk rising : Bool) (fsync dout : List Bool)
  /-- An Ethernet frame of sub-port p.k, without FCS (R139). -/
  | eth (port sub : Nat) (bytes : List Byte)
  /-- A pulse of a SYNC_OUT pin (R183): pin, TYPE, whether active low, WIDTH. -/
  | syncOut (pin type : Nat) (low : Bool) (width : Nat)
  /-- A pulse of PPS_OUT (R183), of a width in µs. -/
  | ppsOut (width : Nat)
  /-- A ZL frame of a lane (R103): header, payload blocks as sent, and the line bits after the
  comma. -/
  | zl (lane : Nat) (header : BitVec 64) (blocks : List BusWord) (line : List Bool)
  /-- What a lane's pins carry under TEST 3 and 4 (R129): recovered bits, or the pattern. -/
  | laneBits (lane : Nat) (bits : List Bool)
  /-- A HEARTBEAT on the partner link (R378). -/
  | heartbeat (m : Heartbeat)
  /-- A REPL_ACK (R382): the highest RSEQ staged in order. -/
  | replAck (rseq : Nat)
  /-- A SIG message (R389). -/
  | sig (m : SigRec)
  /-- A COPY_REQ (R385): a 4 KiB unit, first those of the LUT pool, then those of the cellar; none asks for the snapshot. -/
  | copyReq (unit : Option Nat)
  /-- A COPY_DATA with a unit: its bytes, and the 32 B words marked errored (R387) by their number in the unit. -/
  | copyData (unit : Nat) (data : List Byte) (errored : List Nat)
  /-- A COPY_DATA with the snapshot (R385). -/
  | snapshot (x : Snap)
  /-- A firmware slot written to flash (R445): slot, UPDATE_SEQ of its record, image. -/
  | flashSlot (slot seq : Nat) (image : List Byte)
deriving DecidableEq, Repr

end Sys2Proof.Machine
end

