-- ==== Sys2Proof/Machine/State.lean ====
section
/-! DEFINITION. The state of the block: everything the manual gives it, as plain data, and its value at reset. Registers
of BAR0 are held in one sparse map (`regs`); what the manual gives the device beside its registers stands in the
structures of the blocks. -/
namespace Sys2Proof.Machine

/-- Faults: raised by no meaning of this model, since the manual lets the block stop on no command. -/
inductive Fault where
  /-- Kept so that the type has a name to report by; no meaning raises it (safe). -/
  | unreachable
deriving DecidableEq, Repr

/-- Refusals. -/
inductive Refusal where
  /-- The command has no meaning in this model yet (safe: the run stops). Raised by `exec` alone. -/
  | notModelled (mnemonic : String)
deriving DecidableEq, Repr

/-- Plane states (00_scope.md, "Indices and names"; R375). -/
inductive Plane where
  | isolated | syncing | standby | active
deriving DecidableEq, Repr

/-- The code of R107. -/
def Plane.code : Plane → Nat
  | .isolated => 0
  | .syncing => 1
  | .standby => 2
  | .active => 3

/-- An audio sample (R251): 24 bits in two's complement, and V, U, C and B. Its default is the sample of R252. -/
structure AudWord where
  smp : Nat := 0
  v : Bool := true
  u : Bool := false
  c : Bool := false
  b : Bool := false
deriving DecidableEq, Repr

/-- A group of a de-embedder (R255, R256): whether it releases samples, its buffer of up to 32 (four channels each), the
sample released last, whether a run of repeats is on, the tick it was last present, a wrong sampling frequency. -/
structure DeGroup where
  run : Bool := false
  q : List (List AudWord) := []
  last : List AudWord := []
  rep : Bool := false
  seen : Nat := 0
  bad : Bool := false
deriving DecidableEq, Repr

/-- A sample instant of a re-embedded group that waits for a record (R264, R266): group, its four samples, the instant's count from
H = 0, records it has moved past. -/
structure ReSample where
  g : Nat
  x : List AudWord
  inst : Nat := 0
  moved : Nat := 0
deriving DecidableEq, Repr

/-- A TDM port (R268, R271 to R275): frames received and not yet handed over, by their number since the start, with the frame handed
over last and those on their way into the matrix (instant, number, samples); frames to send with the one sent last, and what the
last frame on DOUT leaves for the cycles of the next; whether each direction's buffer runs; frames since the start; instant of the
last internal frame; FSYNCs at their place in a row, up to 5; a block that has begun (seconds, nanoseconds); blocks so far. -/
structure TdmPort where
  inQ : List (Nat × List Nat) := []
  inLast : Nat × List Nat := (0, [])
  inWait : List (Nat × Nat × List Nat) := []
  outQ : List (List Nat) := []
  outLast : List Nat := []
  outTail : List Bool := []
  inRun : Bool := false
  outRun : Bool := false
  frames : Nat := 0
  at_ : Option Nat := none
  good : Nat := 0
  block : Option (Nat × Nat) := none
  blocks : Nat := 0
deriving DecidableEq, Repr

/-- The audio matrix (chapter 08): the sample instant last produced, counted from H = 0; the samples of source and
destination channels at it, and of destination channels one and two instants before; pending takes, commits, fades; groups of
de-embedders, key 8i + g, and the groups seen in the frame in progress, by i; samples to re-embed, by i; ports; the sum of the
steps of H that transmit stamps have jumped by (R277), in units of 1/40500 ns. -/
structure AudHid where
  inst : Nat := 0
  src : List (Nat × AudWord) := []
  dst : List (Nat × AudWord) := []
  dst1 : List (Nat × AudWord) := []
  dst2 : List (Nat × AudWord) := []
  pend : List PendAud := []
  commits : List AudCommit := []
  fades : List Fade := []
  de : List (Nat × DeGroup) := []
  deSeen : List (Nat × Nat) := []
  re : List (Nat × List ReSample) := []
  tdm : List (Nat × TdmPort) := []
  step : Int := 0
deriving DecidableEq, Repr

/-- A request that waits for the stack (R285, R286): an aperture access of a channel (offset, dwords; the data and whether every byte
enable is set), the register access of a requester behind one (R311, R313, R316), a write of a class, a unit read for the twin or
stored in a resync (R385). -/
inductive CelReq where
  | bdpRead (c o n : Nat)
  | bdpWrite (c o : Nat) (data : List Word) (whole : Bool)
  | regRead (rq : Req) (a : Nat)
  | regWrite (rq : Req) (a : Nat) (v : Word) (host : List (BitVec 128 × List Byte))
  | write (k a : Nat) (bs : List Byte)
  | copy (n : Nat)
  | unit (n : Nat) (data : List Byte) (errored : List Nat)
deriving DecidableEq, Repr

/-- The cellar controller (chapter 09). `mem` is the stack by physical location (R279), in the canonical form of a sparse
memory; `flips` the wrong bits of stored 32 B words (R292); `lines` the live lines read and not yet used; `rows` the open
row of each bank with its last access (R282); `debt` refreshes postponed and `refAt` the last refresh interval's start of
each bank (R283); `lost` the fence reads that a reset of the controller discarded (R288); `wait` the requests that wait for the stack,
false where such a reset has discarded one; `scrubAt` the start of the scrubber's period, `scrubPos` the word it reads next (R291). -/
structure CelHid where
  mem : List (Nat × Byte) := []
  flips : List (Nat × Nat) := []
  training : Bool := false
  exiting : Bool := false
  wakeAt : Nat := 0
  lastReq : Nat := 0
  rows : List (Nat × Nat × Nat) := []
  debt : List (Nat × Nat) := []
  refAt : List (Nat × Nat) := []
  lines : List (CelReader × List Byte) := []
  lost : List (Nat × Nat) := []
  wait : List (Bool × CelReq) := []
  scrubAt : Nat := 0
  scrubPos : Nat := 0
deriving DecidableEq, Repr

/-- The command processor and the host interface beside their registers (chapters 10, 11). `mgmtOfs` is where in its window the
management port goes on (R315, log 65). `unmasked`, `pba` and `msix` are the MSI-X tables (R299, R319): the vectors unmasked, those
pending, and address and data of the entries, key 32p + v; `msiOwed` the messages that wait for Bus Master Enable, `msiFor` the causes
whose message is pending or owed: partition, vector, cause. `mps` and `mrrs` are the codes of Max Payload Size and Max Read Request
Size by function (R298). `rrPart` and `rrRing` are the partition, and by partition the ring, served last (R328), plus one. -/
structure CmdHid where
  nextId : Nat := 0
  bells : Nat := 0
  ann : List Ann := []
  flight : List Flight := []
  fetched : List Desc := []
  live : List Tok := []
  due : List Due := []
  evq : List Evt := []
  lostCls : List (Nat × Nat) := []
  marks : List PendMark := []
  fences : List PendFence := []
  reads : List PendRead := []
  holdoffs : List Holdoff := []
  unmasked : List (Nat × Nat) := []
  pba : List (Nat × Nat) := []
  vfEnable : Bool := false
  perst : Bool := true
  subsys : Word := 0
  mgmtOfs : Nat := 0
  msiOwed : List (Nat × Nat) := []
  msix : List (Nat × (BitVec 64 × Word)) := []
  msiFor : List (Nat × Nat × Nat) := []
  mps : List (Nat × Nat) := []
  mrrs : List (Nat × Nat) := []
  rrPart : Nat := 0
  rrRing : List (Nat × Nat) := []
deriving DecidableEq, Repr

/-- The fault collector's masking windows (R408): block and end, in ticks; the forcing of R394. -/
structure FltHid where
  windows : List (Nat × Nat) := []
  forceAll : Bool := false
  fatal : Bool := false
  waiting : List ForcedStart := []
  safePend : List (Nat × Word) := []
deriving DecidableEq, Repr

/-- The performance monitors (chapter 14): event counters by index, what occurred in the current monitor tick,
top-down counters by 4u + k, sampling counts; `modePend` lists the counters whose MODE was written since the tick and is not in
force yet (R415). -/
structure PmuHid where
  cnt : List (Nat × Nat) := []
  seen : List Nat := []
  td : List (Nat × Nat) := []
  sampN : Nat := 0
  dropsBefore : Nat := 0
  notified : Bool := false
  condWas : List Nat := []
  modePend : List Nat := []
deriving DecidableEq, Repr

/-- The weave and the cadences (chapters 02, 03). `lastRec` holds the record of a source signal that entered its bus last, key
8 slot + base, with its serial number; `emitted` what a destination signal, key 8d + m, sent last, as 2 × the
serial number, or 2 × the line of a BLACK record + 1; `genPic` the
picture words of the slate line a generator emits (R49); `sampled` the frame of a source signal's latest alignment sample (R90);
`entered` the alignment at which the record on a source bus came (R214), key 8 slot + base; `probe`
the record that passes the armed probe's point (R61). -/
structure XptHid where
  cads : List (Nat × Cad) := []
  takes : List PendTake := []
  cadOps : List PendCad := []
  salvos : List Salvo := []
  judging : List Judging := []
  salvoEnds : List SalvoEnd := []
  genWait : List (Nat × GenWait) := []
  genOn : List (Nat × GenRun) := []
  fixed : List Nat := []
  fellBack : List Nat := []
  fixedDue : List Nat := []
  missed : List (Nat × Nat) := []
  lastRec : List (Nat × Nat × LineRec) := []
  emitted : List (Nat × Nat) := []
  serial : Nat := 0
  genPic : List (Nat × List BusWord) := []
  sampled : List (Nat × Nat) := []
  entered : List (Nat × Int) := []
  probe : Option LineRec := none
deriving DecidableEq, Repr

/-- A frame buffer (R217): the number of the input frame it holds, counted per channel (0: none), the tick at which its
line 1 record began, its source frame number, the records in it (line, words, source frame number), and whether the frame's last
line has been written. -/
structure FsBuf where
  seq : Nat := 0
  begun : Nat := 0
  frame : Nat := 0
  lines : List (Nat × Nat × Nat) := []
  complete : Bool := false
deriving DecidableEq, Repr

/-- A channel of a frame synchroniser: loss of input (R219), the buffer being written, the frames held, the frame being
read and the one read last (R218), whether the output frame is black, and the records in DELAY with the line starts
they still wait for. -/
structure FsChan where
  lastBegin : Nat := 0
  lost : Bool := false
  seq : Nat := 0
  cur : Option Nat := none
  bufs : List FsBuf := [{}, {}, {}]
  reading : Option Nat := none
  lastSeq : Nat := 0
  black : Bool := true
  delay : List (Nat × Nat × Nat) := []
deriving DecidableEq, Repr

/-- A region (R244, R245): the bytes of the lines delivered in this frame, the previous frame's result, the frame judged
last, the run of mismatches. -/
structure SigAcc where
  lines : List (Nat × List Byte) := []
  prev : Option Word := none
  judged : Option Nat := none
  run : Nat := 0
deriving DecidableEq, Repr

/-- A record on its way through an engine (R212 to R216): whether it is of a black frame, and where it stands against the house line
of its number, in core cycles: 189 cycles before the output enters its bus. -/
structure EngTodo where
  black : Bool
  rec_ : LineRec
  at_ : Int
deriving DecidableEq, Repr

/-- Engines (chapter 07). Keys: 4e + k for channels, 4e + r for regions, e for engines. `b` holds the records of input B with the tick
and the alignment they arrived at, `todo` what is to be composed, `outAt` the alignment of the output made last, `inAt` that of the
records of input A, each less 189 cycles; `engReads` the fence reads in flight that members await, `oldReads` those none awaits. -/
structure EngHid where
  restart : List Nat := []
  pend : List PendEng := []
  groups : List FlipGroup := []
  fs : List (Nat × FsChan) := []
  b : List (Nat × List (Nat × Int × LineRec)) := []
  todo : List (Nat × EngTodo) := []
  outAt : List (Nat × Int) := []
  inAt : List (Nat × Int) := []
  lay : List (Nat × List Word) := []
  ready : List (Nat × LineRec) := []
  sig : List (Nat × SigAcc) := []
  wb : List (Nat × Nat) := []
  lastOut : List (Nat × Nat) := []
  lut : List (Nat × Byte) := []
  decisions : List Decision := []
  engReads : List (Nat × Nat) := []
  oldReads : List (Nat × Nat) := []
deriving DecidableEq, Repr

/-- A line of the larder (R147, R153, R158): the pixel groups written, as runs from a pixel pair on (each group 40 bits,
Cb Y Cr Y), and the ANC words written. -/
structure LarLine where
  segs : List (Nat × List Nat) := []
  anc : List BusWord := []
deriving DecidableEq, Repr

/-- A receive entry that is not a secondary (R154 to R161). `from_` is
the tick at which it may start to match, none once it matches; `g0` the time of grid
frame 0 and times in units of 1/40500 ns; `next` the next record to play, counted in raster lines from g0; `hist` the
sequence numbers of the last 4,096 packets written and `hi` the latest; `prev` the pixel groups of the last picture
record; `empty` picture lines in a row without a packet; `first` whether the last grid frame's first active line was
whole; `wrote` whether a packet was written since the entry is LOST; `abuf` audio samples by their count from time 0,
`conceal` the packet of the last concealed sample, `phase` the first count of the latest audio packet. -/
structure FlowRx where
  from_ : Option Nat := none
  g0 : Option Nat := none
  next : Nat := 0
  lines : List (Nat × LarLine) := []
  prev : List Nat := []
  hist : List Nat := []
  hi : Nat := 0
  empty : Nat := 0
  first : Bool := false
  wrote : Bool := false
  abuf : List (Nat × List Nat) := []
  conceal : Option Nat := none
  phase : Nat := 0
deriving DecidableEq, Repr

/-- A receive entry as a leg (R154, R160, R161): the time of frame 0 of its own grid, on its own DOMAIN counter in units of
1/40500 ns; the tick of its last packet written or duplicated, frames off the grid in a row, the timestamp of the last of them. -/
structure FlowLeg where
  g0 : Option Nat := none
  lastPkt : Nat := 0
  bad : Nat := 0
  badT : Option Nat := none
deriving DecidableEq, Repr

/-- A packet built and not yet queued (R165 to R167): RTP header and payload, and the tick at which the last word it carries
left the destination multiplex, and its time in the schedule of SHAPE, in units of 1/40500 ns of the ticks (0: none). -/
structure FlowPkt where
  rtp : List Byte
  left : Nat
  due : Nat := 0
deriving DecidableEq, Repr

/-- A transmit entry (R149, R165, R166): DOMAIN time of the latest two starts of house line 1 since it began, newest first, in
units of 1/40500 ns (0 once it ends); next sequence number; pixel groups not yet in a packet (line, field, first pixel pair,
groups); packets built, `sent` of them in the frame or field in progress; audio samples of the packet in progress with the DOMAIN
time of the first and the steps of R277. -/
structure FlowTx where
  hs : List Nat := []
  seq : Nat := 0
  part : List (Nat × Nat × Nat × List Nat) := []
  pkts : List FlowPkt := []
  sent : Nat := 0
  samples : List (List Nat) := []
  first : Int := 0
deriving DecidableEq, Repr

/-- A frame in a transmit queue (R139, R144), without FCS: its queue, its flow, or for a host frame the ring entry and its descriptor. -/
structure TxFrame where
  queue : Nat
  bytes : List Byte
  flow : Option Nat
  host : Option (Nat × BitVec 128)
deriving DecidableEq, Repr

/-- A sub-port (R139, R140, R144): queues, the frame on the wire with the DOMAIN it is timed by and the time of that counter at
which it started (seconds and nanoseconds), pause ends of queues in 10 ps, host frames that wait for room, the ring sizes and bases
in force; while Bus Master Enable is 0, what the host has announced and the device not read, and the DONE words not written
(address and dword). -/
structure EthPort where
  queues : List (Nat × List TxFrame) := []
  wire : Option (TxFrame × Nat × Nat × Nat) := none
  paused : List (Nat × Nat) := []
  hostWait : List TxFrame := []
  txSize : Nat := 0
  rxSize : Nat := 0
  txBase : Nat := 0
  rxBase : Nat := 0
  announced : List (BitVec 128 × List Byte) := []
  done : List (Nat × Nat) := []
deriving DecidableEq, Repr

/-- Packet flows and Ethernet ports (chapter 05): the flow table and what each entry holds, by index; entries deleted that
send to the end of their frame, with their words; records ready for the source bus, key 8 slot + base; sub-ports, key
4p + k. -/
structure FlwHid where
  tbl : List (Nat × BitVec 512) := []
  rx : List (Nat × FlowRx) := []
  legs : List (Nat × FlowLeg) := []
  tx : List (Nat × FlowTx) := []
  dying : List (Nat × BitVec 512 × FlowTx) := []
  ready : List (Nat × LineRec) := []
  ports : List (Nat × EthPort) := []
deriving DecidableEq, Repr

/-- A system time counter (R171): seconds, nanoseconds, 2⁻⁴⁸ fractions, the increment in use. -/
structure TCnt where
  sec : Nat := 0
  ns : Nat := 0
  frac : Nat := 0
  incr : Nat := 2 * 2 ^ 48
deriving DecidableEq, Repr

/-- An entry of a transmit timestamp queue (R178): TS_ID, seconds, nanoseconds, domain. -/
structure TxTs where
  id : Nat
  sec : Nat
  ns : Nat
  dom : Nat
deriving DecidableEq, Repr

/-- Time counters and timestamp queues, key 4p + k (chapter 06). -/
structure PtpHid where
  tc0 : TCnt := {}
  tc1 : TCnt := {}
  txts : List (Nat × List TxTs) := []
deriving DecidableEq, Repr

/-- A resync (R385): the phase as RED_SYNC_STAT codes it; the next unit of BULK to ask for and the one asked for again (R387);
replicated descriptors queued since it began; 4 KiB pages written here since (R386), cellar pages after the 5,120 of the
LUT pool; `caught` and `settle` the ticks of CATCH_UP and of SETTLE's end. -/
structure Sync where
  phase : Nat := 0
  next : Nat := 0
  again : Option Nat := none
  queue : List ReplMsg := []
  wrote : List Nat := []
  caught : Nat := 0
  settle : Nat := 0
deriving DecidableEq, Repr

/-- Blocks of one partner message that wait for a lane (R377): whether it travels in the response channel, whether the first of them
starts it, how many they are. -/
structure PartnerSeg where
  rsp : Bool
  start : Bool
  blocks : Nat
deriving DecidableEq, Repr

/-- Plane redundancy and the lease (chapter 12). Times are ticks. `hellos` are the nonces of the last four HELLOs with their send
times; `heard` the last GRANT or ACK heard; `recov` the end of the recovery window; `hbAt` the last heartbeat. Of the twin's
heartbeats: its H at sending and ours at receipt of the last (`lastHb`), the latest frame start of each cadence as (frame, H of
this device), whether it has held an epoch since POR, RED_REPL_TX before it became ACTIVE (R381). `conflict` says that R374
holds, `owed` that this device is to leave ACTIVE for it; `txRd` is the running disparity of LEASE_TX (R362); `stripe` and `queues`
are the lane that the next block of a partner message goes to, and what waits for each of lanes 576 to 583 (R377); `rx` the epoch and RSEQ received last. `stopped` says that a resync was stopped (R388). `snapAsked` is a snapshot the twin waits for. `sigs` holds this device's line
signatures with the tick each was made, `twinSigs` the active's that came first, `runs` the mismatches in a row by destination
signal (R390), `lutCrc` the CRC of each LUT set as last written (R391). -/
structure RedHid where
  plane : Plane := .isolated
  tExp : Option Nat := none
  hellos : List (Nat × Nat) := []
  helloAt : Option Nat := none
  healthAt : Option Nat := none
  healthSent : List Byte := []
  heard : Option Nat := none
  recov : Nat := 0
  hbAt : Option Nat := none
  hbSent : Option Nat := none
  lastHb : Option (Nat × Nat) := none
  twinFrames : List (Nat × Nat × Nat) := []
  twinEver : Bool := false
  txPre : Option Nat := none
  conflict : Bool := false
  owed : Bool := false
  txRd : Bool := false
  stripe : Nat := 0
  queues : List (Nat × List PartnerSeg) := []
  rx : Option (Nat × Nat) := none
  sync : Option Sync := none
  stopped : Bool := false
  snapAsked : Bool := false
  sigs : List (SigRec × Nat) := []
  twinSigs : List (SigRec × Nat) := []
  runs : List (Nat × Nat) := []
  lutCrc : List (Nat × Nat) := []
deriving DecidableEq, Repr

/-- House time and the DPLL (chapter 06). `h` counts H in units of 10⁻¹¹ × 2⁻⁴⁸ ns, so that a tick of any increment and
any frequency offset of REF_DPLL_FREQ adds a whole number; `p` is the pending phase P in the same units. `current` is the
reference tracked, `chosenBefore` whether a reference was ever chosen since reset (R194), `lastQl` the QL of the reference last
selected, `holdEnd` the tick at which a hold-off ends, `failed` the references marked failed, `wtr` the ends of waits to restore,
`err` the phase errors measured last (references 2 to 14), `selAt` the tick of the next evaluation. `hoAt` and `hoNext` are the
ticks of the entry into HOLDOVER and of the next update. `secF`, `secT`, `secN` sum frequency and temperature over the locked
second in progress, `secs` holds the last AVG_S of them, `lockSecs` counts them (R197). `histAt`, `histH`, `histLocked` are the
start of a history interval, H then, and whether it was LOCKED throughout (R196). `twinQl` and `twinSelf` are what the twin's
heartbeats say; `measP` is P at the last measurement (R195); `lockSum`, `lockN` sum the frequency errors of the second in progress, `lockGood`
are the seconds in a row within 10 ppb, `lockBad` whether the last exceeded 100 ppb (R193). `calDay` is the local day number whose midnight has been counted (R202). `pulses` is the number of the last instant
of each SYNC_OUT pin, and of PPS_OUT under 4 (R183). -/
structure RefHid where
  h : Nat := 0
  p : Int := 0
  current : Option Nat := none
  chosenBefore : Bool := false
  lastQl : Nat := 15
  holdEnd : Option Nat := none
  failed : List Nat := []
  wtr : List (Nat × Nat) := []
  err : List (Nat × Int) := []
  selAt : Nat := 0
  hoAt : Nat := 0
  hoNext : Nat := 0
  secF : Int := 0
  secT : Int := 0
  secN : Nat := 0
  secs : List (Int × Int) := []
  lockSecs : Nat := 0
  histAt : Nat := 0
  histH : Nat := 0
  histLocked : Bool := false
  measP : Int := 0
  lockSum : Int := 0
  lockN : Nat := 0
  lockGood : Nat := 0
  lockBad : Bool := false
  twinQl : Nat := 15
  twinSelf : Bool := false
  calDay : Int := 0
  pulses : List (Nat × Int) := []
deriving DecidableEq, Repr

/-- The steps of a firmware update that has passed its header check (R445): tracker entry, cellar address, length,
VERSION of the image. -/
structure FwUpd where
  tok : Nat
  addr : Nat
  len : Nat
  version : Nat
deriving DecidableEq, Repr

/-- Resets, clocks and boot (chapters 15, 16): the blocks held in reset (R429), POR asserted, RESET_N low, a soft reset
due (R427), the ends of block resets by their bit (R428), the root secret as sensed (R433) and whether it was sensed while
RESET_N was low, the slots the boot ROM has still to try (R440), the update and the derivation in progress,
the label bytes and USE taken by DERIVE, the floor an advance goes to (R448), the rails outside tolerance, the clocks that run (SYS_CLK_STAT[31:24]),
whether a sensor has read 120 °C (R459), the sensors that have a PEAK. -/
structure SysHid where
  held : List Blk := [.hif, .key, .boot, .sys, .cmd, .xpt, .ref, .ptp, .eth, .flw, .aud, .eng, .cel, .zl, .red, .flt, .pmu, .noc]
  por : Bool := true
  rstLow : Bool := false
  softDue : Bool := false
  blkEnds : List (Nat × Nat) := []
  root : List Byte := []
  sensedLow : Bool := false
  toTry : List Nat := []
  fw : Option FwUpd := none
  derive_ : Option (List Byte × Nat) := none
  rbTo : Option Nat := none
  railOut : List Nat := []
  clk : BitVec 8 := 0
  hot : Bool := false
  peaked : List Nat := []
deriving DecidableEq, Repr

/-- A signal's record in progress on a receive lane (R115 to R121), key 16n + 8 slot + base: whether it is open and whether a
record came before; what its descriptor says; its words, those placed on the bus, and the cycle of the pass that takes the last
of them. -/
structure RxSig where
  open_ : Bool := false
  had : Bool := false
  line : Nat := 0
  frame : Nat := 0
  total : Nat := 0
  cls : Nat := 0
  member : Nat := 0
  words : List BusWord := []
  placed : List BusWord := []
  dep : Nat := 0
deriving DecidableEq, Repr

/-- A word on its way out of a lane (R106, R122): its signal as 8 slot + base, the descriptor that goes before it, the word. -/
structure TxEl where
  sig : Nat
  desc : Option BusWord
  word : BusWord
deriving DecidableEq, Repr

/-- A PRBS checker (R130): its register, the latest bit lowest; bits taken since it started, error-free bits in a row, and while
locked the bits since the lock with the places of the errors among the last 1,024. -/
structure PrbsChk where
  reg : Nat := 0
  filled : Nat := 0
  good : Nat := 0
  pos : Nat := 0
  errs : List Nat := []
deriving DecidableEq, Repr

/-- A lane beside its registers (chapter 04). Receive: when it entered its training state, the judgements of the last 8
frames (R109), the previous frame's blocks and whether the next frame is the first after alignment (R108), the frames counted
towards the next state (R125), passing headers whose USE equals this lane's, the version settled on and the OFFER it was
settled with (R126). Transmit: words that have not left the stage table's last stage, the queue of R106, signals that owe an
ERRORED block, the previous frame's blocks. Test: the frame that a loopback returns (R129), the PRBS generator's register once it has
run, the checker. -/
structure LaneHid where
  since : Nat := 0
  judged : List Bool := []
  prevBlocks : List BusWord := []
  first : Bool := true
  passes : Nat := 0
  useEq : Nat := 0
  use : Nat := 0
  offer : Nat := 0
  txWait : List TxEl := []
  txQ : List TxEl := []
  txErr : List Nat := []
  txPrev : Option (List BusWord) := none
  loop : Option (List Bool) := none
  gen : Option Nat := none
  chk : PrbsChk := {}
deriving DecidableEq, Repr

/-- Lanes and peers: lanes by number; signals being received; records received and not yet on the source bus, key 8 slot +
base, oldest first; CRC-32C and CRC-16 of the record sent last, key 8d + m; peer windows: peer, end, lanes held back (R132). -/
structure ZlHid where
  lanes : List (Nat × LaneHid) := []
  rx : List (Nat × RxSig) := []
  ready : List (Nat × LineRec) := []
  txCrc : List (Nat × Nat × Nat) := []
  windows : List (Nat × Nat × List Nat) := []
deriving DecidableEq, Repr


/-- The whole block. -/
structure State where
  /-- Commands waiting, first in first out. -/
  pending : List Instr := []
  /-- BAR0 registers that differ from their reset value, by address, rising (00_scope.md, R3). -/
  regs : List (Nat × Word) := []
  /-- Read latches of R5, by requester and address of the high half. -/
  latches : List ((Req × Nat) × Word) := []
  /-- Low halves held under R6, by requester and address. -/
  held : List ((Req × Nat) × Word) := []
  /-- What has left the device, oldest first (the model's own record of its pins and links). -/
  out : List Output := []
  /-- The model's own counter: which free value comes next. -/
  free : Nat := 0
  /-- Cycles of the 500 MHz system time clock since power-on: the model's measure of time. -/
  ticks : Nat := 0
  /-- Command processor and host interface. -/
  cmd : CmdHid := {}
  /-- Fault collector. -/
  flt : FltHid := {}
  /-- Performance monitors. -/
  pmu : PmuHid := {}
  /-- Weave and cadences. -/
  xpt : XptHid := {}
  /-- Time counters. -/
  ptp : PtpHid := {}
  /-- Lease, plane state, partner link. -/
  red : RedHid := {}
  /-- Packet flows. -/
  flw : FlwHid := {}
  /-- Audio matrix. -/
  aud : AudHid := {}
  /-- Lanes. -/
  zl : ZlHid := {}
  /-- Engines. -/
  eng : EngHid := {}
  /-- Cellar controller. -/
  cel : CelHid := {}
  /-- House time and the DPLL. -/
  ref : RefHid := {}
  /-- Resets and clocks. -/
  sys : SysHid := {}
deriving DecidableEq, Repr

/-- The machine right after reset: every field at the value its declaration gives (the manual's reset value, or the
value that notes/assumptions names). -/
def State.reset : State := {}

end Sys2Proof.Machine
end

