-- ==== Sys2Proof/Machine/Ops.lean ====
section
/-! DEFINITION. The operations every family shares: reading and writing registers, counting, output, time, free
values. -/
namespace Sys2Proof.Machine

/-- The word a register element holds. -/
def State.rd (s : State) (r : Reg) (i : List Nat) : Word := getD (r.resetWord i) s.regs (r.addr i)

/-- Put a word into a register element. -/
def State.wr (s : State) (r : Reg) (i : List Nat) (w : Word) : State :=
  { s with regs := putD (r.resetWord i) s.regs (r.addr i) w }

/-- The value of a field. -/
def State.g (s : State) (f : FR) (i : List Nat) : Nat := f.of (s.rd f.reg i)

/-- Whether a one-bit field is 1. -/
def State.on (s : State) (f : FR) (i : List Nat) : Bool := s.g f i != 0

/-- Put a value into a field. -/
def State.p (s : State) (f : FR) (i : List Nat) (v : Nat) : State := s.wr f.reg i (f.into v (s.rd f.reg i))

/-- Raise a counting field by `n`, saturating at the field's largest value. -/
def State.bump (s : State) (f : FR) (i : List Nat) (n : Nat) : State :=
  s.p f i (satAdd (2 ^ (f.hi + 1 - f.lo) - 1) (s.g f i) n)

/-- Raise a counting field by `n`, modulo the field's size. -/
def State.inc (s : State) (f : FR) (i : List Nat) (n : Nat) : State := s.p f i (s.g f i + n)

/-- Restore a register element to its reset value. -/
def State.restore (s : State) (r : Reg) (i : List Nat) : State := s.wr r i (r.resetWord i)

/-- A field read in a protection set-up recorded earlier (R306). -/
def gIn (m : List (Nat × Word)) (f : FR) (i : List Nat) : Nat := f.of (getD (f.reg.resetWord i) m (f.reg.addr i))

/-- What leaves the device. -/
def State.emit (s : State) (o : Output) : State := { s with out := s.out ++ [o] }

/-- Blocks of a partner message (R377, R388): a unit of 4 KiB takes 275. -/
def partnerBlocks : Output → Nat
  | .heartbeat m => 1 + Sys2Proof.Config.partnerLen 0 m.frames.length
  | .repl m => 1 + Sys2Proof.Config.partnerLen 1 m.content.length
  | .replAck _ => 1 + Sys2Proof.Config.partnerLen 2 0
  | .decision _ => 1 + Sys2Proof.Config.partnerLen 3 0
  | .sig _ => 1 + Sys2Proof.Config.partnerLen 4 0
  | .copyReq _ => 1 + Sys2Proof.Config.partnerLen 5 0
  | .copyData _ _ _ => 275
  | .snapshot x => 1 + Sys2Proof.Config.partnerLen 6 x.regs.length
  | _ => 0

/-- Whether a partner message travels in the response channel (R378). -/
def partnerRsp : Output → Bool
  | .replAck _ => true
  | .copyData _ _ _ => true
  | .snapshot _ => true
  | _ => false

/-- Partner lanes in UP, counted from lane 576 (RED_PARTNER_STAT.LANES). -/
def partnerUps (s : State) : List Nat := (List.range 8).filter (fun i => bitOf (s.g F.RED_PARTNER_STAT_LANES []) i)

/-- A message on the partner link (R377): its blocks are striped over the lanes in UP, one to each in turn. Without a lane in UP it
is lost. -/
def State.tell (s : State) (o : Output) : State :=
  let up := partnerUps s
  let u := up.length
  let n := partnerBlocks o
  let at_ := fun (i : Nat) => (i + u - s.red.stripe % u) % u
  let qs := ((List.range u).zip up).foldl (fun q x =>
    let k := (n + u - 1 - at_ x.1) / u
    if k = 0 then q else put q x.2 (getD [] q x.2 ++ [PartnerSeg.mk (partnerRsp o) (at_ x.1 == 0) k])) s.red.queues
  ({ s with red := { s.red with queues := qs, stripe := if u = 0 then 0 else (s.red.stripe + n) % u } }).emit o

/-- Take the next free value: an uninterpreted value of `w` bits. -/
def State.freeNat (s : State) (w : Nat) : Nat × State :=
  ((Sys2Proof.Config.freeValue s.free).toNat % 2 ^ w, { s with free := s.free + 1 })

/-- Ticks in a microsecond and in a millisecond (the 500 MHz system time clock). -/
def usTicks (n : Nat) : Nat := 500 * n
def msTicks (n : Nat) : Nat := 500000 * n

/-- An event counter's value (R414). -/
def State.cnt (s : State) (e : Nat) : Nat := getD 0 s.pmu.cnt e

/-- An event occurred in the current tick of the monitor clock (R415, LEVEL mode). -/
def State.seeEvent (s : State) (e : Nat) : State :=
  if s.pmu.seen.contains e then s else { s with pmu := { s.pmu with seen := e :: s.pmu.seen } }

/-- An event counter takes a value. -/
def State.setCnt (s : State) (e v : Nat) : State := { s with pmu := { s.pmu with cnt := putD 0 s.pmu.cnt e v } }

/-- The bit of a counter in PMU_WRAP is set (R414). -/
def setWrap (e : Nat) (s : State) : State := s.p F.PMU_WRAP_WRAP [e / 32] (s.g F.PMU_WRAP_WRAP [e / 32] ||| 2 ^ (e % 32))

/-- Whether a counter is in LEVEL mode (R415): a write of MODE is in force from the next tick on. -/
def State.levelMode (s : State) (e : Nat) : Bool := s.on F.PMU_CNT_CFG_MODE [e] != s.pmu.modePend.contains e

/-- A wrap counts in WRAP, event 553 (R414, R415). -/
def countWrap (s : State) : State :=
  if s.levelMode 553 then s.seeEvent 553
  else if s.cnt 553 + 1 < 2 ^ 48 then s.setCnt 553 (s.cnt 553 + 1)
  else setWrap 553 (s.setCnt 553 1)

/-- Add to an event counter; a wrap past 2⁴⁸ sets its bit in PMU_WRAP and counts in WRAP (R414). -/
def addCounter (e n : Nat) (s : State) : State :=
  let v := s.cnt e + n
  if v < 2 ^ 48 then s.setCnt e v else countWrap (setWrap e (s.setCnt e (v % 2 ^ 48)))

/-- An occurrence of event `e` of amount `n` (R415): in EDGE mode the counter adds the amount, in LEVEL mode the
occurrence marks the current tick of the monitor clock. -/
def State.count (s : State) (e n : Nat) : State :=
  if s.levelMode e then s.seeEvent e else addCounter e n s

/-- The code of the plane state (R107). -/
def State.planeCode (s : State) : Nat := s.red.plane.code

/-- Whether the device is ACTIVE, or takes its own host's takes (R92). -/
def State.isActive (s : State) : Bool := s.red.plane == .active
def State.takesHost (s : State) : Bool := s.red.plane == .active || s.red.plane == .isolated

/-- PLANE_ID as sampled (R25). -/
def State.planeId (s : State) : Nat := s.g F.SYS_STRAP_PLANE_ID []

/-- Whether the device holds a lease: the present is before t_exp (R367). -/
def State.holder (s : State) : Bool :=
  match s.red.tExp with
  | some t => decide (s.ticks < t)
  | none => false

/-- The STATE that headers and lease messages carry (R14, R107, R363): ACTIVE only under an unexpired lease. Past t_exp the device
has left ACTIVE for STANDBY (R369). -/
def State.marked (s : State) : Nat := if s.isActive && !s.holder then Plane.standby.code else s.planeCode

/-- The cadence generator c. -/
def State.cad (s : State) (c : Nat) : Cad := getD {} s.xpt.cads c

/-- Replace cadence generator c. -/
def State.setCad (s : State) (c : Nat) (k : Cad) : State :=
  { s with xpt := { s.xpt with cads := putD {} s.xpt.cads c k } }

/-- Raster lines of a format (R63). -/
def rasterLines (f : Nat) : Nat :=
  match f with
  | 0 => 1125 | 1 => 1125 | 2 => 750 | 3 => 2250 | 4 => 4500 | _ => 1

/-- Frames per second of a RATE code as a fraction (R63). -/
def rateOf (r : Nat) : Nat × Nat :=
  match r with
  | 0 => (24000, 1001) | 1 => (24, 1) | 2 => (25, 1) | 3 => (30000, 1001)
  | 4 => (30, 1) | 5 => (50, 1) | 6 => (60000, 1001) | _ => (60, 1)

/-- A legal pair of format and rate (R63). -/
def legalFormat (f r : Nat) : Bool := (f == 0 && (2 ≤ r && r ≤ 4)) || (1 ≤ f && f ≤ 4 && r ≤ 7)

/-- Raster lines of a cadence as it is set up. -/
def State.raster (s : State) (c : Nat) : Nat := rasterLines (s.g F.XPT_CAD_CFG_FORMAT [c])

/-- Frame lengths and line periods are exact: 1 second × den ÷ (num × lines). `n` line periods are shorter than `us` µs. -/
def linesShorterThanUs (fmt rate n us : Nat) : Bool :=
  let (num, den) := rateOf rate
  decide (n * den * 1000000 < us * num * rasterLines fmt)

end Sys2Proof.Machine
end

