-- ==== Sys2Proof/Machine/Events.lean ====
section
/-! DEFINITION. Interrupts (R319) and event records (R355 to R358). -/
namespace Sys2Proof.Machine

/-- An idle port of the interconnect wakes on a request (R317). -/
def wakePort (i : Nat) (s : State) : State :=
  let w := s.g F.NOC_IDLE_IDLE []
  if bitOf w i then (s.p F.NOC_IDLE_IDLE [] (w - 2 ^ i)).count (568 + i) 1 else s

/-- The vector HIF_IRQ_MAP of p binds cause k to (0 CPL, 1 EVT, 2 FLT, 3 NET), if the cause is enabled. -/
def causeVector (s : State) (p k : Nat) : Option Nat :=
  let w := (s.rd R.HIF_IRQ_MAP [p]).toNat
  if bitOf w (31 - k) then some (bitsOf w (5 * k + 4) (5 * k)) else none

/-- Start the hold-off of a cause (R319). -/
def startHoldoff (p k : Nat) (s : State) : State :=
  let h := s.g F.HIF_IRQ_MOD_HOLDOFF [p]
  let rest := s.cmd.holdoffs.filter (fun x => !(x.part == p && x.cause == k))
  if h = 0 then { s with cmd := { s.cmd with holdoffs := rest } }
  else { s with cmd := { s.cmd with holdoffs := rest ++ [⟨p, k, s.ticks + usTicks h, false⟩] } }

/-- The message of a vector of partition p goes out (R299, R319), and every cause that it speaks for begins its hold-off. -/
def msixOut (p v : Nat) (s : State) : State :=
  let mine := s.cmd.msiFor.filter (fun x => x.1 == p && x.2.1 == v)
  let (a, d) := getD (0, 0) s.cmd.msix (32 * p + v)
  let s1 := { s with cmd := { s.cmd with msiFor := s.cmd.msiFor.filter (fun x => !(x.1 == p && x.2.1 == v)) } }
  each mine (fun x t => startHoldoff p x.2.2 t) ((s1.emit (.msix p v a d)).count (16 + p) 1)

/-- Send the message of a vector of partition p (R319): a masked vector sets its pending bit; while Bus Master Enable is
clear the message waits for it (R309, DEDUCED, log 21). -/
def sendMsix (p v : Nat) (s : State) : State :=
  if !s.cmd.unmasked.contains (p, v) then
    if s.cmd.pba.contains (p, v) then s else { s with cmd := { s.cmd with pba := s.cmd.pba ++ [(p, v)] } }
  else if s.on F.HIF_PART_STAT_BME [p] then msixOut p v s
  else if s.cmd.msiOwed.contains (p, v) then s
  else { s with cmd := { s.cmd with msiOwed := s.cmd.msiOwed ++ [(p, v)] } }

/-- An interrupt cause of partition p (R319): in its hold-off it is owed, else it sends its message. -/
def raiseIrq (p k : Nat) (s : State) : State :=
  match causeVector s p k with
  | none => s
  | some v =>
    if s.cmd.holdoffs.any (fun x => x.part == p && x.cause == k && decide (s.ticks < x.until_)) then
      let hs := s.cmd.holdoffs.map (fun x => if x.part == p && x.cause == k then { x with owed := true } else x)
      { s with cmd := { s.cmd with holdoffs := hs } }
    else
      let all := s.cmd.msiFor.filter (fun x => x != (p, v, k)) ++ [(p, v, k)]
      sendMsix p v { s with cmd := { s.cmd with msiFor := all } }

/-- Entries of a ring of SIZE n (R321). -/
def ringEntries (size : Nat) : Nat := 2 ^ (size + 4)

/-- Room on the event ring of p for one more record, counting the ones that wait (R327, R358). -/
def evtRoom (s : State) (p : Nat) : Bool :=
  let n := ringEntries (s.g F.CMD_EVT_CFG_SIZE [p])
  let used := (s.g F.CMD_EVT_PTR_WRITE [p] + n - s.g F.CMD_EVT_PTR_HOST_HEAD [p]) % n
  decide (used + (s.cmd.evq.filter (fun e => e.part == p)).length + 1 < n)

/-- Event codes open to every partition (R356). -/
def evtAny (code : Nat) : Bool := code == 0 || code == 2 || code == 7 || code == 8

/-- The worst class among the events of p lost and not yet carried (R358). -/
def lostCls (s : State) (p : Nat) : Nat := getD 0 s.cmd.lostCls p

/-- Deliver an event to one partition (R355 to R358). -/
def evtTo (code cls index detail p : Nat) (s : State) : State :=
  if !s.on F.CMD_EVT_CFG_EN [p] || !bitOf (s.g F.CMD_EVT_MASK_MASK [p]) code then s
  else if evtRoom s p && s.on F.HIF_PART_STAT_BME [p] then
    let k := s.cad (s.g F.CMD_EVT_CFG_CAD [p])
    let e : Evt := ⟨p, code, cls, index, detail, s.ptp.tc0.ns, s.ptp.tc0.sec % 2 ^ 32, k.frame, k.line⟩
    { s with cmd := { s.cmd with evq := s.cmd.evq ++ [e] } }
  else
    let s1 := ((s.bump F.CMD_EVT_STAT_LOST_TOTAL [p] 1).bump F.CMD_EVT_STAT_PENDING [p] 1).count (32 + 8 * p + 7) 1
    { s1 with cmd := { s1.cmd with lostCls := putD 0 s1.cmd.lostCls p (max cls (lostCls s1 p)) } }

/-- Raise an event to the partitions of a list (R356). -/
def raiseEvent (code cls index detail : Nat) (ps : List Nat) (s : State) : State :=
  each ps (fun p => evtTo code cls index detail p) s

/-- Every partition. -/
def allParts : List Nat := [0, 1, 2, 3, 4, 5, 6, 7]

/-- A list cut into pieces of n. -/
def pieces (n : Nat) : Nat → List Byte → List (List Byte)
  | _, [] => []
  | 0, _ => []
  | m + 1, bs => bs.take n :: pieces n m (bs.drop n)

/-- A write to host memory for partition p, in requests of up to its Max Payload Size (R298); 128 B unless programmed (PRESUMED, log
118). -/
def dmaWrite (p a : Nat) (bs : List Byte) (s : State) : State :=
  let n := 128 * 2 ^ getD 0 s.cmd.mps p
  let ps := pieces n bs.length bs
  each ((List.range ps.length).zip ps) (fun x t => t.emit (.hostWrite p (a + n * x.1) x.2.length (ofLE x.2))) s

/-- Bytes of Max Read Request Size of function p (R298); 512 unless programmed (PRESUMED, log 118). -/
def readMax (s : State) (p : Nat) : Nat := 128 * 2 ^ getD 2 s.cmd.mrrs p

/-- A read of host memory for partition p, in requests of up to its Max Read Request Size. -/
def dmaRead (p a len : Nat) (s : State) : State :=
  let n := readMax s p
  each (List.range (ceilDiv len n)) (fun i t => t.emit (.hostRead p (a + n * i) (min n (len - n * i)))) s

/-- Write one event record (R353, R355): two posted writes, the second with PHASE; the record carries the lost count and
class, which then return to 0. Then the interrupt cause EVT. -/
def writeEvtRecord (e : Evt) (s : State) : State :=
  let p := e.part
  let w := s.g F.CMD_EVT_PTR_WRITE [p]
  let ph := s.g F.CMD_EVT_PTR_PHASE [p]
  let n := ringEntries (s.g F.CMD_EVT_CFG_SIZE [p])
  let lost := s.g F.CMD_EVT_STAT_PENDING [p]
  let base := (s.g F.CMD_EVT_BASE_HI_ADDR_HI [p]) * 2 ^ 32 + s.g F.CMD_EVT_BASE_LO_ADDR_LO [p] * 2 ^ 12
  let a := base + 32 * w
  let v := e.code + e.cls * 2 ^ 8 + (if lost = 0 then 0 else lostCls s p) * 2 ^ 10 + lost * 2 ^ 16 + e.index * 2 ^ 32
    + (e.detail % 2 ^ 64) * 2 ^ 64 + e.ns * 2 ^ 128 + e.sec * 2 ^ 160 + e.frame * 2 ^ 192 + e.line * 2 ^ 224
    + ph * 2 ^ 255
  let s0 := wakePort 9 (wakePort 2 s)
  let s1 := (s0.emit (.hostWrite p a 28 (v % 2 ^ 224))).emit (.hostWrite p (a + 28) 4 (v / 2 ^ 224))
  let s2 := s1.p F.CMD_EVT_PTR_WRITE [p] ((w + 1) % n)
  let s3 := if (w + 1) % n = 0 then s2.p F.CMD_EVT_PTR_PHASE [p] (1 - ph) else s2
  let s4 := s3.p F.CMD_EVT_STAT_PENDING [p] 0
  let s5 := { s4 with cmd := { s4.cmd with lostCls := putD 0 s4.cmd.lostCls p 0 } }
  raiseIrq p 1 (s5.count (32 + 8 * p + 6) 1)

end Sys2Proof.Machine
end

