-- ==== Sys2Proof/Machine/WeaveOps.lean ====
section
/-! DEFINITION. The geometry of slots, groups and entries (R30 to R44), the two banks, and the forcing of destination
signals to their safety sources (R400 to R403). -/
namespace Sys2Proof.Machine

/-- Sub-slots a signal of a class occupies (R22, R32); 8 in each member of an 8K group. -/
def subsOf (cls : Nat) : Nat :=
  match cls with
  | 1 => 1 | 2 => 2 | 3 => 4 | 4 => 8 | 5 => 8 | _ => 0

/-- The base sub-slots a class may have (R32): below 8 ÷ its sub-slots. -/
def legalBase (cls m : Nat) : Bool := subsOf cls != 0 && decide (m < 8 / subsOf cls)

/-- The sub-slots of the group with base m (R32), in rising order. -/
def groupSubs (cls m : Nat) : List Nat := (List.range (subsOf cls)).map (fun u => m + u * (8 / subsOf cls))

/-- Word period of a class in core cycles (R55). -/
def wordPeriod (cls : Nat) : Nat := if subsOf cls = 0 then 128 else 128 / subsOf cls

/-- The wait of a route in its selector (R55). -/
def routeWait (cls sSlot sBase dSlot dBase : Nat) : Nat :=
  let per := wordPeriod cls
  ((dSlot % 16 + 16 * dBase) + 128 * per - (sSlot % 16 + 16 * sBase)) % per

/-- The generator whose configuration generator g follows (R51): 4h while generator 4h is of class 8K. -/
def genLead (s : State) (g : Nat) : Nat :=
  if s.g F.XPT_GEN_CFG_CLASS [g / 4 * 4] = 5 then g / 4 * 4 else g

/-- The configuration generator g runs now (R50), and the one it follows in an 8K group (R51). -/
def genRun (s : State) (g : Nat) : GenRun := getD ⟨R.XPT_GEN_CFG.resetWord [g], 0⟩ s.xpt.genOn g
def genRuns (s : State) (g : Nat) : GenRun :=
  let x := genRun s (g / 4 * 4)
  if F.XPT_GEN_CFG_CLASS.of x.cfg = 5 then x else genRun s g

/-- Class code of sub-slot k of a source slot (R33, R35): declared for lane-facing slots, kept by the device for engine
outputs, that of the configuration the generator runs for generator slots. -/
def srcSub (s : State) (slot k : Nat) : Nat :=
  if 1216 ≤ slot then F.XPT_GEN_CFG_CLASS.of (genRuns s (slot - 1216)).cfg
  else bitsOf (s.rd R.XPT_SRC_LAYOUT [slot]).toNat (4 * k + 3) (4 * k)

/-- Class code of sub-slot k of a destination slot (R33, R35). -/
def dstSub (s : State) (slot k : Nat) : Nat := bitsOf (s.rd R.XPT_DST_LAYOUT [slot]).toNat (4 * k + 3) (4 * k)

/-- The class of the source signal whose base is (slot, m), if there is one (R40). -/
def srcClass (s : State) (slot m : Nat) : Option Nat :=
  let c := srcSub s slot m
  if legalBase c m then some c else none

/-- The class of the destination signal whose base is (slot, m), if there is one (R40). -/
def dstClass (s : State) (slot m : Nat) : Option Nat :=
  let c := dstSub s slot m
  if legalBase c m then some c else none

/-- The base of the group that sub-slot k belongs to. -/
def baseOf (cls k : Nat) : Nat := if subsOf cls = 0 then k else k % (8 / subsOf cls)

/-- Whether entry i of an array kept by signal, 8 × slot + sub-slot, belongs to a sub-slot that follows the base of its group, or to a
member of an 8K group beyond 0 (R249): `cls` gives the class codes. -/
def follower (cls : Nat → Nat → Nat) (i : Nat) : Bool :=
  let slot := i / 8
  let k := i % 8
  (slot % 4 != 0 && cls (slot / 4 * 4) 0 == 5) ||
    (List.range k).any (fun m => legalBase (cls slot m) m && (groupSubs (cls slot m) m).contains k)

/-- The slots of a signal: four members for an 8K group (R42), with their member numbers. -/
def memberSlots (cls slot : Nat) : List (Nat × Nat) :=
  if cls = 5 then [(slot / 4 * 4, 0), (slot / 4 * 4 + 1, 1), (slot / 4 * 4 + 2, 2), (slot / 4 * 4 + 3, 3)]
  else [(slot, 0)]

/-- Every entry index of a destination signal: the group's sub-slots, of all four members for 8K (R39, R43). -/
def groupEntries (cls d m : Nat) : List Nat :=
  (memberSlots cls d).flatMap (fun e => (groupSubs cls m).map (fun k => 8 * e.1 + k))

/-- The entry of R38. -/
def entryWord (valid follower : Bool) (cls bus sub member : Nat) : Word :=
  BitVec.ofNat 32 (b2n valid * 2 ^ 31 + b2n follower * 2 ^ 29 + cls * 2 ^ 26 + bus * 2 ^ 19 + sub * 2 ^ 12 + member * 2 ^ 10)

/-- The entries of a route (R39, R43): index and word of each sub-slot of each member. -/
def routeEntries (cls d m sSlot sBase : Nat) : List (Nat × Word) :=
  (memberSlots cls d).flatMap (fun e =>
    let src := if cls = 5 then sSlot / 4 * 4 + e.2 else sSlot
    (List.range (subsOf cls)).map (fun u =>
      (8 * e.1 + m + u * (8 / subsOf cls),
       entryWord true (u != 0) cls (src / 16)
         ((src % 16 + 16 * sBase + u * (128 / subsOf cls)) % 128) (if cls = 5 then e.2 else 0))))

/-- The entries of an unroute (R40): VALID clear in every entry of the group, the other fields those of the entry. -/
def unrouteEntries (s : State) (cls d m : Nat) : List (Nat × Word) :=
  (groupEntries cls d m).map (fun i => (i, (s.rd R.XPT_LOFT [i]) &&& 0x7FFFFFFF#32))

def eValid (w : Word) : Bool := w.getLsbD 31
def eForced (w : Word) : Bool := w.getLsbD 30
def eClass (w : Word) : Nat := bitsOf w.toNat 28 26
def eBus (w : Word) : Nat := bitsOf w.toNat 25 19
def eSub (w : Word) : Nat := bitsOf w.toNat 18 12

/-- The source slot and sub-slot an entry captures from (R29, R30). -/
def eSource (w : Word) : Nat × Nat := (eBus w * 16 + eSub w % 16, eSub w / 16)

/-- Listed elements of a register array as (index, word): those that differ from reset. -/
def listed (s : State) (r : Reg) (n : Nat) : List (Nat × Word) :=
  s.regs.filterMap (fun e => if r.base ≤ e.1 && e.1 < r.base + 4 * n then some ((e.1 - r.base) / 4, e.2) else none)

/-- The live entries that differ from reset (every valid entry is among them). -/
def liveEntries (s : State) : List (Nat × Word) := listed s R.XPT_LIVE 10240
def loftEntries (s : State) : List (Nat × Word) := listed s R.XPT_LOFT 10240

/-- Write entries into the loft bank. -/
def stageEntries (es : List (Nat × Word)) (s : State) : State :=
  each es (fun e t => t.wr R.XPT_LOFT [e.1] (e.2 &&& 0xBFFFFFFF#32)) s

/-- Return the loft entries of a signal to the live entries, FORCED aside (R77). -/
def unstageEntries (es : List Nat) (s : State) : State :=
  each es (fun i t => t.wr R.XPT_LOFT [i] ((t.rd R.XPT_LIVE [i]) &&& 0xBFFFFFFF#32)) s

/-- Reload the live entries of a signal from the loft bank (R76); FORCED stays as it is (R78). -/
def reloadEntries (es : List Nat) (s : State) : State :=
  each es (fun i t => t.wr R.XPT_LIVE [i]
    (((t.rd R.XPT_LOFT [i]) &&& 0xBFFFFFFF#32) ||| ((t.rd R.XPT_LIVE [i]) &&& 0x40000000#32))) s

/-- The destination signal that owns live entry i: its slot and base, member 0 for 8K (R38, R43). -/
def ownerOf (s : State) (i : Nat) : Nat × Nat :=
  let d := i / 8
  let c := dstSub s d (i % 8)
  if c = 5 then (d / 4 * 4, 0) else (d, baseOf c (i % 8))

/-- The cadence of a destination signal: its binding (R67); an engine input's is kept there by the device. -/
def dstCad (s : State) (d k : Nat) : Nat := bitsOf (s.rd R.XPT_DST_CAD [d]).toNat (3 * k + 2) (3 * k)

/-- The cadence of a source signal (R67): a generator's is that of the configuration it runs (R50). -/
def srcCad (s : State) (slot k : Nat) : Nat :=
  if 1216 ≤ slot then F.XPT_GEN_CFG_CADENCE.of (genRuns s (slot - 1216)).cfg
  else bitsOf (s.rd R.XPT_SRC_CAD [slot]).toNat (3 * k + 2) (3 * k)

/-- Distinct destination signals, key 8d + m, whose live entry is valid and names a source in the list (R400). A source
is a slot, with a sub-slot where one signal of it is meant. -/
def signalsFrom (s : State) (srcs : List (Nat × Option Nat)) : List Nat :=
  ((liveEntries s).filterMap (fun e =>
    let (sl, sub) := eSource e.2
    if eValid e.2 && srcs.any (fun x => x.1 == sl &&
        (match x.2 with | none => true | some b => b == baseOf (eClass e.2) sub)) then
      let (d, m) := ownerOf s e.1
      some (8 * d + m) else none)).eraseDups

/-- Whether a signal is forced now. -/
def isForced (s : State) (g : Nat) : Bool := s.flt.waiting.any (fun x => x.group == g)

/-- The class a destination signal has, by its key. -/
def groupClass (s : State) (g : Nat) : Nat := dstSub s (g / 8) (g % 8)

/-- The entries of a destination signal, by its key. -/
def keyEntries (s : State) (g : Nat) : List Nat := groupEntries (groupClass s g) (g / 8) (g % 8)

/-- Set or clear FORCED in the live entries of a signal (R402, R403). -/
def markForced (b : Bool) (g : Nat) (s : State) : State :=
  each (keyEntries s g) (fun i t =>
    let w := t.rd R.XPT_LIVE [i]
    t.wr R.XPT_LIVE [i] (if b then w ||| 0x40000000#32 else w &&& 0xBFFFFFFF#32)) s

/-- The check of R401: the destination layout holds a signal at that base, and the source layout a signal of the same
class at SRC_BASE, member 0 of a group for 8K. -/
def safeNamed (s : State) (d m w : Nat) : Bool :=
  let sl := bitsOf w 26 16
  let sb := bitsOf w 15 13
  match dstClass s d m, (if sl < 1280 then srcClass s sl sb else none) with
  | some c, some c' => c == c' && (c != 5 || sl % 4 == 0)
  | _, _ => false

/-- The safety source a signal takes up (R401, R402): none is BLACK. The flag says that BLACK stands in for a SOURCE, which for an
8K signal one faulted slot of the four does. -/
def safeChoice (s : State) (faulted : List (Nat × Option Nat)) (g : Nat) : Option (Nat × Nat) × Bool :=
  let w := (s.rd R.FLT_SAFE [g]).toNat
  if bitsOf w 31 30 = 1 then
    let sl := bitsOf w 26 16
    let sb := bitsOf w 15 13
    let n := if groupClass s g = 5 then 4 else 1
    let bad := faulted.any (fun x => decide (sl ≤ x.1 ∧ x.1 < sl + n) && (match x.2 with | none => true | some b => b == sb))
    if safeNamed s (g / 8) (g % 8) w && !bad then (some (sl, sb), false) else (none, true)
  else (none, false)

/-- The house line of a cadence as one number. -/
def lineKey (s : State) (c : Nat) : Nat := (s.cad c).frame * 2 ^ 13 + (s.cad c).line

/-- A signal taking up a safety source now, for the reasons listed. -/
def forcedStart (s : State) (g : Nat) (src : Option (Nat × Nat)) (why : List Nat) : ForcedStart :=
  ⟨g, src, s.xpt.serial, lineKey s (dstCad s (g / 8) (g % 8)), why⟩

/-- The signal at (slot, base) sends no record that its source began before now (R76, R403), but for one of the line its cadence
is on. -/
def skipOld (slot m : Nat) (s : State) : State :=
  let w := s.rd R.XPT_LIVE [8 * slot + m]
  let (sl, sub) := eSource w
  match find? s.xpt.lastRec (8 * sl + baseOf (eClass w) sub) with
  | some (n, r) =>
    if r.line = (s.cad (dstCad s slot m)).line then s
    else { s with xpt := { s.xpt with emitted := put s.xpt.emitted (8 * slot + m) (2 * n) } }
  | none => s

/-- Put one signal on its safety source (R402) on account of source i, 333 for the forcing of R394: a signal forced already is
held by that source too (R403). `blk` is the top bit of the source's block, for the counters. -/
def forceSignal (faulted : List (Nat × Option Nat)) (blk i g : Nat) (s : State) : State :=
  if isForced s g then
    let join := fun (x : ForcedStart) => if x.group == g && !x.why.contains i then { x with why := x.why ++ [i] } else x
    { s with flt := { s.flt with waiting := s.flt.waiting.map join } }
  else
  let (src, fell) := safeChoice s faulted g
  let s1 := markForced true g s
  let s2 := { s1 with flt := { s1.flt with waiting := s1.flt.waiting ++ [forcedStart s1 g src [i]] } }
  let s3 := when fell (fun t => t.p F.FLT_STAT_SAFE_FALLBACK [] 1) s2
  let s4 := s3.count (458 + 5 * blk + 4) 1
  if s.flt.waiting.isEmpty then s4.count 181 1 else s4

end Sys2Proof.Machine
end

