-- ==== Sys2Proof/Machine/PlaneOps.lean ====
section
/-! DEFINITION. Plane state, lease messages sent, and leaving ACTIVE (R362 to R375). -/
namespace Sys2Proof.Machine

/-- The lease key (R364, R436): the key register while it holds a key loaded with USE LEASE. -/
def leaseKey (s : State) : Option (List Byte) :=
  if s.on F.KEY_STAT_LOADED [] && s.g F.KEY_STAT_USE [] == 1 then
    some ((List.range 8).flatMap (fun i => leBytes 4 (s.rd R.KEY_REG [i]).toNat))
  else none

/-- Whether RECOVERY is 1 (R393). -/
def inRecovery (s : State) : Bool := s.red.plane == .syncing || decide (s.ticks < s.red.recov)

/-- The term the recovery window uses (R393): that of the last GRANT accepted, 50 ms if none. -/
def recoveryTerm (s : State) : Nat :=
  let t := s.g F.RED_LEASE_TERM_TERM []
  msTicks (if t = 0 then 50 else t)

/-- Open the recovery window for one term from now (R393). -/
def startRecovery (s : State) : State :=
  { s with red := { s.red with recov := max s.red.recov (s.ticks + recoveryTerm s) } }

/-- A message of R363 without its TAG. -/
def leaseBody (s : State) (type nonce : Nat) (payload : List Byte) : List Byte :=
  [BitVec.ofNat 8 type, 1, BitVec.ofNat 8 s.planeId, BitVec.ofNat 8 s.marked] ++ leBytes 4 (s.g F.RED_EPOCH_EPOCH [])
    ++ leBytes 8 nonce ++ leBytes 2 0 ++ leBytes 2 payload.length ++ payload

/-- Send a lease message (R362 to R364): nothing is sent while no lease key is loaded. -/
def sendLease (type nonce : Nat) (payload : List Byte) (s : State) : State :=
  match leaseKey s with
  | none => s
  | some k =>
    let b := leaseBody s type nonce payload
    let m := b ++ hmac k b
    let (line, rd) := codeGroups s.red.txRd (messageChars m)
    { s with red := { s.red with txRd := rd } }.emit (.lease m line)

/-- An epoch has been found (R372): 0 own GRANT, 1 ACK, 2 partner, 3 ZL echo. -/
def seeEpoch (src e : Nat) (s : State) : State :=
  if s.g F.RED_SEEN_SEEN [] < e then (s.p F.RED_SEEN_SEEN [] e).p F.RED_SEEN_SRC_SRC [] src else s

/-- Discard an open route-map image (R79): the loft bank is restored from the live bank. -/
def discardImage (s : State) : State :=
  if s.on F.XPT_BANK_CTRL_IMAGE_OPEN [] then
    (unstageEntries ((loftEntries s ++ liveEntries s).map (·.1)) s).p F.XPT_BANK_CTRL_IMAGE_OPEN [] 0
  else s

/-- A change of plane state (R375): the PLANE event of R356, the counter, and the image of R79. -/
def setPlane (p : Plane) (s : State) : State :=
  if s.red.plane = p then s else
  let old := s.red.plane
  let s1 := { s with red := { s.red with plane := p, owed := s.red.owed && old != .active } }
  let s2 := when (old == .active || old == .isolated) (when (p == .standby || p == .syncing) discardImage) s1
  raiseEvent 2 (if old = .active then 1 else 0) p.code (s2.g F.RED_EPOCH_EPOCH [] + old.code * 2 ^ 32) allParts
    (s2.count 445 1)

/-- A device under an identity clash does not leave the state it is in, unless that is ACTIVE (R27; DEDUCED, log 95). -/
def clashHolds (s : State) : Bool := s.on F.SYS_STRAP_ID_CLASH [] && s.red.plane != .active

/-- A change of plane state that R375 gives, where R27 lets it. -/
def movePlane (p : Plane) (s : State) : State := if clashHolds s then s else setPlane p s

/-- UNACKED shows what the twin has not acknowledged (R383). -/
def noteUnacked (s : State) : State :=
  let tx := s.g F.RED_REPL_TX_HI_TX [] * 2 ^ 32 + s.g F.RED_REPL_TX_LO_TX []
  let ack := s.g F.RED_REPL_ACK_HI_ACK [] * 2 ^ 32 + s.g F.RED_REPL_ACK_LO_ACK []
  if ack < tx then s.p F.RED_REPL_STAT_UNACKED [] 1 else s

/-- A RELINQUISH is sent and the lease is given up (R369, R370; DEDUCED, log 22). -/
def giveUpLease (s : State) : State :=
  let (n, s1) := s.freeNat 64
  let s2 := { s1 with red := { s1.red with tExp := none } }
  if (leaseKey s2).isSome then (sendLease 2 n [] s2).count 438 1 else s2

/-- Leave ACTIVE for STANDBY (R369, R370): the recovery window opens, and unless the lease reached t_exp it is given up. -/
def leaveActive (expired : Bool) (s : State) : State :=
  if s.red.plane = .active then
    let s1 := setPlane .standby (startRecovery (noteUnacked s))
    if expired then s1 else giveUpLease s1
  else s

end Sys2Proof.Machine
end

