-- ==== Sys2Proof/Machine/FlowOps.lean ====
section
/-! DEFINITION. Flow entries (R147) and sub-ports. -/
namespace Sys2Proof.Machine

/-- Entry f of the flow table. -/
def State.flow (s : State) (f : Nat) : BitVec 512 := getD 0 s.flw.tbl f

/-- Bits hi to lo of word w of a flow entry. -/
def fw (e : BitVec 512) (w hi lo : Nat) : Nat := bitsOf e.toNat (32 * w + hi) (32 * w + lo)

def fValid (e : BitVec 512) : Bool := fw e 0 31 31 == 1
def fTx (e : BitVec 512) : Bool := fw e 0 30 30 == 1
def fKind (e : BitVec 512) : Nat := fw e 0 29 28
def fPort (e : BitVec 512) : Nat := fw e 0 27 24
def fSub (e : BitVec 512) : Nat := fw e 0 23 22
def fPair (e : BitVec 512) : Bool := fw e 0 20 20 == 1
def fSecondary (e : BitVec 512) : Bool := fw e 0 19 19 == 1
/-- EXT, of an entry that has lines (R147): an audio entry's is ignored. -/
def fExt (e : BitVec 512) : Bool := fw e 0 18 18 == 1 && fKind e != 1
def fSlot (e : BitVec 512) : Nat := fw e 8 31 25
def fBase (e : BitVec 512) : Nat := fw e 8 24 22
def fMate (e : BitVec 512) : Nat := fw e 9 31 18

/-- Whether the sub-port of an entry has link (R170). -/
def flowLink (s : State) (e : BitVec 512) : Bool := s.on F.ETH_LINK_STAT_LINK_UP [fPort e, fSub e]

/-- The packet source signals that ETH_LINK of sub-port p.k takes with it (R399, source 92). -/
def linkSources (s : State) (p k : Nat) : List (Nat × Option Nat) :=
  s.flw.tbl.filterMap (fun x =>
    let e := x.2
    if fValid e && !fTx e && fKind e != 1 && fPort e == p && fSub e == k &&
        !(fPair e && flowLink s (s.flow (fMate e)))
    then some (fSlot e, some (fBase e)) else none)

end Sys2Proof.Machine
end

