-- ==== Sys2Proof/Machine/Faults.lean ====
section
/-! DEFINITION. The fault collector (R396 to R411): occurrences, classes and reactions, escalation, masking windows,
and the block resets a latch may apply. -/
namespace Sys2Proof.Machine

/-- The top bit of a source's block (R396). -/
def srcBlock (i : Nat) : Nat :=
  if i < 2 then 0 else if i < 4 then 1 else if i < 88 then 2 else if i < 91 then 3 else if i < 92 then 4
  else if i < 94 then 5 else if i < 97 then 6 else if i < 101 then 7 else if i < 169 then 8 else if i < 175 then 9
  else if i < 313 then 10 else if i < 321 then 11 else if i < 322 then 12 else if i < 323 then 13
  else if i < 325 then 14 else if i < 327 then 15 else if i < 328 then 16 else 17

def latched (s : State) (i : Nat) : Bool := s.on F.FLT_SRC_STAT_LATCHED [i]
def latchClass (s : State) (i : Nat) : Nat := s.g F.FLT_SRC_STAT_CLASS [i]

/-- The sources latched now: they are among the status registers that differ from reset. -/
def latchedSources (s : State) : List (Nat × Word) :=
  (listed s R.FLT_SRC_STAT 333).filter (fun e => e.2.getLsbD 31)

/-- Whether some source is latched at a class or above. -/
def anyLatchedAt (s : State) (c : Nat) : Bool := (latchedSources s).any (fun e => decide (c ≤ bitsOf e.2.toNat 30 29))

/-- Engines fed from a set of source slots, by their output slots, closed over chains of engines (R399). -/
def fedEngines (s : State) : Nat → List Nat → List Nat
  | 0, sl => sl
  | n + 1, sl =>
    let more := (liveEntries s).filterMap (fun e =>
      if eValid e.2 && 1152 * 8 ≤ e.1 && sl.contains (eSource e.2).1 then some (1152 + (e.1 / 8 - 1152) / 2) else none)
    let nx := (sl ++ more).eraseDups
    if nx.length = sl.length then sl else fedEngines s n nx

/-- Whether a quad is declared as peer p (R132). -/
def quadPeer (s : State) (q p : Nat) : Bool :=
  s.on F.ZL_QUAD_CFG_PEER_VALID [q] && s.g F.ZL_QUAD_CFG_PEER [q] == p && p != 127

/-- A lane in state UP. -/
def laneUp (s : State) (n : Nat) : Bool := s.on F.ZL_LANE_STAT_UP [n]

/-- The faulted source slots of a source (R399), with the base of one signal where one signal is meant. -/
def faultedSlots (s : State) (i inst : Nat) : List (Nat × Option Nat) :=
  if 4 ≤ i && i ≤ 83 then (List.range 16).map (fun k => (16 * (i - 4) + k, none))
  else if i = 92 then linkSources s (inst / 4) (inst % 4)
  else if i = 94 then
    let e := s.flow inst
    if fKind e = 1 then [] else [(fSlot e, some (fBase e))]
  else if 101 ≤ i && i ≤ 164 then (fedEngines s 64 [1152 + (i - 101)]).map (fun x => (x, none))
  else if 175 ≤ i && i ≤ 183 then
    ((List.range 64).map (64 * (i - 175) + ·)).flatMap (fun n => if laneUp s n then [] else [(2 * n, none), (2 * n + 1, none)])
  else if 184 ≤ i && i ≤ 310 then
    (List.range 144).flatMap (fun q => if quadPeer s q (i - 184) then (List.range 8).map (fun k => (8 * q + k, none)) else [])
  else []

/-- Whether a source has faulted slots or an affected signal at all (R398: "None" forces nothing). -/
def forces (i : Nat) : Bool :=
  (4 ≤ i && i ≤ 84) || i == 92 || i == 94 || (101 ≤ i && i ≤ 164) || (175 ≤ i && i ≤ 310)

/-- The destination signals a latched source affects (R400), by key. -/
def affected (s : State) (i inst : Nat) : List Nat :=
  if i = 84 then let (d, m) := ownerOf s inst; [8 * d + m] else signalsFrom s (faultedSlots s i inst)

/-- The faulted slots of every source latched at CRITICAL or above (R402). -/
def allFaulted (s : State) : List (Nat × Option Nat) :=
  (latchedSources s).flatMap (fun e =>
    if 2 ≤ bitsOf e.2.toNat 30 29 then faultedSlots s e.1 (bitsOf e.2.toNat 15 0) else [])

/-- Every destination signal with a valid route in the live bank (R394). -/
def routedSignals (s : State) : List Nat :=
  ((liveEntries s).filterMap (fun e =>
    if eValid e.2 then let (d, m) := ownerOf s e.1; some (8 * d + m) else none)).eraseDups

/-- Force the signals a source affects (R400, R402). -/
def forceAffected (i inst : Nat) (s : State) : State :=
  let bad := allFaulted s
  each (affected s i inst) (fun g => forceSignal bad (srcBlock i) i g) s

/-- Force every signal with a valid route (R394). -/
def forceEverything (i : Nat) (s : State) : State :=
  let s1 := { s with flt := { s.flt with forceAll := true } }
  let bad := allFaulted s1
  each (routedSignals s1) (fun g => forceSignal bad (srcBlock i) 333 g) s1

/-- The FATAL reaction (R404), or the forcing of R394 on an ACTIVE device inside its recovery window. -/
def fatalReaction (i : Nat) (s : State) : State :=
  if s.red.plane = .active && inRecovery s then forceEverything i s
  else leaveActive false { s with flt := { s.flt with fatal := true } }

/-- Whether a block is covered by an open masking window (R408). -/
def masked (s : State) (b : Nat) : Bool := s.flt.windows.any (fun w => w.1 == b && decide (s.ticks < w.2))

/-- Open a masking window on a block and its dependents (R408); a later end extends a window already open. -/
def openWindow (b : Nat) (s : State) : State :=
  let e := s.ticks + usTicks (s.g F.FLT_CFG_MASK_WIN [])
  let bs := b :: (List.range 18).filter (fun c => c != b && bitOf (s.g F.FLT_DEP_DEP [b]) c)
  let ws := bs.foldl (fun ws c => putD 0 ws c (max e (getD 0 ws c))) s.flt.windows
  { s with flt := { s.flt with windows := ws } }

/-- Record the first fault (R407): the record stands while VALID is 1. -/
def recordFirst (i inst cls : Nat) (esc inj : Bool) (s : State) : State :=
  if s.on F.FLT_FIRST_VALID [] then s else
  let w := 2 ^ 31 + cls * 2 ^ 29 + b2n esc * 2 ^ 28 + b2n inj * 2 ^ 27 + i * 2 ^ 16 + inst
  ((s.wr R.FLT_FIRST [] (BitVec.ofNat 32 w)).wr R.FLT_FIRST_NS [] (BitVec.ofNat 32 s.ptp.tc0.ns)).wr R.FLT_FIRST_SEC []
    (BitVec.ofNat 32 s.ptp.tc0.sec)

/-- The reaction of a class (R398): from DEGRADED on the FAULT event and the FLT interrupt, at CRITICAL and above the
forcing of the affected signals, at FATAL the FATAL reaction. -/
def react (i inst cls detail : Nat) (s : State) : State :=
  let s1 := when (decide (1 ≤ cls)) (fun t => raiseIrq 0 2 (raiseEvent 1 cls i detail [0] t)) s
  let s2 := when (decide (2 ≤ cls)) (forceAffected i inst) s1
  when (decide (cls = 3)) (fatalReaction i) s2

/-- Whether a latch or escalation at a class opens a masking window (R408, R398). -/
def opensWindow (i cls : Nat) : Bool := decide (cls = 3) || (decide (cls = 2) && forces i)

/-- Training state of a lane (R125), with the time of entry; outside UP it has no version (R133). -/
def setTrain (n st : Nat) (s : State) : State :=
  let s0 := if st = 6 then s else s.p F.ZL_LANE_STAT_VER [n] 0
  let s1 := (s0.p F.ZL_LANE_STAT_TRAIN_STATE [n] st).p F.ZL_LANE_STAT_UP [n] (if st = 6 then 1 else 0)
  let h : LaneHid := getD {} s1.zl.lanes n
  { s1 with zl := { s1.zl with lanes := putD {} s1.zl.lanes n { h with since := s1.ticks, passes := 0, useEq := 0 } } }

/-- Clear VALID in the alignment monitors of the signals of a source slot (R90, R127). -/
def clearAlign (slot : Nat) (s : State) : State :=
  each (List.range 8) (fun k t => t.p F.XPT_ALIGN_STAT_VALID [8 * slot + k] 0) s

/-- The mask of partner lanes in UP (RED_PARTNER_STAT.LANES). -/
def partnerLanes (s : State) : Nat :=
  (List.range 8).foldl (fun a k => a + b2n (laneUp s (576 + k)) * 2 ^ k) 0

/-- Lanes of declared quads of a peer that are not in UP (ZL_PEER_STAT.FAILED). -/
def peerFailed (s : State) (p : Nat) : Nat :=
  ((List.range 146).flatMap (fun q => if quadPeer s q p then
    ((List.range 4).map (4 * q + ·)).filter (fun n => !laneUp s n) else [])).length

/-- A lane failure (R127, R132): held back while its quad is declared, else reported at once; past the threshold the
peer is reported lost. A window that has ended reports what it held before this failure opens another. Lanes of Ethernet quads and partner lanes report nothing here (R399). -/
def laneFailure (report : Nat → Nat → State → State) (n : Nat) (s : State) : State :=
  if 576 ≤ n || s.g F.ZL_QUAD_CFG_MODE [n / 4] != 0 then s
  else
    let p := s.g F.ZL_QUAD_CFG_PEER [n / 4]
    if !quadPeer s (n / 4) p then report (175 + n / 64) n s
    else if s.on F.ZL_PEER_STAT_SUPPRESS [p] then s
    else
      let ended := s.zl.windows.find? (fun w => w.1 == p && decide (w.2.1 ≤ s.ticks))
      let s := match ended with
        | some w => each w.2.2 (fun k t => report (175 + k / 64) k (t.count 425 1))
            { s with zl := { s.zl with windows := s.zl.windows.filter (fun x => x.1 != p) } }
        | none => s
      let open_ := s.zl.windows.find? (fun w => w.1 == p)
      let (e, held) := match open_ with
        | some w => (w.2.1, if w.2.2.contains n then w.2.2 else w.2.2 ++ [n])
        | none => (s.ticks + usTicks 100, [n])
      let others := s.zl.windows.filter (fun w => w.1 != p)
      let s0 := if open_.isNone then s.count 423 1 else s
      if s0.g F.ZL_PEER_CFG_THRESH [] < held.length then
        let s1 := { s0 with zl := { s0.zl with windows := others } }
        report (184 + p) 0 ((s1.p F.ZL_PEER_STAT_SUPPRESS [p] 1).count 424 1)
      else { s0 with zl := { s0.zl with windows := others ++ [(p, e, held)] } }

/-- The records a lane has received and not yet delivered are no longer valid (R127): its source slots are 2n and 2n + 1. -/
def dropReceived (n : Nat) (s : State) : State :=
  { s with zl := { s.zl with ready := s.zl.ready.filter (fun x => x.1 / 16 != n), rx := s.zl.rx.filter (fun x => x.1 / 16 != n) } }

/-- A lane leaves UP for another training state (R127): its hold is no longer fixed (R53), its slots' alignment loses
VALID, its frame check fails (R109), and the failure is reported. -/
def leaveUp (report : Nat → Nat → State → State) (n st : Nat) (s : State) : State :=
  if laneUp s n then
    let s1 := setTrain n st s
    let s2 := if n < 576 then clearAlign (2 * n) (clearAlign (2 * n + 1) (s1.p F.XPT_RX_HOLD_HELD [n] 0)) else s1
    let s3 := (s2.p F.ZL_LANE_STAT_FCRC_FAIL [n] 1).count 418 1
    let s4 := dropReceived n
      { s3 with xpt := { s3.xpt with fixed := s3.xpt.fixed.filter (· != n), fixedDue := s3.xpt.fixedDue.filter (· != n) } }
    let s5 := if 576 ≤ n then
        let t := s4.p F.RED_PARTNER_STAT_LANES [] (partnerLanes s4)
        { t with red := { t.red with queues := drop1 t.red.queues (n - 576) } }
      else s4
    laneFailure report n s5
  else setTrain n st s

/-- RETRAIN of a lane (R127, R409). -/
def retrain (report : Nat → Nat → State → State) (n : Nat) (s : State) : State :=
  if s.on F.ZL_LANE_CTRL_RX_EN [n] then leaveUp report n 1 s else s

/-- The link of a sub-port changes (R170, R399 source 92): LINK_CHANGED, the event, the counter and the fault. -/
def setLink (report : Nat → Nat → State → State) (p k : Nat) (up : Bool) (s : State) : State :=
  let was := s.on F.ETH_LINK_STAT_LINK_UP [p, k]
  if was = up then s else
  let s1 := (s.p F.ETH_LINK_STAT_LINK_UP [p, k] (b2n up)).p F.ETH_LINK_STAT_LINK_CHANGED [p, k] 1
  let s2 := raiseEvent 4 0 (4 * p + k) (b2n up) [0] s1
  if up then s2
  else
    let s3 := s2.count (276 + p) 1
    if s3.on F.ETH_MAC_CFG_RX_EN [p, k] then report 92 (4 * p + k) s3 else s3

/-- Discard what the cellar controller has in flight (R288): the fence reads of engines, and the requests that wait. The stack is held in self-refresh, and every read until training ends is treated as not arrived. -/
def celHold (s : State) : State :=
  let s1 := s.p F.CEL_STAT_STATE [] 2
  { s1 with cel := { s1.cel with
      training := true
      exiting := false
      rows := []
      lost := s.eng.oldReads ++ s.eng.engReads
      wait := s.cel.wait.map (fun x => (false, x.2)) } }

/-- Train again after a reset of the cellar controller (R286, R288). -/
def celRetrain (s : State) : State := (s.p F.CEL_STAT_STATE [] 3).count 399 1

/-- Block reset of the cellar controller by a latch (R288, R409). -/
def celReset (s : State) : State := celRetrain (celHold s)

/-- The block reset a latch applies with RESET_BLK (R409). -/
def blkReset (report : Nat → Nat → State → State) (i inst : Nat) (s : State) : State :=
  match srcBlock i with
  | 10 =>
    if 184 ≤ i && i ≤ 310 then
      each ((List.range 144).flatMap (fun q => if quadPeer s q (i - 184) then (List.range 4).map (4 * q + ·) else []))
        (retrain report) s
    else if inst < 584 then retrain report inst s else s
  | 5 => setLink report (inst / 4) (inst % 4) false (s.p F.ETH_LINK_STAT_FEC_LOCK [inst / 4, inst % 4] 0)
  | 8 =>
    let e := if 101 ≤ i && i ≤ 164 then i - 101 else inst
    { s with eng := { s.eng with restart := if s.eng.restart.contains e then s.eng.restart else s.eng.restart ++ [e] } }
  | 9 => celReset s
  | _ => s

/-- Whether a source's block has a reset of R409. -/
def hasBlkReset (i : Nat) : Bool := [5, 8, 9, 10].contains (srcBlock i)

/-- One occurrence at the collector (R397, R405, R408): masked, a latch, or a repeat. `again` reports what a block reset
brings about. -/
def occurWith (again : Nat → Nat → State → State) (inj : Bool) (i inst : Nat) (s : State) : State :=
  let b := srcBlock i
  let cfg := s.g F.FLT_SRC_CFG_CLASS [i]
  if masked s b && cfg != 3 && !inj then
    (s.bump F.FLT_SRC_CNT_MASKED [i] 1).count (458 + 5 * b + 3) 1
  else if latched s i then
    let s1 := (s.bump F.FLT_SRC_CNT_REPEATS [i] 1).count (458 + 5 * b + 1) 1
    let cls := latchClass s1 i
    if s1.on F.FLT_SRC_STAT_ESCALATED [i] || cls = 3 then s1
    else
      let s2 := ((s1.p F.FLT_SRC_STAT_CLASS [i] (cls + 1)).p F.FLT_SRC_STAT_ESCALATED [i] 1).count (458 + 5 * b + 2) 1
      let inst0 := s2.g F.FLT_SRC_STAT_INSTANCE [i]
      let s3 := when (opensWindow i (cls + 1)) (openWindow b) s2
      react i inst0 (cls + 1) 1 s3
  else
    let esc := inRecovery s && cfg != 3
    let cls := if esc then cfg + 1 else cfg
    let cond := s.g F.FLT_SRC_STAT_COND [i]
    let w := 2 ^ 31 + cls * 2 ^ 29 + b2n esc * 2 ^ 28 + cond * 2 ^ 27 + b2n inj * 2 ^ 26 + inst % 2 ^ 16
    let s1 := (s.wr R.FLT_SRC_STAT [i] (BitVec.ofNat 32 w)).count (458 + 5 * b) 1
    let s2 := when esc (fun t => t.count (458 + 5 * b + 2) 1) s1
    let first := !s2.on F.FLT_FIRST_VALID []
    let s3 := recordFirst i (inst % 2 ^ 16) cls esc inj s2
    let rst := s3.on F.FLT_SRC_CFG_RESET_BLK [i] && hasBlkReset i
    let s4 := when (opensWindow i cls || rst) (openWindow b) s3
    let s5 := react i inst cls (b2n esc + 2 * b2n first) s4
    when rst (blkReset again i inst) s5

/-- Occurrences with a bound on how deep block resets bring further ones about: a reset retrains lanes, their failure
may itself carry a reset, and those lanes are no longer in UP. -/
def occurN : Nat → Bool → Nat → Nat → State → State
  | 0, inj, i, inst, s => occurWith (fun _ _ t => t) inj i inst s
  | n + 1, inj, i, inst, s => occurWith (occurN n false) inj i inst s

/-- The device is in POR or RESET_N: nothing latches (R397). -/
def inReset (s : State) : Bool := s.sys.por || s.sys.rstLow

/-- A detected occurrence of source i with its INSTANCE. -/
def occur (i inst : Nat) (s : State) : State := if inReset s then s else occurN 3 false i inst s

/-- A level source (R397): its rising edge is an occurrence, COND follows it. -/
def level (i inst : Nat) (c : Bool) (s : State) : State :=
  let was := s.on F.FLT_SRC_STAT_COND [i]
  if c && !was then
    let s1 := occur i inst (s.p F.FLT_SRC_STAT_COND [i] 1)
    s1.p F.FLT_SRC_STAT_COND [i] 1
  else if !c && was then s.p F.FLT_SRC_STAT_COND [i] 0 else s

/-- Source i holds no forced signal any longer (R403). -/
def dropWhy (i : Nat) (s : State) : State :=
  { s with flt := { s.flt with waiting := s.flt.waiting.map (fun x => { x with why := x.why.filter (· != i) }) } }

/-- Settle what is held while a source is latched (R394, R404): the FATAL reaction and the forcing of everything end
when no source is latched at FATAL. -/
def settleHeld (s : State) : State :=
  if anyLatchedAt s 3 then s else dropWhy 333 { s with flt := { s.flt with fatal := false, forceAll := false } }

/-- Acknowledge a source (R406): ignored while its level condition is true; clears LATCHED, ESCALATED and REPEATS, and
SUPPRESS of the peer of a ZL_PEER_LOST source. -/
def ackSource (i : Nat) (s : State) : State :=
  if !latched s i || s.on F.FLT_SRC_STAT_COND [i] then s
  else
    let s1 := ((s.p F.FLT_SRC_STAT_LATCHED [i] 0).p F.FLT_SRC_STAT_ESCALATED [i] 0).p F.FLT_SRC_CNT_REPEATS [i] 0
    let s2 := if 184 ≤ i && i ≤ 310 then s1.p F.ZL_PEER_STAT_SUPPRESS [i - 184] 0 else s1
    settleHeld (dropWhy i s2)

/-- FLT_STAT.FATAL_HELD (R404). -/
def fatalHeld (s : State) : Bool := s.flt.fatal

/-- FAULT_N driven low (R411). -/
def faultN (s : State) : Bool := anyLatchedAt s (s.g F.FLT_CFG_FAULT_N_CLASS [])

/-- SAFE_N driven low (R411). -/
def safeN (s : State) : Bool := decide (0 < s.flt.waiting.length) || fatalHeld s

/-- Release the forced signals of a cadence that nothing holds any longer, at its switch point, after the commits of the
cycle (R403); a safety-source write to a signal still forced takes effect there (R401). -/
def releaseForced (c : Nat) (s : State) : State :=
  let bad := allFaulted s
  each s.flt.waiting (fun x t =>
    if dstCad t (x.group / 8) (x.group % 8) != c then t
    else if x.why.isEmpty then
      let t1 := markForced false x.group t
      each (memberSlots (groupClass t1 x.group) (x.group / 8)) (fun y u => skipOld y.1 (x.group % 8) u)
        { t1 with flt := { t1.flt with waiting := t1.flt.waiting.filter (fun y => y.group != x.group)
                                       safePend := t1.flt.safePend.filter (fun y => y.1 != x.group) } }
    else if t.flt.safePend.any (fun y => y.1 == x.group) then
      let (src, fell) := safeChoice t bad x.group
      let t1 := when fell (fun u => u.p F.FLT_STAT_SAFE_FALLBACK [] 1) t
      let ws := t1.flt.waiting.map (fun y => if y.group == x.group then forcedStart t1 y.group src y.why else y)
      { t1 with flt := { t1.flt with waiting := ws, safePend := t1.flt.safePend.filter (fun y => y.1 != x.group) } }
    else t) s

end Sys2Proof.Machine
end

