-- ==== Sys2Proof/Machine/Records.lean ====
section
/-! DEFINITION. Descriptors, their checks in the order of R334, tracker entries and credits, completion records
(R331 to R354), and the sampling buffer (R419 to R421). -/
namespace Sys2Proof.Machine

/-- Format version of a ring (R322, R324): that which its next descriptor was fetched under, else the one it is set to. -/
def ringVer (s : State) (p r : Nat) : Nat :=
  match s.cmd.reads.find? (fun x => x.desc.part == p && x.desc.ring == r), s.cmd.fetched.find? (fun d => d.part == p && d.ring == r) with
  | some x, _ => x.desc.ver
  | none, some d => d.ver
  | none, none => s.g F.CMD_RING_CFG_VERSION [p, r]

/-- Bits of a descriptor. -/
def dBits (d : Desc) (hi lo : Nat) : Nat := bitsOf d.bits.toNat hi lo

/-- Bits of the body (R332): body bit b is descriptor bit 64 + b or 128 + b. -/
def body (v : Nat) (d : Desc) (hi lo : Nat) : Nat :=
  let o := if v = 2 then 128 else 64
  dBits d (o + hi) (o + lo)

def dOpcode (d : Desc) : Nat := dBits d 11 4
def dSeq (v : Nat) (d : Desc) : Nat := if v = 2 then dBits d 63 32 else dBits d 31 16
def dTag (v : Nat) (d : Desc) : Nat := if v = 2 then dBits d 127 64 else dBits d 63 32
def dBarrier (v : Nat) (d : Desc) : Bool := v == 2 && dBits d 16 16 == 1
def dNoCpl (d : Desc) : Bool := dBits d 15 15 == 1

/-- Header fields that must be 0 (R332). -/
def headerBad (v : Nat) (d : Desc) : Bool := if v = 2 then dBits d 31 17 != 0 else dBits d 511 448 != 0

/-- Credits partition p holds (R331): descriptors being fetched, fetched, waiting for a host read, accepted and not
ended, and records not yet written. -/
def credits (s : State) (p : Nat) : Nat :=
  ((s.cmd.flight.filter (fun x => x.part == p)).map (·.count)).sum + (s.cmd.fetched.filter (fun x => x.part == p)).length
    + (s.cmd.reads.filter (fun x => x.desc.part == p)).length
    + (s.cmd.live.filter (fun x => x.part == p && x.credit && !x.repl)).length
    + (s.cmd.due.filter (fun x => x.tok.part == p)).length

/-- Tracker entries in use device-wide (R331). -/
def trackUsed (s : State) : Nat := (allParts.map (credits s)).sum

/-- Unread entries of the sampling buffer (R421). -/
def sampUnread (s : State) : Nat := (s.g F.PMU_SAMP_PTR_WRITE [] + 2048 - s.g F.PMU_SAMP_PTR_READ []) % 2048

/-- The PMU event of R421 while the unread entries are at or above NOTIFY, once until re-armed. -/
def sampNotify (s : State) : State :=
  let n := sampUnread s
  if s.g F.PMU_SAMP_CFG_NOTIFY [] ≤ n then
    if s.pmu.notified then s
    else raiseEvent 9 0 0 n [0] { s with pmu := { s.pmu with notified := true } }
  else { s with pmu := { s.pmu with notified := false } }

/-- Write an entry of the sampling buffer for a descriptor that completes (R419 to R421). -/
def sample (t : Tok) (code : Nat) (noRecord : Bool) (s : State) : State :=
  if t.repl || !bitOf (s.g F.PMU_SAMP_CFG_PART_MASK []) t.part then s else
  let lat := s.on F.PMU_SAMP_CFG_LAT_EN [] && decide (s.g F.PMU_SAMP_THRESH_THRESH [] * 5 ≤ s.ticks - t.bellTick)
  if !t.period && !lat then s else
  let s0 := s.count 548 1
  if sampUnread s0 ≥ 1024 then
    let s1 := ((s0.p F.PMU_SAMP_STAT_OVF [] 1).bump F.PMU_SAMP_STAT_DROPS [] 1).count 550 1
    occur 322 32 { s1 with pmu := { s1.pmu with dropsBefore := satAdd 65535 s1.pmu.dropsBefore 1 } }
  else
    let w := s0.g F.PMU_SAMP_PTR_WRITE []
    let i := w % 1024
    let top := 2 ^ 32 - 1
    let ws := [t.addr % 2 ^ 32, t.addr / 2 ^ 32,
      t.opcode + t.part * 2 ^ 8 + t.ring * 2 ^ 11 + b2n t.period * 2 ^ 14 + b2n lat * 2 ^ 15 + b2n noRecord * 2 ^ 16
        + code * 2 ^ 24,
      t.seq, min top (2 * (t.accTick - t.bellTick)), min top (2 * (s.ticks - t.bellTick)), t.bellNs, s0.pmu.dropsBefore]
    let s1 := each ((List.range 8).zip ws) (fun x u => u.wr R.PMU_SAMP [i, x.1] (BitVec.ofNat 32 x.2)) s0
    let s2 := (s1.p F.PMU_SAMP_PTR_WRITE [] ((w + 1) % 2048)).count 549 1
    sampNotify { s2 with pmu := { s2.pmu with dropsBefore := 0 } }

/-- Records in the order they fall due, and those of one cycle in the order in which their descriptors were accepted (R354). -/
def insertDue (d : Due) : List Due → List Due
  | [] => [d]
  | x :: l => if x.tick == d.tick && decide (d.tok.id < x.tok.id) then d :: x :: l else x :: insertDue d l

/-- A record falls due (R354), unless NO_CPL suppresses it, the partition was reset (R360), the descriptor was
replicated (R336), or it is a salvo member that was not refused (R87). With the completion ring disabled it is
discarded (R323). -/
def recordDue (t : Tok) (code flags result : Nat) (st : Option Stamp) (s : State) : State :=
  if t.repl then s
  else if t.dead || (!t.credit && code < 0x10) || (t.noCpl && code = 0 && flags = 0) then sample t code true s
  else if !s.on F.CMD_CPL_CFG_EN [t.part] then
    occur 3 t.part (((sample t code true s).bump F.CMD_CPL_STAT_DISCARDED [t.part] 1).count 101 1)
  else
    let d : Due := match st with
      | some x => ⟨t, code, flags, result, x.frame, x.line, x.cad, s.ticks⟩
      | none => ⟨t, code, flags, result, 0, 0, 0, s.ticks⟩
    { s with cmd := { s.cmd with due := insertDue d s.cmd.due } }

/-- The tracker entry of a descriptor. -/
def tokOf (s : State) (id : Nat) : Option Tok := s.cmd.live.find? (fun t => t.id == id)

/-- A descriptor ends: its tracker entry goes, its record falls due. -/
def finish (id code flags result : Nat) (st : Option Stamp) (s : State) : State :=
  match tokOf s id with
  | none => s
  | some t => recordDue t code flags result st { s with cmd := { s.cmd with live := s.cmd.live.filter (fun x => x.id != id) } }

/-- Salvo members free their credit when they are accepted (R331). -/
def freeCredit (id : Nat) (s : State) : State :=
  { s with cmd := { s.cmd with live := s.cmd.live.map (fun t => if t.id == id then { t with credit := false } else t) } }

/-- Whether the PERIOD trigger counts this descriptor as sampled (R419), and the count after it. -/
def periodHit (s : State) (p : Nat) : Bool × Nat :=
  if s.on F.PMU_SAMP_CFG_PERIOD_EN [] && bitOf (s.g F.PMU_SAMP_CFG_PART_MASK []) p then
    if max 1 (s.g F.PMU_SAMP_THRESH_PERIOD []) ≤ s.pmu.sampN + 1 then (true, 0) else (false, s.pmu.sampN + 1)
  else (false, s.pmu.sampN)

/-- The tracker entry of a descriptor of this device's host. -/
def mkTok (s : State) (v : Nat) (d : Desc) : Tok :=
  { id := s.cmd.nextId, part := d.part, ring := d.ring, ver := v, opcode := dOpcode d, tag := dTag v d, seq := dSeq v d,
    noCpl := dNoCpl d, credit := true, dead := false, repl := false, addr := d.addr, bellTick := d.bellTick,
    bellNs := d.bellNs, accTick := s.ticks, period := (periodHit s d.part).1, bell := d.bell }

/-- A descriptor is accepted (R329): it takes a tracker entry. -/
def accept (v : Nat) (d : Desc) (s : State) : Nat × State :=
  let t := mkTok s v d
  let s1 := { s with cmd := { s.cmd with nextId := s.cmd.nextId + 1, live := s.cmd.live ++ [t] },
                     pmu := { s.pmu with sampN := (periodHit s d.part).2 } }
  (t.id, s1.count (32 + 8 * d.part + 1) 1)

/-- A descriptor is refused (R334, R351): its record and the counts; a HOST_READ refusal is a fault occurrence (R399), an
image that fails shows its lowest failing entry (R79), a firmware update refused is counted (R449). -/
def refuse (v : Nat) (d : Desc) (code result : Nat) (s : State) : State :=
  let t := mkTok s v d
  let s1 := { s with cmd := { s.cmd with nextId := s.cmd.nextId + 1 }, pmu := { s.pmu with sampN := (periodHit s d.part).2 } }
  let s2 := (s1.bump F.CMD_RING_STAT_REFUSED [d.part, d.ring] 1).count (32 + 8 * d.part + 2) 1
  let s3 := if code = 0x17 then occur 2 d.part (s2.count 99 1)
    else if 0x58 ≤ code && code ≤ 0x5C then s2.count 557 1
    else if code = 0x2F then ((s2.p F.XPT_BANK_STAT_IMAGE_ERR [] 1).p F.XPT_IMAGE_ERR_INDEX [] result).count 170 1 else s2
  recordDue t code 0 result none s3

/-- The sequence check (R333): the state with the expected value moved, and whether it fails. -/
def seqCheck (v : Nat) (d : Desc) (s : State) : Bool × State :=
  if s.on F.CMD_RING_CFG_SEQ_CHECK [d.part, d.ring] then
    let q := dSeq v d
    let m := if v = 2 then 2 ^ 32 else 2 ^ 16
    let ok := q == s.g F.CMD_RING_SEQ_EXPECT [d.part, d.ring]
    let s1 := s.p F.CMD_RING_SEQ_EXPECT [d.part, d.ring] ((q + 1) % m)
    if ok then (false, s1) else (true, s1.p F.CMD_RING_STAT_SEQ_ERR [d.part, d.ring] 1)
  else (false, s)

/-- The statuses of R334 before HOST_READ, in order; none passes. -/
def generalCheck (v : Nat) (d : Desc) (known bad p0only refusedIdle : Bool) (s : State) : Option Nat × State :=
  if dBits d 3 0 != v then (some 0x10, s)
  else if !known then (some 0x11, s)
  else if dBits d 14 12 != d.part then (some 0x12, s)
  else
    let (seqBad, s1) := seqCheck v d s
    if seqBad then (some 0x13, s1)
    else if headerBad v d || bad then (some 0x14, s1)
    else if p0only && d.part != 0 then (some 0x15, s1)
    else if refusedIdle && !s1.takesHost then (some 0x16, s1)
    else (none, s1)

/-- The next descriptor of a ring, if no earlier one of the ring waits for a host read (R328). -/
def headDesc (s : State) (p r : Nat) : Option Desc :=
  if s.cmd.reads.any (fun x => x.desc.part == p && x.desc.ring == r) then none
  else s.cmd.fetched.find? (fun d => d.part == p && d.ring == r)

/-- Whether a descriptor of partition p announced before doorbell write `b` is still to be accepted or refused
(R330, R348): announced and not fetched, being fetched, fetched, or waiting for its host read. -/
def earlierWaits (s : State) (p b : Nat) : Bool :=
  s.cmd.ann.any (fun a => a.part == p && decide (a.bell < b))
    || s.cmd.fetched.any (fun d => d.part == p && decide (d.bell < b))
    || s.cmd.reads.any (fun x => x.desc.part == p && decide (x.desc.bell < b))

/-- Take the next descriptor off its ring's queue. -/
def popDesc (p r : Nat) (s : State) : State :=
  { s with cmd := { s.cmd with fetched := eraseFirst (fun d => d.part == p && d.ring == r) s.cmd.fetched } }

/-- Present the next descriptor of a ring to the checks of R334. `op` is its opcode; a descriptor with another opcode, or
behind a barrier that does not yet open, is left alone. `own` gives the refusal status and RESULT of the partition
statuses and the opcode's own checks; `go` carries out an accepted descriptor. -/
def present (p r op : Nat) (bad : Nat → Desc → Bool) (p0only refusedIdle : Bool)
    (own : Nat → Desc → State → Option (Nat × Nat)) (go : Nat → Nat → Desc → State → State) (s : State) : State :=
  match headDesc s p r with
  | none => s
  | some d =>
    let v := ringVer s p r
    if dOpcode d != op then s
    else if dBarrier v d && earlierWaits s p d.bell then s.count 100 1
    else
      let s0 := popDesc p r s
      match generalCheck v d true (bad v d) p0only refusedIdle s0 with
      | (some c, s1) => refuse v d c 0 s1
      | (none, s1) =>
        match own v d s1 with
        | some (c, res) => refuse v d c res s1
        | none =>
          let (id, s2) := accept v d s1
          go id v d s2

/-- Present the next descriptor of a ring whose opcode reads host memory before acceptance (R344): the checks of R334 up to
NOT_ACTIVE, then the read of `len` bytes is issued; the ring waits for it. -/
def presentRead (p r op len : Nat) (bad : Nat → Desc → Bool) (refusedIdle : Bool) (addr : Nat → Desc → Nat) (s : State) : State :=
  match headDesc s p r with
  | none => s
  | some d =>
    let v := ringVer s p r
    if dOpcode d != op then s
    else if dBarrier v d && earlierWaits s p d.bell then s.count 100 1
    else
      match generalCheck v d true (bad v d) false refusedIdle (popDesc p r s) with
      | (some c, s1) => refuse v d c 0 s1
      | (none, s1) =>
        let s2 := { s1 with cmd := { s1.cmd with reads := s1.cmd.reads ++ [PendRead.mk d (addr v d)] } }
        dmaRead p (addr v d) len (wakePort 9 (wakePort 2 s2))

/-- The outstanding read of a ring, for an opcode. -/
def readOf (s : State) (p r op : Nat) : Option PendRead :=
  s.cmd.reads.find? (fun x => x.desc.part == p && x.desc.ring == r && dOpcode x.desc == op)

/-- The read of a ring is over. -/
def dropRead (p r : Nat) (s : State) : State :=
  { s with cmd := { s.cmd with reads := s.cmd.reads.filter (fun x => !(x.desc.part == p && x.desc.ring == r)) } }

/-- Write the oldest due record of partition p (R350, R353): two posted writes, PHASE last; then the cause CPL. -/
def writeCplRecord (p : Nat) (s : State) : State :=
  match s.cmd.due.find? (fun x => x.tok.part == p) with
  | none => s
  | some x =>
    let n := ringEntries (s.g F.CMD_CPL_CFG_SIZE [p])
    let w := s.g F.CMD_CPL_PTR_WRITE [p]
    if !s.on F.HIF_PART_STAT_BME [p] || !s.on F.CMD_CPL_CFG_EN [p] || (w + 1) % n == s.g F.CMD_CPL_PTR_HOST_HEAD [p] then s
    else
      let t := x.tok
      let ph := s.g F.CMD_CPL_PTR_PHASE [p]
      let a := s.g F.CMD_CPL_BASE_HI_ADDR_HI [p] * 2 ^ 32 + s.g F.CMD_CPL_BASE_LO_ADDR_LO [p] * 2 ^ 12 + 32 * w
      let v := t.tag + t.seq * 2 ^ 64 + t.opcode * 2 ^ 96 + t.ring * 2 ^ 104 + x.flags * 2 ^ 112 + x.code * 2 ^ 120
        + (x.result % 2 ^ 64) * 2 ^ 128 + (x.sFrame % 2 ^ 32) * 2 ^ 192 + x.sLine * 2 ^ 224 + x.sCad * 2 ^ 237
        + s.g F.CMD_RING_PTR_HEAD [p, t.ring] * 2 ^ 240 + ph * 2 ^ 255
      let s0 := wakePort 9 (wakePort 2 s)
      let s1 := (s0.emit (.hostWrite p a 28 (v % 2 ^ 224))).emit (.hostWrite p (a + 28) 4 (v / 2 ^ 224))
      let s2 := s1.p F.CMD_CPL_PTR_WRITE [p] ((w + 1) % n)
      let s3 := if (w + 1) % n = 0 then s2.p F.CMD_CPL_PTR_PHASE [p] (1 - ph) else s2
      let s4 := { s3 with cmd := { s3.cmd with due := eraseFirst (fun y => y.tok.part == p) s3.cmd.due } }
      raiseIrq p 0 ((sample t x.code false s4).count (32 + 8 * p + 5) 1)

/-- Records due are discarded while the completion ring is disabled (R323). -/
def discardDue (p : Nat) (s : State) : State :=
  let mine := s.cmd.due.filter (fun x => x.tok.part == p)
  let s1 := { s with cmd := { s.cmd with due := s.cmd.due.filter (fun x => x.tok.part != p) } }
  each mine (fun x t => occur 3 p (((sample x.tok x.code true t).bump F.CMD_CPL_STAT_DISCARDED [p] 1).count 101 1)) s1

end Sys2Proof.Machine
end

