-- ==== Sys2Proof/Machine/HistOps.lean ====
section
/-! DEFINITION. The min/max/histogram units of the PMU (R422 to R424). -/
namespace Sys2Proof.Machine

/-- The counting part of a sample (R423): a bin or SAMPLES that reaches 2³² − 1 sets OVF and is counted. -/
def histSat (u : Nat) (f : FR) (i : List Nat) (s : State) : State :=
  let v := s.g f i
  if v = 2 ^ 32 - 1 then s
  else
    let s1 := s.p f i (v + 1)
    if v + 1 = 2 ^ 32 - 1 then occur 322 u ((s1.p F.PMU_HIST_STAT_OVF [u] 1).count 552 1) else s1

/-- The bin of a sample (R423). -/
def histBin (s : State) (u : Nat) (v : Int) : Nat :=
  let b := (v - toSigned 32 (s.g F.PMU_HIST_LOW_LOW [u])) / ((2 ^ s.g F.PMU_HIST_CFG_WIDTH [u] : Nat) : Int)
  if b < 0 then 0 else if 63 < b then 63 else b.toNat

/-- One sample into unit u (R423, R424): a unit that has completed its window takes none, a frozen one counts it in
MISSED. -/
def histTake (u : Nat) (v : Int) (s : State) : State :=
  if s.on F.PMU_HIST_CFG_FREEZE [u] then s.bump F.PMU_HIST_STAT_MISSED [u] 1
  else if s.on F.PMU_HIST_STAT_DONE [u] then s
  else
    let s0 := s.count 551 1
    let s1 := if v < toSigned 32 (s0.g F.PMU_HIST_MIN_MIN [u]) then s0.p F.PMU_HIST_MIN_MIN [u] (ofSigned 32 v) else s0
    let s2 := if toSigned 32 (s1.g F.PMU_HIST_MAX_MAX [u]) < v then s1.p F.PMU_HIST_MAX_MAX [u] (ofSigned 32 v) else s1
    let s3 := histSat u F.PMU_HIST_BIN_COUNT [u, histBin s2 u v] s2
    let s4 := histSat u F.PMU_HIST_SAMPLES_SAMPLES [u] s3
    let w := s4.g F.PMU_HIST_STAT_WINDOW [u]
    let n := s4.g F.PMU_HIST_SAMPLES_SAMPLES [u]
    if w != 0 && n == w then raiseEvent 9 0 (0x100 + u) n [0] (s4.p F.PMU_HIST_STAT_DONE [u] 1) else s4

/-- A sample point of quantity SEL, instance INDEX (R422): every enabled unit attached to it takes the sample. -/
def histSample (sel idx : Nat) (v : Int) (s : State) : State :=
  each (List.range 32) (fun u t =>
    if t.on F.PMU_HIST_CFG_EN [u] && t.g F.PMU_HIST_CFG_SEL [u] == sel && t.g F.PMU_HIST_CFG_INDEX [u] == idx
    then histTake u v t else t) s

end Sys2Proof.Machine
end

