-- ==== Sys2Proof/Machine/TakeOps.lean ====
section
/-! DEFINITION. Takes and salvos: commit points and deadlines (R80 to R82), the checks of R40 and R83, staging (R75),
commit (R76), judgement (R91) and the ends of pending things. -/
namespace Sys2Proof.Machine

/-- Position of a frame and line on a raster of n lines, counted from a frame `f0`, as a number of lines; frames are
compared modulo 2³² around `f0`. -/
def linePos (n f0 f l : Nat) : Int :=
  let df : Int := toSigned 32 ((f + 2 ^ 32 - f0) % 2 ^ 32)
  df * (n : Int) + (l : Int)

/-- Units of `RefHid.h` in one nanosecond. -/
def hUnit : Nat := 10 ^ 11 * 2 ^ 48

/-- The number of the grid line of a cadence's format, rate and LAG at house time h (R181): 0 starts at H = LAG. -/
def gridLine (fmt rate lag h : Nat) : Nat :=
  let (num, den) := rateOf rate
  (h - lag * hUnit) * (num * rasterLines fmt) / (den * 10 ^ 9 * hUnit)

/-- The grid line of cadence c now. -/
def gridNow (s : State) (c : Nat) : Nat :=
  gridLine (s.g F.XPT_CAD_CFG_FORMAT [c]) (s.g F.XPT_CAD_CFG_RATE [c]) (s.g F.REF_CAD_LAG_LAG [c]) s.ref.h

/-- The line cadence c is on, counted from line 1 of its frame; before frame 0 begins, by the lines of the grid that are still
to come (0 and below). -/
def posNow (s : State) (c : Nat) : Int :=
  let k := s.cad c
  if k.running then k.line
  else match k.startN with
    | some n => min 0 ((gridNow s c : Int) - n + 1)
    | none => 0

/-- Whether a frame's switch point has begun (R80, R73): it is resolved and its line has started; without SWITCH_SYNC it
is line P, with it line P + 32 at the latest. -/
def switchBegun (s : State) (c f : Nat) : Bool :=
  let k := s.cad c
  let n := s.raster c
  match k.points.find? (fun x => x.1 == f) with
  | some (_, af, al) => decide (linePos n k.frame af al ≤ linePos n k.frame k.frame k.line)
  | none => k.running && decide (linePos n k.frame f (s.g F.XPT_CAD_CFG_SWITCH_LINE [c]
      + (if s.on F.XPT_CAD_CTRL_SSYNC_EN [c] then 32 else 0)) ≤ linePos n k.frame k.frame k.line)

/-- The first frame whose switch point has not yet begun (R80): that of the frame before may still be to come. -/
def nextSwitchFrame (s : State) (c : Nat) : Nat :=
  let k := s.cad c
  let f := k.frame
  if k.running && !k.first && !switchBegun s c ((f + 2 ^ 32 - 1) % 2 ^ 32) then (f + 2 ^ 32 - 1) % 2 ^ 32
  else if !switchBegun s c f then f
  else if !switchBegun s c ((f + 1) % 2 ^ 32) then (f + 1) % 2 ^ 32 else (f + 2) % 2 ^ 32

/-- Whether a point is met by something accepted now (R81): the line D lines ahead of it has not started. -/
def onTime (s : State) (c f l : Nat) (early : Nat) : Bool :=
  let k := s.cad c
  let n := s.raster c
  decide (posNow s c < linePos n k.frame f l - (s.g F.XPT_CAD_CFG_DEADLINE [c] : Int) - (early : Int))

/-- The stamp of NEXT (R80 to R82): the deferred frame where the deadline has passed. -/
def stampNext (s : State) (c : Nat) : Stamp × Bool :=
  let p := s.g F.XPT_CAD_CFG_SWITCH_LINE [c]
  let ss := s.on F.XPT_CAD_CTRL_SSYNC_EN [c]
  let f := nextSwitchFrame s c
  let late := !onTime s c f p (if ss then 32 else 0)
  let f' := if late then (f + 1) % 2 ^ 32 else f
  match (s.cad c).points.find? (fun x => x.1 == f') with
  | some (_, af, al) => (⟨c, af, al, true⟩, late)
  | none => (⟨c, f', if ss then 0 else p, true⟩, late)

/-- The frame an AT commit names (R337, R338), none where it lies 2³¹ or more frames ahead (R82). -/
def atFrame (v cur frame : Nat) : Option Nat :=
  if v = 1 then some ((cur + (frame + 2 ^ 16 - cur % 2 ^ 16) % 2 ^ 16) % 2 ^ 32)
  else if (frame + 2 ^ 32 - cur) % 2 ^ 32 < 2 ^ 31 then some frame else none

/-- The stamp of AT (R80 to R82); none is PAST. -/
def stampAt (s : State) (v c frame line : Nat) : Option (Stamp × Bool) :=
  match atFrame v (s.cad c).frame frame with
  | none => none
  | some f =>
    if onTime s c f line 0 then some (⟨c, f, line, false⟩, false)
    else if onTime s c ((f + 1) % 2 ^ 32) line 0 then some (⟨c, (f + 1) % 2 ^ 32, line, false⟩, true)
    else none

/-- The commit block (R337): FRAME, LINE, MODE, SALVO_ID. -/
def cbFrame (v : Nat) (d : Desc) : Nat := body v d 31 0
def cbLine (v : Nat) (d : Desc) : Nat := body v d 44 32
def cbMode (v : Nat) (d : Desc) : Nat := body v d 46 45
def cbSalvo (v : Nat) (d : Desc) : Nat := body v d 49 47

/-- BAD_FIELD of a commit block (R337): `modes` the opcode's modes, `lines` whether AT names a line. -/
def cbBad (modes : List Nat) (lines : Bool) (v : Nat) (d : Desc) : Bool :=
  let m := cbMode v d
  body v d 63 50 != 0 || !modes.contains m
    || (if m = 1 && lines then cbLine v d == 0 || decide (4500 < cbLine v d) else cbLine v d != 0)
    || (v == 1 && m == 1 && decide (2 ^ 16 ≤ cbFrame v d))

/-- The cadence runs for takes: ENABLE is 1 (R70, R83). -/
def cadOn (s : State) (c : Nat) : Bool := s.on F.XPT_CAD_CFG_ENABLE [c]

/-- The status R83 and R82 give a commit block on cadence c, and else its stamp. Line 1 stands for opcodes that name no
line. -/
def stampOf (s : State) (v : Nat) (d : Desc) (c : Nat) (line1 : Bool) : Except Nat (Stamp × Bool) :=
  if cbMode v d = 1 then
    let l := if line1 then 1 else cbLine v d
    if s.raster c < l then .error 0x14
    else match stampAt s v c (cbFrame v d) l with
      | none => .error 0x29
      | some x => .ok x
  else if line1 then
    let f := ((s.cad c).frame + (if (s.cad c).line = 0 then 0 else 1)) % 2 ^ 32
    if onTime s c f 1 0 then .ok (⟨c, f, 1, false⟩, false) else .ok (⟨c, (f + 1) % 2 ^ 32, 1, false⟩, true)
  else .ok (stampNext s c)

/-- Whether a slot is a packet slot: its quad runs as Ethernet (R30). -/
def packetSlot (s : State) (slot : Nat) : Bool := decide (slot < 128) && s.g F.ZL_QUAD_CFG_MODE [slot / 8] != 0

/-- An 8K group of source slots satisfies R42 and R44. -/
def bondedSrc (s : State) (slot m : Nat) : Bool :=
  slot % 4 == 0 && m == 0 && (decide (slot < 1152) || decide (1216 ≤ slot)) &&
    (List.range 4).all (fun t => !packetSlot s (slot + t) && (List.range 8).all (fun k => srcSub s (slot + t) k == 5))

/-- An 8K group of destination slots satisfies R42 and R44. -/
def bondedDst (s : State) (slot m : Nat) : Bool :=
  slot % 4 == 0 && m == 0 && decide (slot < 1152) &&
    (List.range 4).all (fun t => !packetSlot s (slot + t) && (List.range 8).all (fun k => dstSub s (slot + t) k == 5))

/-- Engines reached from engine x along routes of the loft bank, leaving out the routes into slot `skip`. -/
def reachedEngines (s : State) (skip : Nat) : Nat → List Nat → List Nat
  | 0, l => l
  | n + 1, l =>
    let more := (loftEntries s).filterMap (fun e =>
      let sl := (eSource e.2).1
      if eValid e.2 && 1152 ≤ e.1 / 8 && e.1 / 8 != skip && 1152 ≤ sl && sl < 1216 && l.contains (sl - 1152)
      then some ((e.1 / 8 - 1152) / 2) else none)
    let nx := (l ++ more).eraseDups
    if nx.length = l.length then l else reachedEngines s skip n nx

/-- A route closes a cycle of engines (R40). -/
def closesCycle (s : State) (d sSlot : Nat) : Bool :=
  decide (1152 ≤ d) && decide (1152 ≤ sSlot) && decide (sSlot < 1216) &&
    (reachedEngines s d 64 [(d - 1152) / 2]).contains (sSlot - 1152)

/-- The rows of R40 other than Partition, in order. -/
def routeCheck (s : State) (d m : Nat) (src : Option (Nat × Nat)) : Option Nat :=
  match src with
  | none =>
    match dstClass s d m with
    | none => some 0x22
    | some c => if c = 5 && !bondedDst s d m then some 0x23 else none
  | some (sl, sb) =>
    match srcClass s sl sb, dstClass s d m with
    | none, _ => some 0x22
    | some _, none => some 0x22
    | some a, some b =>
      if a != b then some 0x21
      else if a = 5 && !(bondedSrc s sl sb && bondedDst s d m) then some 0x23
      else if closesCycle s d sl then some 0x24 else none

/-- Owner of a destination slot in a protection set-up (R304, R305). -/
def dstOwner (m : List (Nat × Word)) (d : Nat) : Nat :=
  if 1152 ≤ d then gIn m F.HIF_ENG_ALLOC_PART [(d - 1152) / 2] else gIn m F.HIF_DST_OWN_OWNER [d]

/-- The Partition row (R40, R304): the destination binds p0 as well, the source does not. -/
def routePartition (s : State) (prot : List (Nat × Word)) (p d m : Nat) (src : Option (Nat × Nat)) : Bool :=
  (memberSlots (dstSub s d m) d).all (fun x => dstOwner prot x.1 == p) &&
    (p == 0 || (match src with
     | none => true
     | some (sl, sb) => (memberSlots (srcSub s sl sb) sl).all (fun x => bitOf (gIn prot F.HIF_SRC_VIS_VIS [x.1]) p)))

/-- The pending take of a destination signal. -/
def takeOf (s : State) (d m : Nat) : Option PendTake := s.xpt.takes.find? (fun t => t.d == d && t.m == m)

/-- The salvo with a key. -/
def salvoOf (s : State) (k : SalvoKey) : Option Salvo := s.xpt.salvos.find? (fun x => x.key == k)

/-- Whether the four members of an 8K group are bound to one cadence (R88). -/
def oneCadence (s : State) (cls d m : Nat) (src : Option (Nat × Nat)) : Bool :=
  (memberSlots cls d).all (fun x => dstCad s x.1 m == dstCad s d m) &&
    (match src with
     | none => true
     | some (sl, sb) => (memberSlots cls sl).all (fun x => srcCad s x.1 sb == srcCad s sl sb))

/-- The table of R83 after NOT_ACTIVE and the rows of R40, in order; else the stamp, none for a salvo member. -/
def takeCheck (s : State) (v : Nat) (dsc : Desc) (d m : Nat) (src : Option (Nat × Nat)) : Except Nat (Option (Stamp × Bool)) :=
  let c := dstCad s d m
  let key : SalvoKey := ⟨dsc.part, cbSalvo v dsc⟩
  let inSalvo := cbMode v dsc == 2
  if !cadOn s c then .error 0x28
  else match (if inSalvo then Except.ok none else (stampOf s v dsc c false).map some) with
    | .error e => .error e
    | .ok st =>
      if s.on F.XPT_BANK_CTRL_IMAGE_OPEN [] then .error 0x2A
      else if (match takeOf s d m with
          | some t => (match t.salvo with
            | some k => !(inSalvo && k == key)
            | none => false)
          | none => false) then .error 0x2B
      else if (inSalvo && (match salvoOf s key with
          | some x => x.cad != c
          | none => false)) || !oneCadence s (dstSub s d m) d m src then .error 0x2C
      else if inSalvo && (match salvoOf s key with
          | some x => x.commit.isSome
          | none => true) then .error 0x2D
      else .ok st

/-- End a pending take (R75, R84): its record with the flags it has so far, and its counter. -/
def endTake (t : PendTake) (code : Nat) (s : State) : State :=
  let s1 := { s with xpt := { s.xpt with takes := s.xpt.takes.filter (fun x => !(x.d == t.d && x.m == t.m)) } }
  let s2 := match code, tokOf s1 t.tok with
    | 1, some k => s1.count (32 + 8 * k.part + 3) 1
    | 2, _ => s1.count 96 1
    | 3, _ => s1.count 97 1
    | _, _ => s1
  finish t.tok code (b2n t.late) (t.d + t.m * 2 ^ 11) (if t.salvo.isSome && code != 1 then none else some t.stamp) s2

/-- Stage an accepted take (R75, R86): the pending take for the same signal is superseded, or replaced where it is an
earlier member of the same salvo; the entries of the group go into the loft bank. -/
def stageTake (id d m : Nat) (src : Option (Nat × Nat)) (st : Stamp) (late : Bool) (sv : Option SalvoKey) (s : State) : State :=
  let s1 := match takeOf s d m with
    | none => s
    | some t =>
      if t.salvo.isSome && t.salvo == sv then
        let u := finish t.tok 1 0 0 none s
        { u with xpt := { u.xpt with takes := u.xpt.takes.filter (fun x => !(x.d == d && x.m == m)) } }
      else endTake t 1 s
  let cls := dstSub s1 d m
  let es := match src with
    | some (sl, sb) => routeEntries cls d m sl sb
    | none => unrouteEntries s1 cls d m
  let s2 := stageEntries es s1
  let s3 := { s2 with xpt := { s2.xpt with takes := s2.xpt.takes ++ [⟨id, d, m, src, st, late, sv⟩] } }
  if sv.isSome then freeCredit id s3 else s3

/-- Return a signal's loft entries to the live ones. -/
def unstage (d m : Nat) (s : State) : State := unstageEntries (groupEntries (dstSub s d m) d m) s

/-- Cancel or abort the pending takes a test picks out: each ends with `code`, its loft entries return (R69, R71, R87). -/
def endTakes (p : PendTake → Bool) (code : Nat) (s : State) : State :=
  each (s.xpt.takes.filter p) (fun t u => endTake t code (unstage t.d t.m u)) s

/-- The clean window of a cadence for a class in core cycles (R91). -/
def cleanWindow (s : State) (c cls : Nat) : Nat := s.g F.XPT_CAD_CTRL_CLEAN_WIN [c] * wordPeriod cls

/-- Reason a source is dirty for a destination on cadence c (R91): 0 clean, 1 ALIGN, 2 NO_SIGNAL, 3 CADENCE. -/
def dirtyReason (s : State) (c cls sl sb : Nat) : Nat :=
  if srcCad s sl sb != c then 3
  else if 1216 ≤ sl then 0
  else if !s.on F.XPT_ALIGN_STAT_VALID [8 * sl + sb] then 2
  else if cleanWindow s c cls < (toSigned 32 (s.g F.XPT_ALIGN_OFFSET [8 * sl + sb])).natAbs then 1 else 0

/-- The members of a take's source that fail, lowest first, with their reasons (R88, R91). -/
def dirtyMembers (s : State) (c cls : Nat) (src : Option (Nat × Nat)) : List (Nat × Nat) :=
  match src with
  | none => []
  | some (sl, sb) => ((memberSlots cls sl).map (fun x => (8 * x.1 + sb, dirtyReason s c cls x.1 sb))).filter (fun x => x.2 != 0)

/-- The histogram sample of a committed TAKE or SALVO_COMMIT (R422, SEL 2): doorbell to commit cycle in 100 ns, for its
cadence and for all. A replicated descriptor had its doorbell on the other device and gives none (DEDUCED, log 31). -/
def takeLatency (id c : Nat) (s : State) : State :=
  match tokOf s id with
  | some t => if t.repl then s else
      let n : Nat := (s.ticks - t.bellTick) / 50
      histSample 2 8 n (histSample 2 c n s)
  | none => s

/-- Commit one due take (R76, R78, R400): the selectors reload, FORCED stays; it is judged at the end of the line. -/
def commitTake (cycle : Nat) (lateNow missing : Bool) (now : Stamp) (t : PendTake) (s : State) : State :=
  let g := 8 * t.d + t.m
  let s1 := each (memberSlots (groupClass s g) t.d) (fun y u => skipOld y.1 t.m u) (reloadEntries (keyEntries s g) s)
  let s2 := { s1 with xpt := { s1.xpt with takes := s1.xpt.takes.filter (fun x => !(x.d == t.d && x.m == t.m)) } }
  let s3 := each (latchedSources s2) (fun e u =>
      if 2 ≤ bitsOf e.2.toNat 30 29 && (signalsFrom u (faultedSlots u e.1 (bitsOf e.2.toNat 15 0))).contains g then
        forceSignal (allFaulted u) (srcBlock e.1) e.1 g u
      else u) (when (s2.flt.forceAll && (routedSignals s2).contains g) (forceSignal (allFaulted s2) 12 333 g) s2)
  let forced := isForced s3 g
  let s4 := s3.count (104 + 8 * now.cad) 1
  let s5 := when (t.late || lateNow) (fun u => (u.bump F.XPT_CAD_TAKES_LATE [now.cad] 1).count (105 + 8 * now.cad) 1) s4
  let s6 := when t.salvo.isNone (takeLatency t.tok now.cad) (when t.src.isNone (fun u => u.count 183 1) s5)
  { s6 with xpt := { s6.xpt with judging := s6.xpt.judging ++
      [⟨t.tok, t.d, t.m, t.src, now, t.late || lateNow, missing, forced, cycle, t.salvo⟩] } }

/-- The alignment of R89 from the difference of the two cycles: reduced to half a frame either way. -/
def reduceAlign (s : State) (c : Nat) (d : Int) : Int :=
  let (num, den) := rateOf (s.g F.XPT_CAD_CFG_RATE [c])
  let frame : Int := (1600000000 * den : Nat)
  d - (2 * d * num + frame) / (2 * frame) * frame / num

/-- The grid line of the raster line L nearest to the line cadence c is on. -/
def nearLine (s : State) (c L : Nat) : Int :=
  let k := s.cad c
  let n : Int := (s.raster c : Nat)
  let d : Int := (L : Int) - (k.line : Int)
  (k.n : Int) + (if n < 2 * d then d - n else if 2 * d < -n then d + n else d)

/-- The start of raster line L nearest to the line cadence c is on, in core cycles of house time (R181). -/
def lineCycles (s : State) (c L : Nat) : Int :=
  let (num, den) := rateOf (s.g F.XPT_CAD_CFG_RATE [c])
  let n := nearLine s c L
  (s.g F.REF_CAD_LAG_LAG [c] * 8 : Nat) / (5 : Int) + n * (den * 1600000000 : Nat) / (num * s.raster c : Nat)

/-- An alignment on cadence `was`, measured against cadence c (R214). -/
def realign (s : State) (was c L : Nat) (a : Int) : Int :=
  if was = c then a else a + lineCycles s was L - lineCycles s c L

end Sys2Proof.Machine
end

