-- ==== Sys2Proof/Machine/AudTake.lean ====
section
/-! DEFINITION. Pending audio takes (R257 to R259), on the side they share with takes of the weave: staging, supersession,
commit at a line, and their ends. -/
namespace Sys2Proof.Machine

/-- An entry of the audio tables (R257). -/
def audEntry (src : Option Nat) (j : Nat) (old : Word) : Word :=
  match src with
  | some m => BitVec.ofNat 32 (2 ^ 31 + (m + j) % 2 ^ 15)
  | none => old &&& 0x3FFFFFFF#32

/-- Return the loft entries of a run of channels to the live ones (R259). -/
def unstageAud (n c : Nat) (s : State) : State :=
  each (List.range c) (fun j t => t.wr R.AUD_LOFT [n + j] (t.rd R.AUD_LIVE [n + j] &&& 0xBFFFFFFF#32)) s

/-- RESULT of an AUDIO_TAKE (R352). -/
def audResult (n c cuts : Nat) : Nat := n + c * 2 ^ 15 + cuts * 2 ^ 24

/-- End a pending audio take (R84, R259): its record and its counter; a salvo member has no record. -/
def endAud (t : PendAud) (code : Nat) (s : State) : State :=
  let s1 := unstageAud t.n t.c { s with aud := { s.aud with pend := s.aud.pend.filter (fun x => x.tok != t.tok || x.n != t.n) } }
  let s2 := match code, tokOf s1 t.tok with
    | 1, some _ => s1.count 357 1
    | 2, _ => s1.count 96 1
    | 3, _ => s1.count 97 1
    | _, _ => s1
  finish t.tok code (b2n t.late) (audResult t.n t.c 0) (if t.salvo.isSome then none else some t.stamp) s2

/-- End the pending audio takes a test picks out. -/
def endAuds (p : PendAud → Bool) (code : Nat) (s : State) : State := each (s.aud.pend.filter p) (fun t u => endAud t code u) s

/-- Two runs of channels overlap. -/
def runsMeet (a b c d : Nat) : Bool := decide (a < c + d) && decide (c < a + b)

/-- Stage an accepted AUDIO_TAKE (R259): every pending take that it overlaps is superseded whole, an earlier member of the same
salvo replaced. -/
def stageAud (x : PendAud) (s : State) : State :=
  let s1 := each (s.aud.pend.filter (fun t => runsMeet t.n t.c x.n x.c)) (fun t u => endAud t 1 u) s
  let s2 := each (List.range x.c) (fun j t => t.wr R.AUD_LOFT [x.n + j] (audEntry x.src j (t.rd R.AUD_LOFT [x.n + j]))) s1
  let s3 := { s2 with aud := { s2.aud with pend := s2.aud.pend ++ [x] } }
  if x.salvo.isSome then freeCredit x.tok s3 else s3

/-- Commit an audio take at its line (R257, R261): the live entries change now, the samples at the commit sample. -/
def commitAud (cycle : Nat) (lateNow missing : Bool) (now : Stamp) (t : PendAud) (s : State) : State :=
  let olds := (List.range t.c).map (fun j =>
    let w := s.rd R.AUD_LIVE [t.n + j]
    if eValid w then some (w.toNat % 2 ^ 15) else none)
  let s1 := each (List.range t.c) (fun j u => u.wr R.AUD_LIVE [t.n + j]
    ((u.rd R.AUD_LOFT [t.n + j] &&& 0xBFFFFFFF#32) ||| (u.rd R.AUD_LIVE [t.n + j] &&& 0x40000000#32))) s
  let cm : AudCommit := ⟨t.tok, cycle, t.n, t.c, t.fade, olds, t.late || lateNow, missing, now, t.salvo⟩
  { (s1.count 356 1) with aud := { s1.aud with
      pend := s1.aud.pend.filter (fun x => x.tok != t.tok || x.n != t.n), commits := s1.aud.commits ++ [cm] } }

end Sys2Proof.Machine
end

