-- ==== Sys2Proof/Machine/CadOps.lean ====
section
/-! DEFINITION. Cadence timing (R64 to R74, R181, R182, R200), commits at a line (R76), judgement at the end of a line
(R84, R87, R91), and the ends of a cadence's business (R69, R71) on the video side. -/
namespace Sys2Proof.Machine

/-- The first frame start of cadence c that lies at least `ns` ahead of now, as a grid line (R50, R182). -/
def frameAfter (s : State) (c ns : Nat) : Nat :=
  let fmt := s.g F.XPT_CAD_CFG_FORMAT [c]
  let rate := s.g F.XPT_CAD_CFG_RATE [c]
  let lag := s.g F.REF_CAD_LAG_LAG [c]
  let n := rasterLines fmt
  let h := s.ref.h + ns * hUnit
  if h ≤ lag * hUnit then 0
  else (gridLine fmt rate lag (h - 1) / n + 1) * n

/-- Where the next line start of a running cadence takes it, if that line has begun: frame, line, grid line, and whether
lines were skipped (R65, R69, R200). -/
def nextLine (s : State) (c : Nat) : Option (Nat × Nat × Nat × Bool) :=
  let k := s.cad c
  let n := s.raster c
  let g := gridNow s c
  match k.base with
  | some (h0, kEnd) =>
    if kEnd * n ≤ g then
      let at_ := if k.cut then g else kEnd * n
      some ((k.frame + 1) % 2 ^ 32, at_ % n + 1, at_, decide (k.line < n || kEnd * n < at_))
    else
      let l := gridLine (s.g F.XPT_CAD_CFG_FORMAT [c]) (s.g F.XPT_CAD_CFG_RATE [c]) 0 (s.ref.h - h0)
      if k.line ≤ l && k.line < n then
        let upTo := if k.cut then min n (l + 1) else k.line + 1
        some (k.frame, upTo, k.n, decide (k.line + 1 < upTo))
      else none
  | none =>
    if g ≤ k.n then none
    else if k.cut then
      some (if g / n = k.n / n then k.frame else (k.frame + 1) % 2 ^ 32, g % n + 1, g, decide (k.n + 1 < g))
    else some (if k.line = n then (k.frame + 1) % 2 ^ 32 else k.frame, if k.line = n then 1 else k.line + 1, k.n + 1, false)

/-- The frame before the one in progress. -/
def prevFrame (k : Cad) : Nat := (k.frame + 2 ^ 32 - 1) % 2 ^ 32

/-- The switch frame of the window that the cadence's line lies in (R73): the frame whose window [P − 32, P + 32], counted across
frame boundaries, holds the line after this one, else the frame in progress. The frame a cadence began with has none before it. -/
def windowFrame (s : State) (c : Nat) : Nat × Int :=
  let k := s.cad c
  let n : Int := s.raster c
  let p : Int := s.g F.XPT_CAD_CFG_SWITCH_LINE [c]
  let l : Int := (k.line : Int) + 1
  let near := fun (x : Int) => -32 ≤ x && x ≤ 32
  if near (l - n - p) then ((k.frame + 1) % 2 ^ 32, l - n - p)
  else if near (l + n - p) && !k.first then (prevFrame k, l + n - p) else (k.frame, l - p)

/-- Resolve the switch point of frame f at (af, al): unresolved stamps on it take the line (R73). -/
def resolvePoint (c f af al : Nat) (s : State) : State :=
  let k := s.cad c
  let keep := k.points.filter (fun x => x.1 != f && decide ((f + 2 ^ 32 - x.1) % 2 ^ 32 < 4))
  let s1 := s.setCad c { k with points := keep ++ [(f, af, al)], lastSwitch := al }
  let re := fun (t : Stamp) => if t.cad == c && t.sw && t.line == 0 && t.frame == f then { t with frame := af, line := al } else t
  { s1 with
    xpt := { s1.xpt with
      takes := s1.xpt.takes.map (fun t => { t with stamp := re t.stamp })
      salvos := s1.xpt.salvos.map (fun x => { x with commit := x.commit.map (fun y => (y.1, re y.2)) }) }
    aud := { s1.aud with pend := s1.aud.pend.map (fun t => { t with stamp := re t.stamp }) } }

/-- The active sends each switch point it resolves from SWITCH_SYNC to the twin; a device that resolves another than the
active's shows it (R74). -/
def announcePoint (c f af al : Nat) (s : State) : State :=
  if s.isActive then
    match (if h : c < 8 then some (Fin.mk c h) else none) with
    | some c' => if s.on F.RED_PARTNER_STAT_UP [] then s.tell (.decision (.switchPoint c' f af al)) else s
    | none => s
  else
    let other := s.eng.decisions.any (fun d => match d with
      | .switchPoint c' f' x y => c'.val == c && f' == f && !(x == af && y == al)
      | _ => false)
    if other && !s.takesHost then occur 86 c ((s.p F.XPT_CAD_STAT_SSYNC_DIFF [c] 1).count 173 1) else s

/-- What a line start resolves (R73): without SWITCH_SYNC the switch point is line P; with it, line P + 32 where no edge
was accepted. The flag says that the point was missed. Where SSYNC_EN goes to 0 after line P, the manual says nothing of a take that
waits on that frame's unresolved point: it stays pending (DESIGN CHOICE, log 98). -/
def resolveAtLine (c : Nat) (s : State) : State × Bool :=
  let k := s.cad c
  let p := s.g F.XPT_CAD_CFG_SWITCH_LINE [c]
  let n := s.raster c
  if s.on F.XPT_CAD_CTRL_SSYNC_EN [c] then
    let fr := if p + 32 ≤ n then k.frame else prevFrame k
    let l := if p + 32 ≤ n then p + 32 else p + 32 - n
    if k.line = l && !(k.points.any (fun x => x.1 == fr)) && (p + 32 ≤ n || !k.first) then
      let s1 := announcePoint c fr k.frame k.line (resolvePoint c fr k.frame k.line s)
      ((s1.bump F.XPT_CAD_SSYNC_MISSING [c] 1).count (110 + 8 * c) 1, true)
    else (s, false)
  else if k.line = p && !(k.points.any (fun x => x.1 == k.frame)) then (resolvePoint c k.frame k.frame p s, false)
  else (s, false)

/-- Whether a stamp is due at the line the cadence is on. -/
def stampDue (s : State) (c : Nat) (t : Stamp) : Bool :=
  t.cad == c && t.frame == (s.cad c).frame && t.line == (s.cad c).line && t.line != 0

/-- Whether a stamp lay on a line that the step from (f0, l0) to the current line skipped (R66). A switch point that SWITCH_SYNC has
not resolved lies at line P + 32 at the latest (R73), which the step must have passed. -/
def stampSkipped (s : State) (c f0 l0 : Nat) (t : Stamp) : Bool :=
  let k := s.cad c
  let n := s.raster c
  let at_ := linePos n f0 t.frame (if t.line = 0 then s.g F.XPT_CAD_CFG_SWITCH_LINE [c] + 32 else t.line)
  t.cad == c && (t.line != 0 || t.sw) && decide (linePos n f0 f0 l0 < at_) && decide (at_ < linePos n f0 k.frame k.line)

/-- Restamp what the skipped lines held to line 1 of the next frame, flagged LATE (R66); `at1` that line. -/
def restampSkipped (c f0 l0 : Nat) (s : State) : State :=
  let k := s.cad c
  let fr := if k.line = 1 then k.frame else (k.frame + 1) % 2 ^ 32
  let sk := fun (t : Stamp) => stampSkipped s c f0 l0 t
  let upTo := fun (t : Stamp) => ({ t with frame := fr, line := 1 } : Stamp)
  let moves := fun (st : Stamp) (sv : Option SalvoKey) => sk st && (match sv with
    | some y => (match salvoOf s y with | some x => x.commit.isSome | none => false)
    | none => true)
  { s with
    aud := { s.aud with pend := s.aud.pend.map (fun t => if moves t.stamp t.salvo then { t with stamp := upTo t.stamp, late := true } else t) }
    xpt := { s.xpt with
      takes := s.xpt.takes.map (fun t => if moves t.stamp t.salvo then { t with stamp := upTo t.stamp, late := true } else t)
      salvos := s.xpt.salvos.map (fun x => match x.commit with
        | some (tk, st) => if sk st then { x with commit := some (tk, upTo st), late := true } else x
        | none => x)
      cadOps := s.xpt.cadOps.map (fun o => if sk o.stamp then { o with stamp := upTo o.stamp, late := true } else o) } }

/-- Members of a salvo among the pending takes. -/
def membersOf (s : State) (k : SalvoKey) : List PendTake := s.xpt.takes.filter (fun t => t.salvo == some k)
def audMembersOf (s : State) (k : SalvoKey) : List PendAud := s.aud.pend.filter (fun t => t.salvo == some k)

/-- Commit every take and salvo that is due at the line cadence c is on (R76, R86, R259). `mk` says that a switch point was missed and
resolves here, which flags every take committed on this line (R73). -/
def commitDue (c cycle : Nat) (mk : Bool) (s : State) : State :=
  let now : Stamp := ⟨c, (s.cad c).frame, (s.cad c).line, false⟩
  let due := s.xpt.takes.filter (fun t => t.salvo.isNone && stampDue s c t.stamp)
  let s0 := each due (fun t u => commitTake cycle false mk now t u) s
  let s1 := each (s0.aud.pend.filter (fun t => t.salvo.isNone && stampDue s0 c t.stamp))
    (fun t u => commitAud cycle false mk now t u) s0
  let sal := s1.xpt.salvos.filter (fun x => match x.commit with
    | some (_, st) => stampDue s1 c st
    | none => false)
  each sal (fun x u =>
    match x.commit with
    | none => u
    | some (tk, _) =>
      let ms := membersOf u x.key
      let am := audMembersOf u x.key
      let u1 := each am (fun t w => commitAud cycle x.late mk now t w) (each ms (fun t w => commitTake cycle x.late mk now t w) u)
      let u2 := { u1 with xpt := { u1.xpt with
        salvos := u1.xpt.salvos.filter (fun y => y.key != x.key)
        salvoEnds := u1.xpt.salvoEnds ++ [SalvoEnd.mk x.key tk now x.late mk (ms.length + am.length) 0 0x7FF 0 0 false (!am.isEmpty)] } }
      takeLatency tk c (u2.count (if x.key.id = 8 then 169 else 168) 1)) s1

/-- Count a dirty commit (R91): each failed member's source, the cadence once. -/
def countDirty (c : Nat) (bad : List (Nat × Nat)) (s : State) : State :=
  let s1 := each bad (fun x u => u.bump F.XPT_ALIGN_STAT_DIRTY [x.1] 1) s
  (s1.bump F.XPT_CAD_TAKES_DIRTY [c] 1).count (106 + 8 * c) 1

/-- Judge one commit at the end of its line (R91, R84): the record of a take that is no salvo member, or the salvo's
counts. -/
def judgeOne (j : Judging) (s : State) : State :=
  let cls := dstSub s j.d j.m
  let bad := dirtyMembers s j.stamp.cad cls j.src
  let why := match bad with
    | [] => 0
    | x :: _ => x.2
  let s1 := when (why != 0) (countDirty j.stamp.cad bad) s
  let s2 := when j.forced (fun u => u.count (107 + 8 * j.stamp.cad) 1) s1
  match j.salvo with
  | none =>
    let flags := b2n j.late + 2 * b2n (why != 0) + 4 * b2n j.forced + 8 * b2n j.missing + 16 * why
    finish j.tok 0 flags (j.d + j.m * 2 ^ 11 + (j.cycle % 2 ^ 32) * 2 ^ 32) (some j.stamp) s2
  | some k =>
    let up := fun (x : SalvoEnd) => { x with dirty := x.dirty + b2n (why != 0), forced := x.forced + b2n j.forced,
                                             lowest := if why != 0 then min x.lowest j.d else x.lowest }
    let ends := mapFirst (fun x => x.key == k && !x.judged) up s2.xpt.salvoEnds
    let s3 := { s2 with xpt := { s2.xpt with salvoEnds := ends } }
    finish j.tok 0 0 0 none s3

/-- The record of a salvo whose members are all judged and whose audio members have committed (R84, R87, R352). -/
def closeSalvo (x : SalvoEnd) (s : State) : State :=
  let s1 := { s with xpt := { s.xpt with salvoEnds := s.xpt.salvoEnds.filter (fun y => !(y.tok == x.tok)) } }
  let flags := b2n x.late + 2 * b2n (decide (0 < x.dirty)) + 4 * b2n (decide (0 < x.forced)) + 8 * b2n x.missing
  let res := min 16383 x.members + min 16383 x.dirty * 2 ^ 14 + x.lowest * 2 ^ 28 + (x.cuts % 2 ^ 15) * 2 ^ 39
    + min 1023 x.forced * 2 ^ 54
  finish x.tok 0 flags res (some x.stamp) s1

/-- Close the salvos that are complete. -/
def closeSalvos (s : State) : State :=
  each (s.xpt.salvoEnds.filter (fun x => x.judged && !x.audioDue)) closeSalvo s

/-- The end of a line of cadence c: its commits are judged (R91). -/
def judgeLine (c : Nat) (s : State) : State :=
  let mine := s.xpt.judging.filter (fun j => j.stamp.cad == c)
  let s1 := { s with xpt := { s.xpt with judging := s.xpt.judging.filter (fun j => j.stamp.cad != c) } }
  let s2 := each mine judgeOne s1
  let ends := s2.xpt.salvoEnds.map (fun x => if x.stamp.cad == c then { x with judged := true } else x)
  closeSalvos { s2 with xpt := { s2.xpt with salvoEnds := ends } }

/-- Close the salvos of a cadence (R69, R71): an uncommitted one closes and its members are discarded; a committing one
completes CANCELLED with all its members. -/
def cancelSalvos (c : Nat) (s : State) : State :=
  each (s.xpt.salvos.filter (fun x => x.cad == c)) (fun x u =>
    let code := if x.commit.isSome then 2 else 3
    let u1 := endAuds (fun t => t.salvo == some x.key) code (endTakes (fun t => t.salvo == some x.key) code u)
    let u2 := { u1 with xpt := { u1.xpt with salvos := u1.xpt.salvos.filter (fun y => y.key != x.key) } }
    match x.commit with
    | some (tk, st) => finish tk 2 (b2n x.late) (0x7FF * 2 ^ 28) (some st) (u2.count 96 1)
    | none => u2) s

/-- Cancel the pending takes whose commit point lies on a cadence, outside salvos (R69, R71); the number cancelled. -/
def cancelTakes (c : Nat) (s : State) : State × Nat :=
  let p := fun (t : PendTake) => t.salvo.isNone && t.stamp.cad == c
  let q := fun (t : PendAud) => t.salvo.isNone && t.stamp.cad == c
  (endAuds q 2 (endTakes p 2 s), (s.xpt.takes.filter p).length + (s.aud.pend.filter q).length)

/-- Cancel the pending CADENCE_SETs and realignments of a cadence (R71). -/
def cancelCadOps (c : Nat) (s : State) : State :=
  each (s.xpt.cadOps.filter (fun o => o.stamp.cad == c)) (fun o u =>
    finish o.tok 2 (b2n o.late) 0 (some o.stamp)
      { (u.count 96 1) with xpt := { (u.count 96 1).xpt with cadOps := u.xpt.cadOps.filter (fun x => x.tok != o.tok) } }) s

/-- Clear VALID in the alignment monitors of every source bound to a cadence (R69, R70). -/
def clearCadAlign (c : Nat) (s : State) : State :=
  each (listed s R.XPT_ALIGN_STAT 10240) (fun e u =>
    if srcCad u (e.1 / 8) (e.1 % 8) == c then
      { u.p F.XPT_ALIGN_STAT_VALID [e.1] 0 with xpt := { u.xpt with sampled := drop1 u.xpt.sampled e.1 } } else u) s

/-- A rising edge on SWITCH_SYNC[c] (R73). -/
def ssyncEdge (c : Nat) (s : State) : State :=
  let k := s.cad c
  if !k.running || !s.on F.XPT_CAD_CTRL_SSYNC_EN [c] then s
  else
    let (f, off) := windowFrame s c
    let n := s.raster c
    let resolved := k.points.any (fun x => x.1 == f)
    let inWin := decide (-32 ≤ off) && decide (off ≤ 32)
    let okFrame := match k.edgeFrame with
      | none => true
      | some e => decide (linePos n k.frame e 1 ≤ linePos n k.frame k.frame k.line)
    if inWin && !resolved && okFrame then
      let (af, al) := if k.line = n then ((k.frame + 1) % 2 ^ 32, 1) else (k.frame, k.line + 1)
      ((announcePoint c f af al (resolvePoint c f af al s)).p F.XPT_CAD_SSYNC_LAST_OFFSET [c] (ofSigned 7 off)).count (108 + 8 * c) 1
    else (s.bump F.XPT_CAD_SSYNC_OUTSIDE [c] 1).count (109 + 8 * c) 1

end Sys2Proof.Machine
end

