-- ==== Sys2Proof/Machine/CelMem.lean ====
section
/-! DEFINITION. The cellar as memory (R279, R281, R282, R289 to R292): locations under the grain, byte reads and writes in
the canonical form, the code's corrections and the error log, request counting, wake-up from self-refresh. -/
namespace Sys2Proof.Machine

/-- Bytes of the cellar (16 GiB). -/
def celBytes : Nat := 2 ^ 34

/-- The grain in bytes (R279); codes 9 to 15 are never held. -/
def State.grain (s : State) : Nat := 256 * 2 ^ s.g F.CEL_CFG_GRAIN []

/-- Pseudo-channel, and address within it, of a byte address (R279). -/
def celPc (g a : Nat) : Nat := a / g % 32
def celIn (g a : Nat) : Nat := a / g / 32 * g + a % g

/-- The physical location of a byte address: 2²⁹ bytes to each pseudo-channel. -/
def celLoc (g a : Nat) : Nat := celPc g a * 2 ^ 29 + celIn g a

/-- Bank and row of an address within its pseudo-channel, the bank numbered over all pseudo-channels (R279). -/
def celBank (g a : Nat) : Nat := celPc g a * 32 + celIn g a / 1024 % 32
def celRow (g a : Nat) : Nat := celIn g a / 32768

/-- A byte of a sparse memory: an unlisted address reads as 0 (DESIGN CHOICE, log 2). -/
def memByte (m : List (Nat × Byte)) (a : Nat) : Byte := getD 0 m a

/-- Write a byte of a sparse memory. -/
def memPut (m : List (Nat × Byte)) (a : Nat) (b : Byte) : List (Nat × Byte) := putD 0 m a b

/-- The canonical form of a sparse memory: addresses strictly rising, no entry equal to what an unlisted address reads as. -/
def Memory.wf (m : List (Nat × Byte)) : Bool := rising m && noDefault 0 m

/-- Write bytes at rising addresses. -/
def memPuts (m : List (Nat × Byte)) (a : Nat) : List Byte → List (Nat × Byte)
  | [] => m
  | b :: r => memPuts (memPut m a b) (a + 1) r

/-- A byte of the cellar. -/
def State.celByte (s : State) (a : Nat) : Byte := memByte s.cel.mem (celLoc s.grain a)

/-- Bytes of the cellar from an address. -/
def State.celData (s : State) (a n : Nat) : List Byte := (List.range n).map (fun i => s.celByte (a + i))

/-- The 32 B words that a range of bytes touches, by the address of their first byte. -/
def wordsOf (a n : Nat) : List Nat :=
  if n = 0 then [] else (List.range ((a + n - 1) / 32 - a / 32 + 1)).map (fun i => 32 * (a / 32 + i))

/-- Wake the stack from self-refresh (R285); while a reset of the controller holds it there (R288), nothing does. -/
def srWake (s : State) : State :=
  if s.g F.CEL_STAT_STATE [] = 2 && !s.cel.training then
    { s.p F.CEL_STAT_STATE [] 3 with cel := { s.cel with exiting := true, wakeAt := s.ticks } }
  else s

/-- Requests wait (R285, R286, R288): in self-refresh and on the way out of it, while training runs, and before the first training of a
boot. A stack whose training failed answers them. -/
def celWaits (s : State) : Bool :=
  decide (2 ≤ s.g F.CEL_STAT_STATE []) || (s.g F.CEL_STAT_STATE [] == 0 && !s.on F.CEL_STAT_TRAIN_FAIL [])

/-- The channel of a request that waits, and its requester. -/
def CelReq.chan : CelReq → Option Nat
  | .bdpRead c _ _ => some c
  | .bdpWrite c _ _ _ => some c
  | _ => none

def CelReq.owner : CelReq → Option Req
  | .bdpRead c _ _ => if h : c < 8 then some (.part ⟨c, h⟩) else some .mgmt
  | .bdpWrite c _ _ _ => if h : c < 8 then some (.part ⟨c, h⟩) else some .mgmt
  | .regRead rq _ => some rq
  | .regWrite rq _ _ _ => some rq
  | _ => none

/-- A request waits; it wakes the stack. -/
def celHoldReq (r : CelReq) (s : State) : State :=
  srWake { s with cel := { s.cel with wait := s.cel.wait ++ [(true, r)], lastReq := s.ticks } }

/-- Open the row a word lies in (R282) and count a hit or a miss. -/
def touchRow (a : Nat) (s : State) : State :=
  let b := celBank s.grain a
  let r := celRow s.grain a
  let idle := 5 * s.g F.CEL_CFG_PAGE_IDLE []
  let hit := match find? s.cel.rows b with
    | some (row, t) => row == r && decide (s.ticks - t < idle)
    | none => false
  let rows := if idle = 0 then drop1 s.cel.rows b else put s.cel.rows b (r, s.ticks)
  ({ s with cel := { s.cel with rows := rows } }).count (if hit then 403 else 404) 1

/-- A requester of class k (0 LIVE, 1 WRITEBACK, 2 HOST, 3 SCRUB) issues requests for words: a request of a class other
than SCRUB wakes the stack and restarts the idle time (R284, R285). -/
def celTouch (k : Nat) (ws : List Nat) (s : State) : State :=
  let s1 := if k = 3 || ws.isEmpty then s else srWake { s with cel := { s.cel with lastReq := s.ticks } }
  each ws touchRow ((s1.count (384 + 2 * k) ws.length).count (385 + 2 * k) ws.length)

/-- Log an error of a read (R289, R290). -/
def celError (ue : Bool) (k a : Nat) (s : State) : State :=
  let ch := celPc s.grain a / 2
  let hi := BitVec.ofNat 32 (2 ^ 31 + k * 2 ^ 28 + a / 2 ^ 32)
  let lo := BitVec.ofNat 32 (a / 32 % 2 ^ 27 * 32)
  if ue then
    let s1 := (s.bump F.CEL_ECC_UE_COUNT [] 1).count 395 1
    let s2 := if s1.on F.CEL_UE_ADDR_HI_VALID [] then s1 else (s1.wr R.CEL_UE_ADDR_LO [] lo).wr R.CEL_UE_ADDR_HI [] hi
    occur 171 ch s2
  else
    let s1 := (s.bump F.CEL_ECC_CE_COUNT [] 1).count 394 1
    let s2 := if s1.on F.CEL_CE_ADDR_HI_VALID [] then s1 else (s1.wr R.CEL_CE_ADDR_LO [] lo).wr R.CEL_CE_ADDR_HI [] hi
    occur 170 ch s2

/-- Wrong bits stored in the word at an address. -/
def celFlips (s : State) (a : Nat) : Nat := getD 0 s.cel.flips (celLoc s.grain a / 32)

/-- A word whose code fails: two or more wrong bits (R289). -/
def celUe (s : State) (a : Nat) : Bool := decide (2 ≤ celFlips s a)

/-- The reads of a class: each word is checked; the bytes are those of the stack with single errors corrected. The words
that failed are given by address. -/
def celRead (k a n : Nat) (s : State) : List Byte × List Nat × State :=
  let ws := wordsOf a n
  let s1 := each ws (fun w t => match celFlips t w with
    | 0 => t
    | 1 => celError false k w t
    | _ => celError true k w t) (celTouch k ws s)
  (s.celData a n, ws.filter (celUe s), s1)

/-- A class's writes to a stack that is ready: INJ corrupts the first word written (R292); a word written anew holds no old error (DEDUCED,
log 32). -/
def celPut (k a : Nat) (bs : List Byte) (s : State) : State :=
  let ws := wordsOf a bs.length
  let g := s.grain
  let mem := (((List.range bs.length).zip bs).foldl (fun m x => memPut m (celLoc g (a + x.1)) x.2) s.cel.mem)
  let inj := s.g F.CEL_ECC_CTRL_INJ []
  let clean := ws.foldl (fun m w => drop1 m (celLoc g w / 32)) s.cel.flips
  let flips := match ws with
    | [] => clean
    | w :: _ => putD 0 clean (celLoc g w / 32) inj
  let s1 := celTouch k ws { s with cel := { s.cel with mem := mem, flips := flips } }
  if ws.isEmpty then s1 else s1.p F.CEL_ECC_CTRL_INJ [] 0

/-- Writes of a class: they wait for a stack that is not ready. -/
def celStore (k a : Nat) (bs : List Byte) (s : State) : State :=
  if celWaits s && !bs.isEmpty then celHoldReq (.write k a bs) s else celPut k a bs s

/-- The pages this device writes itself while it resyncs (R386): those of the LUT pool come first. -/
def markWrote (ps : List Nat) (s : State) : State :=
  match s.red.sync with
  | some y => { s with red := { s.red with sync := some { y with wrote := (y.wrote ++ ps).eraseDups } } }
  | none => s

/-- Pages of the LUT pool (20 MiB), which come first among the units of a resync (R385). -/
def lutPages : Nat := 5120

/-- A write of a user of the cellar. -/
def celWrite (k a : Nat) (bs : List Byte) (s : State) : State :=
  markWrote ((wordsOf a bs.length).map (fun w => lutPages + w / 4096)) (celStore k a bs s)

/-- A range of bytes lies in the cellar. -/
def inCellar (a n : Nat) : Bool := decide (a + n ≤ celBytes)

end Sys2Proof.Machine
end

