-- ==== Sys2Proof/Machine/EngPix.lean ====
section
/-! DEFINITION. Pictures inside an engine (R221 to R229): samples of line records, the chroma filters, the tone mapper and
the compositor, in exact arithmetic. -/
namespace Sys2Proof.Machine

/-- The null word (R115): ANC set, all samples 0. -/
def nullWord : BusWord := 1#128 <<< 120

/-- An ANC word. -/
def isAnc (w : BusWord) : Bool := w.getLsbD 120

/-- Sample j of a word. -/
def sampleOf (w : BusWord) (j : Nat) : Nat := bitsOf w.toNat (10 * j + 9) (10 * j)

/-- The samples of words in order, 12 to a word. -/
def samplesOf (ws : List BusWord) : List Nat := ws.flatMap (fun w => (List.range 12).map (sampleOf w))

/-- Pack samples into `n` words (R47). -/
def packWords (n : Nat) (x : Array Nat) : List BusWord :=
  (List.range n).map (fun i => BitVec.ofNat 128 ((List.range 12).foldl (fun a j => a + x.getD (12 * i + j) 0 % 1024 * 2 ^ (10 * j)) 0))

/-- A black picture word (R219): Cb and Cr 512, Y 64. -/
def blackWord : BusWord :=
  BitVec.ofNat 128 ((List.range 12).foldl (fun a j => a + (if j % 2 = 0 then 512 else 64) * 2 ^ (10 * j)) 0)

/-- Pixels in a line of a format. -/
def widthOf (f : Nat) : Nat :=
  match f with
  | 0 => 1920 | 1 => 1920 | 2 => 1280 | 3 => 3840 | 4 => 7680 | _ => 0

/-- First active lines of the rasters (PRESUMED, log 3: the SMPTE rasters). Which picture line, in order of transmission, a
raster line carries. -/
def activeIdx (f line : Nat) : Option Nat :=
  match f with
  | 0 => if 21 ≤ line && line ≤ 560 then some (line - 21) else if 584 ≤ line && line ≤ 1123 then some (540 + line - 584) else none
  | 1 => if 42 ≤ line && line ≤ 1121 then some (line - 42) else none
  | 2 => if 26 ≤ line && line ≤ 745 then some (line - 26) else none
  | 3 => if 83 ≤ line && line ≤ 2242 then some (line - 83) else none
  | 4 => if 165 ≤ line && line ≤ 4484 then some (line - 165) else none
  | _ => none

/-- The active line of the frame, fields of 1080i interleaved, of a picture line in order of transmission. -/
def frameLine (f i : Nat) : Nat := if f = 0 then (if i < 540 then 2 * i else 2 * (i - 540) + 1) else i

/-- A pixel line: Y, Cb and Cr of each pixel as 10-bit codes with fractions. -/
structure PixLine where
  y : Array Rat
  cb : Array Rat
  cr : Array Rat

/-- Chroma of pixel x from co-sited samples (R221). -/
def upChroma (c : Array Nat) (x : Nat) : Rat :=
  let n := c.size
  let at_ := fun (i : Int) => (c.getD (if i < 0 then 0 else min i.toNat (n - 1)) 512 : Rat)
  let i : Int := (x / 2 : Nat)
  if x % 2 = 0 then at_ i else (at_ (i - 1) * (-3) + at_ i * 19 + at_ (i + 1) * 19 - at_ (i + 2) * 3) / 32

/-- The pixels of 4:2:2 samples Cb, Y, Cr, Y. -/
def upLine (w : Nat) (x : Array Nat) : PixLine :=
  let half := w / 2
  let cbs := Array.ofFn (n := half) (fun i => x.getD (4 * i.val) 512)
  let crs := Array.ofFn (n := half) (fun i => x.getD (4 * i.val + 2) 512)
  ⟨Array.ofFn (n := w) (fun i => (x.getD (2 * i.val + 1) 64 : Rat)), Array.ofFn (n := w) (fun i => upChroma cbs i.val),
   Array.ofFn (n := w) (fun i => upChroma crs i.val)⟩

/-- Nearest integer; a tie goes where the manual leaves it (Config.tieUp). -/
def nearest (q : Rat) : Int :=
  let f := q.floor
  let d := q - (f : Rat)
  if d < 1 / 2 then f else if 1 / 2 < d then f + 1 else if Sys2Proof.Config.tieUp f then f + 1 else f

/-- Nearest integer with ties away from zero (R221). -/
def awayRound (q : Rat) : Int :=
  if 0 ≤ q then (q + 1 / 2).floor else -((-q + 1 / 2).floor)

/-- An output sample (R221). -/
def outSample (q : Rat) : Nat :=
  let i := awayRound q
  if i < 4 then 4 else if 1019 < i then 1019 else i.toNat

/-- The downsampler (R221) and the rounding at the output. -/
def downLine (filter : Bool) (w : Nat) (p : PixLine) : Array Nat :=
  let ch := fun (c : Array Rat) (i : Nat) =>
    let at_ := fun (j : Int) => c.getD (if j < 0 then 0 else min j.toNat (w - 1)) 512
    let x : Int := (2 * i : Nat)
    if filter then (at_ (x - 1) + 2 * at_ x + at_ (x + 1)) / 4 else at_ x
  Array.ofFn (n := 2 * w) (fun j =>
    outSample (if j.val % 2 = 1 then p.y.getD (j.val / 2) 64 else if j.val % 4 = 0 then ch p.cb (j.val / 4) else ch p.cr (j.val / 4)))

/-- Clip to an internal code (R223, R224). -/
def clip16 (i : Int) : Nat := if i < 0 then 0 else if 65535 < i then 65535 else i.toNat

/-- Internal code of a value (R223). -/
def codeOf (v : Rat) : Nat := clip16 (nearest (8192 + 49152 * v))

/-- Kr and Kb (R223). -/
def kr (bt2020 : Bool) : Rat := if bt2020 then 2627 / 10000 else 2126 / 10000
def kb (bt2020 : Bool) : Rat := if bt2020 then 593 / 10000 else 722 / 10000

/-- Step 1 of R222. -/
def toRgb (enc : Bool) (y cb cr : Rat) : Nat × Nat × Nat :=
  let a := (y - 64) / 876
  let b := (cb - 512) / 896
  let r := (cr - 512) / 896
  let r1 := a + 2 * (1 - kr enc) * r
  let b1 := a + 2 * (1 - kb enc) * b
  let g1 := (a - kr enc * r1 - kb enc * b1) / (1 - kr enc - kb enc)
  (codeOf r1, codeOf g1, codeOf b1)

/-- A value brought to 6 fraction bits. -/
def keep6 (q : Rat) : Rat :=
  let f := (q * 64).floor
  if (f : Rat) = q * 64 || !Sys2Proof.Config.keepUp f then (f : Rat) / 64 else ((f : Rat) + 1) / 64

/-- Step 6 of R222. -/
def toYcc (enc : Bool) (c : Nat × Nat × Nat) : Rat × Rat × Rat :=
  let v := fun (n : Nat) => ((n : Rat) - 8192) / 49152
  let kg := 1 - kr enc - kb enc
  let y := kr enc * v c.1 + kg * v c.2.1 + kb enc * v c.2.2
  (keep6 (64 + 876 * y), keep6 (512 + 896 * ((v c.2.2 - y) / (2 * (1 - kb enc)))),
   keep6 (512 + 896 * ((v c.1 - y) / (2 * (1 - kr enc)))))

/-- A 16-bit value of the LUT pool at an offset of a set (R225). -/
def lut16 (m : List (Nat × Byte)) (set off : Nat) : Nat :=
  let a := 0x40000 * set + off
  (memByte m a).toNat + 256 * (memByte m (a + 1)).toNat

/-- A 1D LUT (R224): table at `base`, component k. -/
def lut1d (m : List (Nat × Byte)) (set base k c : Nat) : Nat :=
  let e := fun i => lut16 m set (base + 6 * i + 2 * k)
  let i := c / 64
  if 1023 ≤ i then e 1023
  else clip16 (nearest ((e i : Rat) + ((e (i + 1) : Rat) - e i) * (c % 64 : Nat) / 64))

/-- The matrix (R224). -/
def lutMatrix (m : List (Nat × Byte)) (set j : Nat) (c : Nat × Nat × Nat) : Nat :=
  let mm := fun k => ((toSigned 16 (lut16 m set (0x3000 + 6 * j + 2 * k)) : Int) : Rat) / 8192
  let o := toSigned 32 (lut16 m set (0x3014 + 4 * j) + 65536 * lut16 m set (0x3016 + 4 * j))
  clip16 (nearest (mm 0 * c.1 + mm 1 * c.2.1 + mm 2 * c.2.2 + (o : Int)))

/-- A node of the 3D LUT (R225), component k. -/
def node3d (m : List (Nat × Byte)) (set k ir ig ib : Nat) : Rat :=
  (lut16 m set (0x4000 + 6 * ((min ir 32 * 33 + min ig 32) * 33 + min ib 32) + 2 * k) : Nat)

/-- The 3D LUT with tetrahedral interpolation (R224), component k: the path from the lower to the upper node of the cube
steps along the axes in order of falling weight. -/
def lut3d (m : List (Nat × Byte)) (set k : Nat) (c : Nat × Nat × Nat) : Nat :=
  let i := (c.1 / 2048, c.2.1 / 2048, c.2.2 / 2048)
  let w := fun (n : Nat) => ((n % 2048 : Nat) : Rat) / 2048
  let wr := w c.1
  let wg := w c.2.1
  let wb := w c.2.2
  let v := fun (a b d : Nat) => node3d m set k (i.1 + a) (i.2.1 + b) (i.2.2 + d)
  let path := fun (w1 w2 w3 : Rat) (p1 p2 : Nat × Nat × Nat) =>
    v 0 0 0 * (1 - w1) + v p1.1 p1.2.1 p1.2.2 * (w1 - w2) + v p2.1 p2.2.1 p2.2.2 * (w2 - w3) + v 1 1 1 * w3
  let q :=
    if wg ≤ wr && wb ≤ wg then path wr wg wb (1, 0, 0) (1, 1, 0)
    else if wb ≤ wr && wg ≤ wb then path wr wb wg (1, 0, 0) (1, 0, 1)
    else if wr ≤ wb && wg ≤ wr then path wb wr wg (0, 0, 1) (1, 0, 1)
    else if wr ≤ wg && wb ≤ wr then path wg wr wb (0, 1, 0) (1, 1, 0)
    else if wb ≤ wg && wr ≤ wb then path wg wb wr (0, 1, 0) (0, 1, 1)
    else path wb wg wr (0, 0, 1) (0, 1, 1)
  clip16 (nearest q)

/-- The tone mapper on one pixel (R222). -/
def tonePix (m : List (Nat × Byte)) (set : Nat) (encIn encOut : Bool) (y cb cr : Rat) : Rat × Rat × Rat :=
  let a := toRgb encIn y cb cr
  let b := (lut1d m set 0 0 a.1, lut1d m set 0 1 a.2.1, lut1d m set 0 2 a.2.2)
  let c := (lutMatrix m set 0 b, lutMatrix m set 1 b, lutMatrix m set 2 b)
  let d := (lut3d m set 0 c, lut3d m set 1 c, lut3d m set 2 c)
  toYcc encOut (lut1d m set 0x1800 0 d.1, lut1d m set 0x1800 1 d.2.1, lut1d m set 0x1800 2 d.2.2)

/-- The tone mapper on a line. -/
def toneLine (m : List (Nat × Byte)) (set : Nat) (encIn encOut : Bool) (p : PixLine) : PixLine :=
  let q := Array.ofFn (n := p.y.size) (fun i =>
    tonePix m set encIn encOut (p.y.getD i.val 64) (p.cb.getD i.val 512) (p.cr.getD i.val 512))
  ⟨q.map (·.1), q.map (·.2.1), q.map (·.2.2)⟩

/-- One layer of a line (R227): its pixels, the alpha of each, PREMULT and G. -/
structure LayerLine where
  pix : PixLine
  alpha : Nat → Nat
  premult : Bool
  g : Nat

/-- Round to 1/1024 (R229). -/
def round1024 (q : Rat) : Rat := (nearest (q * 1024) : Rat) / 1024

/-- One component of one pixel through the layers (R229); `off` is its code for 0. -/
def composePix (ls : List LayerLine) (sel : PixLine → Array Rat) (off : Nat) (x : Nat) : Rat :=
  (ls.foldl (fun o l =>
    let v := (sel l.pix).getD x (off : Rat) - off
    let a : Rat := (l.alpha x : Nat) / 1023
    let g : Rat := (l.g : Nat) / 1023
    round1024 (if l.premult then v * g + o * (1 - a * g) else v * a * g + o * (1 - a * g))) 0) + off

/-- The compositor on a line of w pixels. -/
def composeLine (w : Nat) (ls : List LayerLine) : PixLine :=
  ⟨Array.ofFn (n := w) (fun i => composePix ls (·.y) 64 i.val), Array.ofFn (n := w) (fun i => composePix ls (·.cb) 512 i.val),
   Array.ofFn (n := w) (fun i => composePix ls (·.cr) 512 i.val)⟩

/-- The words of 16 bytes each. -/
def bytesToWords : Nat → List Byte → List BusWord
  | 0, _ => []
  | n + 1, b => BitVec.ofNat 128 (ofLE (b.take 16)) :: bytesToWords n (b.drop 16)

def wordsToBytes (ws : List BusWord) : List Byte := ws.flatMap (fun w => leBytes 16 w.toNat)

/-- A layer line as stored (R228): Cb, Y0, A0, Cr, Y1, A1 for each pair of pixels. -/
def layerPixels (w : Nat) (bytes : List Byte) (premult : Bool) (g : Nat) : LayerLine :=
  let x := (samplesOf (bytesToWords (w / 4) bytes)).toArray
  let s422 := Array.ofFn (n := 2 * w) (fun j =>
    let p := j.val / 4
    match j.val % 4 with
    | 0 => x.getD (6 * p) 512 | 1 => x.getD (6 * p + 1) 64 | 2 => x.getD (6 * p + 3) 512 | _ => x.getD (6 * p + 4) 64)
  ⟨upLine w s422, fun i => x.getD (6 * (i / 2) + (if i % 2 = 0 then 2 else 5)) 0, premult, g⟩

end Sys2Proof.Machine
end

