-- ==== Sys2Proof/Machine/Anc.lean ====
section
/-! DEFINITION. Ancillary packets in line records (R118): SMPTE ST 291-1 form from the data flag to the checksum, each from
sample 0 of an ANC word on. -/
namespace Sys2Proof.Machine

/-- The packets in the ANC words of a record: their samples from the data flag through the checksum. -/
def ancPackets : Nat → List BusWord → List (List Nat)
  | 0, _ => []
  | _ + 1, [] => []
  | n + 1, w :: ws =>
    let x := samplesOf ((w :: ws).take 22)
    if x.take 3 == [0, 0x3FF, 0x3FF] then
      let len := 7 + x.getD 5 0 % 256
      x.take len :: ancPackets n (ws.drop (ceilDiv len 12 - 1))
    else ancPackets n ws

/-- The ANC words of a packet: the samples after its checksum are 0. -/
def ancWords (p : List Nat) : List BusWord := (packWords (ceilDiv p.length 12) p.toArray).map (· ||| nullWord)

/-- The ANC words of a record, in order. -/
def ancOf (ws : List BusWord) : List BusWord := ws.filter isAnc

/-- The packets of a record. -/
def recPackets (ws : List BusWord) : List (List Nat) := ancPackets (ancOf ws).length (ancOf ws)

/-- A ten-bit word of an ancillary packet: even parity of bits 7 to 0 in bit 8, its complement in bit 9. -/
def parity10 (b : Nat) : Nat :=
  let p := ((List.range 8).filter (fun i => bitOf b i)).length % 2
  b % 256 + p * 256 + (1 - p) * 512

/-- The checksum of an ancillary packet: the sum of bits 8 to 0 from DID through the last user data word, modulo 512, with bit
9 the complement of bit 8. -/
def ancChecksum (x : List Nat) : Nat :=
  let c := (x.map (· % 512)).sum % 512
  c + (if c < 256 then 512 else 0)

/-- A packet from its DID, SDID (or data block number) and user data words, these as ten-bit words. -/
def ancPacket (did sdid : Nat) (udw : List Nat) : List Nat :=
  let b := [parity10 did, parity10 sdid, parity10 udw.length] ++ udw
  [0, 0x3FF, 0x3FF] ++ b ++ [ancChecksum b]

/-- DID of a packet, second word, user data words. -/
def ancDid (p : List Nat) : Nat := p.getD 3 0 % 256
def ancSdid (p : List Nat) : Nat := p.getD 4 0 % 256
def ancUdw (p : List Nat) : List Nat := (p.drop 6).take (p.getD 5 0 % 256)

/-- Whether a packet's checksum holds. -/
def ancOk (p : List Nat) : Bool :=
  let n := p.getD 5 0 % 256
  p.length == 7 + n && p.getD (6 + n) 0 == ancChecksum ((p.drop 3).take (3 + n))

end Sys2Proof.Machine
end

