-- ==== Sys2Proof/Machine/Access.lean ====
section
/-! DEFINITION. What an access to a register is allowed to do (R3, R7, R302, R303), admission to the cellar (R293 to
R295), and the write of a plain register by its access codes. -/
namespace Sys2Proof.Machine

/-- A requester with the rights of the physical function (R7, R314). -/
def Req.priv : Req → Bool
  | .part p => p == 0
  | .mgmt => true

/-- A block held in reset (R303, R429): by the device's reset, or the cellar controller by SYS_BLK_RESET (R428). -/
def blkHeld (s : State) (b : Blk) : Bool := s.sys.held.contains b || (b == .cel && s.on F.SYS_BLK_RESET_CEL [])

/-- The units that SYS_BLK_RESET holds in reset (R428, R449): the registers marked Block of their blocks. -/
def unitHeld (s : State) (b : Blk) : Bool :=
  match b with
  | .pmu => s.on F.SYS_BLK_RESET_PMU []
  | .zl => s.on F.SYS_BLK_RESET_ZL []
  | .xpt => s.on F.SYS_BLK_RESET_XPT []
  | _ => false

/-- A register access of a requester (R317): its master, PCIe inbound or the management core, and the target, register space. -/
def wakeBus (r : Req) (s : State) : State :=
  wakePort 8 (wakePort (match r with
    | .part _ => 0
    | .mgmt => 1) s)

/-- A bulk data access of a channel (R317): its master, the bulk data port engine, and the cellar or the on-chip tables. -/
def wakeBulk (c : Nat) (s : State) : State :=
  wakePort (if s.on F.HIF_BDP_CTRL_SPACE [c] then 7 else 6) (wakePort 3 s)

/-- A write that a VF may not make is discarded and counted (R300, R302). -/
def denyWrite (p : Nat) (s : State) : State :=
  if blkHeld s .hif then s else (s.bump F.HIF_PART_STAT_WR_DENIED [p] 1).count p 1

/-- A register write outside the partition pages (R302, R303): the physical function and the management port reach it
unless its block is held in reset; a VF's write is discarded and counted. -/
def gate (r : Req) (b : Blk) (f : State → State) (s : State) : State :=
  let t := wakeBus r s
  match r with
  | .part p => if p = 0 then (if blkHeld t b then t else f t) else denyWrite p t
  | .mgmt => if blkHeld t b then t else f t

/-- A write of a register of a unit that SYS_BLK_RESET may hold in reset (R428). -/
def gateUnit (r : Req) (b : Blk) (f : State → State) (s : State) : State := gate r b (fun t => if unitHeld t b then t else f t) s

/-- A register write in the page of partition q of HIF or CMD (R302, R320, R361): open to p0, to the management port and
to q itself, while its block is not held in reset (R303, R429). -/
def gatePage (r : Req) (b : Blk) (q : Nat) (f : State → State) (s : State) : State :=
  let g := fun t => if blkHeld t b then t else f t
  let t := wakeBus r s
  match r with
  | .part p => if p = 0 || p.val = q then g t else denyWrite p t
  | .mgmt => g t

/-- The outcome of a command: this block answers every command with a next state. -/
abbrev Out := Host.Outcome State Fault Refusal

/-- Whether the access code of a field holds at an index (the layouts and quads are read only from a limit on). -/
def Fld.open_ (f : Fld) (i : List Nat) : Bool :=
  match f.lim with
  | some n => decide (i.headD 0 < n)
  | none => true

/-- The word a write of `v` leaves, field by field (R4, R7): reserved bits stay 0, RO and WO fields stay as they are, a
W1C bit is cleared by 1, a W1S bit set by 1. -/
def writtenWord (r : Reg) (i : List Nat) (v w : Word) : Word :=
  r.flds.foldl (fun w f =>
    let m := fldMask f.hi f.lo
    if !f.open_ i then w
    else match f.acc with
      | .rw => maskIn m w v
      | .rwp => maskIn m w v
      | .w1c => w &&& ~~~(m &&& v)
      | .w1s => w ||| (m &&& v)
      | .ro => w
      | .wo => w) w

/-- Write a plain register. -/
def State.write (s : State) (r : Reg) (i : List Nat) (v : Word) : State := s.wr r i (writtenWord r i v (s.rd r i))

/-- The value a write carries for a field. -/
def FR.in_ (f : FR) (v : Word) : Nat := f.of v

/-- Picture words of a line and active lines of a format (R24). -/
def pictureWords (f : Nat) : Nat :=
  match f with
  | 0 => 320 | 1 => 320 | 2 => 214 | 3 => 640 | 4 => 1280 | _ => 0

def activeLines (f : Nat) : Nat :=
  match f with
  | 0 => 1080 | 1 => 1080 | 2 => 720 | 3 => 2160 | 4 => 4320 | _ => 0

/-- Minimum class of a format and rate (R24). -/
def minClass (f r : Nat) : Nat :=
  match f with
  | 3 => if 5 ≤ r then 4 else 3
  | 1 => if 5 ≤ r then 2 else 1
  | 4 => 5
  | _ => 1

/-- A class fits a format (R24, R51, R342): at or above the minimum, and 8K for 4320p and nothing else. -/
def classFits (cls f r : Nat) : Bool := decide (minClass f r ≤ cls) && decide (cls ≤ 5) && (cls == 5) == (f == 4)

/-- A charge in 0.01 Gbit/s, rounded up (R294), of a rate of words per second as a fraction. -/
def wordCharge (words num den : Nat) : Nat := ceilDiv (words * 128 * num) (den * 10000000)

/-- Charge of a picture at its word rate (R48). -/
def pictureCharge (f r : Nat) : Nat :=
  let (num, den) := rateOf r
  wordCharge (pictureWords f * activeLines f) num den

/-- The budget of R293 compared with a load: load ≤ 6,553.6 Gbit/s × PCT ÷ 100. -/
def withinBudget (s : State) (load : Nat) : Bool := decide (load * 100 ≤ 655360 * s.g F.CEL_BUDGET_PCT [])

/-- Whether a new charge in place of an old one is admitted (R287, R294). -/
def admits (s : State) (old new : Nat) : Bool :=
  withinBudget s (s.g F.CEL_LOAD_LOAD [] - old + new) && !(s.on F.CEL_STAT_TRAIN_FAIL [] && decide (0 < new))

/-- OVER follows the load (R295). -/
def updateOver (s : State) : State :=
  let o := !withinBudget s (s.g F.CEL_LOAD_LOAD [])
  level 172 0 o (when (o && !s.on F.CEL_STAT_OVER []) (fun t => t.count 406 1) (s.p F.CEL_STAT_OVER [] (b2n o)))

/-- Replace an admitted charge in CEL_LOAD; a load above 0 wakes the stack (R285). -/
def charge (old new : Nat) (s : State) : State :=
  if old = new then s
  else
    let l := s.g F.CEL_LOAD_LOAD [] - old + new
    updateOver (when (decide (0 < l)) srWake (s.p F.CEL_LOAD_LOAD [] l))

end Sys2Proof.Machine
end

