-- ==== Sys2Proof/Machine/EngOps.lean ====
section
/-! DEFINITION. Engines (07_processing_engines.md): the ECB, channels, charges, the frame synchroniser, the output of a
record, regions and writeback. -/
namespace Sys2Proof.Machine

/-- Bits of word w of an ECB. -/
def ecbBits (b : List Word) (w hi lo : Nat) : Nat := bitsOf (b.getD w 0).toNat hi lo

/-- The ECB in effect. -/
def State.ecb (s : State) (e : Nat) : List Word := (List.range 64).map (fun w => s.rd R.ENG_ECB [e, w])

/-- Bits of word w of the ECB in effect. -/
def State.eb (s : State) (e w hi lo : Nat) : Nat := bitsOf (s.rd R.ENG_ECB [e, w]).toNat hi lo

/-- The engine runs (R231). -/
def State.engOn (s : State) (e : Nat) : Bool := s.on F.ENG_STAT_RUNNING [e]

/-- The cadence an engine is bound to. -/
def State.engCad (s : State) (e : Nat) : Nat := s.eb e 0 29 27

/-- Class of channel k in an ECB (R209, R231): 0 where the channel is unused. -/
def chClass (b : List Word) (k : Nat) : Nat :=
  if ecbBits b 0 30 30 = 1 then ecbBits b 0 (2 * k + 17) (2 * k + 16)
  else if k = 0 then ecbBits b 0 26 24 else 0

/-- The used channels of an ECB. -/
def channels (b : List Word) : List Nat := (List.range 4).filter (fun k => chClass b k != 0)

/-- The layout word of the three slots of an engine (R210). -/
def engLayout (b : List Word) : Word :=
  if ecbBits b 0 31 31 = 0 then 0
  else (channels b).foldl (fun w k => (groupSubs (chClass b k) k).foldl
    (fun w j => w ||| BitVec.ofNat 32 (chClass b k * 2 ^ (4 * j))) w) 0

/-- Write the layouts and bindings of an engine's slots (R210, R211). -/
def engSlots (e : Nat) (b : List Word) (s : State) : State :=
  let lay := engLayout b
  let c := ecbBits b 0 29 27
  let bind := BitVec.ofNat 32 ((List.range 8).foldl (fun a k => a + c * 2 ^ (3 * k)) 0)
  let s1 := ((s.wr R.XPT_DST_LAYOUT [1152 + 2 * e] lay).wr R.XPT_DST_LAYOUT [1153 + 2 * e] lay).wr R.XPT_SRC_LAYOUT [1152 + e] lay
  ((s1.wr R.XPT_DST_CAD [1152 + 2 * e] bind).wr R.XPT_DST_CAD [1153 + 2 * e] bind).wr R.XPT_SRC_CAD [1152 + e] bind

/-- A byte address of bits [33:12]. -/
def page (n : Nat) : Nat := n * 4096

/-- Bytes of a layer frame (R228), and its size rounded up to 4 KiB. -/
def layerFrame (f : Nat) : Nat := widthOf f * 4 * activeLines f
def up4k (n : Nat) : Nat := ceilDiv n 4096 * 4096

/-- Bytes of a frame in the slate layout (R47). -/
def slateStride (f : Nat) : Nat := ceilDiv (16 * pictureWords f) 256 * 256
def slateFrame (f : Nat) : Nat := slateStride f * activeLines f

/-- Bytes of one frame buffer (R217). -/
def fsBuffer (b : List Word) (f : Nat) : Nat := rasterLines f * (ecbBits b 5 15 0 * 256)

/-- Channels a region of an engine's memory spans: quad regions are laid out by channel number. -/
def chSpan (b : List Word) : Nat := if ecbBits b 0 30 30 = 1 then (channels b).foldl (fun a k => max a (k + 1)) 0 else 1

/-- Bytes of an entry of the writeback ring (R242). -/
def wbEntry (b : List Word) (f : Nat) : Nat := up4k (slateFrame f) * (if ecbBits b 0 30 30 = 1 then 4 else 1)

/-- The cellar regions an enabled ECB names in the stages it enables (R304, R234): address and bytes. -/
def ecbRegions (b : List Word) (f : Nat) : List (Nat × Nat) :=
  let fs := if ecbBits b 0 13 12 = 0 then [] else [(page (ecbBits b 4 21 0), 3 * fsBuffer b f * chSpan b)]
  let lay := (List.range 2).flatMap (fun i => if ecbBits b (10 + i) 31 31 = 1 then
    (List.range 4).map (fun j => (page (ecbBits b (12 + 4 * i + j) 21 0), (chSpan b - 1) * up4k (layerFrame f) + layerFrame f)) else [])
  let wb := if ecbBits b 0 14 14 = 1 then [(page (ecbBits b 48 21 0), ecbBits b 49 6 0 * wbEntry b f)] else []
  let fe := (List.range 4).flatMap (fun k => if ecbBits b (20 + k) 31 30 = 2 then
    [(ecbBits b (24 + 2 * k) 31 0 + 2 ^ 32 * ecbBits b (25 + 2 * k) 31 0, 8)] else [])
  fs ++ lay ++ wb ++ fe

/-- Reserved bits of an ECB are 0 (R231). -/
def ecbReserved (b : List Word) : Bool :=
  let m : List (Nat × Nat) := [(0, 0x3F), (1, 0x1FFFFF), (2, 0xE000FF00), (3, 0xFFFF0000), (4, 0xFFC00000),
    (5, 0xFFFF0000), (6, 0xFFFF0000), (7, 0xFFFFFFFF), (8, 0x3C00FFFC), (9, 0x3C00FFFC), (10, 0x3C00FFFC), (11, 0x3C00FFFC)]
    ++ (List.range 8).map (fun i => (12 + i, 0xFFC00000)) ++ (List.range 4).map (fun i => (20 + i, 0x3FFFFFFF))
    ++ (List.range 4).flatMap (fun r => [(32 + 3 * r, 0x000FFFFF), (33 + 3 * r, 0xE000E000), (34 + 3 * r, 0xE000E000)])
    ++ [(48, 0xFFC00000), (49, 0xFFFFC080)] ++ (List.range 14).map (fun i => (50 + i, 0xFFFFFFFF))
  m.all (fun x => (b.getD x.1 0) &&& BitVec.ofNat 32 x.2 == 0)

/-- A region in use is well placed (R234). -/
def regionOk (b : List Word) (f r : Nat) : Bool :=
  ecbBits b (32 + 3 * r) 31 30 == 0 ||
    (let x0 := ecbBits b (33 + 3 * r) 28 16
     let w := ecbBits b (33 + 3 * r) 12 0
     let y0 := ecbBits b (34 + 3 * r) 28 16
     let h := ecbBits b (34 + 3 * r) 12 0
     w != 0 && h != 0 && x0 % 2 == 0 && w % 2 == 0 && decide (x0 + w ≤ widthOf f) && decide (y0 + h ≤ activeLines f)
       && ecbBits b (32 + 3 * r) 27 20 != 0 && (channels b).contains (ecbBits b (32 + 3 * r) 29 28))

/-- Fields of an enabled ECB in range (R234, R231): those that the mode and the enabled stages use. -/
def ecbOk (s : State) (b : List Word) : Bool :=
  let c := ecbBits b 0 29 27
  let f := s.g F.XPT_CAD_CFG_FORMAT [c]
  let r := s.g F.XPT_CAD_CFG_RATE [c]
  let quad := ecbBits b 0 30 30 == 1
  let fsm := ecbBits b 0 13 12
  ecbReserved b && cadOn s c && f != 4 && !(channels b).isEmpty
    && (channels b).all (fun k => let x := chClass b k; (if quad then x == 1 || x == 2 else x == 3 || x == 4) && decide (minClass f r ≤ x))
    && (!quad || (List.range 4).all (fun k => chClass b k != 3))
    && ecbBits b 0 10 9 != 3 && (ecbBits b 0 10 9 == 0 || decide (ecbBits b 1 31 25 < 80))
    && fsm != 3
    && (fsm != 2 || (decide (1 ≤ ecbBits b 2 28 16) && decide (ecbBits b 2 28 16 ≤ 2 * rasterLines f - 1)))
    && (fsm != 1 || ecbBits b 2 7 0 != 0) && (fsm == 0 || ecbBits b 5 15 0 != 0)
    && ecbBits b 6 7 0 != 0 && !linesShorterThanUs f r (ecbBits b 6 7 0) 10
    && (ecbBits b 0 14 14 == 0 || (decide (2 ≤ ecbBits b 49 6 0) && decide (ecbBits b 49 6 0 ≤ 64)
        && decide (1 ≤ ecbBits b 49 12 8) && decide (ecbBits b 49 12 8 ≤ 16)))
    && (List.range 4).all (fun k => ecbBits b (20 + k) 31 30 != 3 && (ecbBits b (20 + k) 31 30 == 0 || ecbBits b (24 + 2 * k) 2 0 == 0))
    && (List.range 4).all (regionOk b f)

/-- The charge of an ECB in 0.01 Gbit/s (R247). -/
def ecbCharge (s : State) (b : List Word) : Nat :=
  if ecbBits b 0 31 31 = 0 then 0
  else
    let c := ecbBits b 0 29 27
    let f := s.g F.XPT_CAD_CFG_FORMAT [c]
    let (num, den) := rateOf (s.g F.XPT_CAD_CFG_RATE [c])
    let n := (channels b).length
    let div := max 1 (ecbBits b 49 12 8)
    let fs := if ecbBits b 0 13 12 = 0 then 0 else 2 * 12375000 * ((channels b).map (fun k => subsOf (chClass b k))).sum * 128
    let lay := n * (ecbBits b 10 31 31 + ecbBits b 11 31 31) * (widthOf f / 4 * activeLines f * 128)
    let wb := if ecbBits b 0 14 14 = 1 then n * (pictureWords f * activeLines f * 128) else 0
    ceilDiv (fs * den * div + lay * num * div + wb * num) (den * div * 10000000)

/-- `k` line periods of cadence c have passed in `dt` ticks. -/
def linesPassed (s : State) (c k dt : Nat) : Bool :=
  let (num, den) := rateOf (s.g F.XPT_CAD_CFG_RATE [c])
  decide (k * den * 10 ^ 9 ≤ dt * 2 * num * s.raster c)

/-- A channel of a frame synchroniser. -/
def State.fsc (s : State) (e k : Nat) : FsChan := getD {} s.eng.fs (4 * e + k)
def State.setFsc (s : State) (e k : Nat) (x : FsChan) : State :=
  { s with eng := { s.eng with fs := putD {} s.eng.fs (4 * e + k) x } }

/-- A_LOST follows the channels (R219). -/
def updateLost (e : Nat) (s : State) : State :=
  s.p F.ENG_STAT_A_LOST [e] (b2n (s.engOn e && (channels (s.ecb e)).any (fun k => (s.fsc e k).lost)))

/-- Where record `line` of buffer `i` of channel k lies (R217). -/
def fsAddr (s : State) (e k i line : Nat) : Nat :=
  let f := s.g F.XPT_CAD_CFG_FORMAT [s.engCad e]
  let slot := s.eb e 5 15 0 * 256
  page (s.eb e 4 21 0) + (3 * k + i) * rasterLines f * slot + (line - 1) * slot

/-- Write a record into buffer `i` (R217): a 16 B header, whose content the manual leaves open, then the words that fit. -/
def fsStore (e k i : Nat) (rec : LineRec) (s : State) : State :=
  let room := (s.eb e 5 15 0 * 256 - 16) / 16
  let ws := rec.words.take room
  let (h, s1) := s.freeNat 128
  let s2 := celWrite 0 (fsAddr s e k i rec.line) (leBytes 16 h ++ wordsToBytes ws) s1
  let s3 := if room < rec.words.length then (s2.bump F.ENG_FS_STAT2_TRUNC [e] 1).count 363 1 else s2
  let x := s3.fsc e k
  let n := s3.raster (s3.engCad e)
  let add := fun (b : FsBuf) => { b with
    lines := b.lines.filter (fun l => l.1 != rec.line) ++ [(rec.line, ws.length, rec.frame)]
    complete := b.complete || rec.line == n }
  s3.setFsc e k { x with bufs := x.bufs.modify i add }

/-- Read a record back (R289): a word that an uncorrectable 32 B touches is black, or null where it is ANC; the line is
counted in TRUNC. Of a stack that is not ready no word has arrived (R288). -/
def fsLoad (e k i line : Nat) (s : State) : Option LineRec × State :=
  let x := s.fsc e k
  match ((x.bufs.getD i {}).lines).find? (fun l => l.1 == line) with
  | none => (none, s)
  | some (_, n, fr) =>
    let a := fsAddr s e k i line + 16
    let (d, bad, s1) := if s.cel.training || s.g F.CEL_STAT_STATE [] != 1 then (s.celData a (16 * n), [], s) else celRead 0 a (16 * n) s
    let ws := bytesToWords n d
    let away := s.cel.training || s.g F.CEL_STAT_STATE [] != 1
    let hit := fun j => away || bad.any (fun w => w < a + 16 * j + 16 && a + 16 * j < w + 32)
    let fixed := (List.range n).zip ws |>.map (fun y => if hit y.1 then (if isAnc y.2 then nullWord else blackWord) else y.2)
    let s2 := if bad.isEmpty && !away then s1 else (s1.bump F.ENG_FS_STAT2_TRUNC [e] 1).count 363 1
    (some ⟨line, fr, chClass (s.ecb e) k, 0, fixed⟩, s2)

/-- The words of the compositor's configuration in use for a channel (R240): words 8 to 11 taken up at its last record
with LINE 1, or at the ENGINE_SET, which puts them here. -/
def layWords (s : State) (e k : Nat) : List Word :=
  match find? s.eng.lay (4 * e + k) with
  | some l => l
  | none => (List.range 4).map (fun i => s.rd R.ENG_ECB [e, 8 + i])

/-- Where a layer line of channel k lies (R228): the displayed buffer of layer 2 + i, active line l. -/
def layerLine (s : State) (e i k l : Nat) : Option (Nat × Nat) :=
  let w := (layWords s e k).getD (2 + i) 0
  let f := s.g F.XPT_CAD_CFG_FORMAT [s.engCad e]
  if s.engOn e && w.getLsbD 31 && l < activeLines f then
    some (page (s.eb e (12 + 4 * i + bitsOf w.toNat 1 0) 21 0) + k * up4k (layerFrame f) + l * (widthOf f * 4), widthOf f * 4)
  else none

/-- The line of a cellar layer for active line l, if its read has arrived; the fetched line is used up. A missed line is
counted (R230). -/
def takeLayer (e i k l : Nat) (w : Word) (s : State) : Option LayerLine × State :=
  let who := fun (r : CelReader) => match r with
    | .layer e' i' k' l' => e'.val == e && i'.val == i && k'.val == k && l' == l
    | _ => false
  let f := s.g F.XPT_CAD_CFG_FORMAT [s.engCad e]
  match s.cel.lines.find? (fun x => who x.1) with
  | some (_, d) =>
    let s1 := { s with cel := { s.cel with lines := s.cel.lines.filter (fun x => !who x.1) } }
    (some (layerPixels (widthOf f) d (w.getLsbD 30) (bitsOf w.toNat 25 16)), s1.count 366 1)
  | none => (none, occur 166 e ((s.p F.ENG_STAT_LAYER_MISS [e] 1).count 365 1))

/-- Input B's record with the same LINE (R215), if it has arrived no later than 64 cycles after input A's, and no more than two line
periods before it: `at_` is where input A's stands. A pixel whose word it lacks is transparent; a line that lacks one is counted. -/
def takeB (e k line : Nat) (w : Word) (at_ : Int) (s : State) : Option LayerLine × State :=
  let c := s.engCad e
  let f := s.g F.XPT_CAD_CFG_FORMAT [c]
  let (num, den) := rateOf (s.g F.XPT_CAD_CFG_RATE [c])
  let inTime := fun (x : Nat × Int × LineRec) =>
    let ahead := reduceAlign s c (at_ - x.2.1)
    x.2.2.line == line && !linesPassed s c (s.raster c / 2) (s.ticks - x.1) && decide (-64 ≤ ahead)
      && decide (ahead * (num * s.raster c : Nat) ≤ (2 * den * 1600000000 : Nat))
  let late := fun (t : State) => (t.bump F.ENG_STAT_B_LATE [e] 1).count 364 1
  match (getD [] s.eng.b (4 * e + k)).find? inTime with
  | some r =>
    let ws := r.2.2.words.filter (fun y => !isAnc y)
    let have_ := fun (i : Nat) => decide ((2 * i + 1) / 12 < ws.length)
    (some ⟨upLine (widthOf f) (samplesOf ws).toArray, fun i => if have_ i then 1023 else 0, false, bitsOf w.toNat 25 16⟩,
      when (decide (ws.length < pictureWords f)) late s)
  | none => (none, late s)

/-- The picture words of a composed line: the samples after rounding, in as many words as came in. -/
def processLine (s : State) (e k : Nat) (n : Nat) (inWords : List BusWord) (upper : List LayerLine) : List BusWord :=
  let f := s.g F.XPT_CAD_CFG_FORMAT [s.engCad e]
  let w := widthOf f
  let x := (samplesOf inWords).toArray
  let on := s.eb e 1 24 21 / 2 ^ k % 2 == 1
  let tone := toneLine s.eng.lut (s.eb e 1 31 25) (s.eb e 0 7 7 == 1) (s.eb e 0 6 6 == 1)
  let a0 := upLine w x
  let a1 := if s.eb e 0 10 9 = 1 && on then tone a0 else a0
  let g0 := bitsOf ((layWords s e k).getD 0 0).toNat 25 16
  let o := composeLine w (⟨a1, fun _ => 1023, false, g0⟩ :: upper)
  let o1 := if s.eb e 0 10 9 = 2 && on then tone o else o
  let y := downLine (s.eb e 0 8 8 == 1) w o1
  packWords n (y ++ x.extract (2 * w) x.size)

/-- The bytes a region takes from an output line (R244). -/
def regionBytes (s : State) (e r : Nat) (words : List BusWord) : List Byte :=
  let x0 := s.eb e (33 + 3 * r) 28 16
  let w := s.eb e (33 + 3 * r) 12 0
  (((samplesOf words).drop (2 * x0)).take (2 * w)).flatMap (leBytes 2)

/-- Give an output picture line to the regions of its channel (R244). -/
def sigLine (e k l : Nat) (words : List BusWord) (s : State) : State :=
  each (List.range 4) (fun r t =>
    let y0 := t.eb e (34 + 3 * r) 28 16
    let h := t.eb e (34 + 3 * r) 12 0
    if t.eb e (32 + 3 * r) 31 30 != 0 && t.eb e (32 + 3 * r) 29 28 == k && decide (y0 ≤ l) && decide (l < y0 + h) then
      let a : SigAcc := getD {} t.eng.sig (4 * e + r)
      let a1 := { a with lines := put a.lines l (regionBytes t e r words) }
      { t with eng := { t.eng with sig := put t.eng.sig (4 * e + r) a1 } }
    else t) s

/-- Write an output picture line into the writeback frame in progress (R242, R243): transmission line i. -/
def wbLine (e k i : Nat) (words : List BusWord) (s : State) : State :=
  match find? s.eng.wb e with
  | none => s
  | some _ =>
    let f := s.g F.XPT_CAD_CFG_FORMAT [s.engCad e]
    let b := s.ecb e
    let n := max 1 (ecbBits b 49 6 0)
    let entry := (s.g F.ENG_WB_STAT_LAST [e] + 1) % n
    let a := page (ecbBits b 48 21 0) + entry * wbEntry b f + k * up4k (slateFrame f) + i * slateStride f
    celWrite 1 a (wordsToBytes words) s

/-- Compose a record of channel k (R212, R227, R230): the picture of input A, or of a black frame, with the enabled layers, then its
ANC words, or a null word. A black frame leaves out input B (R218, R219). -/
def engCompose (e k : Nat) (x : EngTodo) (s1 : State) : State :=
  let rec_ := x.rec_
  let f := s1.g F.XPT_CAD_CFG_FORMAT [s1.engCad e]
  let pic := rec_.words.filter (fun w => !isAnc w)
  let anc := rec_.words.filter isAnc
  let (words, s2) := match activeIdx f rec_.line with
    | some i =>
      if pic.isEmpty then ([], s1)
      else
        let lw := layWords s1 e k
        let w1 := lw.getD 1 0
        let (lb, t1) := if w1.getLsbD 31 && !x.black then takeB e k rec_.line w1 x.at_ s1 else (none, s1)
        let w2 := lw.getD 2 0
        let (l2, t2) := if w2.getLsbD 31 then takeLayer e 0 k (frameLine f i) w2 t1 else (none, t1)
        let w3 := lw.getD 3 0
        let (l3, t3) := if w3.getLsbD 31 then takeLayer e 1 k (frameLine f i) w3 t2 else (none, t2)
        let ws := processLine t3 e k pic.length pic (lb.toList ++ l2.toList ++ l3.toList)
        (ws, wbLine e k i ws (sigLine e k (frameLine f i) ws t3))
    | none => ([], s1)
  let out := if words.isEmpty && anc.isEmpty then [nullWord] else words ++ anc
  if s2.eb e 0 15 15 = 1 then
    { s2 with eng := { s2.eng with ready := put s2.eng.ready (4 * e + k) ⟨rec_.line, rec_.frame, chClass (s2.ecb e) k, 0, out⟩
                                   outAt := put s2.eng.outAt (4 * e + k) x.at_ } }
  else s2

/-- Compose what channel k of an engine holds: before the next record comes, and before its output is taken, so that input B has its
time (R215). -/
def engFlush (e k : Nat) (s : State) : State :=
  match find? s.eng.todo (4 * e + k) with
  | none => s
  | some x => engCompose e k x { s with eng := { s.eng with todo := drop1 s.eng.todo (4 * e + k) } }

/-- Every channel of an engine. -/
def engFlushAll (e : Nat) (s : State) : State := each (channels (s.ecb e)) (engFlush e) s

/-- A record enters the compositor of channel k; with LINE 1 it takes up words 8 to 11 (R240). `at_` is where it stands against the
house line of its number, 189 cycles before its output (R214, R216). -/
def engEmit (black : Bool) (e k : Nat) (rec_ : LineRec) (at_ : Int) (s : State) : State :=
  let key := 4 * e + k
  let s0 := engFlush e k s
  let s1 := if rec_.line = 1 then
      let t := match find? s0.eng.lastOut key with
        | some t0 => histSample 6 e (2 * (s0.ticks - t0) : Nat) s0
        | none => s0
      { t with eng := { t.eng with lay := put t.eng.lay key ((List.range 4).map (fun i => t.rd R.ENG_ECB [e, 8 + i]))
                                   lastOut := put t.eng.lastOut key t.ticks } }
    else s0
  { s1 with eng := { s1.eng with todo := put s1.eng.todo key ⟨black, rec_, at_⟩ } }

/-- The newest complete frame, by buffer. -/
def fsNewest (x : FsChan) : Option Nat :=
  ((((List.range 3).zip x.bufs).filter (fun b => b.2.complete && b.2.seq != 0)).foldl (fun a b => match a with
    | some y => if y.2 < b.2.seq then some (b.1, b.2.seq) else a
    | none => some (b.1, b.2.seq)) none).map (·.1)

/-- The buffer for a new input frame (R217): neither being read, by SYNC for its output frame or by DELAY for a line that waits, nor
holding the newest complete frame. -/
def fsFree (x : FsChan) : Nat :=
  match (List.range 3).find? (fun i => x.reading != some i && fsNewest x != some i && !x.delay.any (fun d => d.2.1 == i)) with
  | some i => i
  | none => x.cur.getD 0

/-- A record of channel k arrives at input A (R216 to R220), aligned at `ofs` with its route's wait (R214). -/
def engInA (e k : Nat) (rec_ : LineRec) (ofs : Int) (s : State) : State :=
  let x := s.fsc e k
  let s0 := updateLost e (s.setFsc e k { x with lastBegin := s.ticks, lost := false })
  let s1 := { s0 with eng := { s0.eng with inAt := put s0.eng.inAt (4 * e + k) ofs } }
  match s.eb e 0 13 12 with
  | 0 => engEmit false e k rec_ ofs s1
  | m =>
    if rec_.line = 0 || s.raster (s.engCad e) < rec_.line then (s1.bump F.ENG_FS_STAT2_TRUNC [e] 1).count 363 1
    else
      let y := s1.fsc e k
      let s2 := if rec_.line = 1 then
          let i := fsFree y
          let b : FsBuf := { y.bufs.getD i {} with
            seq := y.seq + 1
            begun := s1.ticks
            frame := rec_.frame
            complete := false }
          s1.setFsc e k { y with seq := y.seq + 1, cur := some i, bufs := y.bufs.set i b }
        else s1
      match (s2.fsc e k).cur with
      | none => s2
      | some i =>
        let s3 := fsStore e k i rec_ s2
        if m = 2 then
          let z := s3.fsc e k
          s3.setFsc e k { z with delay := z.delay ++ [(s3.eb e 2 28 16, i, rec_.line)] }
        else s3

/-- A record of channel k arrives at input B, aligned at `ofs` (R215): two line periods are kept, which three records cover. -/
def engInB (e k : Nat) (rec_ : LineRec) (ofs : Int) (s : State) : State :=
  let key := 4 * e + k
  { s with eng := { s.eng with b := put s.eng.b key (lastN 3 (getD [] s.eng.b key ++ [(s.ticks, ofs, rec_)])) } }

/-- The frame that SYNC mode reads (R218): by sequence number, none where no frame has met FS_LEAD. -/
def fsPick (s : State) (e k : Nat) : Option (Nat × Nat) :=
  let x := s.fsc e k
  let ok := ((List.range 3).zip x.bufs).filter (fun b => b.2.seq != 0 && linesPassed s (s.engCad e) (s.eb e 2 7 0) (s.ticks - b.2.begun))
  match ok with
  | [] => none
  | b :: r =>
    let m := r.foldl (fun a c => if a.2.seq < c.2.seq then c else a) b
    some (m.1, m.2.seq)

/-- The frame written last, by buffer and sequence number. -/
def fsLast (x : FsChan) : Option (Nat × Nat) :=
  (((List.range 3).zip x.bufs).find? (fun b => b.2.seq == x.seq && x.seq != 0)).map (fun b => (b.1, b.2.seq))

/-- Take up a selection (R218): repeats and drops are counted against the frame read last, but not while the channel is lost. -/
def fsUse (e k i seq : Nat) (s : State) : State :=
  let x := s.fsc e k
  let s1 := s.setFsc e k { x with reading := some i, lastSeq := seq, black := false }
  if x.lastSeq = 0 || x.lost then s1
  else if seq = x.lastSeq then occur 167 e ((s1.bump F.ENG_FS_STAT_REPEATS [e] 1).count 360 1)
  else if x.lastSeq + 1 < seq then
    occur 167 e ((s1.bump F.ENG_FS_STAT_DROPS [e] (seq - x.lastSeq - 1)).count 361 (seq - x.lastSeq - 1))
  else s1

/-- The selection an ACTIVE device sends (R384) and a device that is not active uses in place of its own. -/
def sentSelect (s : State) (e k frame : Nat) : Option (Option Nat) :=
  s.eng.decisions.findSome? (fun d => match d with
    | .select e' k' f sel => if e'.val = e && k'.val = k && f = frame then some sel else none
    | _ => none)

/-- Send a selection to the twin (R384). -/
def sendSelect (e k frame : Nat) (sel : Option Nat) (s : State) : State :=
  if s.isActive && s.on F.RED_PARTNER_STAT_UP [] then
    match (if h : e < 64 then some (Fin.mk e h) else none), (if h : k < 4 then some (Fin.mk k h) else none) with
    | some e', some k' => s.tell (.decision (.select e' k' frame sel))
    | _, _ => s
  else s

/-- Frame selection at an output frame start of channel k in SYNC mode (R218, R219, R384): of a lost channel its last frame written,
or black. A device that is not active uses the selection sent. -/
def fsSelect (e k : Nat) (s : State) : State :=
  let frame := (s.cad (s.engCad e)).frame
  let x := s.fsc e k
  let s0 := when x.lost (fun t => (t.bump F.ENG_FS_STAT2_LOST_FRAMES [e] 1).count 362 1) s
  let dark := fun (t : State) => t.setFsc e k { t.fsc e k with black := true, reading := none }
  let again := fun (t : State) => match x.reading with
    | some i => fsUse e k i x.lastSeq t
    | none => t
  if s.takesHost then
    match (if x.lost then (if s.eb e 0 11 11 = 0 then fsLast x else none) else fsPick s e k) with
    | some (i, n) => sendSelect e k frame (some (x.bufs.getD i {}).frame) (fsUse e k i n s0)
    | none => sendSelect e k frame none (dark s0)
  else
    match sentSelect s e k frame with
    | some none => dark s0
    | some (some fr) =>
      (match ((List.range 3).zip x.bufs).find? (fun b => b.2.seq != 0 && b.2.frame == fr) with
      | some b => fsUse e k b.1 b.2.seq s0
      | none => again s0)
    | none => again (occur 318 2 ((s0.p F.ENG_FLIP_STAT_REPL_LATE [e] 1).count 371 1))

/-- A black record (R218, R219): black on an active line, a null word on the others. -/
def blackRec (s : State) (e k line : Nat) : LineRec :=
  let c := s.engCad e
  let f := s.g F.XPT_CAD_CFG_FORMAT [c]
  ⟨line, (s.cad c).frame % 65536, chClass (s.ecb e) k, 0,
    if (activeIdx f line).isSome then List.replicate (pictureWords f) blackWord else [nullWord]⟩

/-- The start of a house line for channel k of a running engine: SYNC mode sends the record of that line; DELAY mode sends
what has waited its line periods. -/
def engLineChan (e k : Nat) (s : State) : State :=
  let line := (s.cad (s.engCad e)).line
  match s.eb e 0 13 12 with
  | 1 =>
    let s1 := if line = 1 then fsSelect e k s else s
    let x := s1.fsc e k
    let at_ : Int := (s1.eb e 3 15 0 : Int) - 189
    if x.black then engEmit true e k (blackRec s1 e k line) at_ s1
    else match x.reading with
      | none => engEmit true e k (blackRec s1 e k line) at_ s1
      | some i => match fsLoad e k i line s1 with
        | (some r, s2) => engEmit false e k r at_ s2
        | (none, s2) => s2
  | 2 =>
    let x := s.fsc e k
    let due := x.delay.filter (fun d => d.1 ≤ 1)
    let s1 := s.setFsc e k { x with delay := (x.delay.filter (fun d => 1 < d.1)).map (fun d => (d.1 - 1, d.2)) }
    let (num, den) := rateOf (s.g F.XPT_CAD_CFG_RATE [s.engCad e])
    let at_ : Int := getD 0 s.eng.inAt (4 * e + k) + (s.eb e 2 28 16 * den * 1600000000 / (num * s.raster (s.engCad e)) : Nat)
    if x.lost then s1
    else each due (fun d t => match fsLoad e k d.2.1 d.2.2 t with
      | (some r, u) => engEmit false e k r at_ u
      | (none, u) => u) s1
  | _ => s

/-- Start or abandon a writeback frame at line 1 (R242, R243): a frame still in progress is abandoned. -/
def wbSkip (e : Nat) (s : State) : State :=
  let s1 := occur 168 e ((s.bump F.ENG_WB_STAT_SKIPS [e] 1).count 373 1)
  { s1 with eng := { s1.eng with wb := drop1 s1.eng.wb e } }

def wbStart (e : Nat) (s : State) : State :=
  let fr := (s.cad (s.engCad e)).frame
  let s1 := if (find? s.eng.wb e).isSome then wbSkip e s else s
  if s1.eb e 0 14 14 = 1 && s1.eb e 49 13 13 = 0 && fr % max 1 (s1.eb e 49 12 8) = 0 then
    { s1 with eng := { s1.eng with wb := put s1.eng.wb e fr } }
  else s1

/-- Restart an engine's pipeline (R409): what its stages hold is dropped; ECB, fences and pending flips are kept. -/
def engRestart (e : Nat) (s : State) : State :=
  let mine := fun (key : Nat) => key / 4 == e
  { s.count 383 1 with eng := { s.eng with
      restart := s.eng.restart.filter (· != e)
      fs := s.eng.fs.filter (fun x => !mine x.1)
      b := s.eng.b.filter (fun x => !mine x.1)
      todo := s.eng.todo.filter (fun x => !mine x.1)
      ready := s.eng.ready.filter (fun x => !mine x.1)
      wb := drop1 s.eng.wb e } }

/-- Engines running on a cadence. -/
def enginesOn (s : State) (c : Nat) : List Nat :=
  (List.range 64).filter (fun e => s.engOn e && s.engCad e == c)

/-- What the engines of cadence c do at the start of a line, after commits and flips (R233). -/
def engLines (c : Nat) (s : State) : State :=
  each (enginesOn s c) (fun e t =>
    let t0 := engFlushAll e t
    let t1 := if (t.cad c).line = 1 then wbStart e (if t.eng.restart.contains e then engRestart e t0 else t0) else t0
    each (channels (t1.ecb e)) (fun k u => engLineChan e k u) t1) s

/-- The channels of an engine's synchroniser anew (R218): nothing written yet. Of an engine that ran, how long a channel has been
without input goes on (R219). -/
def freshChans (e : Nat) (b : List Word) (s : State) : List (Nat × FsChan) :=
  (channels b).foldl (fun m k => putD {} m (4 * e + k) (match find? s.eng.fs (4 * e + k) with
    | some x => if s.engOn e then { lastBegin := x.lastBegin, lost := x.lost } else { lastBegin := s.ticks }
    | none => { lastBegin := s.ticks })) (s.eng.fs.filter (fun x => x.1 / 4 != e))

/-- Put an ECB into effect (R232): slots, charge, and the state of the stages that a change resets. What entered before is composed by
the old one; the channels take up words 8 to 11 (R240). -/
def engApply (e : Nat) (b : List Word) (s : State) : State :=
  let s0 := engFlushAll e s
  let old := s0.ecb e
  let on := ecbBits b 0 31 31 == 1
  let fresh := !s0.engOn e || ecbBits old 0 13 12 != ecbBits b 0 13 12 || ecbBits old 4 21 0 != ecbBits b 4 21 0
    || ecbBits old 5 15 0 != ecbBits b 5 15 0 || ecbBits old 0 31 16 != ecbBits b 0 31 16
  let fs := if !fresh then s0.eng.fs else if on then freshChans e b s0 else s0.eng.fs.filter (fun x => x.1 / 4 != e)
  let s1 := each ((List.range 64).zip b) (fun x t => t.wr R.ENG_ECB [e, x.1] x.2) s0
  let s2 := engSlots e b (s1.p F.ENG_STAT_RUNNING [e] (b2n on))
  updateLost e { s2 with eng := { s2.eng with
    fs := fs
    lay := (channels b).foldl (fun m k => put m (4 * e + k) ((List.range 4).map (fun i => b.getD (8 + i) 0)))
      (s2.eng.lay.filter (fun x => x.1 / 4 != e))
    ready := if on then s2.eng.ready else s2.eng.ready.filter (fun x => x.1 / 4 != e)
    b := if on then s2.eng.b else s2.eng.b.filter (fun x => x.1 / 4 != e)
    sig := if on then s2.eng.sig else s2.eng.sig.filter (fun x => x.1 / 4 != e)
    lastOut := if on then s2.eng.lastOut else s2.eng.lastOut.filter (fun x => x.1 / 4 != e)
    wb := if on && ecbBits b 0 14 14 == 1 then s2.eng.wb else drop1 s2.eng.wb e } }

/-- Set the charge an engine holds (R247). -/
def engCharge (e new : Nat) (s : State) : State :=
  let old := s.g F.ENG_CHARGE_CHARGE [e]
  charge old new (s.p F.ENG_CHARGE_CHARGE [e] new)

/-- Disable an engine under R233 or R71: the ECB keeps its other words. -/
def engOff (e : Nat) (s : State) : State :=
  if s.engOn e then
    let b := s.ecb e
    let b1 := b.set 0 ((b.getD 0 0) &&& 0x7FFFFFFF#32)
    ((engCharge e 0 (engApply e b1 s)).p F.ENG_STAT_CAD_OFF [e] 1).count 379 1
  else s

end Sys2Proof.Machine
end

