-- ==== Sys2Proof/Machine/FlowMerge.lean ====
section
/-! DEFINITION. Flow entries at work (R147, R154, R155, R160 to R164, R169): fields, pairs, times, larder and cellar
sizes, charges, and the lines of an extended merge in the cellar. -/
namespace Sys2Proof.Machine

def fDomain (e : BitVec 512) : Nat := fw e 0 21 21
def fQueue (e : BitVec 512) : Nat := fw e 0 17 15
def fBlockPack (e : BitVec 512) : Bool := fw e 0 13 13 == 1
def fVlanEn (e : BitVec 512) : Bool := fw e 0 11 11 == 1
def fDstIp (e : BitVec 512) : Nat := fw e 1 31 0
def fSrcIp (e : BitVec 512) : Nat := fw e 2 31 0
def fDstUdp (e : BitVec 512) : Nat := fw e 3 31 16
def fVlan (e : BitVec 512) : Nat := fw e 4 28 17
def fPt (e : BitVec 512) : Nat := fw e 4 10 4
def fSsrc (e : BitVec 512) : Nat := fw e 5 31 0
def fChanBase (e : BitVec 512) : Nat := fw e 8 31 17
def fChanCount (e : BitVec 512) : Nat := fw e 8 16 10
def fPtime (e : BitVec 512) : Nat := fw e 8 9 8
def fDepth (e : BitVec 512) : Nat := fw e 8 7 6
def fLarder (e : BitVec 512) : Nat := fw e 10 31 17
def fLines (e : BitVec 512) : Nat := fw e 10 16 9
def fAncWords (e : BitVec 512) : Nat := fw e 11 31 22
def fDelay (e : BitVec 512) : Nat := fw e 12 23 0
def fExtAddr (e : BitVec 512) : Nat := fw e 13 31 10 * 4096
def fExtLines (e : BitVec 512) : Nat := fw e 14 31 20

/-- The matrix rate in hertz (R253). -/
def audRate (s : State) : Nat := if s.on F.AUD_CFG_RATE [] then 96000 else 48000

/-- Flow times count units of 1/40500 ns, in which a line period of every format and rate, a count of the 90 kHz clock and a
sample period are whole. The DOMAIN counter in these units. -/
def State.domU (s : State) (dom : Nat) : Nat :=
  let t := if dom = 0 then s.ptp.tc0 else s.ptp.tc1
  (t.sec * 10 ^ 9 + t.ns) * 40500 + t.frac * 40500 / 2 ^ 48

/-- The frame period of a RATE code, and the line period of a cadence. -/
def frameU (rate : Nat) : Nat :=
  let (num, den) := rateOf rate
  den * (40500 * 10 ^ 9) / num
def lineU (s : State) (c : Nat) : Nat := frameU (s.g F.XPT_CAD_CFG_RATE [c]) / s.raster c

/-- The cadence bound to the target signal of a video or ancillary entry (R148). -/
def fCad (s : State) (e : BitVec 512) : Nat := if fTx e then dstCad s (fSlot e) (fBase e) else srcCad s (fSlot e) (fBase e)
def fFmt (s : State) (e : BitVec 512) : Nat := s.g F.XPT_CAD_CFG_FORMAT [fCad s e]

/-- Picture words of a line of an entry (R147): none for an ancillary one. -/
def fPicture (s : State) (e : BitVec 512) : Nat := if fKind e = 0 then pictureWords (fFmt s e) else 0

/-- Bytes of a ring line of an extended merge (R163). -/
def extStride (s : State) (e : BitVec 512) : Nat := ceilDiv ((fPicture s e + fAncWords e) * 16) 256 * 256

/-- Larder blocks of an entry (R147). -/
def larderBlocks (s : State) (e : BitVec 512) : Nat :=
  if fTx e || (fPair e && fSecondary e) then 0
  else if fKind e = 1 then ceilDiv (fLines e * 48 * fChanCount e * 4) 1024 * (audRate s / 48000)
  else fLines e * ceilDiv ((fPicture s e + fAncWords e) * 16) 1024

/-- FLW_LARDER.USED (R170). -/
def larderUsed (s : State) : Nat := (s.flw.tbl.map (fun x => larderBlocks s x.2)).sum

/-- The charge of an extended merge (R164) in 0.01 Gbit/s. -/
def extCharge (s : State) (e : BitVec 512) : Nat :=
  if fExt e && !fTx e then
    let (num, den) := rateOf (s.g F.XPT_CAD_CFG_RATE [fCad s e])
    let words := fPicture s e * activeLines (fFmt s e) + fAncWords e * s.raster (fCad s e)
    ceilDiv (24 * words * 128 * num) (10 * den * 10000000)
  else 0

/-- Valid extended-merge entries. -/
def extPairs (s : State) : List (BitVec 512) := (s.flw.tbl.map (·.2)).filter (fun e => fExt e && !fTx e && !(fPair e && fSecondary e))

/-- The entry that holds a pair's data (R160): the primary. -/
def flowLead (s : State) (f : Nat) : Nat :=
  let e := s.flow f
  if fPair e && fSecondary e then fMate e else f

/-- Receive data of an entry, a leg's data, transmit data. -/
def State.frx (s : State) (f : Nat) : FlowRx := getD {} s.flw.rx f
def State.setRx (s : State) (f : Nat) (x : FlowRx) : State := { s with flw := { s.flw with rx := put s.flw.rx f x } }
def State.fleg (s : State) (f : Nat) : FlowLeg := getD {} s.flw.legs f
def State.setLeg (s : State) (f : Nat) (x : FlowLeg) : State := { s with flw := { s.flw with legs := put s.flw.legs f x } }
def State.ftx (s : State) (f : Nat) : FlowTx := getD {} s.flw.tx f
def State.setTx (s : State) (f : Nat) (x : FlowTx) : State := { s with flw := { s.flw with tx := put s.flw.tx f x } }

/-- Add to an entry's line (R153): `l` counts raster lines from g0. -/
def FlowRx.addLine (x : FlowRx) (l : Nat) (f : LarLine → LarLine) : FlowRx :=
  { x with lines := put x.lines l (f (getD {} x.lines l)) }

/-- A pixel group written in a line: the last run written that covers it. -/
def LarLine.group (a : LarLine) (i : Nat) : Option Nat :=
  a.segs.foldl (fun acc r => if r.1 ≤ i && i < r.1 + r.2.length then r.2[i - r.1]? else acc) none

/-- The first 16-byte words of a picture line from its pixel groups (R153). -/
def groupWords (n : Nat) (gs : List Nat) : List BusWord :=
  packWords n (gs.flatMap (fun g => [bitsOf g 39 30, bitsOf g 29 20, bitsOf g 19 10, bitsOf g 9 0])).toArray

/-- The pixel groups of picture words. -/
def wordGroups (n : Nat) (ws : List BusWord) : List Nat :=
  let x := (samplesOf ws).toArray
  (List.range n).map (fun i => x.getD (4 * i) 0 * 2 ^ 30 + x.getD (4 * i + 1) 0 * 2 ^ 20 + x.getD (4 * i + 2) 0 * 2 ^ 10
    + x.getD (4 * i + 3) 0)

/-- Where line `l` of an extended merge lies in its cellar ring (R163): it may be staged while it is among the next LINES
lines to play. -/
def mergeLine (s : State) (f l : Nat) : Option (Nat × Nat) :=
  let e := s.flow f
  let x := s.frx f
  if fValid e && fExt e && !fTx e && x.g0.isSome && x.next ≤ l && l < x.next + fLines e && fExtLines e != 0 then
    some (fExtAddr e + l % fExtLines e * extStride s e, (fPicture s e + fAncWords e) * 16)
  else none

/-- The bytes that a line holds so far, to be written to the ring: unwritten places are 0. -/
def lineBytes (p n w : Nat) (a : LarLine) : List Byte :=
  wordsToBytes (groupWords p ((List.range w).map (fun i => (a.group i).getD 0)) ++ a.anc ++ List.replicate (n - a.anc.length) 0)

end Sys2Proof.Machine
end

