-- ==== Sys2Proof/Machine/FlowRecv.lean ====
section
/-! DEFINITION. Receiving flows (R152 to R161): matching, the checks, the grid, the accept windows, and the writes to the
larder. -/
namespace Sys2Proof.Machine

/-- A big-endian number of n bytes in a frame. -/
def nb (b : List Byte) (i n : Nat) : Nat := ofBE ((b.drop i).take n)

/-- The one's complement sum of 16-bit words (the checksum of IPv4 and UDP, before inversion). -/
def onesSum : Nat → List Byte → Nat
  | 0, _ => 0
  | n + 1, b =>
    let v := (b.headD 0).toNat * 256 + ((b.drop 1).headD 0).toNat
    let t := onesSum n (b.drop 2) + v
    if t < 65536 then t else t - 65535

def onesOf (b : List Byte) : Nat := onesSum (ceilDiv b.length 2) b

/-- The VLAN tag of a frame, where its payload type stands, its EtherType, and where the network header stands. -/
def frVlan (b : List Byte) : Option Nat := if nb b 12 2 = 0x8100 then some (nb b 14 2 % 4096) else none
def frL3 (b : List Byte) : Nat := if nb b 12 2 = 0x8100 then 18 else 14
def frType (b : List Byte) : Nat := nb b (frL3 b - 2) 2
def frIpv4 (b : List Byte) : Bool := frType b == 0x0800 && nb b (frL3 b) 1 / 16 == 4
def frL4 (b : List Byte) : Nat := frL3 b + nb b (frL3 b) 1 % 16 * 4
def frProto (b : List Byte) : Nat := nb b (frL3 b + 9) 1

/-- Whether a frame matches entry f (R143, R148, R149). -/
def flowMatches (s : State) (p k : Nat) (b : List Byte) (f : Nat) (e : BitVec 512) : Bool :=
  fValid e && !fTx e && fPort e == p && fSub e == k && frIpv4 b && frProto b == 17 && nb b (frL3 b + 16) 4 == fDstIp e
    && nb b (frL4 b + 2) 2 == fDstUdp e && (fw e 0 12 12 == 0 || nb b (frL3 b + 12) 4 == fSrcIp e)
    && (!fVlanEn e || frVlan b == some (fVlan e)) && (s.frx (flowLead s f)).from_.isNone

/-- The entry that a frame matches. -/
def flowOf (s : State) (p k : Nat) (b : List Byte) : Option Nat :=
  (s.flw.tbl.find? (fun x => flowMatches s p k b x.1 x.2)).map (·.1)

/-- IPv4 of R152: checksum and no fragment. -/
def ipOk (b : List Byte) : Bool :=
  let i := frL3 b
  let hl := nb b i 1 % 16 * 4
  decide (20 ≤ hl) && onesOf ((b.drop i).take hl) == 0xFFFF && nb b (i + 6) 2 % 0x4000 == 0

/-- The UDP payload. -/
def udpPayload (b : List Byte) : List Byte := (b.drop (frL4 b + 8)).take (nb b (frL4 b + 4) 2 - 8)

/-- UDP and RTP of R152: checksum 0 or correct, version 2, payload type, SSRC. -/
def rtpOk (e : BitVec 512) (b : List Byte) : Bool :=
  let i := frL3 b
  let l4 := frL4 b
  let n := nb b (l4 + 4) 2
  let pseudo := ((b.drop (i + 12)).take 8) ++ [0, 17] ++ beBytes 2 n
  let r := udpPayload b
  (nb b (l4 + 6) 2 == 0 || onesOf (pseudo ++ (b.drop l4).take n) == 0xFFFF) && decide (12 ≤ r.length) && nb r 0 1 / 64 == 2
    && nb r 1 1 % 128 == fPt e && (fw e 0 10 10 == 0 || nb r 8 4 == fSsrc e)

/-- The payload of an RTP packet: after contributing sources and a header extension, before padding (R151). -/
def rtpPayload (r : List Byte) : List Byte :=
  let b0 := nb r 0 1
  let h := 12 + 4 * (b0 % 16)
  let hx := if bitOf b0 4 then h + 4 + 4 * nb r (h + 2) 2 else h
  let body := r.drop hx
  if bitOf b0 5 then body.take (body.length - (body.getLastD 0).toNat) else body

/-- The number congruent to T modulo 2³² whose instant, at `unit` per count, lies nearest to `now` (R154, R159). -/
def nearestCount (T unit now : Nat) : Nat :=
  let base := now / unit / 2 ^ 32 * 2 ^ 32 + T
  let dist := fun (n : Nat) => ((n * unit : Nat) - (now : Int)).natAbs
  [base - 2 ^ 32, base + 2 ^ 32].foldl (fun a n => if dist n < dist a then n else a) base

/-- The extension of a 16-bit sequence number across rollover, nearest to the latest (R161). -/
def extendSeq (hi q : Nat) : Nat :=
  let base := hi / 2 ^ 16 * 2 ^ 16 + q
  if hi + 2 ^ 15 < base then base - 2 ^ 16 else if base + 2 ^ 15 ≤ hi then base + 2 ^ 16 else base

/-- Count in an entry's register and device-wide (R170, R414). -/
def flowCount (f : Nat) (fr : FR) (ev : Nat) (s : State) : State := (s.bump fr [f] 1).count ev 1

/-- The partitions whose flow range holds f (R356). -/
def flowParts (s : State) (f : Nat) : List Nat :=
  allParts.filter (fun p => let b := s.g F.HIF_PART_FLOW_BASE [p]; decide (b ≤ f) && decide (f < b + s.g F.HIF_PART_FLOW_COUNT [p]))

/-- The entry of a pair's other leg, if a pair stands. -/
def flowMate (s : State) (f : Nat) : Option Nat := if fPair (s.flow f) then some (fMate (s.flow f)) else none

/-- Show LOST in an entry and its pair (R157). -/
def showLost (f : Nat) (b : Bool) (s : State) : State :=
  let s1 := s.p F.FLW_STAT_LOST [f] (b2n b)
  match flowMate s f with
  | some g => s1.p F.FLW_STAT_LOST [g] (b2n b)
  | none => s1

def isLost (s : State) (f : Nat) : Bool := s.on F.FLW_STAT_LOST [f]

/-- No leg of an entry has a grid (R154). -/
def clearGrids (f : Nat) (s : State) : State :=
  each (f :: (flowMate s f).toList) (fun g t => t.setLeg g { t.fleg g with g0 := none, bad := 0, badT := none }) s

/-- An entry, or a pair, enters LOST (R157): the grid is established anew; `f` is the primary. The alignment monitor of its signal is
no longer VALID (R90). -/
def enterLost (f : Nat) (s : State) : State :=
  let e := s.flow f
  let s0 := when (fKind e != 1) (fun t => t.p F.XPT_ALIGN_STAT_VALID [8 * fSlot e + fBase e] 0) s
  let x := s0.frx f
  let s1 := (showLost f true (clearGrids f (s0.setRx f { x with
    g0 := none
    wrote := false
    empty := 0
    first := false
    lines := [] }))).count 301 1
  occur 94 f (raiseEvent 7 0 f 1 (flowParts s1 f) s1)

/-- An entry leaves LOST (R157). -/
def leaveLost (f : Nat) (s : State) : State :=
  let s1 := (showLost f false s).count 302 1
  raiseEvent 7 0 f 0 (flowParts s1 f) s1

/-- Establish the grid of entry f at time t (R154): the records to play start with the first whose play time is ahead. -/
def setGrid (f t : Nat) (s : State) : State :=
  let e := s.flow f
  let line := lineU s (fCad s e)
  let now := s.domU (fDomain e)
  let p0 := t + fDelay e * 40500
  s.setRx f { s.frx f with g0 := some t, lines := [], first := false, next := if now < p0 then 0 else (now - p0) / line + 1 }

/-- Whether the other leg of a pair delivers on a grid of its own, so that the pair's records keep to theirs (DESIGN CHOICE, log
107). -/
def mateHolds (s : State) (f : Nat) : Bool :=
  match flowMate s f with
  | some g => s.on F.FLW_STAT_LEG_OK [g] && (s.fleg g).g0.isSome && (s.fleg g).bad == 0 && (s.frx (flowLead s f)).g0.isSome
  | none => false

/-- Leg f establishes its grid at t (R154, R160); the records of the entry follow it from `out` on, unless its pair's other leg holds
them. -/
def startGrid (f t out : Nat) (s : State) : State :=
  let s1 := s.setLeg f { s.fleg f with g0 := some t, bad := 0, badT := none }
  if mateHolds s1 f then s1 else setGrid (flowLead s1 f) out s1

/-- The nearest frame of a grid of period fr that begins at g, and how far time u lies from it; a packet of field 2 may lie one half a
frame later (DEDUCED, log 40). -/
def nearestFrame (fr g u : Nat) (field2 : Bool) : Int × Nat :=
  let off := fun (v : Int) => let d := v - g; let n := (2 * d + fr) / (2 * fr); (n, (d - n * fr).natAbs)
  let a := off u
  let b := off ((u : Int) - (fr / 2 : Nat))
  if field2 && b.2 < a.2 then b else a

/-- Whether T belongs to the frame with timestamp T0: equal, or of its field 2. -/
def sameFrame (fr T0 T : Nat) (field2 : Bool) : Bool :=
  T == T0 || (field2 && decide ((T + 2 ^ 32 - T0) % 2 ^ 32 ≤ fr / 900000000 + 1 ∧ fr / 900000000 ≤ (T + 2 ^ 32 - T0) % 2 ^ 32 + 1))

/-- The frame of a packet with timestamp T received by leg f (R154, R160), if it lies on the grid: its number on the leg's own grid and on
that of the entry's records. After three frames off the grid the next establishes it anew. Packets of field 2 alone establish no grid
(DEDUCED, log 40). -/
def gridFrame (f T : Nat) (field2 : Bool) (s : State) : Option (Int × Int) × State :=
  let m := flowLead s f
  let c := fCad s (s.flow m)
  let leg := s.fleg f
  let at_ := fun (g : Nat) => nearestCount T 450000000 (s.domU (fDomain (s.flow g))) * 450000000
  let fr := frameU (s.g F.XPT_CAD_CFG_RATE [c])
  let found := fun (n : Int) (t : State) => (some (n, match (t.frx m).g0 with
    | some g => (nearestFrame fr g (at_ m) field2).1
    | none => 0), t)
  let anew := if field2 then (none, s) else found 0 (startGrid f (at_ f) (at_ m) s)
  match leg.g0 with
  | none => anew
  | some g =>
    let same := match leg.badT with
      | some b => sameFrame fr b T field2
      | none => false
    let (n, dev) := nearestFrame fr g (at_ f) field2
    if same then (none, s)
    else if 3 ≤ leg.bad then anew
    else if dev ≤ lineU s c then found n (s.setLeg f { leg with bad := 0, badT := none })
    else (none, flowCount f F.FLW_CNT2_GRID 298 (s.setLeg f { leg with bad := leg.bad + 1, badT := some T }))

/-- Where raster line L of frame n of leg f stands against the leg's accept window (R155, R160, R163): inside, or early (true) or
late. -/
def window (s : State) (f : Nat) (n : Int) (L : Nat) : Except Bool Unit :=
  let e := s.flow f
  let lead := s.flow (flowLead s f)
  let c := fCad s lead
  let line := lineU s c
  let l : Int := n * (s.raster c : Nat) + (L : Int) - 1
  let play : Int := ((s.fleg f).g0.getD 0 : Nat) + l * line + (fDelay e * 40500 : Nat)
  let now : Int := s.domU (fDomain e)
  if play ≤ now then .error false
  else if now < play - (((if fExt lead then fExtLines lead else fLines lead) - 1) * line : Nat) then .error true
  else .ok ()

/-- Count a packet outside its window (R155). -/
def outside (f : Nat) (early : Bool) (s : State) : State :=
  if early then flowCount f F.FLW_CNT0_EARLY 292 s else flowCount f F.FLW_CNT0_LATE 293 s

/-- A leg delivers (R161). -/
def legDelivers (f : Nat) (s : State) : State :=
  let s1 := s.setLeg f { s.fleg f with lastPkt := s.ticks }
  when (fPair (s1.flow f)) (fun t => t.p F.FLW_STAT_LEG_OK [f] 1) s1

/-- Take a packet with sequence number q into the entry (R161): a pair discards the second copy, else `write` acts. -/
def takePacket (f q : Nat) (write : State → State) (s : State) : State :=
  let m := flowLead s f
  let x := s.frx m
  if fPair (s.flow f) && x.hist.contains q then legDelivers f (flowCount f F.FLW_CNT1_DUP 295 s)
  else
    let s1 := s.setRx m { x with hist := lastN 4096 (x.hist ++ [q]), hi := q, wrote := true }
    legDelivers f (write (s1.count 304 1))

/-- Write a line of an extended merge to its ring (R163). -/
def spill (m l : Nat) (s : State) : State :=
  let e := s.flow m
  let a := fExtAddr e + l % max 1 (fExtLines e) * extStride s e
  let bs := lineBytes (fPicture s e) (fAncWords e) (widthOf (fFmt s e) / 2) (getD {} (s.frx m).lines l)
  if fExt e && inCellar a bs.length then celWrite 0 a bs s else s

/-- Add to line l of entry m. -/
def addLine (m l : Nat) (f : LarLine → LarLine) (s : State) : State := spill m l (s.setRx m ((s.frx m).addLine l f))

/-- The sample row data headers of ST 2110-20: length, field, row, offset of each. -/
def srdHeaders : Nat → List Byte → List (Nat × Nat × Nat × Nat)
  | 0, _ => []
  | n + 1, b =>
    let r := nb b 2 2
    let o := nb b 4 2
    (nb b 0 2, r / 2 ^ 15, r % 2 ^ 15, o % 2 ^ 15) :: (if 2 ^ 15 ≤ o then srdHeaders n (b.drop 6) else [])

/-- The raster line of a picture line in order of transmission (R153; PRESUMED, log 3). -/
def rasterOf (f i : Nat) : Nat :=
  match f with
  | 0 => if i < 540 then 21 + i else 584 + (i - 540)
  | 1 => 42 + i
  | 2 => 26 + i
  | 3 => 83 + i
  | _ => 165 + i

/-- The raster line that a row of a field or frame maps to, if it has one (R153). -/
def rowLine (f field row : Nat) : Option Nat :=
  if f = 0 then (if row < 540 then some (rasterOf 0 (field * 540 + row)) else none)
  else if row < activeLines f then some (rasterOf f row) else none

/-- Pixel groups of five bytes. -/
def groupsOf : Nat → List Byte → List Nat
  | 0, _ => []
  | n + 1, b => nb b 0 5 :: groupsOf n (b.drop 5)

/-- The segments of a video packet with their data: raster line, first pixel pair, groups. -/
def videoSegs (fmt : Nat) : List (Nat × Nat × Nat × Nat) → List Byte → List (Nat × Nat × List Nat)
  | [], _ => []
  | (len, fld, row, off) :: r, b =>
    let rest := videoSegs fmt r (b.drop len)
    match rowLine fmt fld row with
    | some l => (l, off / 2, groupsOf (min len b.length / 5) b) :: rest
    | none => rest

/-- A video packet (R153 to R155): its window is that of its first row. -/
def recvVideo (f T : Nat) (seq16 : Nat) (pay : List Byte) (s : State) : State :=
  let m := flowLead s f
  let e := s.flow m
  let hs := srdHeaders 4 (pay.drop 2)
  if 3 < hs.length then flowCount f F.FLW_CNT2_FORMAT 297 s
  else
    let (g, s1) := gridFrame f T (hs.any (fun h => h.2.1 == 1)) s
    let segs := videoSegs (fFmt s e) hs (pay.drop (2 + 6 * hs.length))
    match g, segs with
    | some (k, n), (l0, _) :: _ =>
      match window s1 f k l0 with
      | .error early => outside f early s1
      | .ok _ =>
        takePacket f (nb pay 0 2 * 2 ^ 16 + seq16)
          (fun t => each segs (fun x u =>
            let l : Int := n * (u.raster (fCad u e) : Nat) + (x.1 : Int) - 1
            if l < 0 then u else addLine m l.toNat (fun a => { a with segs := a.segs ++ [(x.2.1, x.2.2)] }) u) t) s1
    | _, _ => s1

/-- The ancillary packets of an RFC 8331 payload: Line_Number and samples from the data flag on. -/
def anc8331 (v total : Nat) : Nat → Nat → List (Nat × List Nat)
  | 0, _ => []
  | n + 1, pos =>
    let bits := fun (i k : Nat) => (v >>> (total - i - k)) % 2 ^ k
    let dc := bits (pos + 52) 10 % 256
    let len := 4 + dc
    if total < pos + 32 + 10 * len then [] else
    (bits (pos + 1) 11, [0, 0x3FF, 0x3FF] ++ (List.range len).map (fun i => bits (pos + 32 + 10 * i) 10))
      :: anc8331 v total n (ceilDiv (pos + 32 + 10 * len) 32 * 32)

/-- Write one ancillary packet (R158). -/
def writeAnc (f m : Nat) (n : Int) (p : Nat × List Nat) (s : State) : State :=
  let e := s.flow m
  let N := s.raster (fCad s e)
  let L := if p.1 = 0x7FF then 9 else p.1
  let l : Int := n * (N : Nat) + (L : Int) - 1
  let have_ := (getD {} (s.frx m).lines l.toNat).anc
  let ws := ancWords p.2
  if L = 0 || N < L || l < 0 || fAncWords e < have_.length + ws.length then flowCount f F.FLW_CNT2_ANC_OVF 300 s
  else addLine m l.toNat (fun a => { a with anc := a.anc ++ ws }) s

/-- An ancillary packet (R158): its window is that of its first line inside the raster. -/
def recvAnc (f T seq16 : Nat) (pay : List Byte) (s : State) : State :=
  let m := flowLead s f
  let N := s.raster (fCad s (s.flow m))
  let ps := anc8331 (ofBE pay) (8 * pay.length) (nb pay 4 1) 64
  let (g, s1) := gridFrame f T (nb pay 5 1 / 64 == 3) s
  let line := fun (x : Nat) => if x = 0x7FF then 9 else x
  let q := extendSeq (s1.frx m).hi seq16
  match g, ps.find? (fun x => line x.1 != 0 && decide (line x.1 ≤ N)) with
  | some (k, n), some x =>
    (match window s1 f k (line x.1) with
    | .error early => outside f early s1
    | .ok _ => takePacket f q (fun t => each ps (writeAnc f m n) t) s1)
  | some (_, n), none => if ps.isEmpty then s1 else takePacket f q (fun t => each ps (writeAnc f m n) t) s1
  | none, _ => s1

/-- Samples per packet and channel (R267, R151). -/
def perPacket (s : State) (e : BitVec 512) : Nat := (if fPtime e = 0 then 48 else 6) * (audRate s / 48000)

/-- The samples of an audio payload, one list for each instant: 24-bit numbers, L16 with 8 low zeros (R251). -/
def audioSamples (e : BitVec 512) (pay : List Byte) (n : Nat) : List (List Nat) :=
  let w := if fDepth e = 0 then 3 else 2
  (List.range n).map (fun i => (List.range (fChanCount e)).map (fun c =>
    nb pay ((i * fChanCount e + c) * w) w * (if fDepth e = 0 then 1 else 256)))

/-- An audio packet (R159, R161). -/
def recvAudio (f T seq16 : Nat) (pay : List Byte) (s : State) : State :=
  let m := flowLead s f
  let e := s.flow m
  let w := if fDepth e = 0 then 3 else 2
  let n := perPacket s e
  if pay.length != n * fChanCount e * w then flowCount f F.FLW_CNT2_FORMAT 297 s
  else
    let unit := 40500 * 10 ^ 9 / audRate s
    let leg := s.flow f
    let now := s.domU (fDomain leg)
    let t0 := nearestCount T unit now
    let play := fun (k : Nat) => k * unit + fDelay leg * 40500
    if play (t0 + n - 1) ≤ now then flowCount f F.FLW_CNT0_LATE 293 s
    else if now + fLines e * 10 ^ 6 * 40500 < play t0 then flowCount f F.FLW_CNT0_EARLY 292 s
    else
      let late := decide (play t0 ≤ now)
      let new := ((List.range n).map (t0 + ·)).zip (audioSamples e pay n) |>.filter (fun x => now < play x.1)
      let s1 := takePacket f (extendSeq (s.frx m).hi seq16)
        (fun t => when late (flowCount f F.FLW_CNT0_LATE 293)
          (t.setRx m { t.frx m with phase := t0, abuf := new.foldl (fun b x => put b x.1 x.2) (t.frx m).abuf })) s
      when (isLost s1 m) (leaveLost m) s1

/-- A statistic of a sub-port (R146): bit 63 sets HALF and raises the event; the device-wide counter counts too. -/
def ethStat (p k i n : Nat) (s : State) : State :=
  let old := (s.rd R.ETH_STAT_LO [p, k, i]).toNat + 2 ^ 32 * (s.rd R.ETH_STAT_HI [p, k, i]).toNat
  let new := (old + n) % 2 ^ 64
  let s1 := ((s.wr R.ETH_STAT_LO [p, k, i] (BitVec.ofNat 32 new)).wr R.ETH_STAT_HI [p, k, i] (BitVec.ofNat 32 (new / 2 ^ 32))).count (212 + i) n
  if old < 2 ^ 63 && 2 ^ 63 ≤ new then
    let h := if i < 32 then F.ETH_STAT_HALF0_HALF else F.ETH_STAT_HALF1_HALF
    raiseEvent 5 0 (4 * p + k) i [0] (s1.p h [p, k] (s1.g h [p, k] ||| 2 ^ (i % 32)))
  else s1

/-- A frame that matches entry f (R152): checked, then written by its kind. -/
def flowReceive (p k f : Nat) (b : List Byte) (s : State) : State :=
  let e := s.flow f
  if !ipOk b then ethStat p k 24 1 s
  else if !rtpOk e b then ethStat p k 25 1 s
  else
    let r := udpPayload b
    let pay := rtpPayload r
    let s1 := ethStat p k 26 1 s
    match fKind e with
    | 0 => recvVideo f (nb r 4 4) (nb r 2 2) pay s1
    | 1 => recvAudio f (nb r 4 4) (nb r 2 2) pay s1
    | _ => recvAnc f (nb r 4 4) (nb r 2 2) pay s1

/-- The receive entries of a signal (R156 to R158): the one whose grid its records follow, the video entry where there is
one, and the ancillary entry that goes with it. -/
def signalFlow (s : State) (kind slot base : Nat) : Option Nat :=
  (s.flw.tbl.find? (fun x => fValid x.2 && !fTx x.2 && fKind x.2 == kind && fSlot x.2 == slot && fBase x.2 == base
    && !(fPair x.2 && fSecondary x.2))).map (·.1)

/-- Whether entry f gives its signal's records their times. -/
def leads (s : State) (f : Nat) : Bool :=
  let e := s.flow f
  fValid e && !fTx e && !(fPair e && fSecondary e) &&
    (fKind e == 0 || (fKind e == 2 && (signalFlow s 0 (fSlot e) (fBase e)).isNone))

/-- A line of an entry as it can be played: an extended merge plays what was read back (R163, R164). -/
def lineNow (s : State) (f l : Nat) : LarLine :=
  let a : LarLine := getD {} (s.frx f).lines l
  if !fExt (s.flow f) then a
  else
    let here := fun (w : CelReader) => match w with
      | .merge g k => g.val == f && k == l
      | _ => false
    match s.cel.lines.find? (fun x => here x.1) with
    | none => {}
    | some (_, d) =>
      let e := s.flow f
      let p := fPicture s e
      let ws := bytesToWords (p + fAncWords e) d
      let gs := (wordGroups (widthOf (fFmt s e) / 2) (ws.take p))
      { segs := a.segs.map (fun r => (r.1, (List.range r.2.length).map (fun i => gs.getD (r.1 + i) 0))),
        anc := (ws.drop p).take a.anc.length }

/-- The line that raster line L of the frame that begins at t is on the grid of the ancillary entry g, the nearest frame standing for
it (R156). -/
def ancIndex (s : State) (g L t : Nat) : Option Nat :=
  let c := fCad s (s.flow g)
  match (s.frx g).g0 with
  | none => none
  | some g0 =>
    let l : Int := (nearestFrame (frameU (s.g F.XPT_CAD_CFG_RATE [c])) g0 t false).1 * (s.raster c : Nat) + (L : Int) - 1
    if l < 0 then none else some l.toNat

/-- Count runs of picture lines without a packet (R157). -/
def countEmpty (f : Nat) (wrote : Bool) (s : State) : State :=
  s.setRx f { s.frx f with empty := if wrote then 0 else (s.frx f).empty + 1 }

/-- The ancillary entry g beside a video entry passes line l of its grid (R156, R157): LOST ends at a line 1 once a packet is written
since it began (DEDUCED, log 41), and lines passed are forgotten. -/
def passAnc (g l L : Nat) (mine : Bool) (s : State) : State :=
  let x := s.frx g
  let s1 := if isLost s g && L == 1 && x.wrote then leaveLost g s else s
  let s2 := when mine (countEmpty g (!(getD {} x.lines l : LarLine).anc.isEmpty)) s1
  let y := s2.frx g
  s2.setRx g { y with next := l + 1, lines := y.lines.filter (fun z => decide (l < z.1)) }

/-- Lines read back for entry f up to line l are forgotten. -/
def forgetRead (f l : Nat) (s : State) : State :=
  { s with cel := { s.cel with lines := s.cel.lines.filter (fun z => match z.1 with
    | .merge g k => !(g.val == f && k ≤ l)
    | _ => true) } }

/-- Play the record that is next of entry f (R155 to R157, R164). `wait` is the time in core cycles from its play time to the
signal's first pass. While its cadence is stopped the entry stays LOST (R71). -/
def playRecord (f wait : Nat) (s : State) : State :=
  let e := s.flow f
  let x := s.frx f
  let c := fCad s e
  let fmt := fFmt s e
  let N := s.raster c
  let L := x.next % N + 1
  let w := widthOf fmt / 2
  let cls := srcSub s (fSlot e) (fBase e)
  let a := lineNow s f x.next
  let written := fun (l : Nat) => (getD {} x.lines l : LarLine)
  let line := lineU s c
  let beside := if fKind e = 2 then none else (signalFlow s 2 (fSlot e) (fBase e)).bind (fun g =>
    if g = f then none else (ancIndex s g L (x.g0.getD 0 + x.next / N * N * line)).map (fun l => (g, l)))
  let mine := (activeIdx fmt L).isSome
  let pic := fKind e = 0 && mine
  let got := (List.range w).map a.group
  let whole := got.all Option.isSome
  let prev := x.prev.toArray
  let gs := ((List.range w).zip got).map (fun y => y.2.getD (prev.getD y.1 0))
  let aw := match beside with
    | some (g, l) => if isLost s g then [] else (lineNow s g l).anc
    | none => a.anc
  let body := (if pic then groupWords (pictureWords fmt) gs else []) ++ aw
  let words := if body.isEmpty then [nullWord] else body
  -- LOST ends at line 1 of a grid frame; a frame's first active line is whole only after its line 1, so the frame before
  -- counts too (DEDUCED, log 41)
  let firstLine := rasterOf fmt 0
  let complete := fun (l : Nat) => (List.range w).all (fun i => ((written l).group i).isSome)
  let ahead := complete (x.next + firstLine - 1)
  let out := isLost s f && L == 1 && (s.cad c).running && (if fKind e = 2 then x.wrote else x.first || ahead)
  let s1 := if out then leaveLost f s else s
  let live := !isLost s1 f
  -- room for the words whose passes start before the next record's play time (R156); TRUNC counts the words left (log 108)
  let room := ceilDiv (2 * line - 50625 * wait) (50625 * wordPeriod cls)
  let sent := words.take (max 1 room)
  let lost := words.length - sent.length
  let s2 := when (live && pic && !whole) (fun u => occur 96 f (flowCount f F.FLW_CNT1_CONCEAL 294 u)) s1
  let s3 := when (live && decide (0 < lost)) (fun u => (u.bump F.FLW_CNT2_TRUNC [f] lost).count 299 lost) s2
  let y := s3.frx f
  let s4 := s3.setRx f { y with
    next := y.next + 1, lines := y.lines.filter (fun z => decide (y.next < z.1))
    prev := if pic then gs else y.prev, first := if L = firstLine then complete x.next else y.first }
  let s5 := when mine (countEmpty f (if fKind e = 2 then !(written x.next).anc.isEmpty else !(written x.next).segs.isEmpty)) s4
  let s6 := match beside with
    | some (g, l) => forgetRead g l (passAnc g l L mine s5)
    | none => s5
  let s7 := forgetRead f x.next s6
  if live then
    let rec_ : LineRec := ⟨L, x.next / N % 2 ^ 16, cls, 0, sent⟩
    { s7 with flw := { s7.flw with ready := put s7.flw.ready (8 * fSlot e + fBase e) rec_ } }
  else s7

end Sys2Proof.Machine
end

