-- ==== Sys2Proof/Machine/FlowSend.lean ====
section
/-! DEFINITION. Transmitting (R139 to R142, R165 to R169, R176 to R179): packetisers, frames, the transmit queues of a
sub-port, host frames and transmit timestamps. -/
namespace Sys2Proof.Machine

/-- Apply a change to a transmit entry's data, and to that of an entry of index f that is ending (R149). -/
def upTx (f : Nat) (ending : Bool) (g : FlowTx → FlowTx) (s : State) : State :=
  if ending then
    { s with flw := { s.flw with dying := s.flw.dying.map (fun x => if x.1 = f then (x.1, x.2.1, g x.2.2) else x) } }
  else s.setTx f (g (s.ftx f))

/-- Transmit entries with their data: those that end, then those in the table. -/
def txFlows (s : State) : List (Nat × BitVec 512 × FlowTx × Bool) :=
  s.flw.dying.map (fun x => (x.1, x.2.1, x.2.2, true)) ++
  (s.flw.tbl.filter (fun x => fValid x.2 && fTx x.2)).map (fun x => (x.1, x.2, s.ftx x.1, false))

/-- A house line 1 of cadence c begins (R149, R166): entries of the cadence start or go on; those that end send no record of
the new frame, and go when their packets are gone. -/
def flowLine1 (c : Nat) (s : State) : State :=
  let mine := fun (e : BitVec 512) => fKind e != 1 && fCad s e == c
  let s1 := each (s.flw.tbl.filter (fun x => fValid x.2 && fTx x.2 && mine x.2)) (fun x t =>
    upTx x.1 false (fun y => { y with hs := (t.domU (fDomain x.2) :: y.hs).take 2 }) t) s
  let gone := fun (x : Nat × BitVec 512 × FlowTx) => mine x.2.1 && x.2.2.hs.head? == some 0 && x.2.2.pkts.isEmpty
  { s1 with flw := { s1.flw with dying := (s1.flw.dying.filter (fun x => !gone x)).map (fun x =>
      if mine x.2.1 && x.2.2.hs.head? != some 0 then (x.1, x.2.1, { x.2.2 with hs := (0 :: x.2.2.hs).take 2 }) else x) } }

/-- The frame start that a record of raster line L belongs to (R166): the frame before while the house line is early and the
record is late in its frame; none where the entry does not send that frame. -/
def recordFrame (s : State) (e : BitVec 512) (x : FlowTx) (L : Nat) : Option Nat :=
  let k := s.cad (fCad s e)
  let half := s.raster (fCad s e) / 2
  let h := if half < L && k.line ≤ half then x.hs[1]? else x.hs.head?
  if h = some 0 then none else h

/-- The RTP timestamp of a frame (R166). -/
def frameStamp (e : BitVec 512) (h : Nat) : Nat := ofSigned 32 (((h : Int) - (fDelay e * 40500 : Nat)) / 450000000)

/-- An RTP header (R165): version 2, no padding, extension or contributing sources. -/
def rtpHeader (marker : Bool) (pt seq stamp ssrc : Nat) : List Byte :=
  [0x80, BitVec.ofNat 8 (b2n marker * 128 + pt)] ++ beBytes 2 seq ++ beBytes 4 stamp ++ beBytes 4 ssrc

/-- A sample row data header: length, field and row, continuation and offset in pixels. -/
def srdHeader (more : Bool) (field row pair n : Nat) : List Byte :=
  beBytes 2 (5 * n) ++ beBytes 2 (field * 2 ^ 15 + row) ++ beBytes 2 (b2n more * 2 ^ 15 + 2 * pair)

/-- A video packet of runs (row, field, first pair, groups). -/
def videoPacket (e : BitVec 512) (marker : Bool) (seq stamp : Nat) (runs : List (Nat × Nat × Nat × List Nat)) : List Byte :=
  let heads := ((List.range runs.length).zip runs).flatMap (fun r =>
    srdHeader (r.1 + 1 < runs.length) r.2.2.1 r.2.1 r.2.2.2.1 r.2.2.2.2.length)
  rtpHeader marker (fPt e) seq stamp (fSsrc e) ++ beBytes 2 (seq / 2 ^ 16) ++ heads
    ++ runs.flatMap (fun r => r.2.2.2.flatMap (beBytes 5))

/-- Take n groups from the front of runs. -/
def takeRuns : Nat → List (Nat × Nat × Nat × List Nat) → List (Nat × Nat × Nat × List Nat) × List (Nat × Nat × Nat × List Nat)
  | _, [] => ([], [])
  | n, (row, fld, off, g) :: r =>
    if n = 0 then ([], (row, fld, off, g) :: r)
    else if g.length ≤ n then
      let (a, b) := takeRuns (n - g.length) r
      ((row, fld, off, g) :: a, b)
    else ([(row, fld, off, g.take n)], (row, fld, off + n, g.drop n) :: r)

def runsLength (r : List (Nat × Nat × Nat × List Nat)) : Nat := (r.map (fun x => x.2.2.2.length)).sum

/-- Cut runs into packets of n groups (R165); a shorter packet is cut only where the payload ends. -/
def cutRuns (n : Nat) (ends : Bool) : Nat → List (Nat × Nat × Nat × List Nat) →
    List (List (Nat × Nat × Nat × List Nat)) × List (Nat × Nat × Nat × List Nat)
  | 0, r => ([], r)
  | fuel + 1, r =>
    if runsLength r = 0 || (runsLength r < n && !ends) then ([], r)
    else
      let (a, b) := takeRuns n r
      let (ps, rest) := cutRuns n ends fuel b
      (a :: ps, rest)

/-- Packets of a frame or field of an entry (R165). -/
def fieldPackets (e : BitVec 512) (fmt : Nat) : Nat :=
  let w := widthOf fmt / 2
  let lines := activeLines fmt / if fmt = 0 then 2 else 1
  if fBlockPack e then ceilDiv (w * lines) 252 else lines * ceilDiv w 240

/-- When packet j of a frame or field may enter its queue under the schedule of SHAPE (R167), from the start of house line 1, in units of
1/40500 ns; `line` is the line period and `fr` the frame period. Both schedules end one line period after the last picture line: Type
N runs through the picture lines, Type NL through the whole period (DEDUCED, log 109). -/
def schedule (e : BitVec 512) (fmt field j line fr : Nat) : Int :=
  let fields := if fmt = 0 then 2 else 1
  let lines := activeLines fmt / fields
  let stop : Int := ((rasterOf fmt (field * lines) + lines) * line : Nat)
  let span := if fw e 0 14 14 = 1 then fr / fields else lines * line
  stop - (span : Nat) + (j * span / max 1 (fieldPackets e fmt) : Nat)

/-- Build the packets of a picture line (R165): general packing in packets of 1,200 B within the line, block packing of 1,260 B
across lines; the last packet of a frame or field has the marker. `due` is the schedule of packet j of a field (R167). -/
def videoTx (e : BitVec 512) (fmt i h now : Nat) (due : Nat → Nat → Nat) (groups : List Nat) (x : FlowTx) : FlowTx :=
  let field := if fmt = 0 then i / 540 else 0
  let row := if fmt = 0 then i % 540 else i
  let last := decide (row + 1 = if fmt = 0 then 540 else activeLines fmt)
  let j0 := if row = 0 then 0 else x.sent
  let runs := x.part ++ [(row, field, 0, groups)]
  let (ps, rest) := cutRuns (if fBlockPack e then 252 else 240) (last || !fBlockPack e) (groups.length + 2) runs
  let mk := fun (p : Nat × List (Nat × Nat × Nat × List Nat)) =>
    FlowPkt.mk (videoPacket e (last && p.1 + 1 == ps.length) (x.seq + p.1) (frameStamp e h) p.2) now (due field (j0 + p.1))
  { x with part := rest, seq := (x.seq + ps.length) % 2 ^ 32, sent := j0 + ps.length, pkts := x.pkts ++ ((List.range ps.length).zip ps).map mk }

/-- Bits of RFC 8331 for one ancillary packet on a line: Horizontal_Offset 0xFFF, C, S and StreamNum 0, padded to 32 bits. -/
def ancBits (line : Nat) (p : List Nat) : List Byte :=
  let x := p.drop 3
  let n := 10 * x.length
  let pad := (32 - n % 32) % 32
  beBytes 4 (line % 2 ^ 11 * 2 ^ 20 + 0xFFF * 2 ^ 8) ++ beBytes ((n + pad) / 8) ((x.foldl (fun a v => a * 1024 + v % 1024) 0) * 2 ^ pad)

/-- The ancillary packet of a record (R165). RFC 8331 marks the last packet of a frame or field, which a packet sent as its
record leaves cannot know: the marker is a free value. -/
def ancTx (e : BitVec 512) (fmt L h now : Nat) (marker : Bool) (ps : List (List Nat)) (x : FlowTx) : FlowTx :=
  let body := ps.flatMap (ancBits L)
  let fld := if fmt = 0 then (if L < 564 then 2 else 3) else 0
  let pay := beBytes 2 (x.seq / 2 ^ 16) ++ beBytes 2 body.length ++ [BitVec.ofNat 8 ps.length, BitVec.ofNat 8 (fld * 64), 0, 0] ++ body
  { x with seq := (x.seq + 1) % 2 ^ 32
           pkts := x.pkts ++ [FlowPkt.mk (rtpHeader marker (fPt e) x.seq (frameStamp e h) (fSsrc e) ++ pay) now 0] }

/-- Give the packets that a primary has just built to its secondary (R168). -/
def shareTx (f L n : Nat) (s : State) : State :=
  let new := match (txFlows s).find? (fun x => x.1 == f) with
    | some (_, _, x, _) => lastN n x.pkts
    | none => []
  each ((txFlows s).filter (fun x => fPair x.2.1 && fSecondary x.2.1 && fMate x.2.1 == f)) (fun x t =>
    if (recordFrame t x.2.1 x.2.2.1 L).isSome then upTx x.1 x.2.2.2 (fun y => { y with pkts := y.pkts ++ new }) t else t) s

/-- The schedule of the packets of a record of line L (R167): its frame began at the latest start of house line 1, or one frame
before. -/
def packetDue (s : State) (e : BitVec 512) (L field j : Nat) : Nat :=
  let c := fCad s e
  let k := s.cad c
  let half := s.raster c / 2
  let fr := frameU (s.g F.XPT_CAD_CFG_RATE [c])
  let start : Int := (k.frameTick * 81000 : Nat) - (if half < L && k.line ≤ half then (fr : Int) else 0)
  (start + schedule e (fFmt s e) field j (lineU s c) fr).toNat

/-- A record leaves the destination multiplex on a packet destination slot (R165). -/
def packetise (d m : Nat) (r : LineRec) (s : State) : State :=
  let now := s.ticks
  each ((txFlows s).filter (fun x => fKind x.2.1 != 1 && fSlot x.2.1 == d && fBase x.2.1 == m && !(fPair x.2.1 && fSecondary x.2.1)))
    (fun x t =>
      let e := x.2.1
      let fmt := fFmt t e
      match recordFrame t e x.2.2.1 r.line with
      | none => t
      | some h =>
        if fKind e = 0 then
          match activeIdx fmt r.line with
          | some i =>
            let y := videoTx e fmt i h now (packetDue t e r.line) (wordGroups (widthOf fmt / 2) (r.words.filter (fun w => !isAnc w))) x.2.2.1
            shareTx x.1 r.line (y.pkts.length - x.2.2.1.pkts.length) (upTx x.1 x.2.2.2 (fun _ => y) t)
          | none => t
        else
          let ps := recPackets r.words
          if ps.isEmpty then t
          else
            let (b, t1) := t.freeNat 1
            shareTx x.1 r.line 1 (upTx x.1 x.2.2.2 (fun y => ancTx e fmt r.line h now (b == 1) ps y) t1)) s

/-- The destination MAC address (R147): of a multicast group by RFC 1112. -/
def fDstMac (e : BitVec 512) : Nat :=
  if fDstIp e / 2 ^ 28 = 14 then 0x01005E000000 + fDstIp e % 2 ^ 23 else fw e 6 31 16 * 2 ^ 32 + fw e 7 31 0

/-- The frame of a packet, without FCS (R147, R168). Identification, DF, ECN and whether the UDP checksum is sent are not the
manual's: free values. -/
def flowFrame (e : BitVec 512) (rtp : List Byte) (s : State) : List Byte × State :=
  let p := fPort e
  let k := fSub e
  let (v, s1) := s.freeNat 20
  let mac := s.g F.ETH_MAC_ADDR_HI_ADDR_HI [p, k] * 2 ^ 32 + s.g F.ETH_MAC_ADDR_LO_ADDR_LO [p, k]
  let ip := s.g F.ETH_IP_ADDR_ADDR [p, k]
  let tag := if fVlanEn e then beBytes 2 0x8100 ++ beBytes 2 (fw e 4 31 29 * 2 ^ 13 + fVlan e) else []
  let ulen := 8 + rtp.length
  let head := fun (c : Nat) => [0x45, BitVec.ofNat 8 (fw e 4 16 11 * 4 + v / 2 ^ 17 % 4)] ++ beBytes 2 (20 + ulen) ++ beBytes 2 (v % 2 ^ 16)
    ++ beBytes 2 (v / 2 ^ 16 % 2 * 0x4000) ++ [BitVec.ofNat 8 (fw e 6 15 8), 17] ++ beBytes 2 c ++ beBytes 4 ip ++ beBytes 4 (fDstIp e)
  let ph := beBytes 4 ip ++ beBytes 4 (fDstIp e) ++ [0, 17] ++ beBytes 2 ulen
  let uh := fun (c : Nat) => beBytes 2 (fw e 3 15 0) ++ beBytes 2 (fDstUdp e) ++ beBytes 2 ulen ++ beBytes 2 c
  let sum := 0xFFFF - onesOf (ph ++ uh 0 ++ rtp)
  let ck := if v / 2 ^ 19 = 0 then 0 else if sum = 0 then 0xFFFF else sum
  (beBytes 6 (fDstMac e) ++ beBytes 6 mac ++ tag ++ beBytes 2 0x0800 ++ head (0xFFFF - onesOf (head 0)) ++ uh ck ++ rtp, s1)

/-- A sub-port's data. -/
def State.port (s : State) (p k : Nat) : EthPort := getD {} s.flw.ports (4 * p + k)
def State.setPort (s : State) (p k : Nat) (x : EthPort) : State :=
  { s with flw := { s.flw with ports := putD {} s.flw.ports (4 * p + k) x } }

/-- Whether a queue is paused (R140). -/
def queuePaused (x : EthPort) (q : Nat) : Bool := x.paused.any (fun y => y.1 == q)

/-- Nanoseconds added to a counter's time. -/
def addNs (t : TCnt) (n : Int) : Nat × Nat :=
  let a : Int := t.sec * 10 ^ 9 + t.ns + n
  let b := a % ((2 ^ 48 * 10 ^ 9 : Nat) : Int)
  (b.toNat / 10 ^ 9, b.toNat % 10 ^ 9)

/-- The counter a sub-port timestamps against (R176). -/
def portTime (s : State) (p k : Nat) : TCnt := if s.on F.PTP_PORT_CFG_DOMAIN [p, k] then s.ptp.tc1 else s.ptp.tc0

/-- Start the oldest frame of the highest queue that holds one and is not paused, if the wire is free (R139). The FATAL
reaction halts transmission (R142). The timestamp point is 8 B after the start: 2 ns at 25 Gbit/s (R176). -/
def txKick (p k : Nat) (s : State) : State :=
  let x := s.port p k
  if x.wire.isSome || !s.on F.ETH_MAC_CFG_TX_EN [p, k] || fatalHeld s then s
  else
    match [7, 6, 5, 4, 3, 2, 1, 0].find? (fun q => !(getD [] x.queues q).isEmpty && !queuePaused x q) with
    | none => s
    | some q =>
      match getD [] x.queues q with
      | [] => s
      | fr :: rest =>
        let pre : Nat := if s.g F.ZL_QUAD_CFG_MODE [p] = 2 then 2 else 0
        let (sec, ns) := addNs (portTime s p k) ((pre : Int) + (s.g F.PTP_PORT_CFG_TX_LAT [p, k] : Nat))
        s.setPort p k { x with queues := putD [] x.queues q rest, wire := some (fr, s.g F.PTP_PORT_CFG_DOMAIN [p, k], sec, ns) }

/-- Bytes a queue holds, with FCS (R139). -/
def queueBytes (x : EthPort) (q : Nat) : Nat := ((getD [] x.queues q).map (fun f => f.bytes.length + 4)).sum

/-- Room in a queue of 64 KiB. -/
def queueRoom (x : EthPort) (f : TxFrame) : Bool := decide (queueBytes x f.queue + f.bytes.length + 4 ≤ 65536)

/-- Put a frame into its queue. -/
def enqueue (p k : Nat) (f : TxFrame) (s : State) : State :=
  let x := s.port p k
  txKick p k (s.setPort p k { x with queues := put x.queues f.queue (getD [] x.queues f.queue ++ [f]) })

/-- A host transmit entry is complete (R144): DONE is written last; the cause NET (R319). While Bus Master Enable is 0 the write is held
(R309). -/
def hostTxDone (p k : Nat) (h : Nat × BitVec 128) (s : State) : State :=
  let x := s.port p k
  let a := x.txBase + 16 * h.1 + 12
  let v := bitsOf h.2.toNat 127 96 % 2 ^ 31 + 2 ^ 31
  if s.on F.HIF_PART_STAT_BME [0] then raiseIrq 0 3 (s.emit (.hostWrite 0 a 4 v))
  else s.setPort p k { x with done := x.done ++ [(a, v)] }

/-- Entries of a host ring (R170). -/
def hringEntries (size : Nat) : Nat := 2 ^ (size + 4)

/-- Move host frames that wait into their queues, in ring order, as far as there is room (R141, R144); a FATAL reaction discards
them (R142). A ring that is not enabled stands (R170). -/
def hostFlush (p k : Nat) : Nat → State → State
  | 0, s => s
  | n + 1, s =>
    let x := s.port p k
    match x.hostWait with
    | [] => s
    | f :: rest =>
      if !s.on F.ETH_HRING_CFG_TX_EN [p, k] || (!fatalHeld s && !queueRoom x f) then s
      else
        let s1 := s.setPort p k { x with hostWait := rest }
        let s2 := s1.p F.ETH_HRING_HEAD_TX_HEAD [p, k] ((s1.g F.ETH_HRING_HEAD_TX_HEAD [p, k] + 1) % hringEntries x.txSize)
        let s3 := if fatalHeld s2 then
            (match f.host with
            | some h => ethStat p k 48 1 (hostTxDone p k h s2)
            | none => s2)
          else enqueue p k f s2
        hostFlush p k n s3

/-- Let a sub-port go on: host frames that wait, then the wire. -/
def txGo (p k : Nat) (s : State) : State := txKick p k (hostFlush p k (s.port p k).hostWait.length s)

/-- The device reads the host transmit descriptors that the tail makes available, with the frames they name (R144): while the ring runs
and p0 is a bus master. -/
def hostTake (p k : Nat) (s : State) : State :=
  let x := s.port p k
  if !s.on F.ETH_HRING_CFG_TX_EN [p, k] || !s.on F.HIF_PART_STAT_BME [0] then s
  else
    let n := hringEntries x.txSize
    let at_ := (s.g F.ETH_HRING_HEAD_TX_HEAD [p, k] + x.hostWait.length) % n
    let avail := (s.g F.ETH_HRING_TAIL_TX_TAIL [p, k] + n - at_) % n
    let new := ((List.range avail).zip x.announced).map (fun y =>
      let d := y.2.1.toNat
      TxFrame.mk (bitsOf d 80 78) (y.2.2.take (bitsOf d 77 64)) none (some ((at_ + y.1) % n, y.2.1)))
    txGo p k (s.setPort p k { x with hostWait := x.hostWait ++ new, announced := x.announced.drop avail })

/-- Bus Master Enable of p0 is 1 again: the DONE words held are written, and the rings go on (R144, R309). -/
def hostRings (s : State) : State :=
  each s.flw.ports (fun x t =>
    let y := t.port (x.1 / 4) (x.1 % 4)
    let t1 := t.setPort (x.1 / 4) (x.1 % 4) { y with done := [] }
    hostTake (x.1 / 4) (x.1 % 4) (each y.done (fun w u => raiseIrq 0 3 (u.emit (.hostWrite 0 w.1 4 w.2))) t1)) s

/-- Every sub-port goes on (the end of a FATAL reaction). -/
def txGoAll (s : State) : State := each s.flw.ports (fun x t => txGo (x.1 / 4) (x.1 % 4) t) s

/-- Whether transmit flows leave (R142). -/
def flowsLeave (s : State) : Bool := (s.isActive || s.on F.FLW_CFG_TX_ANY_STATE []) && !fatalHeld s

/-- A flow's packet reaches the MAC (R141, R142): discarded before the queues, or at a full queue, or queued. -/
def sendPacket (f : Nat) (e : BitVec 512) (pk : FlowPkt) (s : State) : State :=
  let p := fPort e
  let k := fSub e
  let (b, s1) := flowFrame e pk.rtp s
  let fr : TxFrame := ⟨fQueue e, b, some f, none⟩
  if !flowsLeave s1 then ethStat p k 48 1 (s1.count 306 1)
  else if !queueRoom (s1.port p k) fr then ethStat p k 47 1 (flowCount f F.FLW_CNT1_DUP 296 s1)
  else enqueue p k fr s1

/-- Send the next packet of entry f (an entry that ends comes first), if `due` holds of it. -/
def sendNext (f : Nat) (due : BitVec 512 → FlowPkt → Bool) (s : State) : State :=
  match (txFlows s).find? (fun x => x.1 == f && !x.2.2.1.pkts.isEmpty) with
  | none => s
  | some (_, e, x, ending) =>
    match x.pkts with
    | [] => s
    | pk :: rest => if due e pk then sendPacket f e pk (upTx f ending (fun y => { y with pkts := rest }) s) else s

/-- The size bin of a frame of n bytes (R146), from 0. -/
def sizeBin (n : Nat) : Nat :=
  if n ≤ 64 then 0 else if n ≤ 127 then 1 else if n ≤ 255 then 2 else if n ≤ 511 then 3 else if n ≤ 1023 then 4
  else if n ≤ 1518 then 5 else 6

/-- The destination type of a frame: 0 unicast, 1 multicast, 2 broadcast. -/
def castOf (b : List Byte) : Nat := if nb b 0 6 = 2 ^ 48 - 1 then 2 else if bitOf (nb b 0 1) 0 then 1 else 0

/-- Queue a transmit timestamp (R178, R179). -/
def pushTxts (p k : Nat) (t : TxTs) (s : State) : State :=
  let q := getD [] s.ptp.txts (4 * p + k)
  if 16 ≤ q.length then
    occur 91 (4 * p + k) (((s.p F.PTP_TXTS_STAT_OVF [p, k] 1).bump F.PTP_TXTS_STAT_DROPS [p, k] 1).count 210 1)
  else
    let s1 := { s with ptp := { s.ptp with txts := put s.ptp.txts (4 * p + k) (q ++ [t]) } }
    let s2 := (s1.p F.PTP_TXTS_STAT_COUNT [p, k] (q.length + 1)).count 209 1
    when q.isEmpty (raiseEvent 6 0 (4 * p + k) 1 [0]) s2

/-- A frame has left the MAC (R139, R144, R146, R178). -/
def frameSent (p k : Nat) (fr : TxFrame) (dom sec ns : Nat) (s : State) : State :=
  let n := fr.bytes.length + 4
  let s1 := each [(32, n), (33, 1), (34 + castOf fr.bytes, 1), (38 + sizeBin n, 1)] (fun x t => ethStat p k x.1 x.2 t)
    (s.emit (.eth p k fr.bytes))
  let s2 := if fr.flow.isSome then (ethStat p k 45 1 s1).count 305 1 else ethStat p k 46 1 s1
  match fr.host with
  | some h =>
    let s3 := hostTxDone p k h s2
    if h.2.getLsbD 81 then pushTxts p k ⟨bitsOf h.2.toNat 111 96, sec, ns, dom⟩ s3 else s3
  | none => s2

end Sys2Proof.Machine
end

