-- ==== Sys2Proof/Machine/AudOps.lean ====
section
/-! DEFINITION. The audio matrix (R249 to R277): producers and consumers, de-embedding, fades, the sample instant,
re-embedding, TDM frames. -/
namespace Sys2Proof.Machine

/-- Channels of a space at the current rate (R249). -/
def audChans (s : State) : Nat := if s.on F.AUD_CFG_RATE [] then 16384 else 32768

/-- De-embedders and re-embedders that run: enabled, and not at a follower (R249). -/
def deOn (s : State) (i : Nat) : Bool := s.on F.AUD_DEEMB_EN [i] && !follower (srcSub s) i
def reOn (s : State) (i : Nat) : Bool := s.on F.AUD_REEMB_EN [i] && !follower (dstSub s) i

/-- The alignment monitor of a de-embedder's source holds a valid measurement (R90); a generator has none. -/
def deValid (s : State) (i : Nat) : Bool := decide (9728 ≤ i) || s.on F.XPT_ALIGN_STAT_VALID [i]

/-- Runs of source channels with a producer (R249, R250): kind (0 de-embedder, 1 TDM input, 2 flow), index, base, count. -/
def producers (s : State) : List (Nat × Nat × Nat × Nat) :=
  (listed s R.AUD_DEEMB 10240).filterMap (fun x =>
    if F.AUD_DEEMB_EN.of x.2 = 1 && !follower (srcSub s) x.1 then some (0, x.1, F.AUD_DEEMB_CHAN_BASE.of x.2, 4 * F.AUD_DEEMB_GROUPS.of x.2) else none) ++
  (List.range 16).filterMap (fun t =>
    if s.on F.AUD_TDM_MAP_IN_EN [t] then some (1, t, s.g F.AUD_TDM_MAP_IN_BASE [t], s.g F.AUD_TDM_CFG_SLOTS [t] + 1) else none) ++
  s.flw.tbl.filterMap (fun x =>
    if fValid x.2 && !fTx x.2 && fKind x.2 == 1 && !(fPair x.2 && fSecondary x.2) then
      some (2, x.1, fChanBase x.2, fChanCount x.2) else none)

/-- Whether a run may have a producer of a kind and index: in the space, and no channel has another (R250). -/
def runFree (s : State) (kind idx base n : Nat) : Bool :=
  decide (base + n ≤ audChans s) && (producers s).all (fun x => (x.1 == kind && x.2.1 == idx) || !runsMeet x.2.2.1 x.2.2.2 base n)

/-- The group, from 0, that the DID of an audio data or control packet names (R254). -/
def dataGroup (did : Nat) : Option Nat :=
  if 0xE4 ≤ did && did ≤ 0xE7 then some (0xE7 - did) else if 0xA4 ≤ did && did ≤ 0xA7 then some (4 + 0xA7 - did) else none
def controlGroup (did : Nat) : Option Nat :=
  if 0xE0 ≤ did && did ≤ 0xE3 then some (0xE3 - did) else if 0xA0 ≤ did && did ≤ 0xA3 then some (4 + 0xA3 - did) else none

/-- Remainder of a bit string by x⁶ + x⁵ + x³ + x² + x + 1, the code of ST 299-1 data packets (PRESUMED, log 44). -/
def bchRem (bits : List Bool) : Nat :=
  bits.foldl (fun r b => let t := 2 * r + b2n b; if 64 ≤ t then t ^^^ 0x6F else t) 0

/-- Correct a code word: the bits with a single error repaired and how many were, none where it cannot. -/
def bchFix (bits : List Bool) : Option (List Bool × Nat) :=
  let r := bchRem bits
  if r = 0 then some (bits, 0)
  else match (List.range bits.length).find? (fun i => bchRem ((List.range bits.length).map (· == i)) == r) with
    | some i => some (bits.modify i (!·), 1)
    | none => none

/-- Bit j of words. -/
def column (j : Nat) (ws : List Nat) : List Bool := ws.map (fun w => bitOf w j)

/-- The user data words of a data packet after its ECC has been applied (R255): bits 7 to 0, and corrections; the code covers
the first 24 words of the packet, each bit place for itself (PRESUMED, log 44). -/
def fixPacket (p : List Nat) : Option (List Nat × Nat) :=
  let ws := p.take 24 ++ (p.drop 24).take 6
  let cols := (List.range 8).map (fun j => bchFix (column j ws))
  if p.length = 31 && cols.all Option.isSome then
    let bs := cols.map (fun c => (c.map (·.1)).getD [])
    let word := fun (i : Nat) => (List.range 8).foldl (fun a j => a + b2n ((bs.getD j []).getD i false) * 2 ^ j) 0
    some ((List.range 18).map (fun i => word (6 + i)), (cols.map (fun c => (c.map (·.2)).getD 0)).sum)
  else none

/-- A channel of a data packet from its four words (PRESUMED, log 44: Z in bit 3 of the first, audio from bit 4 on, V, U, C
in bits 4 to 6 of the last). -/
def chanOf (u : List Nat) : AudWord :=
  let b := fun (i : Nat) => u.getD i 0
  { smp := b 0 / 16 % 16 + b 1 % 256 * 16 + b 2 % 256 * 2 ^ 12 + b 3 % 16 * 2 ^ 20
    v := bitOf (b 3) 4, u := bitOf (b 3) 5, c := bitOf (b 3) 6, b := bitOf (b 0) 3 }

/-- The four words of a channel; bit 7 of the last makes the parity of the subframe even. -/
def chanWords (a : AudWord) : List Nat :=
  let last := a.smp / 2 ^ 20 % 16 + b2n a.v * 16 + b2n a.u * 32 + b2n a.c * 64
  let ones := ((List.range 24).filter (bitOf a.smp)).length + b2n a.v + b2n a.u + b2n a.c
  [b2n a.b * 8 + a.smp % 16 * 16, a.smp / 16 % 256, a.smp / 2 ^ 12 % 256, last + ones % 2 * 128]

/-- Group g of the de-embedder of source signal i. -/
def State.deg (s : State) (i g : Nat) : DeGroup := getD {} s.aud.de (8 * i + g)
def State.setDeg (s : State) (i g : Nat) (x : DeGroup) : State := { s with aud := { s.aud with de := putD {} s.aud.de (8 * i + g) x } }

/-- RUNNING shows that some group releases samples (R278). -/
def deRunning (i : Nat) (s : State) : State :=
  s.p F.AUD_DEEMB_STAT_RUNNING [i] (b2n ((List.range 8).any (fun g => (s.deg i g).run)))

/-- A slip of a de-embedder (R256, R399). -/
def deSlip (i : Nat) (s : State) : State := occur 99 i ((s.bump F.AUD_DEEMB_STAT_SLIPS [i] 1).count 344 1)

/-- Samples of one instant arrive for group g (R256), unless its source's monitor holds no valid measurement. -/
def dePush (i g : Nat) (x : List AudWord) (s : State) : State :=
  let d := s.deg i g
  if d.bad || !deValid s i then s
  else if 32 ≤ d.q.length then deSlip i (s.setDeg i g { d with q := d.q.drop 1 ++ [x] })
  else s.setDeg i g { d with q := d.q ++ [x] }

/-- An error of a de-embedder (R255, R399). -/
def deError (f : FR) (ev i : Nat) (s : State) : State := occur 97 i ((s.p f [i] 1).count ev 1)

/-- The sampling frequency code of an audio control packet (PRESUMED, log 44): bits 3 to 1 of its second user data word. -/
def rateCode (p : List Nat) : Nat := (ancUdw p).getD 1 0 / 2 % 8
def matrixCode (s : State) : Nat := if s.on F.AUD_CFG_RATE [] then 4 else 0

/-- One packet at a de-embedder (R254, R255). -/
def dePacket (i : Nat) (p : List Nat) (s : State) : State :=
  let n := s.g F.AUD_DEEMB_GROUPS [i]
  match dataGroup (ancDid p), controlGroup (ancDid p) with
  | some g, _ =>
    if n ≤ g then s
    else if !ancOk p then deError F.AUD_DEEMB_STAT_ECC_ERR 345 i s
    else match fixPacket p with
      | none => deError F.AUD_DEEMB_STAT_ECC_ERR 345 i s
      | some (u, k) =>
        let s1 := when (decide (0 < k)) (fun t => t.count 347 k) (s.setDeg i g { s.deg i g with seen := s.ticks })
        let gives := !(s1.deg i g).bad && deValid s1 i
        let s2 := when gives (fun t => { t with aud := { t.aud with deSeen := put t.aud.deSeen i (getD 0 t.aud.deSeen i ||| 2 ^ g) } }) s1
        dePush i g ((List.range 4).map (fun c => chanOf ((u.drop (2 + 4 * c)).take 4))) s2
  | none, some g =>
    if n ≤ g then s
    else
      let bad := rateCode p != matrixCode s && rateCode p != 7
      let d := s.deg i g
      if bad then deRunning i (deError F.AUD_DEEMB_STAT_RATE_ERR 346 i
        (s.setDeg i g { d with seen := s.ticks, bad := true, run := false, q := [] }))
      else s.setDeg i g { d with seen := s.ticks, bad := false }
  | none, none => s

/-- A record of source signal i has passed (R254); PRESENT shows the groups of the frame before (R278). -/
def deRecord (i : Nat) (r : LineRec) (s : State) : State :=
  if !deOn s i then s
  else
    let s1 := if r.line = 1 then
        { s.p F.AUD_DEEMB_STAT_PRESENT [i] (getD 0 s.aud.deSeen i) with aud := { s.aud with deSeen := drop1 s.aud.deSeen i } }
      else s
    each (recPackets r.words) (dePacket i) s1

/-- A map without bit g of an entry's mask. -/
def dropBit (m : List (Nat × Nat)) (i g : Nat) : List (Nat × Nat) :=
  let x := getD 0 m i
  if bitOf x g then putD 0 m i (x - 2 ^ g) else m

/-- A group stops (R256): it delivers no samples (R278). -/
def deStop (i g : Nat) (s : State) : State :=
  let d := s.deg i g
  let shown := s.g F.AUD_DEEMB_STAT_PRESENT [i]
  let s0 := when (bitOf shown g) (fun t => t.p F.AUD_DEEMB_STAT_PRESENT [i] (shown - 2 ^ g)) s
  let s1 := deRunning i ({ s0 with aud := { s0.aud with deSeen := dropBit s0.aud.deSeen i g } }.setDeg i g {})
  when d.run (fun t => t.count 349 1) s1

/-- A group at a sample instant (R256): what it releases, and the state after; nothing while the monitor is not valid. -/
def deRelease (i g : Nat) (s : State) : Option (List AudWord) × State :=
  let d := s.deg i g
  if (!d.run && d.q.length < 8) || !deValid s i || follower (srcSub s) i then (none, s)
  else
    let s1 := if d.run then s else deRunning i ((s.setDeg i g { d with run := true }).count 348 1)
    match d.q with
    | x :: rest => (some x, s1.setDeg i g { d with run := true, q := rest, last := x, rep := false })
    | [] => (some d.last, if d.rep then s1 else deSlip i (s1.setDeg i g { d with rep := true }))

/-- The AES3 channel status block of R251, byte by byte without its CRC (PRESUMED, log 45): professional, linear PCM, matrix
rate, 24 bits. -/
def statusBytes (s : State) : List Byte :=
  let hi := s.on F.AUD_CFG_RATE []
  (List.range 23).map (fun i => if i = 0 then (if hi then 0x01 else 0x81) else if i = 2 then 0x2C
    else if i = 4 then (if hi then 0x10 else 0) else 0)

/-- The CRC byte of AES3: x⁸ + x⁴ + x³ + x² + 1, preset ones, bit 0 of byte 0 first (PRESUMED, log 45). -/
def statusCrc (bs : List Byte) : Byte :=
  let bits := bs.flatMap (fun b => (List.range 8).map (fun i => b.getLsbD i))
  bits.foldl (fun (c : Byte) b => if c.getLsbD 0 != b then (c >>> 1) ^^^ 0xB8 else c >>> 1) 0xFF

/-- A sample of a flow or TDM input at an instant (R251): V and U 0, C and B of the block generated; blocks begin at the
instants whose count is a multiple of 192 (DESIGN CHOICE, log 46). -/
def plainWord (s : State) (inst smp : Nat) : AudWord :=
  let bs := statusBytes s
  let j := inst % 192
  { smp := smp % 2 ^ 24, v := false, u := false, c := ((bs ++ [statusCrc bs]).getD (j / 8) 0).getLsbD (j % 8), b := j == 0 }

/-- π × 2⁶⁰. -/
def pi60 : Nat := 3622009729038561421

/-- cos x by its series, x and the result in units of 2⁻⁶⁰. -/
def cosSeries : Nat → Nat → Int → Int → Int → Int
  | 0, _, _, _, acc => acc
  | n + 1, i, x2, t, acc =>
    let t' := -(t * x2 / 2 ^ 60) / ((2 * i + 1) * (2 * i + 2) : Nat)
    cosSeries n (i + 1) x2 t' (acc + t')

/-- The gain cos((π/2) k/N), held to 2⁻²³. R261 gives no rounding; the manual's worked example of a show change excludes one that
goes down from above the middle, so there the value above is taken (DEDUCED, log 67), and below the middle it is free which. -/
def gain (k N : Nat) (new : Bool) : Nat :=
  if k = 0 then 2 ^ 23
  else if N ≤ k then 0
  else
    let x : Int := (pi60 * k / (2 * N) : Nat)
    let c := cosSeries 16 0 (x * x / 2 ^ 60) (2 ^ 60) (2 ^ 60)
    (c / 2 ^ 37).toNat + b2n (decide (2 ^ 36 ≤ c % 2 ^ 37) || Sys2Proof.Config.gainUp k N new)

/-- Round p / 2^w to the nearest integer, ties away from zero. -/
def roundAway (p : Int) (w : Nat) : Int :=
  if 0 ≤ p then (p + 2 ^ (w - 1)) / 2 ^ w else -((-p + 2 ^ (w - 1)) / 2 ^ w)

/-- Saturate to w bits, two's complement. -/
def satTo (w : Nat) (y : Int) : Nat := ofSigned w (max (-(2 ^ (w - 1) : Nat)) (min ((2 ^ (w - 1) : Nat) - 1) y))

/-- The sample of a fade at instant k (R261): V, U, C and B are the new source's. -/
def fadeWord (f : Fade) (old new : AudWord) : AudWord :=
  let y := roundAway (toSigned 24 old.smp * gain f.k f.n false + toSigned 24 new.smp * gain (f.n - f.k) f.n true) 23
  { new with smp := satTo 24 y }

/-- Fades in use, with the peak (R278). -/
def poolUsed (s : State) : State :=
  let n := s.aud.fades.length
  when (decide (s.g F.AUD_POOL_PEAK [] < n)) (fun t => t.p F.AUD_POOL_PEAK [] n) (s.p F.AUD_POOL_USED [] n)

/-- End fades that a test picks out. -/
def endFades (p : Fade → Bool) (s : State) : State :=
  let gone := s.aud.fades.filter p
  each gone (fun f t => t.p F.AUD_LIVE_FADING [f.ch] 0) { s with aud := { s.aud with fades := s.aud.fades.filter (fun f => !p f) } }

/-- One channel at its commit sample (R261 to R263): the running fade ends; a fade takes a free entry or is cut. The flag says
that it was cut in place of fading. -/
def startChannel (ch : Nat) (old : Option Nat) (n : Nat) (s : State) : Bool × State :=
  let s1 := endFades (fun f => f.ch == ch) s
  if n = 0 then (false, s1)
  else if s1.aud.fades.length < 4096 then
    (false, (({ s1 with aud := { s1.aud with fades := s1.aud.fades ++ [Fade.mk ch old n 0] } }).p F.AUD_LIVE_FADING [ch] 1).count 354 1)
  else (true, (s1.bump F.AUD_STAT_CUTS [] 1).count 355 1)

/-- Insert in rising order of core cycle, then channel. -/
def insertChan (x : Nat × Nat × Nat × Option Nat × Nat) : List (Nat × Nat × Nat × Option Nat × Nat) → List (Nat × Nat × Nat × Option Nat × Nat)
  | [] => [x]
  | y :: l => if x.1 < y.1 || (x.1 == y.1 && x.2.1 < y.2.1) then x :: y :: l else y :: insertChan x l

/-- The commit sample of every take that has committed (R261, R263): channels in the order of their cycles, within a cycle by
channel number; then the records that wait for the cuts (R84). -/
def commitSamples (s : State) : State :=
  let cms := s.aud.commits
  let idx := (List.range cms.length).zip cms
  let chans := idx.flatMap (fun x => ((List.range x.2.c).zip x.2.olds).map (fun y =>
    (x.2.cycle, x.2.n + y.1, x.1, y.2, x.2.fade * (audRate s / 1000))))
  let sorted := chans.foldl (fun l x => insertChan x l) []
  let step := fun (acc : List Nat × State) (x : Nat × Nat × Nat × Option Nat × Nat) =>
    let (cut, t) := startChannel x.2.1 x.2.2.2.1 x.2.2.2.2 acc.2
    (if cut then x.2.2.1 :: acc.1 else acc.1, t)
  let (cuts, s1) := sorted.foldl step ([], { s with aud := { s.aud with commits := [] } })
  let s2 := each idx (fun x t =>
    let n := (cuts.filter (· == x.1)).length
    let flags := b2n x.2.late + 8 * b2n x.2.missing
    match x.2.salvo with
    | none => finish x.2.tok 0 flags (audResult x.2.n x.2.c n) (some x.2.stamp) t
    | some k =>
      let ends := t.xpt.salvoEnds.map (fun e => if e.key == k then { e with cuts := e.cuts + n, audioDue := false } else e)
      finish x.2.tok 0 0 0 none { t with xpt := { t.xpt with salvoEnds := ends } }) s1
  closeSalvos s2

/-- The destination channels at an instant, from the source channels at the instant before (R257, R261, R272). -/
def matrixOut (s : State) : List (Nat × AudWord) :=
  let at_ := fun (src : Option Nat) => match src with
    | some m => getD {} s.aud.src m
    | none => {}
  (listed s R.AUD_LIVE 32768).foldl (fun m x =>
    let new := at_ (if eValid x.2 then some (x.2.toNat % 2 ^ 15) else none)
    let y := match s.aud.fades.find? (fun f => f.ch == x.1) with
      | some f => fadeWord f (at_ f.old) new
      | none => new
    putD {} m x.1 y) []

/-- Put a run of samples into source channels. -/
def putRun (base : Nat) (ws : List AudWord) (m : List (Nat × AudWord)) : List (Nat × AudWord) :=
  ((List.range ws.length).zip ws).foldl (fun m x => putD {} m (base + x.1) x.2) m

/-- De-embedders at an instant. -/
def deInstant (acc : List (Nat × AudWord) × State) : List (Nat × AudWord) × State :=
  acc.2.aud.de.foldl (fun (a : List (Nat × AudWord) × State) x =>
    let i := x.1 / 8
    let g := x.1 % 8
    let (w, t) := deRelease i g a.2
    match w with
    | some ws => (putRun (t.g F.AUD_DEEMB_CHAN_BASE [i] + 4 * g) ws a.1, t)
    | none => (a.1, t)) acc

/-- Receive flows at an instant (R159): the sample whose time has come; a missing one is 0, counted once for its packet. -/
def flowInstant (k : Nat) (acc : List (Nat × AudWord) × State) : List (Nat × AudWord) × State :=
  let mine := acc.2.flw.tbl.filter (fun x => fValid x.2 && !fTx x.2 && fKind x.2 == 1 && !(fPair x.2 && fSecondary x.2))
  mine.foldl (fun (a : List (Nat × AudWord) × State) y =>
    let f := y.1
    let e := y.2
    let t := a.2
    if isLost t f then a
    else
      let unit := 40500 * 10 ^ 9 / audRate t
      let n := (t.domU (fDomain e) - fDelay e * 40500) / unit
      let x := t.frx f
      let per := max 1 (perPacket t e)
      let blk := (n + per - x.phase % per) / per
      let t1 := t.setRx f { x with abuf := x.abuf.filter (fun z => decide (n < z.1)) }
      match find? x.abuf n with
      | some ws => (putRun (fChanBase e) (ws.map (plainWord t k)) a.1, t1)
      | none =>
        let t2 := if x.conceal = some blk then t1 else flowCount f F.FLW_CNT1_CONCEAL 294 (t1.setRx f { t1.frx f with conceal := some blk })
        (putRun (fChanBase e) (List.replicate (fChanCount e) (plainWord t k 0)) a.1, t2)) acc

/-- A TDM port. -/
def State.tdm (s : State) (t : Nat) : TdmPort := getD {} s.aud.tdm t
def State.setTdm (s : State) (t : Nat) (x : TdmPort) : State := { s with aud := { s.aud with tdm := putD {} s.aud.tdm t x } }

def tdmRuns (s : State) (t : Nat) : Bool := s.on F.AUD_TDM_STAT_RUNNING [t]
def tdmExt (s : State) (t : Nat) : Bool := s.on F.AUD_TDM_CFG_CLK_EXT [t]
def tdmSlots (s : State) (t : Nat) : Nat := s.g F.AUD_TDM_CFG_SLOTS [t] + 1

/-- A slip of a port (R271, R399). -/
def tdmSlip (t : Nat) (s : State) : State := occur 99 (10240 + t) ((s.bump F.AUD_TDM_STAT_SLIPS [t] 1).count (312 + t) 1)

/-- Round a 24-bit sample to 16 bits, ties away from zero, saturated (R267, R268). -/
def to16 (smp : Nat) : Nat := satTo 16 (roundAway (toSigned 24 smp) 8)

/-- A slot on DOUT, and the sample of a slot on DIN (R268). -/
def slotOut (width smp : Nat) : Nat := if width = 0 then to16 smp else if width = 1 then smp else smp * 256
def slotIn (width v : Nat) : Nat := if width = 0 then v % 2 ^ 16 * 256 else if width = 1 then v % 2 ^ 24 else v / 256 % 2 ^ 24

/-- Bits of a slot and of a frame (R278). -/
def tdmWidth (w : Nat) : Nat := 16 + 8 * w
def tdmBits (f : Nat) : Nat := 64 * 2 ^ f

/-- The cycle of slot j's first bit (R268): slots, widths and frames of port t. -/
def slotStart (s : State) (t j : Nat) : Nat :=
  (s.g F.AUD_TDM_CFG_OFFSET [t] + j * tdmWidth (s.g F.AUD_TDM_CFG_WIDTH [t])) % tdmBits (s.g F.AUD_TDM_CFG_FRAME_BITS [t])

/-- Put bits in from a cycle on. -/
def putBits (at_ : Nat) (bs line : List Bool) : List Bool := line.take at_ ++ bs ++ line.drop (at_ + bs.length)

/-- A port's frame on DOUT from its cycle 0 on (R268): slots most significant bit first, the cycles of the next frame that they wrap into
at the end, and 0 in cycles of no slot. -/
def tdmWire (s : State) (t : Nat) (slots : List Nat) : List Bool :=
  let w := tdmWidth (s.g F.AUD_TDM_CFG_WIDTH [t])
  let bits := fun (v : Nat) => (List.range w).map (fun i => bitOf v (w - 1 - i))
  ((List.range (tdmSlots s t)).zip slots).foldl (fun l x => putBits (slotStart s t x.1) (bits x.2) l)
    (List.replicate (tdmBits (s.g F.AUD_TDM_CFG_FRAME_BITS [t]) + w) false)

/-- The samples of a port's frame from the levels of DIN from its cycle 0 on (R268). -/
def tdmRead (s : State) (t : Nat) (din : List Bool) : List Nat :=
  let w := s.g F.AUD_TDM_CFG_WIDTH [t]
  (List.range (tdmSlots s t)).map (fun j =>
    slotIn w (((din.drop (slotStart s t j)).take (tdmWidth w)).foldl (fun a b => 2 * a + b2n b) 0))

/-- FSYNC, cycle by cycle, as an internal port drives it (R269). -/
def fsyncWire (s : State) (t : Nat) : List Bool :=
  let n := tdmBits (s.g F.AUD_TDM_CFG_FRAME_BITS [t])
  let active := if s.on F.AUD_TDM_CFG_FS_FORM [t] then n / 2 else 1
  (List.range n).map (fun c => decide (c < active) != s.on F.AUD_TDM_CFG_FS_POL [t])

/-- The level a port samples of those at the rising and the falling edge of BCLK in a cycle (R269). -/
def tdmSample (s : State) (t : Nat) (x : Bool × Bool) : Bool := if s.on F.AUD_TDM_CFG_EDGE [t] then x.2 else x.1

/-- A frame of a port on its pins (R268, R269), where it drives them; what it leaves for the next frame's cycles. -/
def tdmSend (t : Nat) (drive : Bool) (slots : List Nat) (s : State) : State :=
  let n := tdmBits (s.g F.AUD_TDM_CFG_FRAME_BITS [t])
  let wire := tdmWire s t slots
  let x := s.tdm t
  let dout := ((List.range n).zip (wire.take n)).map (fun y => y.2 || x.outTail.getD y.1 false)
  let s1 := s.setTdm t { x with outTail := wire.drop n }
  when drive (fun u => u.emit (.tdm t (!tdmExt s t) (s.on F.AUD_TDM_CFG_EDGE [t]) (if tdmExt s t then [] else fsyncWire s t) dout)) s1

/-- The slots of a port's frame from destination samples (R272, R278). -/
def tdmOut (s : State) (t : Nat) (m : List (Nat × AudWord)) : List Nat :=
  (List.range (tdmSlots s t)).map (fun j => slotOut (s.g F.AUD_TDM_CFG_WIDTH [t])
    (if s.on F.AUD_TDM_MAP_OUT_EN [t] then (getD {} m (s.g F.AUD_TDM_MAP_OUT_BASE [t] + j)).smp else 0))

/-- A port at a sample instant k: frames due enter the matrix; an external port's buffers hand over (R271, R272). -/
def tdmInstant (k : Nat) (acc : List (Nat × AudWord) × State) : List (Nat × AudWord) × State :=
  (List.range 16).foldl (fun (a : List (Nat × AudWord) × State) t =>
    let s := a.2
    if !tdmRuns s t then a
    else
      let x := s.tdm t
      let m := match x.inWait.find? (fun w => w.1 == k) with
        | some w => if s.on F.AUD_TDM_MAP_IN_EN [t] then putRun (s.g F.AUD_TDM_MAP_IN_BASE [t]) (w.2.2.map (plainWord s k)) a.1 else a.1
        | none => a.1
      let x1 := { x with inWait := x.inWait.filter (fun w => decide (k < w.1)) }
      if !tdmExt s t then (m, s.setTdm t x1)
      else
        -- input: hand over one frame, or repeat the last
        let run := x1.inRun || 2 ≤ x1.inQ.length
        let (fr, q, slip) := match x1.inQ with
          | f :: q => (f, q, false)
          | [] => (x1.inLast, [], true)
        let x2 := if run then { x1 with inRun := true, inQ := q, inLast := fr, inWait := x1.inWait ++ [(k + 2, fr)] } else x1
        let s1 := when (run && slip) (tdmSlip t) s
        -- output: take one frame of the instant two before
        let new := tdmOut s1 t s1.aud.dst2
        if 4 ≤ x2.outQ.length then (m, tdmSlip t (s1.setTdm t x2))
        else (m, s1.setTdm t { x2 with outQ := x2.outQ ++ [new], outRun := x2.outRun || 2 ≤ x2.outQ.length + 1 })) acc

/-- Samples that wait for a record (R264): those of the instant before go to the re-embedders now. -/
def reInstant (old : List (Nat × AudWord)) (s : State) : State :=
  let add := fun (m : List (Nat × List ReSample)) (x : Nat × Word) =>
    if F.AUD_REEMB_EN.of x.2 = 1 && !follower (dstSub s) x.1 then
      let base := F.AUD_REEMB_CHAN_BASE.of x.2
      let new := (List.range (F.AUD_REEMB_GROUPS.of x.2)).map (fun g =>
        ReSample.mk g ((List.range 4).map (fun c => getD {} old (base + 4 * g + c))) (s.aud.inst - 1) 0)
      put m x.1 (getD [] m x.1 ++ new)
    else m
  { s with aud := { s.aud with re := (listed s R.AUD_REEMB 9216).foldl add s.aud.re } }

/-- An audio packet (R267). Its stamp follows counter DOMAIN and the steps of H since reset (R277; DEDUCED, log 115). -/
def audioPacket (s : State) (e : BitVec 512) (x : FlowTx) : List Byte :=
  let unit : Int := (40500 * 10 ^ 9 / audRate s : Nat)
  let stamp := ofSigned 32 ((2 * (x.first - (fDelay e * 40500 : Nat)) + unit) / (2 * unit))
  rtpHeader false (fPt e) x.seq stamp (fSsrc e) ++
    x.samples.flatMap (fun fr => fr.flatMap (fun v => if fDepth e = 0 then beBytes 3 v else beBytes 2 (to16 v)))

/-- Transmit audio entries at instant k (R267): packets begin where k is a multiple of their samples. -/
def audioTx (k : Nat) (s : State) : State :=
  let mine := (txFlows s).filter (fun x => fKind x.2.1 == 1 && !(fPair x.2.1 && fSecondary x.2.1))
  let s1 := each mine (fun x t =>
    let f := x.1
    let e := x.2.1
    let y := x.2.2.1
    let n := perPacket t e
    if y.samples.isEmpty && (k % n != 0 || x.2.2.2) then t
    else
      let smp := (List.range (fChanCount e)).map (fun c => (getD {} t.aud.dst (fChanBase e + c)).smp)
      let y1 := { y with samples := y.samples ++ [smp], first := if y.samples.isEmpty then t.domU (fDomain e) + t.aud.step else y.first }
      if y1.samples.length < n then upTx f x.2.2.2 (fun _ => y1) t
      else
        let pk := FlowPkt.mk (audioPacket t e y1) t.ticks 0
        let give := fun (z : Nat × BitVec 512 × FlowTx × Bool) (u : State) =>
          if fPair z.2.1 && fSecondary z.2.1 && fMate z.2.1 == f then upTx z.1 z.2.2.2 (fun q => { q with pkts := q.pkts ++ [pk] }) u else u
        let t1 := upTx f x.2.2.2 (fun _ => { y1 with samples := [], seq := (y1.seq + 1) % 2 ^ 32, pkts := y1.pkts ++ [pk] }) t
        each (txFlows t1) give t1) s
  { s1 with flw := { s1.flw with dying := s1.flw.dying.filter (fun x => !(fKind x.2.1 == 1 && x.2.2.samples.isEmpty && x.2.2.pkts.isEmpty)) } }

/-- The sample instant that house time has reached (R183). -/
def instNow (s : State) : Nat := s.ref.h * audRate s / (10 ^ 9 * hUnit)

/-- A sample instant (R183, R261 to R267, R272): every producer and consumer moves one sample. -/
def audInstant (s : State) : State :=
  let k := s.aud.inst + 1
  let s1 := endFades (fun f => decide (f.n ≤ f.k)) { s with aud := { s.aud with inst := k } }
  let s2 := poolUsed (commitSamples s1)
  let old := s2.aud.dst
  let out := matrixOut s2
  let s3 := reInstant old { s2 with aud := { s2.aud with dst := out, dst1 := old, dst2 := s2.aud.dst1
                                                         fades := s2.aud.fades.map (fun f => { f with k := f.k + 1 }) } }
  let (m, s4) := tdmInstant k (flowInstant k (deInstant ([], s3)))
  audioTx k { s4 with aud := { s4.aud with src := m } }

/-- Sample instants continue on a stepped H (R277): those passed over are not produced, and frames on their way into the matrix keep
their places among the instants produced. -/
def audStep (s : State) : State :=
  let inst := ceilDiv (s.ref.h * audRate s) (10 ^ 9 * hUnit) - 1
  let move := fun (k : Nat) => k + inst - s.aud.inst
  { s with aud := { s.aud with
      inst := inst
      tdm := s.aud.tdm.map (fun x => (x.1, { x.2 with
        inWait := x.2.inWait.map (fun w => (move w.1, w.2))
        at_ := x.2.at_.map move })) } }

/-- ANC words without the packets a test picks out (R265). -/
def ancKeep (drop : List Nat → Bool) : Nat → List BusWord → List BusWord
  | 0, ws => ws
  | _ + 1, [] => []
  | n + 1, w :: ws =>
    let x := samplesOf ((w :: ws).take 22)
    if x.take 3 == [0, 0x3FF, 0x3FF] then
      let len := 7 + x.getD 5 0 % 256
      let k := ceilDiv len 12
      if drop (x.take len) then ancKeep drop n ((w :: ws).drop k) else (w :: ws).take k ++ ancKeep drop n ((w :: ws).drop k)
    else w :: ancKeep drop n ws

/-- Words that a class gives each line of a cadence (R23), spread over the picture lines as R24 does: 458 for 1080p50 in 3G. -/
def classRoom (s : State) (c cls : Nat) : Nat :=
  let (num, den) := rateOf (s.g F.XPT_CAD_CFG_RATE [c])
  12375000 * subsOf cls * den / (num * max 1 (activeLines (s.g F.XPT_CAD_CFG_FORMAT [c])))

/-- Words of a class that pass before the next record begins, one line period on. -/
def lineRoom (s : State) (c cls : Nat) : Nat :=
  let (num, den) := rateOf (s.g F.XPT_CAD_CFG_RATE [c])
  12375000 * subsOf cls * den / (num * s.raster c)

/-- Words a record of a class may hold on a cadence (R207, R266): neither past the capacity of its class nor past the start of the next
record. -/
def recordRoom (s : State) (c cls : Nat) : Nat := min (classRoom s c cls) (lineRoom s c cls)

/-- The DID of group g's data packets, and of its control packets (R254). -/
def dataDid (g : Nat) : Nat := if g < 4 then 0xE7 - g else 0xA7 - (g - 4)
def controlDid (g : Nat) : Nat := if g < 4 then 0xE3 - g else 0xA3 - (g - 4)

/-- The clock phase of instant k in a record of raster line L on cadence c (R264): the time from the start of the record's house line, in
periods of the class's clock (Config.phaseClock), 13 bits (PRESUMED, log 44). -/
def clockPhase (s : State) (c cls L k : Nat) : Nat :=
  let (num, den) := rateOf (s.g F.XPT_CAD_CFG_RATE [c])
  let n := num * s.raster c
  let fs := audRate s
  let x : Int := (k * 10 ^ 9 * n : Nat) - (s.g F.REF_CAD_LAG_LAG [c] * fs * n : Nat) - nearLine s c L * (den * fs * 10 ^ 9 : Nat)
  ((Sys2Proof.Config.phaseClock cls : Int) * x / (fs * 10 ^ 9 * n : Nat) % 2 ^ 13).toNat

/-- A re-embedded packet (R264) for a record whose line and class `ph` knows the clock phases of. Its data block number, the mpf bit
beside the phase, and of a control packet the frame number, active channels and delays, are free values. -/
def rePacket (ph : Nat → Nat) (x : ReSample) (s : State) : List BusWord × State :=
  let (v, s1) := s.freeNat 80
  let b := fun (i : Nat) => v / 2 ^ (8 * i) % 256
  if x.x.isEmpty then
    let udw := [b 1, matrixCode s * 2, b 2, b 3, b 4, b 5, b 6, b 7, b 8, 0, 0]
    (ancWords (ancPacket (controlDid x.g) (b 0) (udw.map parity10)), s1)
  else
    let p := ph x.inst
    let udw := ([p % 256, p / 256 % 16 + b 1 % 2 * 16 + p / 2 ^ 12 * 32] ++ x.x.flatMap chanWords).map parity10
    let head := [0, 0x3FF, 0x3FF, parity10 (dataDid x.g), parity10 (b 0), parity10 24] ++ udw
    let rem := (List.range 8).map (fun j => bchRem (column j head ++ List.replicate 6 false))
    let ecc := (List.range 6).map (fun i => parity10 ((List.range 8).foldl (fun a j => a + b2n (bitOf (rem.getD j 0) (5 - i)) * 2 ^ j) 0))
    (ancWords (ancPacket (dataDid x.g) (b 0) (udw ++ ecc)), s1)

/-- Put packets in as far as the record has room (R266): what is placed, what moves, and the state. -/
def rePlace (ph : Nat → Nat) : Nat → List ReSample → State → List BusWord × List ReSample × State
  | _, [], s => ([], [], s)
  | room, x :: l, s =>
    let (ws, s1) := rePacket ph x s
    if ws.length ≤ room then
      let (a, b, t) := rePlace ph (room - ws.length) l s1
      (ws ++ a, b, t)
    else
      let (a, b, t) := rePlace ph room l s
      (a, { x with moved := x.moved + 1 } :: b, t)

/-- Re-embedding (R264 to R266) of the destination signal (d, m): packets of its groups are taken out and put in anew; a sample
that has moved past more than two records is dropped. A control packet of each group goes into line P + 1 of every field (field
2 of 1080i: 562 lines on; PRESUMED, log 44). -/
def reembed (d m : Nat) (r : LineRec) (s : State) : LineRec × State :=
  let i := 8 * d + m
  if 9216 ≤ i || !reOn s i then (r, s)
  else
    let c := dstCad s d m
    let n := s.g F.AUD_REEMB_GROUPS [i]
    let all := s.on F.AUD_REEMB_MODE [i]
    let out := fun (p : List Nat) => match dataGroup (ancDid p), controlGroup (ancDid p) with
      | some g, _ => all || decide (g < n)
      | none, some g => all || decide (g < n)
      | none, none => false
    let pic := r.words.filter (fun w => !isAnc w)
    let anc := (ancKeep out (ancOf r.words).length (ancOf r.words)).filter (· != nullWord)
    let p := s.g F.XPT_CAD_CFG_SWITCH_LINE [c]
    let ctl := r.line == p + 1 || (s.g F.XPT_CAD_CFG_FORMAT [c] == 0 && r.line == p + 563)
    let want := (if ctl then (List.range n).map (fun g => ReSample.mk g [] 0 0) else []) ++ (getD [] s.aud.re i).filter (fun x => decide (x.g < n))
    let (ws, left, s1) := rePlace (clockPhase s c r.cls r.line) (recordRoom s c r.cls - pic.length - anc.length) want s
    let gone := left.filter (fun x => decide (2 < x.moved))
    let kept := left.filter (fun x => decide (x.moved ≤ 2))
    let s2 := { s1 with aud := { s1.aud with re := putD [] s1.aud.re i kept } }
    let s3 := when (!kept.isEmpty) (fun t => t.count 351 kept.length) s2
    let s4 := each (gone.filter (fun x => !x.x.isEmpty)) (fun _ t => occur 100 i ((t.bump F.AUD_REEMB_STAT_SKIPPED [i] 4).count 350 4)) s3
    let words := pic ++ anc ++ ws
    ({ r with words := if words.isEmpty then [nullWord] else words }, s4)

end Sys2Proof.Machine
end

