-- ==== Sys2Proof/Machine/BusOps.lean ====
section
/-! DEFINITION. Read latches and held writes of register pairs (R5, R6), and the answer to a read. -/
namespace Sys2Proof.Machine

/-- Latch a word for a requester at the address it is read from (R5). -/
def latch (rq : Req) (r : Reg) (i : List Nat) (w : Word) (s : State) : State :=
  let a := r.addr i
  { s with latches := s.latches.filter (fun e => !(e.1 == (rq, a))) ++ [((rq, a), w)] }

/-- The word latched for a requester. -/
def latched? (s : State) (rq : Req) (a : Nat) : Option Word := (s.latches.find? (fun e => e.1 == (rq, a))).map (·.2)

/-- Hold a write to a low half (R6). -/
def hold (rq : Req) (a : Nat) (w : Word) (s : State) : State :=
  { s with held := s.held.filter (fun e => !(e.1 == (rq, a))) ++ [((rq, a), w)] }

/-- The low half a requester has written and not yet applied. -/
def heldLow? (s : State) (rq : Req) (a : Nat) : Option Word := (s.held.find? (fun e => e.1 == (rq, a))).map (·.2)

/-- A held low half is used up. -/
def unhold (rq : Req) (a : Nat) (s : State) : State := { s with held := s.held.filter (fun e => !(e.1 == (rq, a))) }

/-- The answer to a read. -/
def answer (rq : Req) (a : Nat) (w : Word) (s : State) : State := s.emit (.regRead rq a w)

/-- A read that does more than answer: while its block is held in reset it does nothing and answers the reset value, which is 0
for every register read so (R303). -/
def readHeld (b : Blk) (rq : Req) (a : Nat) (f : State → State) (s : State) : State :=
  let t := wakeBus rq s
  if blkHeld t b then answer rq a 0 t else f t

end Sys2Proof.Machine
end

