-- ==== Sys2Proof/Machine/Cellar.lean ====
section
/-! DEFINITION. The commands of the cellar controller (09_cellar_memory.md). -/
namespace Sys2Proof.Machine

/-- Whether a bulk data port, replication or fence access to the cellar is in flight (R280, R286): those that wait for the stack, and the
fence reads issued, whether a member still awaits them or not. -/
def celInFlight (s : State) : Bool :=
  !s.cel.wait.isEmpty || (s.eng.engReads ++ s.eng.oldReads).any (fun x => s.eb x.1 (20 + x.2) 31 30 == 2)

/-- The cellar is idle for a change (R280, R286). -/
def celIdle (s : State) : Bool := s.g F.CEL_LOAD_LOAD [] == 0 && !celInFlight s

/-- Write of CEL_CFG (R280, R297): a refused GRAIN leaves GRAIN as it is; the other fields are written. Rows that the PAGE_IDLE before has
closed stay closed (R282); a scrubber switched on begins a period and a pass (DESIGN CHOICE, log 117). -/
def writeCelCfg (v : Word) (s : State) : State :=
  let g := F.CEL_CFG_GRAIN.of v
  let old := s.g F.CEL_CFG_GRAIN []
  let idle := 5 * s.g F.CEL_CFG_PAGE_IDLE []
  let starts := !s.on F.CEL_CFG_SCRUB_EN [] && F.CEL_CFG_SCRUB_EN.of v == 1
  let s0 := { s with cel := { s.cel with
      rows := s.cel.rows.filter (fun x => decide (s.ticks - x.2.2 < idle))
      scrubAt := if starts then s.ticks else s.cel.scrubAt
      scrubPos := if starts then 0 else s.cel.scrubPos } }
  let s1 := (s0.write R.CEL_CFG [] v).p F.CEL_CFG_GRAIN [] old
  if g = old then s1
  else if 8 < g || !celIdle s then s1.p F.CEL_STAT_CFG_ERR [] 1
  else s1.p F.CEL_CFG_GRAIN [] g

/-- CEL_CFG_WRITE (R280). -/
def execCelCfgWrite (rq : Req) (v : Word) (s : State) : Out := .next (gate rq .cel (writeCelCfg v) s)

/-- Write of CEL_BUDGET (R293): PCT outside 1 to 75, or a budget below the load, is refused. -/
def writeBudget (v : Word) (s : State) : State :=
  let p := F.CEL_BUDGET_PCT.of v
  let s1 := s.p F.CEL_BUDGET_PCT [] p
  if p = 0 || 75 < p || !withinBudget s1 (s.g F.CEL_LOAD_LOAD []) then s.p F.CEL_STAT_CFG_ERR [] 1 else updateOver s1

/-- BUDGET_WRITE (R293). -/
def execBudgetWrite (rq : Req) (v : Word) (s : State) : Out := .next (gate rq .cel (writeBudget v) s)

/-- Start training (R286). -/
def startTraining (s : State) : State :=
  let s1 := (s.p F.CEL_STAT_STATE [] 3).count 399 1
  { s1 with cel := { s1.cel with training := true, exiting := false, rows := [], lines := [] } }

/-- Write of CEL_TRAIN (R286). -/
def writeCelTrain (v : Word) (s : State) : State :=
  if F.CEL_TRAIN_START.of v = 1 then
    if celIdle s then startTraining s else s.p F.CEL_STAT_TRAIN_REFUSED [] 1
  else s

/-- CEL_TRAIN_START (R286): a write of 1. -/
def execCelTrainStart (rq : Req) (s : State) : Out := .next (gate rq .cel (writeCelTrain 1#32) s)

/-- SR_ENTRY (R284): no request for SR_IDLE µs, and no load. -/
def execSrEntry (s : State) : Out :=
  .next (let idle := s.g F.CEL_SR_CFG_SR_IDLE []
    if s.on F.CEL_CFG_SR_EN [] && idle != 0 && s.g F.CEL_LOAD_LOAD [] == 0 && s.g F.CEL_STAT_STATE [] == 1
        && decide (s.cel.lastReq + usTicks idle ≤ s.ticks) then
      let s1 := ((s.p F.CEL_STAT_STATE [] 2).bump F.CEL_SR_STAT_ENTRIES [] 1).count 392 1
      { s1 with cel := { s1.cel with rows := [] } }
    else s)

/-- SR_WAKE (R285): a request or an admission wakes the stack. -/
def execSrWake (s : State) : Out := .next (srWake s)

/-- The refresh interval of a bank in ticks (R283). -/
def refreshTicks (s : State) : Nat := if s.on F.CEL_STAT_TEMP_HIGH [] then 975 else 1950

/-- REFRESH_DUE (R283): the interval of bank b (32 pc + bank) has expired; behind live requests its refresh is postponed,
by up to 4 intervals, else every refresh owed is issued, which closes the row. -/
def execRefreshDue (b : Fin 1024) (live : Bool) (s : State) : Out :=
  .next (let last := getD 0 s.cel.refAt b
    if s.g F.CEL_STAT_STATE [] == 1 && decide (last + refreshTicks s ≤ s.ticks) then
      let owed := getD 0 s.cel.debt b
      let s1 := { s with cel := { s.cel with refAt := putD 0 s.cel.refAt b s.ticks } }
      if live && decide (owed < 4) then
        ({ s1 with cel := { s1.cel with debt := putD 0 s1.cel.debt b (owed + 1) } }).count 402 1
      else
        ({ s1 with cel := { s1.cel with debt := drop1 s1.cel.debt b, rows := drop1 s1.cel.rows b } }).count 401 (owed + 1)
    else s)

/-- STACK_TEMP_READ (R283): the stack's temperature in 0.01 °C. -/
def execStackTempRead (t : Int) (s : State) : Out :=
  .next (level 173 0 (decide (8500 < t)) (s.p F.CEL_STAT_TEMP_HIGH [] (b2n (decide (8500 < t)))))

/-- Bytes of a picture line of a generator's, layer's or merge's reader, and where it lies. -/
def lineAt (s : State) (who : CelReader) : Option (Nat × Nat) :=
  match who with
  | .slate g l =>
    match find? s.xpt.genOn g with
    | some x => if F.XPT_GEN_CFG_ENABLE.of x.cfg = 1 && F.XPT_GEN_CFG_PATTERN.of x.cfg = 5 then
        let n := 16 * pictureWords (s.g F.XPT_CAD_CFG_FORMAT [F.XPT_GEN_CFG_CADENCE.of x.cfg])
        some (x.slate + l * (ceilDiv n 256 * 256), n) else none
    | none => none
  | .layer e i k l => layerLine s e i k l
  | .merge f l => mergeLine s f l
  | .scrub a => some (a / 32 * 32, 32)

/-- Wrong bits that appear in stored words: address of the word, and how many (R289). -/
def upsetWords (us : List (Nat × Nat)) (s : State) : State :=
  each us (fun u t =>
    let w := celLoc t.grain u.1 / 32
    { t with cel := { t.cel with flips := putD 0 t.cel.flips w (min 2 (getD 0 t.cel.flips w + u.2)) } }) s

/-- CELLAR_READ_COMPLETE (R289 to R291): a line reader's or the scrubber's read returns. `upsets` are errors that the
stored words have suffered. A line with an uncorrectable word has not arrived; nothing arrives of a stack that is not ready. The scrubber
reads the words in rising order (DESIGN CHOICE, log 117); its write-back is a write, which takes INJ (R292). -/
def execCellarReadComplete (who : CelReader) (upsets : List (Nat × Nat)) (s : State) : Out :=
  .next (
  let s0 := upsetWords upsets s
  if s0.cel.training || s0.g F.CEL_STAT_STATE [] != 1 then s0
  else match who, lineAt s0 who with
    | .scrub _, some (a, n) =>
      if s0.on F.CEL_CFG_SCRUB_EN [] && a == s0.cel.scrubPos && inCellar a n then
        let (_, _, s1) := celRead 3 a n s0
        let s2 := { s1 with cel := { s1.cel with scrubPos := a + 32 } }
        if celFlips s0 a = 1 then
          let inj := s2.g F.CEL_ECC_CTRL_INJ []
          (({ s2 with cel := { s2.cel with flips := putD 0 s2.cel.flips (celLoc s2.grain a / 32) inj } }).p F.CEL_ECC_CTRL_INJ [] 0).count 396 1
        else s2
      else s0
    | w, some (a, n) =>
      if inCellar a n then
        let (d, bad, s1) := celRead 0 a n s0
        let rest := s1.cel.lines.filter (fun x => x.1 != w)
        { s1 with cel := { s1.cel with lines := if bad.isEmpty then rest ++ [(w, d)] else rest } }
      else s0
    | _, none => s0)

/-- The scrubber's period in ticks (R291). -/
def scrubTicks (s : State) : Nat := s.g F.CEL_SCRUB_PERIOD [] * 3600 * 500000000

/-- SCRUB_PERIOD_END (R291): once PERIOD hours have passed, and with what the scrubber's place says of the pass: one that has not read the
last word by then is late. The next period and its pass begin. -/
def execScrubPeriodEnd (complete : Bool) (s : State) : Out :=
  .next (if !s.on F.CEL_CFG_SCRUB_EN [] || decide (s.ticks < s.cel.scrubAt + scrubTicks s)
      || complete != decide (celBytes ≤ s.cel.scrubPos) then s
  else
    let s1 := { s with cel := { s.cel with scrubAt := s.cel.scrubAt + scrubTicks s, scrubPos := 0 } }
    if complete then (s1.bump F.CEL_SCRUB_PASSES [] 1).count 397 1
    else occur 174 0 ((s1.p F.CEL_SCRUB_LATE [] 1).count 398 1))

/-- Write of CEL_SCRUB (R297): PERIOD 0 is refused, leaving PERIOD. -/
def writeScrub (v : Word) (s : State) : State :=
  let old := s.g F.CEL_SCRUB_PERIOD []
  let s1 := s.write R.CEL_SCRUB [] v
  if F.CEL_SCRUB_PERIOD.of v = 0 then s1.p F.CEL_SCRUB_PERIOD [] old else s1

/-- Write of CEL_ECC_CTRL (R297, R292): INJ 3 is treated as 0. -/
def writeEccCtrl (v : Word) (s : State) : State :=
  let s1 := s.p F.CEL_ECC_CTRL_INJ [] (if F.CEL_ECC_CTRL_INJ.of v = 3 then 0 else F.CEL_ECC_CTRL_INJ.of v)
  if F.CEL_ECC_CTRL_CLR.of v = 1 then (s1.p F.CEL_ECC_CE_COUNT [] 0).p F.CEL_ECC_UE_COUNT [] 0 else s1

/-- CEL_ECC_CLR (R297): a write of 1 to CLR, INJ as it stands. -/
def execCelEccClr (rq : Req) (s : State) : Out :=
  .next (gate rq .cel (fun t => writeEccCtrl (fldMask 2 2 ||| t.rd R.CEL_ECC_CTRL []) t) s)

end Sys2Proof.Machine
end

