-- ==== Sys2Proof/Machine/Takes.lean ====
section
/-! DEFINITION. Takes, salvos and route-map images (03_takes_and_cadences.md, R335, R339, R340), the SWITCH_SYNC edge,
cadence bindings, and the clears of the cadence and alignment registers. -/
namespace Sys2Proof.Machine

/-- A tracker number no descriptor has: members of an image's salvo have no descriptor of their own. -/
def noTok : Nat := 2 ^ 64

/-- Forward an accepted descriptor to the twin (R380, R92): only an ACTIVE device forwards; while the partner link is down
it is discarded and takes no RSEQ (DEDUCED, log 23). -/
def forward (v : Nat) (d : Desc) (st : Option Stamp) (late : Bool) (content : List Word) (s : State) : State :=
  if s.isActive && s.on F.RED_PARTNER_STAT_UP [] then
    let n := (s.g F.RED_REPL_TX_HI_TX [] * 2 ^ 32 + s.g F.RED_REPL_TX_LO_TX [] + 1) % 2 ^ 64
    let s1 := (s.p F.RED_REPL_TX_LO_TX [] (n % 2 ^ 32)).p F.RED_REPL_TX_HI_TX [] (n / 2 ^ 32)
    (s1.tell (.repl ⟨s.g F.RED_EPOCH_EPOCH [], n, d.part, v, d.bits, st, late, content⟩)).count 446 1
  else s

/-- Body fields of TAKE (R339). -/
def takeDst (v : Nat) (d : Desc) : Nat × Nat := (body v d 74 64, body v d 77 75)
def takeSrc (v : Nat) (d : Desc) : Option (Nat × Nat) :=
  if body v d 92 92 = 1 then none else some (body v d 88 78, body v d 91 89)

/-- BAD_FIELD of TAKE (R334, R337, R339). -/
def takeBad (v : Nat) (d : Desc) : Bool :=
  cbBad [0, 1, 2] true v d || body v d 383 93 != 0 || decide (1280 ≤ (takeDst v d).1)
    || (match takeSrc v d with
      | some x => decide (1280 ≤ x.1)
      | none => false)

/-- The partition statuses and the own checks of TAKE, in the order of R334. -/
def takeOwn (v : Nat) (d : Desc) (s : State) : Option (Nat × Nat) :=
  let (dst, m) := takeDst v d
  let src := takeSrc v d
  if !routePartition s d.prot d.part dst m src then some (0x20, 0)
  else match routeCheck s dst m src with
    | some c => some (c, 0)
    | none => match takeCheck s v d dst m src with
      | .error c => some (c, 0)
      | .ok _ => none

/-- Carry out an accepted TAKE (R75, R380). -/
def takeGo (id v : Nat) (d : Desc) (s : State) : State :=
  let (dst, m) := takeDst v d
  let src := takeSrc v d
  match takeCheck s v d dst m src with
  | .error _ => s
  | .ok (some (st, late)) => forward v d (some st) late [] (stageTake id dst m src st late none s)
  | .ok none =>
    forward v d none false []
      (stageTake id dst m src ⟨dstCad s dst m, 0, 0, false⟩ false (some ⟨d.part, cbSalvo v d⟩) s)

/-- TAKE (R83). -/
def execTake (p r : Fin 8) (s : State) : Out := .next (present p r 0x10 takeBad false true takeOwn takeGo s)

/-- SALVO_OPEN's own checks (R339, R85). -/
def salvoOpenOwn (v : Nat) (d : Desc) (s : State) : Option (Nat × Nat) :=
  if (salvoOf s ⟨d.part, body v d 2 0⟩).isSome then some (0x2E, 0)
  else if !cadOn s (body v d 5 3) then some (0x28, 0) else none

/-- Open a salvo (R85). -/
def openSalvo (key : SalvoKey) (c : Nat) (s : State) : State :=
  { s with xpt := { s.xpt with salvos := s.xpt.salvos ++ [⟨key, c, none, false⟩] } }

def salvoOpenGo (id v : Nat) (d : Desc) (s : State) : State :=
  finish id 0 0 0 none (forward v d none false [] (openSalvo ⟨d.part, body v d 2 0⟩ (body v d 5 3) s))

/-- SALVO_OPEN (R85). -/
def execSalvoOpen (p r : Fin 8) (s : State) : Out :=
  .next (present p r 0x11 (fun v d => body v d 383 6 != 0) false true salvoOpenOwn salvoOpenGo s)

def scAbort (v : Nat) (d : Desc) : Bool := body v d 64 64 == 1
def scImage (v : Nat) (d : Desc) : Bool := body v d 65 65 == 1

/-- BAD_FIELD of SALVO_COMMIT (R337, R340). -/
def salvoCommitBad (v : Nat) (d : Desc) : Bool :=
  (if scImage v d && scAbort v d then decide (2 ≤ cbMode v d) else cbBad [0, 1] true v d) || body v d 383 69 != 0

/-- Entries of the loft bank that differ from the live bank, FORCED aside (R77, R79). -/
def imageChanges (s : State) : List Nat :=
  (((loftEntries s ++ liveEntries s).map (·.1)).eraseDups).filter
    (fun i => s.rd R.XPT_LOFT [i] != (s.rd R.XPT_LIVE [i]) &&& 0xBFFFFFFF#32)

/-- The changed destination signals of an image, key 8d + m; an entry of no group stands for itself and fails. -/
def imageGroups (s : State) : List Nat :=
  ((imageChanges s).map (fun i =>
    let (d, m) := ownerOf s i
    if (dstClass s d m).isSome then 8 * d + m else i)).eraseDups

/-- The source a staged base entry names. -/
def loftSource (s : State) (g : Nat) : Option (Nat × Nat) :=
  let w := s.rd R.XPT_LOFT [g]
  if eValid w then some (eSource w) else none

/-- A changed group of an image fails R40 or R340. -/
def imageGroupFails (s : State) (prot : List (Nat × Word)) (p cad g : Nat) : Bool :=
  let d := g / 8
  let m := g % 8
  (dstClass s d m).isNone || dstCad s d m != cad
    || (match loftSource s g with
      | some (sl, _) => decide (1280 ≤ sl)
      | none => false)
    || (routeCheck s d m (loftSource s g)).isSome || !routePartition s prot p d m (loftSource s g)

/-- The lowest failing entry of an image (R79). -/
def imageFailure (s : State) (prot : List (Nat × Word)) (p cad : Nat) : Option Nat :=
  match (imageGroups s).filter (imageGroupFails s prot p cad) with
  | [] => none
  | g :: l => some (l.foldl min g)

/-- SALVO_COMMIT's own checks (R83, R87, R340). -/
def salvoCommitOwn (v : Nat) (d : Desc) (s : State) : Option (Nat × Nat) :=
  if scImage v d then
    if !s.on F.XPT_BANK_CTRL_IMAGE_OPEN [] then some (0x14, 0)
    else if scAbort v d then none
    else
      let c := body v d 68 66
      if !cadOn s c then some (0x28, 0)
      else match stampOf s v d c false with
        | .error e => some (e, 0)
        | .ok _ => match imageFailure s d.prot d.part c with
          | some i => some (0x2F, i)
          | none => none
  else match salvoOf s ⟨d.part, cbSalvo v d⟩ with
    | none => some (0x2D, 0)
    | some x =>
      if x.commit.isSome then some (0x2D, 0)
      else if scAbort v d then none
      else if !cadOn s x.cad then some (0x28, 0)
      else match stampOf s v d x.cad false with
        | .error e => some (e, 0)
        | .ok _ => none

/-- Give a salvo its commit point (R86). -/
def commitSalvo (key : SalvoKey) (id : Nat) (st : Stamp) (late : Bool) (s : State) : State :=
  let ts := s.xpt.takes.map (fun t => if t.salvo == some key then { t with stamp := st, late := late } else t)
  let ss := s.xpt.salvos.map (fun x => if x.key == key then { x with commit := some (id, st), late := late } else x)
  let au := s.aud.pend.map (fun t => if t.salvo == some key then { t with stamp := st, late := late } else t)
  { s with xpt := { s.xpt with takes := ts, salvos := ss }, aud := { s.aud with pend := au } }

/-- Abort a salvo (R87): its members are discarded and their loft entries restored. -/
def abortSalvo (key : SalvoKey) (s : State) : State :=
  let s1 := endAuds (fun t => t.salvo == some key) 3 (endTakes (fun t => t.salvo == some key) 3 s)
  { s1 with xpt := { s1.xpt with salvos := s1.xpt.salvos.filter (fun x => x.key != key) } }

/-- The changed groups of a closed image become the members of a salvo without an ID (R79). -/
def closeImage (p c id : Nat) (st : Stamp) (late : Bool) (groups : List Nat) (s : State) : State :=
  let key : SalvoKey := ⟨p, 8⟩
  let ms := groups.map (fun g => PendTake.mk noTok (g / 8) (g % 8) (loftSource s g) st late (some key))
  let s1 := s.p F.XPT_BANK_CTRL_IMAGE_OPEN [] 0
  { s1 with xpt := { s1.xpt with takes := s1.xpt.takes ++ ms, salvos := s1.xpt.salvos ++ [⟨key, c, some (id, st), late⟩] } }

/-- The content that carries an image to the twin (R79): index and value of every base entry changed. -/
def imageContent (s : State) (groups : List Nat) : List Word :=
  groups.flatMap (fun g => [BitVec.ofNat 32 g, s.rd R.XPT_LOFT [g]])

/-- An accepted SALVO_COMMIT (R79, R86, R87): an abort, the close of an image, or the commit of an open salvo. -/
def salvoCommitGo (id v : Nat) (d : Desc) (s : State) : State :=
  if scImage v d then
    if scAbort v d then finish id 3 0 (0x7FF * 2 ^ 28) none (forward v d none false [] ((discardImage s).count 97 1))
    else
      let c := body v d 68 66
      match stampOf s v d c false with
      | .error _ => s
      | .ok (st, late) =>
        let gs := imageGroups s
        forward v d (some st) late (imageContent s gs) (closeImage d.part c id st late gs s)
  else
    let key : SalvoKey := ⟨d.part, cbSalvo v d⟩
    if scAbort v d then finish id 3 0 (0x7FF * 2 ^ 28) none (forward v d none false [] ((abortSalvo key s).count 97 1))
    else match salvoOf s key with
      | none => s
      | some x => match stampOf s v d x.cad false with
        | .error _ => s
        | .ok (st, late) => forward v d (some st) late [] (commitSalvo key id st late s)

/-- BAD_FIELD of a SALVO_COMMIT (R340): also IMAGE without an open image (R334). -/
def salvoCommitBadIn (s : State) (v : Nat) (d : Desc) : Bool :=
  salvoCommitBad v d || (scImage v d && !s.on F.XPT_BANK_CTRL_IMAGE_OPEN [])

/-- SALVO_COMMIT (R87). -/
def execSalvoCommit (p r : Fin 8) (s : State) : Out :=
  .next (present p r 0x12 (salvoCommitBadIn s) false true salvoCommitOwn salvoCommitGo s)

/-- SWITCH_SYNC_EDGE (R73). -/
def execSwitchSyncEdge (c : Fin 8) (s : State) : Out := .next (ssyncEdge c s)

/-- Write of IMAGE_OPEN (R79). -/
def writeImageOpen (v : Word) (s : State) : State :=
  if F.XPT_BANK_CTRL_IMAGE_OPEN.of v = 1 then
    if s.takesHost && s.xpt.takes.isEmpty && s.xpt.salvos.isEmpty then s.p F.XPT_BANK_CTRL_IMAGE_OPEN [] 1
    else s.p F.XPT_BANK_STAT_OPEN_REFUSED [] 1
  else discardImage s

/-- IMAGE_OPEN_WRITE (R79): a write of 1. -/
def execImageOpenWrite (r : Req) (s : State) : Out := .next (gate r .xpt (writeImageOpen 1#32) s)

/-- IMAGE_DISCARD (R79): a write of 0. -/
def execImageDiscard (r : Req) (s : State) : Out := .next (gate r .xpt (writeImageOpen 0#32) s)

/-- Every group of a layout has one cadence in a binding word (R67). -/
def bindingWhole (lay v : Word) : Bool :=
  (List.range 8).all (fun k =>
    let c := layoutSub' lay k
    subsOf c == 0 || cadSub v k == cadSub v (baseOf c k))
where
  layoutSub' (w : Word) (k : Nat) : Nat := bitsOf w.toNat (4 * k + 3) (4 * k)
  cadSub (w : Word) (k : Nat) : Nat := bitsOf w.toNat (3 * k + 2) (3 * k)

/-- Write of XPT_SRC_CAD (R67). -/
def writeSrcCad (i : Nat) (v : Word) (s : State) : State :=
  if 1152 ≤ i then s
  else if bindingWhole (s.rd R.XPT_SRC_LAYOUT [i]) v then s.write R.XPT_SRC_CAD [i] v
  else s.p F.XPT_BANK_STAT_CAD_ERR [] 1

/-- Write of XPT_DST_CAD (R67): refused while a signal whose binding it changes has a pending take. -/
def writeDstCad (i : Nat) (v : Word) (s : State) : State :=
  if 1152 ≤ i then s
  else
    let split := !bindingWhole (s.rd R.XPT_DST_LAYOUT [i]) v
    let busy := s.xpt.takes.any (fun t => (memberSlots (dstSub s t.d t.m) t.d).any (fun x => x.1 == i) &&
      bitsOf v.toNat (3 * t.m + 2) (3 * t.m) != dstCad s i t.m)
    if split || busy then
      when busy (fun t => t.p F.XPT_BANK_STAT_CAD_BUSY [] 1) (when split (fun t => t.p F.XPT_BANK_STAT_CAD_ERR [] 1) s)
    else s.write R.XPT_DST_CAD [i] v

/-- CAD_BINDING_WRITE (R67): `dst` names XPT_DST_CAD, else XPT_SRC_CAD. -/
def execCadBindingWrite (r : Req) (dst : Bool) (i : Fin 1280) (v : Word) (s : State) : Out :=
  .next (gate r .xpt (if dst then writeDstCad i v else writeSrcCad i v) s)

/-- Write of XPT_CAD_SSYNC (R95): CLR clears OUTSIDE, MISSING and LAST_OFFSET. -/
def writeSsync (c : Nat) (v : Word) (s : State) : State :=
  if F.XPT_CAD_SSYNC_CLR.of v = 1 then s.wr R.XPT_CAD_SSYNC [c] 0 else s

/-- SSYNC_CLR (R95). -/
def execSsyncClr (r : Req) (c : Fin 8) (s : State) : Out := .next (gate r .xpt (writeSsync c (fldMask 7 7)) s)

/-- Write of XPT_CAD_STAT (R95): CLR_TAKES clears XPT_CAD_TAKES; the flags clear by 1. -/
def writeCadStat (c : Nat) (v : Word) (s : State) : State :=
  let s1 := s.write R.XPT_CAD_STAT [c] v
  if F.XPT_CAD_STAT_CLR_TAKES.of v = 1 then s1.wr R.XPT_CAD_TAKES [c] 0 else s1

/-- CLR_TAKES (R95). -/
def execClrTakes (r : Req) (c : Fin 8) (s : State) : Out := .next (gate r .xpt (writeCadStat c (fldMask 3 3)) s)

/-- Write of XPT_ALIGN_STAT (R95): CLR clears DIRTY. -/
def writeAlignStat (i : Nat) (v : Word) (s : State) : State :=
  if F.XPT_ALIGN_STAT_CLR.of v = 1 then s.p F.XPT_ALIGN_STAT_DIRTY [i] 0 else s

/-- ALIGN_CLR (R95). -/
def execAlignClr (r : Req) (i : Fin 10240) (s : State) : Out := .next (gate r .xpt (writeAlignStat i (fldMask 16 16)) s)

/-- Frames since the signal's last alignment sample, that sample's frame counted (R90). -/
def framesSince (s : State) (i : Nat) : Nat := getD 1 s.xpt.missed i

/-- ALIGN_VALID_TIMEOUT (R90): two consecutive frames have passed with no sample. -/
def execAlignValidTimeout (i : Fin 10240) (s : State) : Out :=
  .next (if 3 ≤ framesSince s i then s.p F.XPT_ALIGN_STAT_VALID [i] 0 else s)

end Sys2Proof.Machine
end

