-- ==== Sys2Proof/Machine/EngFlip.lean ====
section
/-! DEFINITION. ENGINE_SETs, flips, SIG_EXPECTs and fences between acceptance and commit (R232 to R241, R246). -/
namespace Sys2Proof.Machine

/-- RESULT of an ENGINE_SET (R352). -/
def engResult (s : State) (e : Nat) : Nat := s.g F.ENG_CHARGE_CHARGE [e] % 2 ^ 16 + s.g F.CEL_LOAD_LOAD [] * 2 ^ 16

/-- The charge of the ECB in effect. -/
def curCharge (s : State) (e : Nat) : Nat := ecbCharge s (s.ecb e)

/-- A pending ENGINE_SET ends without effect (R232, R69, R71): the engine holds its old charge again. -/
def endEngine (code : Nat) (x : PendEng) (s : State) : State :=
  let s1 := engCharge x.eng (curCharge s x.eng) { s with eng := { s.eng with pend := s.eng.pend.filter (·.tok != x.tok) } }
  let s2 := match code, tokOf s1 x.tok with
    | 1, some k => s1.count (32 + 8 * k.part + 3) 1
    | _, _ => s1.count 96 1
  finish x.tok code (b2n x.late) (engResult s2 x.eng) (some x.stamp) s2

/-- Stage an accepted ENGINE_SET (R232, R247): a pending one is superseded; the larger charge is held. -/
def stageEngine (x : PendEng) (s : State) : State :=
  let s1 := each (s.eng.pend.filter (·.eng == x.eng)) (endEngine 1) s
  let s2 := engCharge x.eng (max (curCharge s1 x.eng) x.charge) s1
  { s2 with eng := { s2.eng with pend := s2.eng.pend ++ [x] } }

/-- The end of one member of a flip group. -/
def endMember (code : Nat) (g : FlipGroup) (m : FlipM) (s : State) : State :=
  let s1 := match code, tokOf s m.tok with
    | 1, some k => s.count (32 + 8 * k.part + 3) 1
    | 2, _ => (s.count 96 1).count 370 (b2n !m.sig)
    | 3, _ => s.count 97 1
    | 4, _ => s.count 98 1
    | 0, _ => s.count 367 (b2n !m.sig)
    | _, _ => s
  finish m.tok code (b2n g.late) (min 255 g.defers) (if g.closed then some ⟨g.cad, g.frame, 1, false⟩ else none) s1

/-- Put groups in place of the ones held; an empty closed group is gone. -/
def setGroups (gs : List FlipGroup) (s : State) : State :=
  { s with eng := { s.eng with groups := gs.filter (fun g => !(g.members.isEmpty && (g.closed || g.id == 0))) } }

/-- End every member that a test picks out. -/
def endMembers (p : FlipGroup → FlipM → Bool) (code : Nat) (s : State) : State :=
  let s1 := each s.eng.groups (fun g t => each (g.members.filter (p g)) (endMember code g) t) s
  setGroups (s1.eng.groups.map (fun g => { g with members := g.members.filter (fun m => !p g m) })) s1

/-- Lines from the fence line to line 1 for an engine (R238). -/
def fenceLead (s : State) (e : Nat) : Nat := s.eb e 6 7 0

/-- The start of the line `lead` lines before line 1 of frame f has come (R238, R239). -/
def fenceBegun (s : State) (c f lead : Nat) : Bool :=
  let k := s.cad c
  let n := s.raster c
  decide (linePos n k.frame f 1 - (lead : Int) ≤ posNow s c)

/-- The frame a flip is stamped for, with LATE (R239); none is PAST. `lead` is 0 for a SIG_EXPECT that stands alone. -/
def flipStamp (s : State) (v : Nat) (d : Desc) (c lead : Nat) : Option (Nat × Bool) :=
  let k := s.cad c
  let nxt := (k.frame + (if k.line = 0 then 0 else 1)) % 2 ^ 32
  if cbMode v d = 1 then
    match atFrame v k.frame (cbFrame v d) with
    | none => none
    | some f =>
      if !fenceBegun s c f lead then some (f, false)
      else if !fenceBegun s c ((f + 1) % 2 ^ 32) lead then some ((f + 1) % 2 ^ 32, true) else none
  else if !fenceBegun s c nxt lead then some (nxt, false) else some ((nxt + 1) % 2 ^ 32, true)

/-- The group of partition p with an ID from 1. -/
def groupOf (s : State) (p id : Nat) : Option FlipGroup := s.eng.groups.find? (fun g => g.part == p && g.id == id && id != 0)

/-- Stage an accepted member (R236, R237): it replaces a pending flip of its layer; it stands alone, opens a group or joins
one; with `close` the group takes its frame. -/
def stageFlip (part id c : Nat) (m : FlipM) (close : Option (Nat × Bool)) (s : State) : State :=
  let s1 := if m.sig then s else endMembers (fun _ x => !x.sig && x.eng == m.eng && x.item == m.item) 1 s
  let fr := (close.map (·.1)).getD 0
  let late := (close.map (·.2)).getD false
  if id = 0 then setGroups (s1.eng.groups ++ [FlipGroup.mk part 0 c fr true late 0 none [m]]) s1
  else
    let upd := fun (g : FlipGroup) =>
      { g with members := g.members ++ [m], closed := close.isSome, frame := fr, late := late }
    match groupOf s1 part id with
    | some _ => setGroups (mapFirst (fun g => g.part == part && g.id == id) upd s1.eng.groups) s1
    | none => setGroups (s1.eng.groups ++ [upd (FlipGroup.mk part id c 0 false false 0 none [])]) s1

/-- Discard an open group (R237): each member completes ABORTED. -/
def abortGroup (part id : Nat) (s : State) : State :=
  let s1 := endMembers (fun g _ => g.part == part && g.id == id) 3 s
  { s1 with eng := { s1.eng with groups := s1.eng.groups.filter (fun g => !(g.part == part && g.id == id)) } }

/-- A fence has reached a target (R235). -/
def reached (value target : Nat) : Bool := decide ((value + 2 ^ 64 - target % 2 ^ 64) % 2 ^ 64 < 2 ^ 63)

/-- The internal fence k of engine e. -/
def fenceVal (s : State) (e k : Nat) : Nat :=
  s.g F.ENG_FENCE_LO_VALUE_LO [e, k] + 2 ^ 32 * s.g F.ENG_FENCE_HI_VALUE_HI [e, k]

/-- Set the value last sampled. -/
def setSeen (e k v : Nat) (s : State) : State :=
  (s.p F.ENG_FENCE_SEEN_LO_SEEN_LO [e, k] (v % 2 ^ 32)).p F.ENG_FENCE_SEEN_HI_SEEN_HI [e, k] (v / 2 ^ 32)

/-- FENCE_ADDR of fence k. -/
def fenceAddr (s : State) (e k : Nat) : Nat := s.eb e (24 + 2 * k) 31 0 + 2 ^ 32 * s.eb e (25 + 2 * k) 31 0

/-- Sample the fence of one member at its engine's fence line (R238): an internal fence at once; a read is issued for one in
host memory or the cellar, and a value already sampled at this line serves every member. -/
def sampleMember (m : FlipM) (s : State) : FlipM × State :=
  match m.fence with
  | none => ({ m with seen := some true }, s)
  | some (k, t) =>
    match s.eb m.eng (20 + k) 31 30 with
    | 0 =>
      let v := fenceVal s m.eng k
      ({ m with seen := some (reached v t) }, setSeen m.eng k v s)
    | kind =>
      let key := (m.eng, k)
      let s1 := if s.eng.engReads.contains key then s
        else
          let u := { s with eng := { s.eng with engReads := s.eng.engReads ++ [key] } }
          let u := wakePort (if kind = 1 then 9 else 6) (wakePort 5 u)
          if kind = 1 then u.emit (.hostRead (u.g F.HIF_ENG_ALLOC_PART [m.eng]) (fenceAddr u m.eng k) 8)
          else srWake { u with cel := { u.cel with lastReq := u.ticks } }
      ({ m with reading := true }, s1)

/-- Members of a group whose engine's fence line has come and whose fence has not been sampled are sampled. -/
def sampleGroup (g : FlipGroup) (s : State) : FlipGroup × State :=
  let step := fun (acc : List FlipM × State) (m : FlipM) =>
    if m.seen.isNone && !m.reading && fenceBegun acc.2 g.cad g.frame (fenceLead acc.2 m.eng) then
      let (m1, u) := sampleMember m acc.2
      (acc.1 ++ [m1], u)
    else (acc.1 ++ [m], acc.2)
  let (ms, s1) := g.members.foldl step ([], s)
  ({ g with members := ms }, s1)

/-- Send a verdict to the twin (R241, R378): for a flip that stands alone its engine and layer or region name it. -/
def sendVerdict (g : FlipGroup) (v : Bool) (s : State) : State :=
  if s.isActive && s.on F.RED_PARTNER_STAT_UP [] then
    match g.members with
    | m :: _ => s.tell (.decision (.flip (Fin.ofNat 8 g.part) (Fin.ofNat 16 g.id) (Fin.ofNat 64 m.eng) m.sig
        (Fin.ofNat 4 m.item) g.frame v))
    | [] => s
  else s

/-- MAX_DEFER of a group: the smallest of its engines' that are not 0 (R238; DEDUCED, log 34). -/
def maxDefer (s : State) (g : FlipGroup) : Nat :=
  g.members.foldl (fun a m => let x := s.eb m.eng 6 15 8; if x = 0 then a else if a = 0 then x else min a x) 0

/-- A deferral (R238, R241): counted in each engine concerned, the members await the fence line of the next frame; after MAX_DEFER of
them the group completes TIMED_OUT. -/
def deferGroup (g : FlipGroup) (s : State) : List FlipGroup × State :=
  let es := (g.members.map (·.eng)).eraseDups
  let s1 := each es (fun e t => (t.bump F.ENG_FLIP_STAT_DEFERRED [e] 1).count 368 1) s
  let g1 := { g with defers := g.defers + 1, frame := (g.frame + 1) % 2 ^ 32, verdict := none,
                     members := g.members.map (fun m => { m with seen := none, reading := false }) }
  let top := maxDefer s g
  if top != 0 && top ≤ g1.defers then
    let s2 := (each es (fun e t => t.bump F.ENG_FLIP_STAT_TIMEOUTS [e] 1) s1).count 369 1
    ([], each g.members (endMember 4 { g with defers := g.defers + 1 }) s2)
  else ([g1], s1)

/-- Judge a closed group whose members are all sampled (R238): one that does not proceed defers at once. -/
def judgeGroup (g : FlipGroup) (s : State) : List FlipGroup × State :=
  if g.closed && g.verdict.isNone && g.members.all (fun m => m.seen.isSome && !m.reading) then
    let v := g.members.all (fun m => m.seen == some true)
    let s1 := sendVerdict g v s
    if v then ([{ g with verdict := some true }], s1) else deferGroup g s1
  else ([g], s)

/-- Reads of fences that no member awaits any more: they still return, and serve no sample (R238). -/
def retireReads (s : State) : State :=
  let live := fun (k : Nat × Nat) => s.eng.groups.any (fun g => g.members.any (fun m => m.reading && m.eng == k.1 && m.fence.any (fun f => f.1 == k.2)))
  { s with eng := { s.eng with
      engReads := s.eng.engReads.filter live
      oldReads := s.eng.oldReads ++ s.eng.engReads.filter (fun k => !live k) } }

/-- The fence lines at a line start of cadence c (R238, R241): a device that is not active samples nothing. -/
def fenceLines (c : Nat) (s : State) : State :=
  if !s.takesHost then s else
  let step := fun (acc : List FlipGroup × State) (g : FlipGroup) =>
    if g.cad = c && g.closed && g.verdict.isNone then
      let (g1, u) := sampleGroup g acc.2
      let (l, w) := judgeGroup g1 u
      (acc.1 ++ l, w)
    else (acc.1 ++ [g], acc.2)
  let (gs, s1) := s.eng.groups.foldl step ([], retireReads s)
  setGroups gs s1

/-- The active's verdict on a group for its frame, as received (R241). -/
def sentVerdict (s : State) (g : FlipGroup) : Option Bool :=
  s.eng.decisions.findSome? (fun d => match d with
    | .flip p i e sg it f v =>
      if p.val = g.part && i.val = g.id && f = g.frame && (g.id != 0 || g.members.any (fun m => m.eng == e.val && m.sig == sg && m.item == it.val))
      then some v else none
    | _ => none)

/-- A member acts (R236, R240, R246). -/
def actMember (m : FlipM) (s : State) : State :=
  if m.sig then s.wr R.ENG_ECB [m.eng, 44 + m.item] (BitVec.ofNat 32 m.value)
  else
    let w := s.rd R.ENG_ECB [m.eng, 8 + m.item]
    let w1 := match m.buf with
      | some b => maskIn (fldMask 1 0) w (BitVec.ofNat 32 b)
      | none => w
    let w2 := match m.g with
      | some g => maskIn (fldMask 25 16) w1 (BitVec.ofNat 32 (g * 2 ^ 16))
      | none => w1
    let w3 := match m.en with
      | some b => maskIn (fldMask 31 31) w2 (BitVec.ofNat 32 (b2n b * 2 ^ 31))
      | none => w2
    let s1 := s.wr R.ENG_ECB [m.eng, 8 + m.item] w3
    if m.en.isSome then
      let pendCharge := (s1.eng.pend.filter (·.eng == m.eng)).foldl (fun a x => max a x.charge) 0
      engCharge m.eng (max (curCharge s1 m.eng) pendCharge) s1
    else s1

/-- One group at line 1 of its frame (R238, R241). -/
def flipGroupAct (g : FlipGroup) (s : State) : State :=
  let s0 := { s with eng := { s.eng with groups := s.eng.groups.filter (fun x => x != g) } }
  let own := g.verdict.getD (g.members.all (fun m => m.fence.isNone || m.seen == some true))
  let (v, s1) :=
    if s.takesHost then (own, if g.verdict.isNone then sendVerdict g own s0 else s0)
    else match sentVerdict s g with
      | some v => (v, s0)
      | none => (false, occur 318 1 (each ((g.members.map (·.eng)).eraseDups) (fun e t =>
          (t.p F.ENG_FLIP_STAT_REPL_LATE [e] 1).count 371 1) s0))
  if v then each g.members (fun m t => endMember 0 g m (actMember m t)) s1
  else
    let (l, s2) := deferGroup g s1
    { s2 with eng := { s2.eng with groups := s2.eng.groups ++ l } }

/-- Flips and SIG_EXPECTs due at line 1 of cadence c (R233, R238). -/
def flipsDue (c : Nat) (s : State) : State :=
  each (s.eng.groups.filter (fun g => g.closed && g.cad == c && g.frame == (s.cad c).frame)) flipGroupAct s

/-- ENGINE_SETs due at line 1 of cadence c (R232, R233): a pending flip on a layer that the new ECB disables is cancelled. -/
def commitEngines (c : Nat) (s : State) : State :=
  each (s.eng.pend.filter (fun x => stampDue s c x.stamp)) (fun x t =>
    let off := ecbBits x.ecb 0 31 31 == 0
    let t1 := { t with eng := { t.eng with pend := t.eng.pend.filter (·.tok != x.tok) } }
    let t2 := endMembers (fun _ m => !m.sig && m.eng == x.eng && (off || (m.item != 0 && ecbBits x.ecb (8 + m.item) 31 31 == 0))) 2 t1
    let t3 := engCharge x.eng x.charge (engApply x.eng x.ecb t2)
    finish x.tok 0 (b2n x.late) (engResult t3 x.eng) (some x.stamp) (t3.count 378 1)) s

/-- Cancel the engine business of a cadence and disable its engines (R69, R71, R233). -/
def cancelEngines (c : Nat) (s : State) : State :=
  let s1 := each (s.eng.pend.filter (fun x => x.stamp.cad == c)) (endEngine 2) s
  let s2 := endMembers (fun g _ => g.cad == c) 2 s1
  let s3 := { s2 with eng := { s2.eng with groups := s2.eng.groups.filter (fun g => g.cad != c) } }
  each (enginesOn s3 c) engOff s3

/-- A fence value is set (R345): not backwards, unless forced. -/
def setFence (e k v : Nat) (force : Bool) (s : State) : State :=
  if force || reached v (fenceVal s e k) then
    (s.p F.ENG_FENCE_LO_VALUE_LO [e, k] (v % 2 ^ 32)).p F.ENG_FENCE_HI_VALUE_HI [e, k] (v / 2 ^ 32)
  else s

end Sys2Proof.Machine
end

