-- ==== Sys2Proof/Machine/Engines.lean ====
section
/-! DEFINITION. The commands of the engines (07_processing_engines.md, R343 to R345). -/
namespace Sys2Proof.Machine

/-- Engine of an ENGINE_SET, LAYER_FLIP or SIG_EXPECT (R343). -/
def edEngine (v : Nat) (d : Desc) : Nat := body v d 69 64

/-- BAD_FIELD of ENGINE_SET (R343): ECB_ADDR not 64 B aligned counts (DEDUCED, log 35). -/
def engineSetBad (v : Nat) (d : Desc) : Bool :=
  cbBad [0, 1] false v d || body v d 127 70 != 0 || body v d 383 192 != 0 || body v d 133 128 != 0

/-- ENGINE_SET (R234, R344): the read of the ECB starts. -/
def execEngineSet (p r : Fin 8) (s : State) : Out :=
  .next (presentRead p r 0x20 256 engineSetBad true (fun v d => body v d 191 128) s)

/-- The cadence whose line 1 an ENGINE_SET commits at (R232). -/
def setCadence (s : State) (e : Nat) (b : List Word) : Nat := if s.engOn e then s.engCad e else ecbBits b 0 29 27

/-- Every cellar address of an ECB lies in the partition's window (R304). -/
def ecbInWindow (d : Desc) (rs : List (Nat × Nat)) : Bool :=
  let p := d.part
  p == 0 || rs.all (fun x => gIn d.prot F.HIF_PART_CEL_BASE_VALID [p] == 1 &&
    decide (page (gIn d.prot F.HIF_PART_CEL_BASE_BASE [p]) ≤ x.1) &&
    decide (x.1 + x.2 ≤ page (gIn d.prot F.HIF_PART_CEL_LIMIT_LIMIT [p] + 1)))

/-- An engine's slots are named by a valid entry of either bank (R234). -/
def engRouted (s : State) (e : Nat) : Bool :=
  (liveEntries s ++ loftEntries s).any (fun x => eValid x.2 &&
    ((eSource x.2).1 == 1152 + e || x.1 / 8 == 1152 + 2 * e || x.1 / 8 == 1153 + 2 * e))

/-- The shape of an engine that routes depend on: MODE, CLASS, CH_CLASS, CADENCE (R234). -/
def engShape (b : List Word) : Nat := ecbBits b 0 30 16

/-- The checks of R234 on an ECB, in order; else its stamp. -/
def engineCheck (s : State) (v : Nat) (d : Desc) (b : List Word) : Except Nat (Stamp × Bool) :=
  let e := edEngine v d
  let on := ecbBits b 0 31 31 == 1
  let c := setCadence s e b
  let f := s.g F.XPT_CAD_CFG_FORMAT [ecbBits b 0 29 27]
  let rs := if on then ecbRegions b f else []
  let new := ecbCharge s b
  if d.part != 0 && (gIn d.prot F.HIF_ENG_ALLOC_PART [e] != d.part || !ecbInWindow d rs) then .error 0x38
  else if !cadOn s c || !(if on then ecbOk s b && rs.all (fun x => inCellar x.1 x.2) else ecbReserved b) then .error 0x39
  else if on && engShape (s.ecb e) != engShape b && engRouted s e then .error 0x3A
  else if !admits s (s.g F.ENG_CHARGE_CHARGE [e]) (max (curCharge s e) new) then .error 0x3B
  else stampOf s v d c true

/-- Carry out an accepted ENGINE_SET (R232). -/
def engineGo (id v : Nat) (d : Desc) (b : List Word) (st : Stamp) (late : Bool) (s : State) : State :=
  forward v d (some st) late b (stageEngine ⟨id, edEngine v d, st, late, b, ecbCharge s b⟩ s)

/-- A number as 32-bit words, the lowest first. -/
def toWords (n x : Nat) : List Word := (List.range n).map (fun i => BitVec.ofNat 32 (x >>> (32 * i)))

/-- ECB_READ_COMPLETE (R344, R234): the ECB of the ring's waiting ENGINE_SET arrives and is checked, in the plane state
it is accepted in (R329). -/
def execEcbReadComplete (p r : Fin 8) (ecb : BitVec 2048) (s : State) : Out :=
  .next (match readOf s p r 0x20 with
  | none => s
  | some x =>
    let v := ringVer s p r
    let d := x.desc
    let b := toWords 64 ecb.toNat
    let s1 := dropRead p r s
    if !s.takesHost then refuse v d 0x16 0 s1
    else match engineCheck s1 v d b with
    | .error c => refuse v d c 0 (if c = 0x3B then s1.count 405 1 else s1)
    | .ok (st, late) =>
      let (id, s2) := accept v d s1
      engineGo id v d b st late s2)

/-- A ring's outstanding host read fails (R344): HOST_READ refuses its descriptor, unless the device no longer takes it (R329, R334). -/
def hostReadFails (p r : Nat) (s : State) : State :=
  match s.cmd.reads.find? (fun x => x.desc.part == p && x.desc.ring == r) with
  | none => s
  | some x => refuse (ringVer s p r) x.desc (if s.takesHost then 0x17 else 0x16) 0 (dropRead p r s)

/-- HOST_READ_TIMEOUT (R344): the ring's outstanding host read errs, or has not completed within 100 µs. -/
def execHostReadTimeout (p r : Fin 8) (s : State) : Out := .next (hostReadFails p r s)

/-- Fields of LAYER_FLIP (R343). -/
def lfGroup (v : Nat) (d : Desc) : Nat := body v d 94 91
def lfClose (v : Nat) (d : Desc) : Bool := body v d 95 95 == 1
def lfAbort (v : Nat) (d : Desc) : Bool := body v d 96 96 == 1
def lfMember (v : Nat) (d : Desc) (id : Nat) : FlipM :=
  { tok := id, eng := edEngine v d, sig := false, item := body v d 71 70
    buf := if body v d 72 72 = 1 then some (body v d 74 73) else none
    g := if body v d 75 75 = 1 then some (body v d 85 76) else none
    en := if body v d 86 86 = 1 then some (body v d 87 87 == 1) else none
    value := 0
    fence := if body v d 88 88 = 1 then some (body v d 90 89, body v d 191 128) else none
    seen := none, reading := false }

/-- BAD_FIELD of LAYER_FLIP (R337, R343): the commit block counts only on group 0 and on the CLOSE member. -/
def layerFlipBad (v : Nat) (d : Desc) : Bool :=
  ((lfGroup v d == 0 || lfClose v d) && cbBad [0, 1] false v d) || body v d 127 97 != 0 || body v d 383 192 != 0
    || (body v d 72 72 == 0 && body v d 75 75 == 0 && body v d 86 86 == 0 && !lfAbort v d)

/-- The lead of a member: FENCE_LEAD of its engine; for a closing member the largest of the group's engines (R239). -/
def groupLead (s : State) (part gid e : Nat) (sig : Bool) : Nat :=
  if gid = 0 then (if sig then 0 else fenceLead s e)
  else ((groupOf s part gid).map (·.members)).getD [] |>.foldl (fun a m => max a (fenceLead s m.eng)) (fenceLead s e)

/-- Checks shared by LAYER_FLIP and SIG_EXPECT (R236, R237, R246), in the order of the text (DEDUCED, log 36): ENGINE_PARTITION,
PAST, ENGINE_OFF, the layer's own, CADENCE_MISMATCH, GROUP_CLOSED. -/
def flipOwn (gid : Nat) (close abort sig badLayer : Bool) (v : Nat) (d : Desc) (s : State) : Option (Nat × Nat) :=
  let e := edEngine v d
  let c := s.engCad e
  if d.part != 0 && gIn d.prot F.HIF_ENG_ALLOC_PART [e] != d.part then some (0x38, 0)
  else if !abort && (gid == 0 || close) && (flipStamp s v d c (groupLead s d.part gid e sig)).isNone then some (0x29, 0)
  else if !s.engOn e then some (0x3C, 0)
  else if badLayer then some (0x3D, 0)
  else match groupOf s d.part gid with
    | some g => if g.cad != c then some (0x2C, 0) else if g.closed then some (0x3E, 0) else none
    | none => none

/-- Carry out an accepted LAYER_FLIP or SIG_EXPECT (R236, R237): an ABORT member discards its group and itself. -/
def flipGo (gid : Nat) (close abort : Bool) (m : FlipM) (id v : Nat) (d : Desc) (s : State) : State :=
  let c := s.engCad m.eng
  if abort then
    finish id 3 0 0 none ((forward v d none false [] (if gid = 0 then s else abortGroup d.part gid s)).count 97 1)
  else if gid = 0 || close then
    match flipStamp s v d c (groupLead s d.part gid m.eng m.sig) with
    | none => s
    | some (f, late) =>
      forward v d (some ⟨c, f, 1, false⟩) late [] (stageFlip d.part gid c m (some (f, late)) s)
  else forward v d none false [] (stageFlip d.part gid c m none s)

/-- LAYER_FLIP (R236). -/
def execLayerFlip (p r : Fin 8) (s : State) : Out :=
  .next (present p r 0x21 layerFlipBad false true
    (fun v d t =>
      let m := lfMember v d 0
      flipOwn (lfGroup v d) (lfClose v d) (lfAbort v d) false
        ((m.buf.isSome && decide (m.item < 2)) || (m.en.isSome && m.item == 0)) v d t)
    (fun id v d t => flipGo (lfGroup v d) (lfClose v d) (lfAbort v d) (lfMember v d id) id v d t) s)

/-- Fields of SIG_EXPECT (R343). -/
def seGroup (v : Nat) (d : Desc) : Nat := body v d 75 72
def seClose (v : Nat) (d : Desc) : Bool := body v d 76 76 == 1
def seAbort (v : Nat) (d : Desc) : Bool := body v d 77 77 == 1
def seMember (v : Nat) (d : Desc) (id : Nat) : FlipM :=
  { tok := id, eng := edEngine v d, sig := true, item := body v d 71 70, buf := none, g := none, en := none
    value := body v d 127 96, fence := none, seen := none, reading := false }

def sigExpectBad (v : Nat) (d : Desc) : Bool :=
  ((seGroup v d == 0 || seClose v d) && cbBad [0, 1] false v d) || body v d 95 78 != 0 || body v d 383 128 != 0

/-- SIG_EXPECT (R246). One that stands alone and is accepted past the fence line is judged at once, and its decision sent (R241). -/
def execSigExpect (p r : Fin 8) (s : State) : Out :=
  .next (present p r 0x23 sigExpectBad false true
    (fun v d t => flipOwn (seGroup v d) (seClose v d) (seAbort v d) true false v d t)
    (fun id v d t =>
      fenceLines (t.engCad (edEngine v d)) (flipGo (seGroup v d) (seClose v d) (seAbort v d) (seMember v d id) id v d t)) s)

/-- FENCE_SET (R345): accepted in every state; it waits for the bulk data port's earlier writes. -/
def execFenceSet (p r : Fin 8) (s : State) : Out :=
  .next (present p r 0x22 (fun v d => body v d 63 9 != 0 || body v d 383 128 != 0) false false
    (fun v d _ => if d.part != 0 && gIn d.prot F.HIF_ENG_ALLOC_PART [body v d 5 0] != d.part then some (0x38, 0) else none)
    (fun id v d t => forward v d none false []
      { t with cmd := { t.cmd with fences := t.cmd.fences ++
        [PendFence.mk id (body v d 5 0) (body v d 7 6) (body v d 8 8 == 1) (body v d 127 64)] } }) s)

/-- FENCE_SET_EXECUTE (R235, R345): earlier bulk data writes have landed (they are single steps of this model) and the oldest
FENCE_SET is carried out; its record gives the value that stands. -/
def execFenceSetExecute (s : State) : Out :=
  .next (match s.cmd.fences with
  | [] => s
  | x :: rest =>
    let s1 := setFence x.engine x.fence x.value x.force { s with cmd := { s.cmd with fences := rest } }
    finish x.tok 0 0 (fenceVal s1 x.engine x.fence) none (s1.count 380 1))

/-- ENG_INPUT_LOST (R219): no record of channel k has begun on input A for 4 line periods. -/
def execEngInputLost (e : Fin 64) (k : Fin 4) (s : State) : Out :=
  .next (let x := s.fsc e k
    if s.engOn e && (channels (s.ecb e)).contains k && !x.lost && linesPassed s (s.engCad e) 4 (s.ticks - x.lastBegin) then
      occur 165 e ((updateLost e (s.setFsc e k { x with lost := true })).count 382 1)
    else s)

/-- The last raster line that carries a line of region r in transmission. -/
def regionEnd (s : State) (e r : Nat) : Nat :=
  let f := s.g F.XPT_CAD_CFG_FORMAT [s.engCad e]
  let last := s.eb e (34 + 3 * r) 28 16 + s.eb e (34 + 3 * r) 12 0 - 1
  let first := s.eb e (34 + 3 * r) 28 16
  ((List.range (s.raster (s.engCad e))).map (· + 1)).foldl (fun a l => match activeIdx f l with
    | some i => if first ≤ frameLine f i && frameLine f i ≤ last then max a l else a
    | none => a) 0

/-- Judge region r at the end of its last line (R244, R245). -/
def judgeRegion (e r : Nat) (s : State) : State :=
  let a : SigAcc := getD {} s.eng.sig (4 * e + r)
  let fr := (s.cad (s.engCad e)).frame
  let y0 := s.eb e (34 + 3 * r) 28 16
  let h := s.eb e (34 + 3 * r) 12 0
  let whole := (List.range h).all (fun i => (find? a.lines (y0 + i)).isSome)
  let crc := crc32c ((List.range h).flatMap (fun i => getD [] a.lines (y0 + i)))
  let bad := !whole || (match s.eb e (32 + 3 * r) 31 30 with
    | 1 => crc != s.rd R.ENG_ECB [e, 44 + r]
    | 2 => a.prev.any (· != crc)
    | _ => a.prev == some crc)
  let s1 := if whole then
      ((s.wr R.ENG_SIG_CRC [e, r] crc).wr R.ENG_SIG_FRAME [e, r] (BitVec.ofNat 32 fr)).count 374 1 else s
  let run := if bad then a.run + 1 else 0
  let a1 : SigAcc := { lines := [], prev := if whole then some crc else none, judged := some fr, run := run }
  let s2 := { s1 with eng := { s1.eng with sig := put s1.eng.sig (4 * e + r) a1 } }
  let s3 := (s2.p F.ENG_SIG_STAT_MATCH [e, r] (b2n !bad)).p F.ENG_SIG_STAT_RUN [e, r] (min 255 run)
  if bad then
    let s4 := (s3.bump F.ENG_SIG_STAT_MISMATCH [e, r] 1).count 375 1
    if run = s4.eb e (32 + 3 * r) 27 20 then occur (101 + e) r (s4.count 376 1) else s4
  else s3

/-- SIG_REGION_JUDGE (R245): once in a frame, when the cadence has passed the region's last line. -/
def execSigRegionJudge (e : Fin 64) (r : Fin 4) (s : State) : Out :=
  .next (let a : SigAcc := getD {} s.eng.sig (4 * e + r)
    let k := s.cad (s.engCad e)
    if s.engOn e && s.eb e (32 + 3 * r) 31 30 != 0 && decide (regionEnd s e r < k.line) && a.judged != some k.frame
    then judgeRegion e r (engFlushAll e s) else s)

/-- WB_FRAME_COMPLETE (R243): the frame in progress is complete, or the cellar did not take its writes in time. -/
def execWbFrameComplete (e : Fin 64) (ok : Bool) (s : State) : Out :=
  .next (match find? s.eng.wb e with
  | none => s
  | some fr =>
    if ok then
      let n := max 1 (s.eb e 49 6 0)
      let s0 := engFlushAll e s
      let s1 := ((s0.p F.ENG_WB_STAT_LAST [e] ((s0.g F.ENG_WB_STAT_LAST [e] + 1) % n)).p F.ENG_WB_STAT_VALID [e] 1).wr
        R.ENG_WB_FRAME [e] (BitVec.ofNat 32 fr)
      ({ s1 with eng := { s1.eng with wb := drop1 s1.eng.wb e } }).count 372 1
    else wbSkip e s)

/-- Give a fence value that a read returned to the members that wait for it (R238); none is an error. -/
def fenceReturn (e k : Nat) (v : Option Nat) (s : State) : State :=
  let upd := fun (m : FlipM) =>
    match m.fence with
    | some (j, t) => if m.reading && m.eng == e && j == k then
        { m with reading := false, seen := some (match v with
          | some x => reached x t
          | none => false) } else m
    | none => m
  let gs := s.eng.groups.map (fun g => { g with members := g.members.map upd })
  let step := fun (acc : List FlipGroup × State) (g : FlipGroup) =>
    if g.members.any (fun m => m.eng == e && m.fence.any (fun f => f.1 == k)) then
      let (l, u) := judgeGroup g acc.2
      (acc.1 ++ l, u)
    else (acc.1 ++ [g], acc.2)
  let (gs1, s1) := gs.foldl step ([], s)
  setGroups gs1 s1

/-- FENCE_READ_COMPLETE (R238, R289): the read of fence k of engine e returns, the oldest first: the value read from host memory, or none
for an error; a cellar fence reads the cellar once the stack is ready (R285), and an uncorrectable word is an error, as is a read that
a reset of the controller discarded (R288). -/
def execFenceReadComplete (e : Fin 64) (k : Fin 4) (v : Option (BitVec 64)) (s : State) : Out :=
  .next (let key := (e.val, k.val)
    let old := s.eng.oldReads.contains key
    let inCel := s.eb e (20 + k) 31 30 == 2
    let gone := s.cel.lost.contains key
    if !old && !s.eng.engReads.contains key then s
    else if inCel && !gone && celWaits s then srWake s
    else
      let s1 := { s with eng := { s.eng with
                            engReads := if old then s.eng.engReads else s.eng.engReads.filter (· != key)
                            oldReads := eraseFirst (· == key) s.eng.oldReads }
                         cel := { s.cel with lost := eraseFirst (· == key) s.cel.lost } }
      let (x, s2) := if inCel then
          let (d, bad, t) := celRead 2 (fenceAddr s1 e k) 8 s1
          (if bad.isEmpty && v.isSome && !gone && !s.on F.CEL_STAT_TRAIN_FAIL [] then some (ofLE d) else none, if gone then s1 else t)
        else (v.map (·.toNat), s1)
      let give := fun (y : Option Nat) (t : State) => if old then t else fenceReturn e k y t
      match x with
      | some n => give (some n) (setSeen e k n s2)
      | none => give none (s2.count 381 1))

/-- Write of ENG_STAT (R248). -/
def writeEngStat (e : Nat) (v : Word) (s : State) : State :=
  let s1 := s.write R.ENG_STAT [e] v
  if F.ENG_STAT_CLR.of v = 1 then s1.p F.ENG_STAT_B_LATE [e] 0 else s1

/-- ENG_B_LATE_CLR (R248). -/
def execEngBLateClr (rq : Req) (e : Fin 64) (s : State) : Out := .next (gate rq .eng (writeEngStat e 1#32) s)

/-- Write of ENG_FS_STAT (R248): both registers clear. -/
def writeFsStat (e : Nat) (s : State) : State := (s.wr R.ENG_FS_STAT [e] 0).wr R.ENG_FS_STAT2 [e] 0

/-- FS_STAT_CLEAR (R248). -/
def execFsStatClear (rq : Req) (e : Fin 64) (s : State) : Out := .next (gate rq .eng (writeFsStat e) s)

/-- Write of ENG_FLIP_STAT (R248). -/
def writeFlipStat (e : Nat) (v : Word) (s : State) : State :=
  let s1 := s.write R.ENG_FLIP_STAT [e] v
  if F.ENG_FLIP_STAT_CLR.of v = 1 then (s1.p F.ENG_FLIP_STAT_DEFERRED [e] 0).p F.ENG_FLIP_STAT_TIMEOUTS [e] 0 else s1

/-- FLIP_STAT_CLR (R248). -/
def execFlipStatClr (rq : Req) (e : Fin 64) (s : State) : Out := .next (gate rq .eng (writeFlipStat e 1#32) s)

/-- Write of ENG_SIG_STAT (R248). -/
def writeSigStat (e r : Nat) (v : Word) (s : State) : State :=
  if F.ENG_SIG_STAT_CLR.of v = 1 then s.p F.ENG_SIG_STAT_MISMATCH [e, r] 0 else s

/-- SIG_MISMATCH_CLR (R248). -/
def execSigMismatchClr (rq : Req) (e : Fin 64) (r : Fin 4) (s : State) : Out :=
  .next (gate rq .eng (writeSigStat e r (fldMask 1 1)) s)

/-- ENG_FLIP_STAT as read (R248): PENDING shows the layers with a pending flip. -/
def flipStatView (s : State) (e : Nat) : Word :=
  let pend := (List.range 4).foldl (fun a l => a + b2n (s.eng.groups.any (fun g => g.members.any (fun m =>
    !m.sig && m.eng == e && m.item == l))) * 2 ^ l) 0
  F.ENG_FLIP_STAT_PENDING.into pend (s.rd R.ENG_FLIP_STAT [e])

end Sys2Proof.Machine
end

