-- ==== Sys2Proof/Machine/Rings.lean ====
section
/-! DEFINITION. Command, completion and event rings (11_command_rings.md): doorbells, enables, fetches, records. -/
namespace Sys2Proof.Machine

/-- A doorbell is discarded in another function's page (R300), where it counts for the function that wrote it, and while the
command processor is held in reset (R303). -/
def doorbellGate (fn page : Nat) (f : State → State) (s : State) : State :=
  if fn = page then (if blkHeld s .cmd then s else f s) else denyWrite fn s

/-- CMD_TAIL doorbell of ring r of partition p (R325, R326, R330). -/
def cmdTail (p r v : Nat) (s : State) : State :=
  let t := v % 2 ^ 15
  if !s.on F.CMD_RING_CFG_EN [p, r] || ringEntries (s.g F.CMD_RING_CFG_SIZE [p, r]) ≤ t then
    (s.p F.CMD_RING_STAT_DB_ERR [p, r] 1).count (8 + p) 1
  else
    let new := s.g F.CMD_RING_PTR_TAIL [p, r] != t
    let b := s.cmd.bells + 1
    let a : List Ann := if new then [⟨p, r, t, b, s.ticks, s.ptp.tc0.ns⟩] else []
    let s1 := s.p F.CMD_RING_PTR_TAIL [p, r] t
    { s1 with cmd := { s1.cmd with bells := b, ann := s1.cmd.ann ++ a } }

/-- CMD_TAIL (R326). -/
def execCmdTail (fn page r : Fin 8) (v : Word) (s : State) : Out :=
  .next (doorbellGate fn page (cmdTail page r v.toNat) s)

/-- CPL_HEAD (R327): a value not below the ring size, or with the ring disabled, is discarded (log 24). -/
def execCplHead (fn page : Fin 8) (v : Word) (s : State) : Out :=
  .next (doorbellGate fn page (fun t =>
    let h := v.toNat % 2 ^ 15
    if t.on F.CMD_CPL_CFG_EN [page] && h < ringEntries (t.g F.CMD_CPL_CFG_SIZE [page])
    then t.p F.CMD_CPL_PTR_HOST_HEAD [page] h else t.count (8 + page) 1) s)

/-- EVT_HEAD (R327). -/
def execEvtHead (fn page : Fin 8) (v : Word) (s : State) : Out :=
  .next (doorbellGate fn page (fun t =>
    let h := v.toNat % 2 ^ 15
    if t.on F.CMD_EVT_CFG_EN [page] && h < ringEntries (t.g F.CMD_EVT_CFG_SIZE [page])
    then t.p F.CMD_EVT_PTR_HOST_HEAD [page] h else t.count (8 + page) 1) s)

/-- Drop what a ring has announced and what is being fetched for it (R323, R417). -/
def dropFlights (q : Nat → Nat → Bool) (s : State) : State :=
  { s with cmd := { s.cmd with flight := s.cmd.flight.filter (fun x => !q x.part x.ring)
                               ann := s.cmd.ann.filter (fun x => !q x.part x.ring) } }

/-- Write of CMD_RING_CFG (R322, R323). -/
def writeRingCfg (p r : Nat) (v : Word) (s : State) : State :=
  let old := s.rd R.CMD_RING_CFG [p, r]
  let new := writtenWord R.CMD_RING_CFG [p, r] v old
  if F.CMD_RING_CFG_EN.of old = 1 then
    let kept := maskIn (fldMask 30 24) new old
    let s1 := s.wr R.CMD_RING_CFG [p, r] kept
    if F.CMD_RING_CFG_EN.of new = 1 then s1 else dropFlights (fun a b => a == p && b == r) s1
  else if F.CMD_RING_CFG_EN.of new = 0 then s.wr R.CMD_RING_CFG [p, r] new
  else
    let ver := F.CMD_RING_CFG_VERSION.of new
    if F.CMD_RING_CFG_SIZE.of new ≤ 11 && decide (1 ≤ ver) && bitOf (s.g F.CMD_CAPS_VERSIONS []) (ver - 1) then
      ((s.wr R.CMD_RING_CFG [p, r] new).wr R.CMD_RING_PTR [p, r] 0).wr R.CMD_RING_SEQ [p, r] 0
    else (s.wr R.CMD_RING_CFG [p, r] (new &&& 0x7FFFFFFF#32)).p F.CMD_RING_STAT_CFG_ERR [p, r] 1

/-- CMD_RING_ENABLE (R322): a write with EN at 1. -/
def execCmdRingEnable (rq : Req) (p r : Fin 8) (v : Word) (s : State) : Out :=
  .next (gatePage rq .cmd p (writeRingCfg p r (v ||| 0x80000000#32)) s)

/-- CMD_RING_DISABLE (R323): a write with EN at 0. -/
def execCmdRingDisable (rq : Req) (p r : Fin 8) (v : Word) (s : State) : Out :=
  .next (gatePage rq .cmd p (writeRingCfg p r (v &&& 0x7FFFFFFF#32)) s)

/-- Write of CMD_CPL_CFG (R322, R323). -/
def writeCplCfg (p : Nat) (v : Word) (s : State) : State :=
  let old := s.rd R.CMD_CPL_CFG [p]
  let new := writtenWord R.CMD_CPL_CFG [p] v old
  if F.CMD_CPL_CFG_EN.of old = 1 then
    let s1 := s.wr R.CMD_CPL_CFG [p] (maskIn (fldMask 27 24) new old)
    if F.CMD_CPL_CFG_EN.of new = 1 then s1 else discardDue p s1
  else if F.CMD_CPL_CFG_EN.of new = 1 && F.CMD_CPL_CFG_SIZE.of new ≤ 11 then
    (s.wr R.CMD_CPL_CFG [p] new).wr R.CMD_CPL_PTR [p] 0x80000000#32
  else s.wr R.CMD_CPL_CFG [p] (new &&& 0x7FFFFFFF#32)

/-- CPL_RING_ENABLE (R322). -/
def execCplRingEnable (rq : Req) (p : Fin 8) (v : Word) (s : State) : Out :=
  .next (gatePage rq .cmd p (writeCplCfg p (v ||| 0x80000000#32)) s)

/-- CPL_RING_DISABLE (R323). -/
def execCplRingDisable (rq : Req) (p : Fin 8) (v : Word) (s : State) : Out :=
  .next (gatePage rq .cmd p (writeCplCfg p (v &&& 0x7FFFFFFF#32)) s)

/-- Write of CMD_EVT_CFG (R322, R323): an event ring that is disabled loses its waiting events, uncounted. -/
def writeEvtCfg (p : Nat) (v : Word) (s : State) : State :=
  let old := s.rd R.CMD_EVT_CFG [p]
  let new := writtenWord R.CMD_EVT_CFG [p] v old
  if F.CMD_EVT_CFG_EN.of old = 1 then
    let s1 := s.wr R.CMD_EVT_CFG [p] (maskIn (fldMask 27 24) new old)
    if F.CMD_EVT_CFG_EN.of new = 1 then s1
    else { s1 with cmd := { s1.cmd with evq := s1.cmd.evq.filter (fun e => e.part != p) } }
  else if F.CMD_EVT_CFG_EN.of new = 1 && F.CMD_EVT_CFG_SIZE.of new ≤ 11 then
    ((s.wr R.CMD_EVT_CFG [p] new).wr R.CMD_EVT_PTR [p] 0x80000000#32).p F.CMD_EVT_STAT_LOST_TOTAL [p] 0
  else s.wr R.CMD_EVT_CFG [p] (new &&& 0x7FFFFFFF#32)

/-- EVT_RING_ENABLE (R322). -/
def execEvtRingEnable (rq : Req) (p : Fin 8) (v : Word) (s : State) : Out :=
  .next (gatePage rq .cmd p (writeEvtCfg p (v ||| 0x80000000#32)) s)

/-- EVT_RING_DISABLE (R323). -/
def execEvtRingDisable (rq : Req) (p : Fin 8) (v : Word) (s : State) : Out :=
  .next (gatePage rq .cmd p (writeEvtCfg p (v &&& 0x7FFFFFFF#32)) s)

/-- Write of CMD_RING_STAT (R361): CLR clears REFUSED, the flags clear by 1. -/
def writeRingStat (p r : Nat) (v : Word) (s : State) : State :=
  let s1 := s.write R.CMD_RING_STAT [p, r] v
  if F.CMD_RING_STAT_CLR.of v = 1 then s1.p F.CMD_RING_STAT_REFUSED [p, r] 0 else s1

/-- RING_REFUSED_CLR (R361). -/
def execRingRefusedClr (rq : Req) (p r : Fin 8) (s : State) : Out :=
  .next (gatePage rq .cmd p (writeRingStat p r (fldMask 5 5)) s)

/-- Entries of a ring being fetched. -/
def inFlight (s : State) (p r : Nat) : Nat :=
  ((s.cmd.flight.filter (fun x => x.part == p && x.ring == r)).map (·.count)).sum

/-- Where the next fetch of a ring starts, and how many entries it may take (R298, R328, R331). -/
def fetchable (s : State) (p r : Nat) : Nat × Nat :=
  let size := ringEntries (s.g F.CMD_RING_CFG_SIZE [p, r])
  let at_ := (s.g F.CMD_RING_PTR_HEAD [p, r] + inFlight s p r) % size
  let avail := (s.g F.CMD_RING_PTR_TAIL [p, r] + size - at_) % size
  let cplSize := ringEntries (s.g F.CMD_CPL_CFG_SIZE [p])
  let room := min (cplSize - 1 - credits s p) (min (s.g F.CMD_PART_QUOTA_QUOTA [p] - credits s p) (65536 - trackUsed s))
  let four := (s.cmd.flight.filter (fun x => x.part == p && x.ring == r)).length < 4
  if s.on F.CMD_RING_CFG_EN [p, r] && s.on F.CMD_CPL_CFG_EN [p] && s.on F.HIF_PART_STAT_BME [p]
      && !s.on F.HIF_PART_STAT_FLR_BUSY [p] && four
  then (at_, min (min avail (size - at_)) (min (min 16 (readMax s p / 64)) room)) else (at_, 0)

/-- The next of eight after the one served last, plus one, that a test picks (R328). -/
def nextOf (last : Nat) (p : Nat → Bool) : Option Nat := ((List.range 8).map (fun i => (last + i) % 8)).find? p

/-- The partition and ring to serve next (R328): partitions round robin, passing over any with nothing fetchable; within one, rings of
the highest PRIO round robin. A turn is one fetch (DESIGN CHOICE, log 119). -/
def nextFetch (s : State) : Option (Nat × Nat) :=
  let can := fun (p r : Nat) => decide (0 < (fetchable s p r).2)
  match nextOf s.cmd.rrPart (fun p => allParts.any (can p)) with
  | none => none
  | some p =>
    let top := allParts.foldl (fun a r => if can p r then max a (s.g F.CMD_RING_CFG_PRIO [p, r]) else a) 0
    (nextOf (getD 0 s.cmd.rrRing p) (fun r => can p r && s.g F.CMD_RING_CFG_PRIO [p, r] == top)).map (fun r => (p, r))

/-- DESCRIPTOR_FETCH (R328): a fetch of n entries of ring r of partition p, if its turn has come. -/
def execDescriptorFetch (p r : Fin 8) (n : Nat) (s : State) : Out :=
  .next (let (at_, most) := fetchable s p r
  if 1 ≤ n && n ≤ most && nextFetch s == some (p.val, r.val) then
    let base := s.g F.CMD_RING_BASE_HI_ADDR_HI [p, r] * 2 ^ 32 + s.g F.CMD_RING_BASE_LO_ADDR_LO [p, r] * 2 ^ 12
    let s1 := { s with cmd := { s.cmd with
      flight := s.cmd.flight ++ [Flight.mk p r at_ n]
      rrPart := (p + 1) % 8
      rrRing := putD 0 s.cmd.rrRing p ((r + 1) % 8) } }
    wakePort 9 (wakePort 2 (s1.emit (.hostRead p (base + 64 * at_) (64 * n))))
  else s)

/-- Registers of the protection set-up (R306): their addresses. -/
def isProt (a : Nat) : Bool :=
  (0x10000 ≤ a && a < 0x11400) || (0x20000 ≤ a && a < 0x21400) || (0x30000 ≤ a && a < 0x30100)
    || (0x40000 ≤ a && a < 0x40080) || (0x601000 ≤ a && a < 0x603000)

/-- One fetched entry: its descriptor, announced by the oldest doorbell write not yet used up (R330). -/
def landEntry (p r size base : Nat) (x : Nat × BitVec 512) (s : State) : State :=
  let a := s.cmd.ann.find? (fun a => a.part == p && a.ring == r)
  let (b, bt, bn) := match a with
    | some a => (a.bell, a.bellTick, a.bellNs)
    | none => (s.cmd.bells, s.ticks, 0)
  let d : Desc := ⟨p, r, x.2, base + 64 * x.1, b, bt, bn, s.regs.filter (fun e => isProt e.1),
    s.g F.CMD_RING_CFG_VERSION [p, r]⟩
  let done := match a with
    | some a => (x.1 + 1) % size == a.tail
    | none => false
  let ann := if done then eraseFirst (fun a => a.part == p && a.ring == r) s.cmd.ann else s.cmd.ann
  let s1 := { s with cmd := { s.cmd with fetched := s.cmd.fetched ++ [d], ann := ann } }
  s1.p F.CMD_RING_PTR_HEAD [p, r] ((x.1 + 1) % size)

/-- The oldest outstanding fetch of a ring returns its entries. -/
def fetchDone (p r : Nat) (data : List (BitVec 512)) (s : State) : State :=
  match s.cmd.flight.find? (fun x => x.part == p && x.ring == r) with
  | none => s
  | some x =>
    if data.length = x.count then
      let size := ringEntries (s.g F.CMD_RING_CFG_SIZE [p, r])
      let base := s.g F.CMD_RING_BASE_HI_ADDR_HI [p, r] * 2 ^ 32 + s.g F.CMD_RING_BASE_LO_ADDR_LO [p, r] * 2 ^ 12
      let s1 := { s with cmd := { s.cmd with flight := eraseFirst (fun y => y.part == p && y.ring == r) s.cmd.flight } }
      let es := ((List.range x.count).map (x.first + ·)).zip data
      (each es (landEntry p r size base) s1).count (32 + 8 * p) x.count
    else s

/-- FETCH_COMPLETE (R328, R306). -/
def execFetchComplete (p r : Fin 8) (data : List (BitVec 512)) (s : State) : Out := .next (fetchDone p r data s)

/-- NOP (R335): accepted; completes with no other effect. -/
def execNop (p r : Fin 8) (s : State) : Out :=
  .next (present p r 0x00 (fun v d => body v d 383 0 != 0) false false (fun _ _ _ => none)
    (fun id _ _ t => finish id 0 0 0 none t) s)

/-- Opcode codes of R335. -/
def knownOpcodes : List Nat :=
  [0x00, 0x01, 0x02, 0x10, 0x11, 0x12, 0x13, 0x14, 0x15, 0x20, 0x21, 0x22, 0x23, 0x30, 0x31, 0x40]

/-- BAD_OPCODE (R335, R334): a descriptor whose code is none of the table's; the version is checked before it. -/
def execBadOpcode (p r : Fin 8) (s : State) : Out :=
  .next (match headDesc s p r with
  | none => s
  | some d =>
    let v := ringVer s p r
    if knownOpcodes.contains (dOpcode d) then s
    else if dBarrier v d && earlierWaits s p d.bell then s.count 100 1
    else refuse v d (if dBits d 3 0 != v then 0x10 else 0x11) 0 (popDesc p r s))

/-- The capability block of R347, as one number. -/
def capsBlock (s : State) (p : Nat) : Nat :=
  0x03 + 0x1152 * 2 ^ 16 + (s.g F.HIF_ID_REV [] + (s.g F.BOOT_VERSION_VERSION [] % 2 ^ 24) * 2 ^ 8) * 2 ^ 32
    + (1280 + 1280 * 2 ^ 16) * 2 ^ 64 + (64 + 80 * 2 ^ 8 + 8 * 2 ^ 16 + 15 * 2 ^ 24) * 2 ^ 96
    + (16384 + 16 * 2 ^ 16 + 16 * 2 ^ 24) * 2 ^ 128
    + ((if s.on F.AUD_CFG_RATE [] then 16384 else 32768) + 4096 * 2 ^ 16) * 2 ^ 160 + (8 + 11 * 2 ^ 8) * 2 ^ 192
    + s.g F.CMD_PART_QUOTA_QUOTA [p] * 2 ^ 224 + (s.planeId + s.planeCode * 2) * 2 ^ 256

/-- QUERY_CAPS (R346, R347): the block is written, then the record. -/
def execQueryCaps (p r : Fin 8) (s : State) : Out :=
  .next (present p r 0x01 (fun v d => body v d 383 64 != 0 || body v d 5 0 != 0) false false (fun _ _ _ => none)
    (fun id v d t => finish id 0 0 0x03 none (t.emit (.hostWrite p (body v d 63 0) 64 (capsBlock t p)))) s)

/-- MARK (R348): accepted; it waits for what earlier doorbell writes announced and, with WAIT_TWIN, for the twin. -/
def execMark (p r : Fin 8) (s : State) : Out :=
  .next (present p r 0x02 (fun v d => body v d 383 33 != 0) false false (fun _ _ _ => none)
    (fun id v d t =>
      let tx := t.g F.RED_REPL_TX_HI_TX [] * 2 ^ 32 + t.g F.RED_REPL_TX_LO_TX []
      { t with cmd := { t.cmd with marks := t.cmd.marks ++ [PendMark.mk id (body v d 31 0) (body v d 32 32 == 1) d.bell tx] } }) s)

/-- A MARK that waits for the twin completes without it (R348): not ACTIVE, or the partner link down. -/
def markNoTwin (s : State) (m : PendMark) : Bool := m.waitTwin && (!s.isActive || !s.on F.RED_PARTNER_STAT_UP [])

/-- The conditions of a MARK of partition p are met (R348). -/
def markReady (s : State) (p : Nat) (m : PendMark) : Bool :=
  let ack := s.g F.RED_REPL_ACK_HI_ACK [] * 2 ^ 32 + s.g F.RED_REPL_ACK_LO_ACK []
  (tokOf s m.tok).any (fun t => t.part == p) && !earlierWaits s p m.bell &&
    (!m.waitTwin || markNoTwin s m || decide (m.rseq ≤ ack))

/-- MARK_COMPLETE (R348): the first MARK of partition p whose conditions are met completes. -/
def execMarkComplete (p : Fin 8) (s : State) : Out :=
  .next (match s.cmd.marks.find? (markReady s p) with
  | none => s
  | some m =>
    finish m.tok 0 0 (m.value + b2n (markNoTwin s m) * 2 ^ 32) none
      { s with cmd := { s.cmd with marks := s.cmd.marks.filter (fun x => x.tok != m.tok) } })

/-- COMPLETION_RECORD_WRITE (R353). -/
def execCompletionRecordWrite (p : Fin 8) (s : State) : Out := .next (writeCplRecord p s)

/-- Room for one record on the event ring (R327). -/
def evtSlotFree (s : State) (p : Nat) : Bool :=
  s.on F.CMD_EVT_CFG_EN [p] && s.on F.HIF_PART_STAT_BME [p] &&
    (s.g F.CMD_EVT_PTR_WRITE [p] + 1) % ringEntries (s.g F.CMD_EVT_CFG_SIZE [p]) != s.g F.CMD_EVT_PTR_HOST_HEAD [p]

/-- EVENT_RECORD_WRITE (R355). -/
def execEventRecordWrite (p : Fin 8) (s : State) : Out :=
  .next (match s.cmd.evq.find? (fun e => e.part == p.val) with
  | none => s
  | some e =>
    if evtSlotFree s p then
      writeEvtRecord e { s with cmd := { s.cmd with evq := eraseFirst (fun x => x.part == p.val) s.cmd.evq } }
    else s)

/-- LOST_ONLY (R356, R358): room has returned, lost events are pending and no event waits. -/
def execLostOnly (p : Fin 8) (s : State) : Out :=
  .next (if 0 < s.g F.CMD_EVT_STAT_PENDING [p] && bitOf (s.g F.CMD_EVT_MASK_MASK [p]) 0 && !(s.cmd.evq.any (fun e => e.part == p.val)) && evtSlotFree s p then
    let k := s.cad (s.g F.CMD_EVT_CFG_CAD [p])
    writeEvtRecord ⟨p, 0, 0, 0, 0, s.ptp.tc0.ns, s.ptp.tc0.sec % 2 ^ 32, k.frame, k.line⟩ s
  else s)

end Sys2Proof.Machine
end

