-- ==== Sys2Proof/Machine/HostIf.lean ====
section
/-! DEFINITION. The host interface (10_host_interface.md): protection writes, function resets, the PCIe link, interrupts,
the interconnect's errors. -/
namespace Sys2Proof.Machine

/-- The register and index of a protection write, and the partitions whose set-up it may change between two words. -/
def protTarget : ProtReg → Reg × List Nat
  | .dstOwn d => (R.HIF_DST_OWN, [d.val])
  | .srcVis i => (R.HIF_SRC_VIS, [i.val])
  | .engAlloc e => (R.HIF_ENG_ALLOC, [e.val])
  | .partFlow p => (R.HIF_PART_FLOW, [p.val])
  | .celBase p => (R.HIF_PART_CEL_BASE, [p.val])
  | .celLimit p => (R.HIF_PART_CEL_LIMIT, [p.val])
  | .audSvis b => (R.AUD_SVIS, [b.val])

/-- The partitions whose set-up a change of a protection register touches (R356). -/
def protParts (k : ProtReg) (old new : Nat) : List Nat :=
  match k with
  | .dstOwn _ => [old % 8, new % 8]
  | .engAlloc _ => [old % 8, new % 8]
  | .srcVis _ => allParts.filter (fun p => bitOf old p != bitOf new p)
  | .audSvis _ => allParts.filter (fun p => bitOf old p != bitOf new p)
  | .partFlow p => [p.val]
  | .celBase p => [p.val]
  | .celLimit p => [p.val]

/-- Count a protection write and raise its event (R306, R356). -/
def protDone (parts : List Nat) (s : State) : State :=
  let s1 := s.inc F.HIF_PROT_STAT_PROT_SEQ [] 1
  raiseEvent 8 0 (s1.g F.HIF_PROT_STAT_PROT_SEQ []) 0 ((0 :: parts).eraseDups) s1

/-- A protection write (R305, R306): one that changes the register is counted in PROT_SEQ; the slots of engine inputs
have no owner of their own to write. -/
def writeProt (k : ProtReg) (v : Word) (s : State) : State :=
  let (r, i) := protTarget k
  let old := s.rd r i
  let new := writtenWord r i v old
  if new = old then s else protDone (protParts k old.toNat new.toNat) (s.wr r i new)

/-- PROTECTION_WRITE (R303, R306): AUD_SVIS is a register of the audio block, the others of the host interface. -/
def execProtectionWrite (rq : Req) (k : ProtReg) (v : Word) (s : State) : Out :=
  .next (gate rq (protTarget k).1.blk (writeProt k v) s)

/-- Restore the registers in a range of BAR0, with their read latches and held writes (R6, R9). -/
def resetRange (lo hi : Nat) (s : State) : State :=
  { s with regs := s.regs.filter (fun e => !(lo ≤ e.1 && e.1 < hi))
           latches := s.latches.filter (fun e => !(lo ≤ e.1.2 && e.1.2 < hi))
           held := s.held.filter (fun e => !(lo ≤ e.1.2 && e.1.2 < hi)) }

/-- Block reset of the partition pages of p in HIF and CMD (R309, R360). -/
def resetPages (p : Nat) (s : State) : State :=
  let q := p % 8
  resetRange (0x100000 + 0x1000 * q) (0x101000 + 0x1000 * q) (resetRange (0x80000 + 0x1000 * q) (0x81000 + 0x1000 * q) s)

/-- Whether fence reads of host memory are outstanding for partition p. -/
def fenceBusy (s : State) (p : Nat) : Bool :=
  (s.eng.engReads ++ s.eng.oldReads).any (fun x => s.eb x.1 (20 + x.2) 31 30 == 1 && s.g F.HIF_ENG_ALLOC_PART [x.1] == p)

/-- Whether host-memory accesses are outstanding for partition p. -/
def hostBusy (s : State) (p : Nat) : Bool :=
  s.cmd.flight.any (fun x => x.part == p) || s.cmd.reads.any (fun x => x.desc.part == p) || fenceBusy s p
    || s.on F.HIF_PART_STAT_FLR_BUSY [p]

/-- Reset the rings of a partition (R309, R360): fetches stop, what is fetched and the records not yet written are
discarded, descriptors accepted go on without records. -/
def resetRings (p : Nat) (s : State) : State :=
  let mine := s.cmd.due.filter (fun x => x.tok.part == p)
  let s1 := dropFlights (fun a _ => a == p) s
  let s2 := { s1 with cmd := { s1.cmd with
    fetched := s1.cmd.fetched.filter (fun d => d.part != p)
    reads := s1.cmd.reads.filter (fun x => x.desc.part != p)
    due := s1.cmd.due.filter (fun x => x.tok.part != p)
    evq := s1.cmd.evq.filter (fun e => e.part != p)
    lostCls := putD 0 s1.cmd.lostCls p 0
    live := s1.cmd.live.map (fun t => if t.part == p then { t with dead := true } else t)
    holdoffs := s1.cmd.holdoffs.filter (fun x => x.part != p)
    unmasked := s1.cmd.unmasked.filter (fun x => x.1 != p)
    msix := s1.cmd.msix.filter (fun x => x.1 / 32 != p)
    msiFor := s1.cmd.msiFor.filter (fun x => x.1 != p)
    pba := s1.cmd.pba.filter (fun x => x.1 != p)
    msiOwed := s1.cmd.msiOwed.filter (fun x => x.1 != p) } }
  each mine (fun x t => sample x.tok x.code true t) s2

/-- Function Level Reset of one function (R6, R309). Its accesses that wait for the cellar are gone (DESIGN CHOICE, log 118); its
Device Control returns to the PCIe defaults. -/
def flrOne (p : Nat) (s : State) : State :=
  let busy := hostBusy s p
  let s1 := resetPages p (resetRings p s)
  let mineL := fun (r : Req) => match r with
    | .part q => q.val == p
    | .mgmt => false
  let s2 := { s1 with latches := s1.latches.filter (fun e => !mineL e.1.1)
                      held := s1.held.filter (fun e => !mineL e.1.1)
                      cel := { s1.cel with wait := s1.cel.wait.filter (fun x => !(x.2.owner.any mineL)) }
                      cmd := { s1.cmd with mps := drop1 s1.cmd.mps p, mrrs := drop1 s1.cmd.mrrs p } }
  s2.p F.HIF_PART_STAT_FLR_BUSY [p] (b2n busy)

/-- FLR (R309): an FLR of the physical function clears VF Enable, and every VF is treated alike. -/
def execFlr (p : Fin 8) (s : State) : Out :=
  .next (if p = 0 then
    each allParts flrOne { s with cmd := { s.cmd with vfEnable := false } }
  else flrOne p s)

/-- FLR_DRAIN_DONE (R309): no access to host memory is outstanding any more. -/
def execFlrDrainDone (p : Fin 8) (s : State) : Out := .next (if fenceBusy s p then s else s.p F.HIF_PART_STAT_FLR_BUSY [p] 0)

/-- BME_CLEAR (R309, R360): fetching stops; what is being fetched is thrown away and fetched again (R417). -/
def execBmeClear (p : Fin 8) (s : State) : Out :=
  .next (let s1 := s.p F.HIF_PART_STAT_BME [p] 0
    { s1 with cmd := { s1.cmd with flight := s1.cmd.flight.filter (fun x => x.part != p.val) } })

/-- BME_SET (R298, R360): the messages held go out; records held follow by COMPLETION_RECORD_WRITE. The sizes are those that the host has
programmed in Device Control of the function by then, and a VF is there only with VF Enable set (DESIGN CHOICE, log 118). -/
def execBmeSet (x : BmeWrite) (s : State) : Out :=
  .next (let p := x.part
    let owed := s.cmd.msiOwed.filter (fun y => y.1 == p.val)
    let s1 := s.p F.HIF_PART_STAT_BME [p] 1
    let s2 := { s1 with cmd := { s1.cmd with
      msiOwed := s1.cmd.msiOwed.filter (fun y => y.1 != p.val)
      mps := put s1.cmd.mps p x.mps.val
      vfEnable := s1.cmd.vfEnable || p != 0
      mrrs := put s1.cmd.mrrs p x.mrrs.val } }
    let s3 := each owed (fun y t => sendMsix y.1 y.2 t) s2
    if p = 0 then hostRings s3 else s3)

/-- The PCIe link goes down (R399, R320). -/
def linkDown (s : State) : State :=
  if s.on F.HIF_LINK_UP [] then level 1 0 true ((s.wr R.HIF_LINK [] 0).count 31 1) else s

/-- PERST_N_ASSERT (R309): the PCIe controller is reset; an FLR of every function together. -/
def execPerstNAssert (s : State) : Out :=
  .next (each allParts flrOne (linkDown { s with cmd := { s.cmd with vfEnable := false, perst := true } }))

/-- PERST_N_DEASSERT (R320, R429): the subsystem IDs written so far take effect; the link trains. -/
def execPerstNDeassert (s : State) : Out :=
  .next { s with cmd := { s.cmd with perst := false, subsys := s.rd R.HIF_SUBSYS [] } }

/-- PCIE_LINK_DOWN (R399). -/
def execPcieLinkDown (s : State) : Out := .next (linkDown s)

/-- PCIE_LINK_UP (R298, R399, R320): the link comes up at a width up to x8 and a speed up to Gen5, which it cannot while PERST_N is
asserted. -/
def execPcieLinkUp (width speed : Nat) (s : State) : Out :=
  .next (if s.cmd.perst || !(width == 1 || width == 2 || width == 4 || width == 8) || speed == 0 || 5 < speed then s
  else level 1 0 false (((s.p F.HIF_LINK_UP [] 1).p F.HIF_LINK_WIDTH [] width).p F.HIF_LINK_SPEED [] speed))

/-- PCIE_AER_ERROR (R399): an uncorrectable error reported for a function. -/
def execPcieAerError (fn : Fin 8) (s : State) : Out := .next (occur 0 fn (s.count 29 1))

/-- IRQ_HOLDOFF_EXPIRY (R319): the hold-off of a cause has run out; a message owed is sent and starts it again. -/
def execIrqHoldoffExpiry (p : Fin 8) (k : Fin 4) (s : State) : Out :=
  .next (match s.cmd.holdoffs.find? (fun x => x.part == p.val && x.cause == k.val) with
  | none => s
  | some x =>
    if s.ticks < x.until_ then s
    else
      let s1 := { s with cmd := { s.cmd with holdoffs := s.cmd.holdoffs.filter (fun y => !(y.part == p.val && y.cause == k.val)) } }
      if x.owed then raiseIrq p k s1 else s1)

/-- MSIX_VECTOR_UNMASK (R299, R319): the host clears the mask of an entry, whose address and data it has written; a pending vector sends
its message. -/
def execMsixVectorUnmask (p : Fin 8) (x : MsixEntry) (s : State) : Out :=
  .next (let v := x.vec
    let s0 := { s with cmd := { s.cmd with msix := put s.cmd.msix (32 * p + v) (x.addr, x.data) } }
    let s1 := if s0.cmd.unmasked.contains (p.val, v.val) then s0
      else { s0 with cmd := { s0.cmd with unmasked := s0.cmd.unmasked ++ [(p.val, v.val)] } }
    if s1.cmd.pba.contains (p.val, v.val) then
      sendMsix p v { s1 with cmd := { s1.cmd with pba := s1.cmd.pba.filter (· != (p.val, v.val)) } }
    else s1)

/-- Write of HIF_PART_STAT (R320). -/
def writePartStat (p : Nat) (v : Word) (s : State) : State :=
  if F.HIF_PART_STAT_CLR.of v = 1 then s.p F.HIF_PART_STAT_WR_DENIED [p] 0 else s

/-- WR_DENIED_CLR (R320). -/
def execWrDeniedClr (rq : Req) (p : Fin 8) (s : State) : Out :=
  .next (gatePage rq .hif p (writePartStat p (fldMask 16 16)) s)

/-- Write of HIF_BDP_STAT (R320). -/
def writeBdpStat (p : Nat) (v : Word) (s : State) : State :=
  let s1 := s.write R.HIF_BDP_STAT [p] v
  if F.HIF_BDP_STAT_CLR.of v = 1 then s1.p F.HIF_BDP_STAT_DENIED [p] 0 else s1

/-- BDP_DENIED_CLR (R320): page 8 is open to the management port and p0. -/
def execBdpDeniedClr (rq : Req) (p : Fin 9) (s : State) : Out :=
  .next (gatePage rq .hif p (writeBdpStat p (fldMask 4 4)) s)

/-- Write of HIF_MGMT_STAT (R320). -/
def writeMgmtStat (v : Word) (s : State) : State :=
  if F.HIF_MGMT_STAT_CLR.of v = 1 then s.p F.HIF_MGMT_STAT_CMD_ERR [] 0 else s

/-- MGMT_CMD_ERR_CLR (R320). -/
def execMgmtCmdErrClr (rq : Req) (s : State) : Out := .next (gate rq .hif (writeMgmtStat (fldMask 16 16)) s)

/-- NOC_PORT_IDLE_ENTRY (R317): an idle port drops to low-power idle. -/
def execNocPortIdleEntry (i : Fin 11) (s : State) : Out :=
  .next (s.p F.NOC_IDLE_IDLE [] (s.g F.NOC_IDLE_IDLE [] ||| 2 ^ i.val))

end Sys2Proof.Machine
end

