-- ==== Sys2Proof/Machine/Audio.lean ====
section
/-! DEFINITION. The commands of the audio matrix (08_audio_matrix.md). -/
namespace Sys2Proof.Machine

/-- AUDIO_SAMPLE_INSTANT (R183): once house time has reached it. -/
def execAudioSampleInstant (s : State) : Out :=
  .next (if s.aud.inst < instNow s && !s.sys.held.contains .aud then audInstant s else s)

/-- DEEMB_GROUP_STOP (R256): absent for one frame of the source's cadence, or VALID 0. -/
def execDeembGroupStop (i : Fin 10240) (g : Fin 8) (s : State) : Out :=
  .next (let d := s.deg i g
    let c := srcCad s (i / 8) (i % 8)
    let gone := linesPassed s c (s.raster c) (s.ticks - d.seen) || !deValid s i
    if (d.run || !d.q.isEmpty || bitOf (s.g F.AUD_DEEMB_STAT_PRESENT [i]) g) && gone then deStop i g s else s)

/-- Write of AUD_CFG (R253). -/
def writeAudCfg (v : Word) (s : State) : State :=
  let r := F.AUD_CFG_RATE.of v
  if r = s.g F.AUD_CFG_RATE [] then s
  else
    let busy := (listed s R.AUD_DEEMB 10240).any (fun x => F.AUD_DEEMB_EN.of x.2 == 1 && !follower (srcSub s) x.1)
      || (listed s R.AUD_REEMB 9216).any (fun x => F.AUD_REEMB_EN.of x.2 == 1 && !follower (dstSub s) x.1)
      || (List.range 16).any (fun t => s.on F.AUD_TDM_CFG_EN [t])
      || s.flw.tbl.any (fun x => fValid x.2 && fKind x.2 == 1) || !s.aud.pend.isEmpty
    if busy then (s.p F.AUD_STAT_CFG_ERR [] 1).count 359 1 else audStep (s.p F.AUD_CFG_RATE [] r)

/-- AUDIO_RATE_WRITE (R253). -/
def execAudioRateWrite (rq : Req) (v : Word) (s : State) : Out := .next (gate rq .aud (writeAudCfg v) s)

/-- A map write is refused (R250, R258). -/
def mapErr (s : State) : State := s.p F.AUD_STAT_MAP_ERR [] 1

/-- Write of AUD_DEEMB (R250, R278). An entry at a follower is ignored (R249): it is no producer, whatever channels it names (DEDUCED,
log 116). -/
def writeDeemb (i : Nat) (v : Word) (s : State) : State :=
  let w := writtenWord R.AUD_DEEMB [i] v (s.rd R.AUD_DEEMB [i])
  let n := F.AUD_DEEMB_GROUPS.of w
  if F.AUD_DEEMB_EN.of w = 1 && (n = 0 || 8 < n || (!follower (srcSub s) i && !runFree s 0 i (F.AUD_DEEMB_CHAN_BASE.of w) (4 * n)))
  then mapErr s
  else if w = s.rd R.AUD_DEEMB [i] then s
  else
    let s1 := each ((List.range 8).filter (fun g => F.AUD_DEEMB_EN.of w = 0 || n ≤ g)) (fun g t => deStop i g t) s
    s1.wr R.AUD_DEEMB [i] w

/-- Whether a re-embedder reads only blocks of its destination signal's cadence (R258). -/
def reembedCads (s : State) (i : Nat) (w : Word) : Bool :=
  F.AUD_REEMB_EN.of w == 0 || follower (dstSub s) i || (List.range (4 * F.AUD_REEMB_GROUPS.of w)).all (fun j =>
    s.g F.AUD_DCAD_CAD [(F.AUD_REEMB_CHAN_BASE.of w + j) / 32 % 1024] == dstCad s (i / 8) (i % 8))

/-- Write of AUD_REEMB (R258, R278). -/
def writeReemb (i : Nat) (v : Word) (s : State) : State :=
  let w := writtenWord R.AUD_REEMB [i] v (s.rd R.AUD_REEMB [i])
  let n := F.AUD_REEMB_GROUPS.of w
  if F.AUD_REEMB_EN.of w = 1 && (n = 0 || 8 < n ||
    (!follower (dstSub s) i && decide (audChans s < F.AUD_REEMB_CHAN_BASE.of w + 4 * n)) || !reembedCads s i w)
  then mapErr s
  else
    let s1 := s.wr R.AUD_REEMB [i] w
    if F.AUD_REEMB_EN.of w = 0 then { s1 with aud := { s1.aud with re := drop1 s1.aud.re i } } else s1

/-- Write of AUD_TDM_MAP (R250). -/
def writeTdmMap (t : Nat) (v : Word) (s : State) : State :=
  let w := writtenWord R.AUD_TDM_MAP [t] v (s.rd R.AUD_TDM_MAP [t])
  let n := tdmSlots s t
  let badIn := F.AUD_TDM_MAP_IN_EN.of w = 1 && !runFree s 1 t (F.AUD_TDM_MAP_IN_BASE.of w) n
  let badOut := F.AUD_TDM_MAP_OUT_EN.of w = 1 && decide (audChans s < F.AUD_TDM_MAP_OUT_BASE.of w + n)
  if badIn || badOut then mapErr s else s.wr R.AUD_TDM_MAP [t] w

/-- AUDIO_MAP_WRITE (R250): `which` is 0 AUD_DEEMB, 1 AUD_REEMB, 2 AUD_TDM_MAP; an index outside its array names no register
(R2, R4). -/
def execAudioMapWrite (rq : Req) (which : Fin 3) (i : Fin 10240) (v : Word) (s : State) : Out :=
  .next (gate rq .aud (fun t => match which with
    | 0 => writeDeemb i v t
    | 1 => if i.val < 9216 then writeReemb i v t else t
    | 2 => if i.val < 16 then writeTdmMap i v t else t) s)

/-- Write of AUD_DCAD (R258, R306). -/
def writeDcad (b : Nat) (v : Word) (s : State) : State :=
  let old := s.rd R.AUD_DCAD [b]
  let new := writtenWord R.AUD_DCAD [b] v old
  if new = old then s
  else
    let busy := s.aud.pend.any (fun t => runsMeet t.n t.c (32 * b) 32)
    let s1 := s.wr R.AUD_DCAD [b] new
    let err := (listed s R.AUD_REEMB 9216).any (fun x => runsMeet (F.AUD_REEMB_CHAN_BASE.of x.2) (4 * F.AUD_REEMB_GROUPS.of x.2) (32 * b) 32
      && !reembedCads s1 x.1 x.2)
    if busy || err then when err mapErr (when busy (fun t => t.p F.AUD_STAT_MAP_BUSY [] 1) s)
    else if F.AUD_DCAD_PART.of new = F.AUD_DCAD_PART.of old then s1
    else protDone [F.AUD_DCAD_PART.of old, F.AUD_DCAD_PART.of new] s1

/-- AUD_DCAD_WRITE (R258). -/
def execAudDcadWrite (rq : Req) (b : Fin 1024) (v : Word) (s : State) : Out := .next (gate rq .aud (writeDcad b v) s)

/-- Write of AUD_TDM_CFG (R270): codes that the table refuses, a frame that does not fit, or a change of a field other than EN
and ACTIVE_ONLY while EN is 1. -/
def writeTdmCfg (t : Nat) (v : Word) (s : State) : State :=
  let old := s.rd R.AUD_TDM_CFG [t]
  let new := writtenWord R.AUD_TDM_CFG [t] v old
  let w := F.AUD_TDM_CFG_WIDTH.of new
  let f := F.AUD_TDM_CFG_FRAME_BITS.of new
  let fits := decide (w ≤ 2) && decide (f ≤ 4) && decide ((F.AUD_TDM_CFG_SLOTS.of new + 1) * tdmWidth w ≤ tdmBits f)
    && decide (F.AUD_TDM_CFG_OFFSET.of new < tdmBits f) && decide (tdmBits f * audRate s ≤ 49152000)
  let same := (old &&& 0x5FFFFFFF#32) == (new &&& 0x5FFFFFFF#32)
  if !fits || (F.AUD_TDM_CFG_EN.of old = 1 && !same) then s.p F.AUD_TDM_STAT_CFG_ERR [t] 1 else s.wr R.AUD_TDM_CFG [t] new

/-- TDM_CFG_WRITE (R270). -/
def execTdmCfgWrite (rq : Req) (t : Fin 16) (v : Word) (s : State) : Out := .next (gate rq .aud (writeTdmCfg t v) s)

/-- TDM_PORT_START (R273, R275): an enabled port starts at a block boundary; an external port's blocks begin with its first
frame. -/
def execTdmPortStart (t : Fin 16) (s : State) : Out :=
  .next (if s.on F.AUD_TDM_CFG_EN [t] && !tdmRuns s t && (tdmExt s t || s.aud.inst % 48 == 0) then
    (s.p F.AUD_TDM_STAT_RUNNING [t] 1).setTdm t { good := (s.tdm t).good }
  else s)

/-- TDM_PORT_STOP (R273): at the end of the frame in progress. -/
def execTdmPortStop (t : Fin 16) (s : State) : Out :=
  .next (if !s.on F.AUD_TDM_CFG_EN [t] && tdmRuns s t then
    ((s.p F.AUD_TDM_STAT_RUNNING [t] 0).p F.AUD_TDM_STAT_DRIVING [t] 0).setTdm t { good := (s.tdm t).good }
  else s)

/-- A frame of a running port (R271 to R275). An external port's DOUT carries the matrix's samples from its first frame on, by its
buffer once that runs. -/
def tdmFrame (t : Nat) (din : List Bool) (s : State) : State :=
  let x := s.tdm t
  let k := s.aud.inst
  let ext := tdmExt s t
  let slots := tdmRead s t din
  let drive := (if s.on F.AUD_TDM_CFG_ACTIVE_ONLY [t] then s.isActive else true) && !fatalHeld s
  let tc := if s.on F.AUD_TDM_CFG_DOMAIN [t] then s.ptp.tc1 else s.ptp.tc0
  let starts := if ext then x.frames % 48 == 0 else k % 48 == 0
  let x1 := { x with frames := x.frames + 1, at_ := some k, block := if starts then some (tc.sec, tc.ns) else x.block }
  let s1 := s.p F.AUD_TDM_STAT_DRIVING [t] (b2n drive)
  if !ext then tdmSend t drive (tdmOut s t s.aud.dst2) (s1.setTdm t { x1 with inWait := x1.inWait ++ [(k + 2, x.frames, slots)] })
  else
    let full := decide (4 ≤ x1.inQ.length)
    let x2 := if full then x1 else { x1 with inQ := x1.inQ ++ [(x.frames, slots)] }
    let (fr, q, slip) := match x2.outQ with
      | f :: q => (f, q, false)
      | [] => (x2.outLast, [], true)
    let x3 := if x2.outRun then { x2 with outQ := q, outLast := fr } else x2
    let out := if x2.outRun then fr else tdmOut s t s.aud.dst2
    tdmSend t drive out (when (x2.outRun && slip) (tdmSlip t) (when full (tdmSlip t) (s1.setTdm t x3)))

/-- Frames of a port that carry the samples of R252 in place of the frame with number n. -/
def blankFrame (n : Nat) (x : TdmPort) : TdmPort :=
  let blank := fun (f : Nat × List Nat) => if f.1 = n then (n, []) else f
  { x with inQ := x.inQ.map blank, inLast := blank x.inLast, inWait := x.inWait.map (fun w => (w.1, blank w.2)) }

/-- TDM_FRAME (R268, R269, R271, R272): a cycle in which a frame may begin, with the levels of FSYNC at BCLK's rising and falling edge,
and those of DIN from it on, the cycles of the next frame that slots wrap into among them. An external port's frame begins where it
samples FSYNC active; an internal port has one frame for each sample instant. -/
def execTdmFrame (t : Fin 16) (pins : TdmPins) (s : State) : Out :=
  .next (let x := s.tdm t
    let begins := if tdmExt s t then tdmSample s t pins.fs != s.on F.AUD_TDM_CFG_FS_POL [t] else tdmRuns s t && x.at_ != some s.aud.inst
    if !begins then s
    else
      let s1 := s.setTdm t { x with good := min 5 (x.good + 1) }
      let s2 := when (decide (4 ≤ x.good)) (fun u => u.p F.AUD_TDM_STAT_CLK_OK [t] 1) s1
      if tdmRuns s2 t then tdmFrame t (pins.din.map (tdmSample s t)) s2 else s2)

/-- TDM_FSYNC_ERROR (R271): the port resynchronises to an FSYNC out of its place, whose frame begins with the next TDM_FRAME; the frame
it broke carries the samples of R252, wherever it has got to. -/
def execTdmFsyncError (t : Fin 16) (s : State) : Out :=
  .next (if !tdmExt s t then s
  else
    let x := s.tdm t
    let y := if x.frames = 0 then x else blankFrame (x.frames - 1) x
    let s1 := (s.setTdm t { y with good := 0 }).p F.AUD_TDM_STAT_CLK_OK [t] 0
    let s2 := (s1.p F.AUD_TDM_STAT_FS_ERR [t] 1).count (328 + t) 1
    if tdmRuns s2 t then occur 98 t s2 else s2)

/-- TDM_CLK_LOSS (R271). -/
def execTdmClkLoss (t : Fin 16) (s : State) : Out :=
  .next (let was := s.on F.AUD_TDM_STAT_CLK_OK [t]
    let s1 := ((s.setTdm t { s.tdm t with good := 0 }).p F.AUD_TDM_STAT_CLK_OK [t] 0).count 352 1
    if was && tdmRuns s1 t && tdmExt s1 t then occur 98 t s1 else s1)

/-- TDM_BLOCK_START (R275): the block that a frame began is recorded. -/
def execTdmBlockStart (t : Fin 16) (s : State) : Out :=
  .next (let x := s.tdm t
    match x.block with
    | none => s
    | some (sec, ns) =>
      let s1 := ((s.p F.AUD_TDM_TS_NS_NS [t] ns).p F.AUD_TDM_TS_SEC_LO_SEC_LO [t] sec).p F.AUD_TDM_TS_SEC_HI_SEC_HI [t] (sec / 2 ^ 32)
      ((s1.p F.AUD_TDM_TS_BLOCK_BLOCK [t] x.blocks).setTdm t { x with block := none, blocks := x.blocks + 1 }).count 353 1)

/-- Write of AUD_POOL (R278). -/
def writePool (v : Word) (s : State) : State :=
  if F.AUD_POOL_CLR.of v = 1 then (s.p F.AUD_POOL_PEAK [] 0).p F.AUD_STAT_CUTS [] 0 else s

/-- AUD_POOL_CLR (R278). -/
def execAudPoolClr (rq : Req) (s : State) : Out := .next (gate rq .aud (writePool (fldMask 31 31)) s)

/-- Write of AUD_TDM_STAT (R278). -/
def writeTdmStat (t : Nat) (v : Word) (s : State) : State :=
  let s1 := s.write R.AUD_TDM_STAT [t] v
  if F.AUD_TDM_STAT_CLR.of v = 1 then s1.p F.AUD_TDM_STAT_SLIPS [t] 0 else s1

/-- TDM_SLIPS_CLR (R278). -/
def execTdmSlipsClr (rq : Req) (t : Fin 16) (s : State) : Out := .next (gate rq .aud (writeTdmStat t (fldMask 26 26)) s)

/-- Write of AUD_DEEMB_STAT (R278). -/
def writeDeembStat (i : Nat) (v : Word) (s : State) : State :=
  let s1 := s.write R.AUD_DEEMB_STAT [i] v
  if F.AUD_DEEMB_STAT_CLR.of v = 1 then s1.p F.AUD_DEEMB_STAT_SLIPS [i] 0 else s1

/-- DEEMB_SLIPS_CLR (R278). -/
def execDeembSlipsClr (rq : Req) (i : Fin 10240) (s : State) : Out := .next (gate rq .aud (writeDeembStat i (fldMask 3 3)) s)

/-- Write of AUD_REEMB_STAT (R278). -/
def writeReembStat (i : Nat) (v : Word) (s : State) : State :=
  if F.AUD_REEMB_STAT_CLR.of v = 1 then s.p F.AUD_REEMB_STAT_SKIPPED [i] 0 else s

/-- REEMB_SKIPPED_CLR (R278). -/
def execReembSkippedClr (rq : Req) (i : Fin 9216) (s : State) : Out := .next (gate rq .aud (writeReembStat i (fldMask 0 0)) s)

/-- Body fields of AUDIO_TAKE (R341). -/
def atN (v : Nat) (d : Desc) : Nat := body v d 78 64
def atC (v : Nat) (d : Desc) : Nat := body v d 87 79
def atSrc (v : Nat) (d : Desc) : Option Nat := if body v d 103 103 = 1 then none else some (body v d 102 88)
def atFade (v : Nat) (d : Desc) : Nat := if body v d 104 104 = 1 then body v d 111 105 else 0

/-- Blocks of 32 channels that a run touches. -/
def blocksOf (n c : Nat) : List Nat := (List.range ((n + c - 1) / 32 - n / 32 + 1)).map (n / 32 + ·)

/-- AUDIO_PARTITION (R260, R304). -/
def audPartition (v : Nat) (d : Desc) : Bool :=
  d.part == 0 || ((blocksOf (atN v d) (atC v d)).all (fun b => gIn d.prot F.AUD_DCAD_PART [b % 1024] == d.part) &&
    (match atSrc v d with
     | none => true
     | some m => (blocksOf m (atC v d)).all (fun b => bitOf (gIn d.prot F.AUD_SVIS_VIS [b % 1024]) d.part)))

/-- AUDIO_RANGE (R260). -/
def audRange (s : State) (v : Nat) (d : Desc) : Bool :=
  let c := atC v d
  c == 0 || decide (256 < c) || decide (audChans s < atN v d + c)
    || (match atSrc v d with
      | some m => decide (audChans s < m + c)
      | none => false)
    || (body v d 104 104 == 1 && (atFade v d == 0 || decide (64 < atFade v d)))

/-- The checks of an AUDIO_TAKE in the order of R83, with those of R260 first (DEDUCED, log 47); else its stamp. -/
def audCheck (s : State) (v : Nat) (d : Desc) : Except Nat (Option (Stamp × Bool)) :=
  let n := atN v d
  let c := s.g F.AUD_DCAD_CAD [n / 32]
  let key : SalvoKey := ⟨d.part, cbSalvo v d⟩
  let inSalvo := cbMode v d == 2
  if audRange s v d then .error 0x51
  else if !(blocksOf n (atC v d)).all (fun b => s.g F.AUD_DCAD_CAD [b] == c) then .error 0x2C
  else if !cadOn s c then .error 0x28
  else match (if inSalvo then Except.ok none else (stampOf s v d c false).map some) with
    | .error e => .error e
    | .ok st =>
      if s.on F.XPT_BANK_CTRL_IMAGE_OPEN [] then .error 0x2A
      else if s.aud.pend.any (fun t => runsMeet t.n t.c n (atC v d) && (match t.salvo with
          | some k => !(inSalvo && k == key)
          | none => false)) then .error 0x2B
      else if inSalvo && (match salvoOf s key with
          | some x => x.cad != c
          | none => false) then .error 0x2C
      else if inSalvo && (match salvoOf s key with
          | some x => x.commit.isSome
          | none => true) then .error 0x2D
      else .ok st

/-- The statuses of an AUDIO_TAKE after the general ones (R334). -/
def audOwn (v : Nat) (d : Desc) (s : State) : Option (Nat × Nat) :=
  if !audPartition v d then some (0x50, 0)
  else match audCheck s v d with
    | .error e => some (e, 0)
    | .ok _ => none

/-- Carry out an accepted AUDIO_TAKE (R259, R380). -/
def audGo (id v : Nat) (d : Desc) (s : State) : State :=
  let x := fun (st : Stamp) (late : Bool) (sv : Option SalvoKey) => PendAud.mk id (atN v d) (atC v d) (atSrc v d) (atFade v d) st late sv
  match audCheck s v d with
  | .error _ => s
  | .ok (some (st, late)) => forward v d (some st) late [] (stageAud (x st late none) s)
  | .ok none =>
    forward v d none false []
      (stageAud (x ⟨s.g F.AUD_DCAD_CAD [atN v d / 32], 0, 0, false⟩ false (some ⟨d.part, cbSalvo v d⟩)) s)

/-- AUDIO_TAKE (R259). -/
def execAudioTake (p r : Fin 8) (s : State) : Out :=
  .next (present p r 0x13 (fun v d => cbBad [0, 1, 2] true v d || body v d 383 112 != 0) false true audOwn audGo s)

/-- A read of AUD_TDM_TS_NS (R276). -/
def readTdmTs (rq : Req) (t : Nat) (s : State) : State :=
  let s1 := latch rq R.AUD_TDM_TS_BLOCK [t] (s.rd R.AUD_TDM_TS_BLOCK [t]) s
  let s2 := latch rq R.AUD_TDM_TS_SEC_HI [t] (s.rd R.AUD_TDM_TS_SEC_HI [t]) s1
  answer rq (R.AUD_TDM_TS_NS.addr [t]) (s.rd R.AUD_TDM_TS_NS [t])
    (latch rq R.AUD_TDM_TS_SEC_LO [t] (s.rd R.AUD_TDM_TS_SEC_LO [t]) s2)

/-- TDM_TS_READ (R276). -/
def execTdmTsRead (rq : Req) (t : Fin 16) (s : State) : Out :=
  .next (readHeld .aud rq (R.AUD_TDM_TS_NS.addr [t]) (readTdmTs rq t) s)

end Sys2Proof.Machine
end

