-- ==== Sys2Proof/Machine/Ecdsa.lean ====
section
/-! DEFINITION. Verification of ECDSA signatures over P-256 with SHA-256 (FIPS 186-5, named by R439), in Jacobian coordinates. -/
namespace Sys2Proof.Machine

/-- The field prime, the group order and the coefficient b of P-256 (a is −3). -/
def p256 : Nat := 0xffffffff00000001000000000000000000000000ffffffffffffffffffffffff
def n256 : Nat := 0xffffffff00000000ffffffffffffffffbce6faada7179e84f3b9cac2fc632551
def b256 : Nat := 0x5ac635d8aa3a93e7b3ebbd55769886bc651d06b0cc53b0f63bce3c3e27d2604b

/-- The base point of P-256. -/
def g256 : Nat × Nat :=
  (0x6b17d1f2e12c4247f8bce6e563a440f277037d812deb33a0f4a13945d898c296,
   0x4fe342e2fe1a7f9b8ee7eb4a7c0f9e162bce33576b315ececbb6406837bf51f5)

/-- Power modulo m: `fuel` bits of the exponent from the lowest up. -/
def powMod (m : Nat) : Nat → Nat → Nat → Nat → Nat
  | 0, _, _, acc => acc
  | f + 1, b, e, acc => powMod m f (b * b % m) (e / 2) (if e % 2 = 1 then acc * b % m else acc)

/-- Inverse modulo a prime of 256 bits. -/
def invMod (m a : Nat) : Nat := powMod m 256 (a % m) (m - 2) 1

/-- Twice a point (X, Y, Z); Z = 0 is the point at infinity. -/
def dbl256 (q : Nat × Nat × Nat) : Nat × Nat × Nat :=
  let (x, y, z) := q
  let z2 := z * z % p256
  let m := 3 * (x + p256 - z2) * (x + z2) % p256
  let y2 := y * y % p256
  let t := 4 * x * y2 % p256
  let x3 := (m * m + 2 * (p256 - t)) % p256
  let y3 := (m * (t + p256 - x3) + 8 * (p256 * p256 - y2 * y2)) % p256
  (x3, y3, 2 * y * z % p256)

/-- The sum of two points. -/
def add256 (a b : Nat × Nat × Nat) : Nat × Nat × Nat :=
  let (x1, y1, z1) := a
  let (x2, y2, z2) := b
  if z1 = 0 then b else if z2 = 0 then a
  else
    let u1 := x1 * (z2 * z2 % p256) % p256
    let u2 := x2 * (z1 * z1 % p256) % p256
    let s1 := y1 * (z2 * z2 % p256 * z2 % p256) % p256
    let s2 := y2 * (z1 * z1 % p256 * z1 % p256) % p256
    if u1 = u2 then (if s1 = s2 then dbl256 a else (1, 1, 0))
    else
      let h := (u2 + p256 - u1) % p256
      let r := (s2 + p256 - s1) % p256
      let h2 := h * h % p256
      let h3 := h2 * h % p256
      let v := u1 * h2 % p256
      let x3 := (r * r + (p256 - h3) + 2 * (p256 - v)) % p256
      let y3 := (r * (v + p256 - x3) + (p256 * p256 - s1 * h3)) % p256
      (x3, y3, h * z1 % p256 * z2 % p256)

/-- Multiple of a point: `fuel` bits of the factor from the lowest up. -/
def mul256 : Nat → Nat → Nat × Nat × Nat → Nat × Nat × Nat → Nat × Nat × Nat
  | 0, _, _, acc => acc
  | f + 1, k, q, acc => mul256 f (k / 2) (dbl256 q) (if k % 2 = 1 then add256 acc q else acc)

/-- Verify a signature of 64 bytes (r and s big-endian) by an uncompressed point of 65 bytes over a message. -/
def ecdsaVerify (key sig msg : List Byte) : Bool :=
  let r := ofBE (sig.take 32)
  let s := ofBE ((sig.drop 32).take 32)
  let x := ofBE ((key.drop 1).take 32)
  let y := ofBE ((key.drop 33).take 32)
  if key.length != 65 || key.headD 0 != 4 || sig.length != 64 || p256 ≤ x || p256 ≤ y
      || (y * y + 3 * x) % p256 != (x * x % p256 * x + b256) % p256
      || r == 0 || s == 0 || n256 ≤ r || n256 ≤ s then false
  else
    let w := invMod n256 s
    let e := ofBE (sha256 msg)
    let (gx, gy) := g256
    let (px, _, pz) := add256 (mul256 256 (e * w % n256) (gx, gy, 1) (0, 0, 0)) (mul256 256 (r * w % n256) (x, y, 1) (0, 0, 0))
    let iz := invMod p256 pz
    pz != 0 && px * (iz * iz % p256) % p256 % n256 == r

end Sys2Proof.Machine
end

