-- ==== Sys2Proof/Machine/SigOps.lean ====
section
/-! DEFINITION. Line signatures (R389, R390). -/
namespace Sys2Proof.Machine

/-- Two signatures are of the same record: slot, base, frame and LINE. -/
def sameRecord (a b : SigRec) : Bool := a.d == b.d && a.m == b.m && a.frame == b.frame && a.line == b.line

/-- Compare this device's signature with the active's (R390). A run raised reads 256 in `runs`, more than PERSIST can be, until a match
ends it, whatever PERSIST is written to meanwhile. -/
def compareSig (a b : SigRec) (s : State) : State :=
  if a.forced || b.forced then s
  else
    let key := 8 * a.d + a.m
    let s1 := s.count 450 1
    let n := getD 0 s1.red.runs key
    let per := s1.g F.RED_SIG_CFG_PERSIST []
    if a.crc = b.crc then
      let s2 := { s1 with red := { s1.red with runs := drop1 s1.red.runs key } }
      if 256 ≤ n then s2.p F.RED_SIG_STAT_MISMATCHING [] (s2.g F.RED_SIG_STAT_MISMATCHING [] - 1) else s2
    else
      let starts := decide (n < 256 ∧ per ≤ n + 1)
      let s2 := { s1.count 451 1 with red := { s1.red with runs := put s1.red.runs key (if starts || 256 ≤ n then 256 else n + 1) } }
      if starts then
        let s3 := (s2.bump F.RED_SIG_CNT_RUNS [] 1).count 452 1
        let s4 := s3.p F.RED_SIG_STAT_MISMATCHING [] (s3.g F.RED_SIG_STAT_MISMATCHING [] + 1)
        let s5 := if s4.on F.RED_SIG_STAT_FIRST_VALID [] then s4
          else ((s4.p F.RED_SIG_STAT_FIRST_VALID [] 1).p F.RED_SIG_STAT_FIRST_SLOT [] a.d).p F.RED_SIG_STAT_FIRST_BASE [] a.m
        occur 315 key s5
      else s2

/-- Whether this device compares signatures (R390). -/
def comparesSigs (s : State) : Bool := s.red.plane == .standby && s.on F.RED_SIG_CFG_EN []

/-- The 8 line periods of a signature's cadence have passed since a tick (R390). -/
def sigOld (s : State) (x : SigRec × Nat) : Bool := linesPassed s (dstCad s x.1.d x.1.m) 8 (s.ticks - x.2)

/-- A line signature of this device (R389, R390): an ACTIVE device sends it; a STANDBY device compares it with the active's, or
holds it. -/
def sigMade (x : SigRec) (s : State) : State :=
  if s.isActive then (if s.on F.RED_PARTNER_STAT_UP [] then s.tell (.sig x) else s)
  else if comparesSigs s then
    match s.red.twinSigs.find? (fun y => sameRecord x y.1) with
    | some y => compareSig x y.1 { s with red := { s.red with twinSigs := s.red.twinSigs.filter (fun z => !sameRecord x z.1) } }
    | none => { s with red := { s.red with sigs := s.red.sigs ++ [(x, s.ticks)] } }
  else s

/-- A signature of the active (R390). One that comes before this device's own waits for it for as long. -/
def sigReceived (y : SigRec) (s : State) : State :=
  if comparesSigs s then
    match s.red.sigs.find? (fun x => sameRecord x.1 y) with
    | some x => compareSig x.1 y { s with red := { s.red with sigs := s.red.sigs.filter (fun z => !sameRecord z.1 y) } }
    | none => { s with red := { s.red with twinSigs := s.red.twinSigs.filter (fun z => !sigOld s z) ++ [(y, s.ticks)] } }
  else s

/-- This device's signature of the destination signal (d, m) held longest is 8 line periods old (R390). -/
def sigMissing (d m : Nat) (s : State) : State :=
  match s.red.sigs.find? (fun x => x.1.d == d && x.1.m == m) with
  | none => s
  | some x =>
    if sigOld s x then
      (({ s with red := { s.red with sigs := s.red.sigs.filter (fun z => !sameRecord z.1 x.1) } }).bump
        F.RED_SIG_CNT_MISSING [] 1).count 453 1
    else s

end Sys2Proof.Machine
end

