-- ==== Sys2Proof/Machine/ZlOps.lean ====
section
/-! DEFINITION. The Zwialnik Link (R103 to R126): line coding, the frame check, a received frame's header and blocks, and the
frame a lane sends. -/
namespace Sys2Proof.Machine

/-- The bits of a number, most significant first. -/
def msbBits (n v : Nat) : List Bool := (List.range n).map (fun i => v.testBit (n - 1 - i))

/-- The number of bits given most significant first. -/
def ofMsb (l : List Bool) : Nat := l.foldl (fun a b => 2 * a + b2n b) 0

/-- One step of the generator x³¹ + x²⁸ + 1 (R104): its output is the state's last stage (DEDUCED, log 48). -/
def scrStep (g : BitVec 31) : Bool × BitVec 31 :=
  (g.getLsbD 30, (g <<< 1) ||| (if g.getLsbD 30 != g.getLsbD 27 then 1#31 else 0#31))

/-- Scramble or descramble the bits of a frame (R104). -/
def scramble (bits : List Bool) : List Bool :=
  (bits.foldl (fun (a : List Bool × BitVec 31) b => let (o, g) := scrStep a.2; ((b != o) :: a.1, g)) ([], BitVec.allOnes 31)).1.reverse

/-- Stuff line bits (R105): after 24 identical bits one of the opposite value. The second result counts the bits stuffed. -/
def stuff (bits : List Bool) : List Bool × Nat :=
  let r := bits.foldl (fun (a : List Bool × Bool × Nat × Nat) b =>
    let (out, v, c, n) := a
    let c1 := if c != 0 && b == v then c + 1 else 1
    if c1 = 24 then ((!b) :: b :: out, !b, 1, n + 1) else (b :: out, b, c1, n)) ([], false, 0, 0)
  (r.1.reverse, r.2.2.2)

/-- Remove stuffed bits (R105). The second result counts stuffing violations. -/
def destuff (line : List Bool) : List Bool × Nat :=
  let r := line.foldl (fun (a : List Bool × Bool × Nat × Nat) b =>
    let (out, v, c, n) := a
    if c = 24 then (out, b, 1, n + b2n (b == v))
    else (b :: out, b, (if c != 0 && b == v then c + 1 else 1), n)) ([], false, 0, 0)
  (r.1.reverse, r.2.2.2)

/-- The payload blocks of a frame's bits after the header. -/
def zlBlocks : Nat → List Bool → List BusWord
  | 0, _ => []
  | n + 1, b =>
    let x := b.take 128
    BitVec.ofNat 128 (ofMsb x * 2 ^ (128 - x.length)) :: zlBlocks n (b.drop 128)

/-- FCRC (R108): over header bits [63:16] and the previous frame's blocks. -/
def fcrc (header : Nat) (prev : List BusWord) : Nat :=
  (crc16 (beBytes 6 (header / 2 ^ 16) ++ prev.flatMap (fun w => beBytes 16 w.toNat))).toNat

/-- A lane's data. -/
def State.lane (s : State) (n : Nat) : LaneHid := getD {} s.zl.lanes n
def State.setLane (s : State) (n : Nat) (x : LaneHid) : State := { s with zl := { s.zl with lanes := putD {} s.zl.lanes n x } }

/-- Whether a lane runs ZL (R96). -/
def runsZl (s : State) (n : Nat) : Bool := s.g F.ZL_QUAD_CFG_MODE [n / 4] == 0

/-- The OFFER the device sends (R126). -/
def myOffer (s : State) : Nat := if s.g F.ZL_CFG_MAX_VER [] = 1 then 1 else 2

/-- Count in a lane's error register and device-wide (R133). -/
def laneErr (n : Nat) (f : FR) (ev : Nat) (s : State) : State := (s.bump f [n] 1).count ev 1

/-- The received signal (slot, base). -/
def State.rxSig (s : State) (slot m : Nat) : RxSig := getD {} s.zl.rx (8 * slot + m)
def State.setRxSig (s : State) (slot m : Nat) (x : RxSig) : State := { s with zl := { s.zl with rx := putD {} s.zl.rx (8 * slot + m) x } }

/-- The record in progress is closed (R115, R119): its EOR word is the last one placed. -/
def closeRecord (slot m : Nat) (x : RxSig) (s : State) : State :=
  let s1 := s.setRxSig slot m { x with open_ := false }
  if x.placed.isEmpty then s1
  else { s1 with zl := { s1.zl with ready := s1.zl.ready ++ [(8 * slot + m, ⟨x.line, x.frame, x.cls, x.member, x.placed⟩)] } }

/-- Whether the PCRC of a descriptor agrees with the record before (R116, R117). -/
def pcrcOk (ver : Nat) (d : Nat) (ws : List BusWord) : Bool :=
  if ver = 1 then bitsOf d 55 40 == (crc16 (ws.flatMap wordBytes)).toNat else bitsOf d 71 40 == (recCrc ws).toNat

/-- A descriptor (R115 to R119, R121). Its PCRC is read in the version this lane has settled on, also while the far end sends USE 0 and
builds version 1 (DESIGN CHOICE, log 101). Words that follow a descriptor discarded for its CLASS belong to the signal's record still
open, or are LONG (DESIGN CHOICE, log 101). -/
def rxDescriptor (n slot m cls : Nat) (d : Nat) (s : State) : State :=
  if bitsOf d 76 74 != cls then laneErr n F.ZL_LANE_ERR1_ERRBLK 411 s
  else
    let x := s.rxSig slot m
    let s1 := if x.open_ then closeRecord slot m x (laneErr n F.ZL_LANE_ERR2_SHORT 412 s) else s
    let s2 := when (x.had && !pcrcOk (s1.g F.ZL_LANE_STAT_VER [n]) d x.words) (laneErr n F.ZL_LANE_ERR0_LCRC 409) s1
    let line := bitsOf d 119 107
    let follows := if x.line < s2.raster (srcCad s2 slot m) then line == x.line + 1 else line == 1
    let s3 := when (x.had && !follows) (laneErr n F.ZL_LANE_ERR3_SEQ 415) s2
    s3.setRxSig slot m ⟨true, true, line, bitsOf d 106 91, bitsOf d 90 77, cls, bitsOf d 73 72, [], [], x.dep⟩

/-- The first cycle at or after `a` at which the group of a class at (slot, m) passes its bus (R30, R55). -/
def nextPass (cls slot m a : Nat) : Nat :=
  let per := wordPeriod cls
  let b := (slot % 16 + 16 * m) % per
  a + (b + per - a % per) % per

/-- A word that arrives at cycle `a` (R119, R121). -/
def rxWord (n slot m cls a : Nat) (w : BusWord) (s : State) : State :=
  let x := s.rxSig slot m
  if !x.open_ || x.total ≤ x.words.length then laneErr n F.ZL_LANE_ERR2_LONG 413 s
  else if x.cls != cls then laneErr n F.ZL_LANE_ERR1_ERRBLK 411 s
  else
    let s1 := s.count 432 1
    let per := wordPeriod cls
    let p := nextPass cls slot m a
    let full := decide (p + 4 * per ≤ x.dep + per)
    let y := { x with words := x.words ++ [w] }
    let y1 := if full then y else { y with placed := y.placed ++ [w], dep := if x.dep < p then p else x.dep + per }
    let s2 := when full (fun t => occur 312 n (laneErr n F.ZL_LANE_ERR1_OVR 410 t)) (s1.setRxSig slot m y1)
    if y1.total ≤ y1.words.length then closeRecord slot m y1 s2 else s2

/-- One payload block (R113, R114, R121), which reaches the source-bus insert at cycle `a`. -/
def rxBlock (n a : Nat) (b : BusWord) (s : State) : State :=
  let v := b.toNat
  let type := bitsOf v 127 125
  let slot := 2 * n + bitsOf v 124 124
  let m := bitsOf v 122 120
  if type = 0 then s
  else if 4 ≤ type then laneErr n F.ZL_LANE_ERR1_ERRBLK 411 s
  else match srcClass s slot m with
    | none => laneErr n F.ZL_LANE_ERR1_ERRBLK 411 s
    | some cls =>
      if type = 2 then rxDescriptor n slot m cls v s
      else
        let w : BusWord := BitVec.ofNat 128 (v % 2 ^ 120 + bitsOf v 123 123 * 2 ^ 120)
        let s1 := if type = 3 then occur 311 n (laneErr n F.ZL_LANE_ERR1_ERRBLK 411 s) else s
        rxWord n slot m cls a w s1

/-- The cycle at which block i of a frame is there whose header was there at cycle `start`: a block of 128 bits at 25.78125 Gbit/s
is 32768 ÷ 4125 core cycles. -/
def blockCycle (start i : Nat) : Nat := start + ceilDiv (i * 32768) 4125

/-- The echo (R112) of a passing header with STATE ACTIVE; its epoch is one seen (R372). -/
def echo (n epoch : Nat) (s : State) : State :=
  let cur := s.g F.ZL_ECHO_EPOCH_EPOCH []
  if !s.on F.ZL_ECHO_SEEN [] || cur < epoch then
    seeEpoch 3 epoch ((((s.p F.ZL_ECHO_SEEN [] 1).p F.ZL_ECHO_LANE [] n).p F.ZL_ECHO_EPOCH_EPOCH [] epoch).count 428 1)
  else if cur = epoch && n < s.g F.ZL_ECHO_LANE [] then s.p F.ZL_ECHO_LANE [] n else s

/-- A passing header (R110, R112, R126). R112 has STATE and EPOCH recorded in UP; the other fields of ZL_LANE_RXHDR go with them, and a
header that sends the lane back to VERSION records nothing (DESIGN CHOICE, log 103). -/
def rxHeader (n : Nat) (h : Nat) (s : State) : State :=
  let x := s.lane n
  let offer := bitsOf h 63 62
  let use := bitsOf h 61 60
  let legal := offer == 1 || offer == 2
  match s.g F.ZL_LANE_STAT_TRAIN_STATE [n] with
  | 4 => s.setLane n { x with passes := x.passes + 1 }
  | 5 =>
    if !legal || (x.passes != 0 && offer != x.offer) then s.setLane n { x with passes := b2n legal, useEq := 0, use := 0, offer := offer }
    else
      let mine := if 1 ≤ x.passes then min (myOffer s) offer else 0
      let eq := if mine != 0 && use == mine then x.useEq + 1 else 0
      s.setLane n { x with passes := x.passes + 1, offer := offer, use := mine, useEq := eq }
  | 6 =>
    if !legal || offer != x.offer then leaveUp occur n 5 (s.count 422 1)
    else
      let w := offer * 2 ^ 30 + use * 2 ^ 28 + bitsOf h 59 58 * 2 ^ 26 + bitsOf h 25 22 * 2 ^ 22 + bitsOf h 17 17 * 2 ^ 21
      let s1 := (s.wr R.ZL_LANE_RXHDR [n] (BitVec.ofNat 32 w)).wr R.ZL_LANE_RXEPOCH [n] (BitVec.ofNat 32 (bitsOf h 57 26))
      when (decide (n < 576) && bitsOf h 59 58 == 3) (echo n (bitsOf h 57 26)) s1
  | _ => s

/-- FCRC_FAIL (R109): outside UP, or two failures among the last 8 judged frames. -/
def showFcrc (n : Nat) (s : State) : State :=
  let x := s.lane n
  s.p F.ZL_LANE_STAT_FCRC_FAIL [n] (b2n (!laneUp s n || decide (2 ≤ (x.judged.filter (!·)).length)))

/-- A ZL frame received (R103 to R126): the line bits after its comma, and the cycle at which its first block would enter the
source bus. -/
def zlReceive (n start : Nat) (line : List Bool) (s : State) : State :=
  let (bits, bad) := destuff line
  let data := scramble bits
  let h := ofMsb (data.take 64) * 2 ^ (64 - (data.take 64).length)
  let blocks := zlBlocks 255 (data.drop 64)
  let s1 := each (List.range bad) (fun _ t => laneErr n F.ZL_LANE_ERR1_ERRBLK 411 t) s
  let x := s1.lane n
  let st := s1.g F.ZL_LANE_STAT_TRAIN_STATE [n]
  let whole := data.length == 64 + 255 * 128
  if st = 3 then s1.setLane n { x with passes := if whole then x.passes + 1 else 0, prevBlocks := blocks }
  else
    let pass := bad == 0 && whole && h % 2 ^ 16 == fcrc h x.prevBlocks
    let s2 := if x.first then s1.setLane n { x with first := false, prevBlocks := blocks }
      else
        let t := s1.setLane n { x with prevBlocks := blocks, judged := lastN 8 (x.judged ++ [pass])
                                       passes := if pass || st != 4 then x.passes else 0 }
        if pass then rxHeader n h t else laneErr n F.ZL_LANE_ERR0_FCRC 408 t
    let s3 := showFcrc n s2
    if laneUp s3 n && n < 576 then
      each ((List.range 255).zip blocks) (fun y t => rxBlock n (blockCycle start (y.1 + 1)) y.2 t) s3
    else s3

/-- A record leaves the destination multiplex for its lane (R115, R116, R120): its words wait for the lane's frames. The PCRC of a
signal's first record on the lane covers no record: a free value. The version is that of the lane as the record leaves the multiplex
(DESIGN CHOICE, log 102). -/
def laneOut (d m : Nat) (r : LineRec) (s : State) : State :=
  let n := d / 2
  if !runsZl s n || !s.on F.ZL_LANE_CTRL_TX_EN [n] then s
  else
    let v1 := !(laneUp s n && s.g F.ZL_LANE_STAT_VER [n] == 2)
    let (pcrc, s1) := match find? s.zl.txCrc (8 * d + m) with
      | some (c32, c16) => (if v1 then c16 else c32, s)
      | none => s.freeNat (if v1 then 16 else 32)
    let head := 2 * 2 ^ 125 + d % 2 * 2 ^ 124 + m * 2 ^ 120
    let desc := head + r.line % 2 ^ 13 * 2 ^ 107 + r.frame % 2 ^ 16 * 2 ^ 91 + r.words.length % 2 ^ 14 * 2 ^ 77 + r.cls * 2 ^ 74
      + r.member * 2 ^ 72 + pcrc * 2 ^ 40
    let els := ((List.range r.words.length).zip r.words).map (fun y =>
      TxEl.mk (8 * (d % 2) + m) (if y.1 = 0 then some (BitVec.ofNat 128 desc) else none) y.2)
    let x := s1.lane n
    let s2 := s1.setLane n { x with txWait := x.txWait ++ els }
    { s2 with zl := { s2.zl with txCrc := put s2.zl.txCrc (8 * d + m) ((recCrc r.words).toNat, (crc16 (r.words.flatMap wordBytes)).toNat) } }

/-- A word that meets a full queue (R106): it is discarded and its signal's next word is ERRORED. A descriptor it carried goes with the
next word of its record, and with none where it was the last. -/
def txDiscard (n : Nat) (e : TxEl) (s : State) : State :=
  let x := s.lane n
  let wait := match e.desc with
    | some d => mapFirst (fun y => y.sig == e.sig) (fun y => if y.desc.isNone then { y with desc := some d } else y) x.txWait
    | none => x.txWait
  laneErr n F.ZL_LANE_ERR3_STUFF_OVR 414
    (s.setLane n { x with txWait := wait, txErr := if x.txErr.contains e.sig then x.txErr else x.txErr ++ [e.sig] })

/-- k words leave the last stage for the lane's queue (R106). The queue counts words; a descriptor that waits rides with its word
(DESIGN CHOICE, log 102). -/
def txArrive (n : Nat) : Nat → State → State
  | 0, s => s
  | k + 1, s =>
    let x := s.lane n
    match x.txWait with
    | [] => s
    | e :: rest =>
      let s1 := s.setLane n { x with txWait := rest }
      txArrive n k (if 16 ≤ x.txQ.length then txDiscard n e s1 else s1.setLane n { x with txWait := rest, txQ := x.txQ ++ [e] })

/-- The block of the next block time (R113, R122): a descriptor goes immediately before its record's first word, so not in the last
block of a frame; fill where nothing is queued. -/
def txBlock (n : Nat) (last : Bool) (s : State) : BusWord × State :=
  let x := s.lane n
  match x.txQ with
  | [] => (0, s)
  | e :: rest =>
    match e.desc with
    | some d => if last then (0, s) else (d, s.setLane n { x with txQ := { e with desc := none } :: rest })
    | none =>
      let err := x.txErr.contains e.sig
      let v := (if err then 3 else 1) * 2 ^ 125 + e.sig / 8 * 2 ^ 124 + b2n (isAnc e.word) * 2 ^ 123 + e.sig % 8 * 2 ^ 120
        + e.word.toNat % 2 ^ 120
      (BitVec.ofNat 128 v, (s.setLane n { x with txQ := rest, txErr := x.txErr.filter (· != e.sig) }).count 433 1)

/-- The blocks of a frame: `arr` says how many words reach the queue in each block time, that of the header first. -/
def txBlocks (n : Nat) (arr : List Nat) (s : State) : List BusWord × State :=
  let s0 := txArrive n (arr.headD 0) s
  (List.range 255).foldl (fun a j =>
    let (b, t) := txBlock n (j == 254) (txArrive n (arr.getD (j + 1) 0) a.2)
    (a.1 ++ [b], t)) ([], s0)

/-- A block time of partner lane i (R377): of what waits for the lane a response goes first. The control byte's code and the bytes of
a message are not laid out: the bytes are a free value. -/
def partnerBlock (i : Nat) (s : State) : BusWord × State :=
  let q := getD [] s.red.queues i
  let mine := fun (x : PartnerSeg) => x.rsp || !q.any (·.rsp)
  match q.find? mine with
  | none => (0, s)
  | some x =>
    let (v, s1) := s.freeNat 120
    let rest := if x.blocks ≤ 1 then eraseFirst mine q
      else mapFirst mine (fun y => { y with start := false, blocks := y.blocks - 1 }) q
    (BitVec.ofNat 128 ((Sys2Proof.Config.partnerControl x.start x.rsp).toNat * 2 ^ 120 + v),
     { s1 with red := { s1.red with queues := putD [] s1.red.queues i rest } })

/-- The blocks of a partner lane's frame: fill while the lane is not in UP. -/
def partnerFrame (i : Nat) (s : State) : List BusWord × State :=
  (List.range 255).foldl (fun a _ =>
    let (b, t) := partnerBlock i a.2
    (a.1 ++ [b], t)) ([], s)

/-- The header of a frame without FCRC (R14, R107, R111, R126, R128). -/
def txHeader (s : State) (n : Nat) : Nat :=
  let up := laneUp s n
  let use := if up then s.g F.ZL_LANE_STAT_VER [n] else 0
  let hold := if up && use == 2 && n < 576 then s.g F.XPT_RX_HOLD_HOLD [n] else 0
  myOffer s * 2 ^ 62 + use * 2 ^ 60 + s.marked * 2 ^ 58 + s.g F.RED_EPOCH_EPOCH [] * 2 ^ 26
    + s.g F.REF_DPLL_STAT_QL_SENT [] * 2 ^ 22 + hold * 2 ^ 18 + b2n up * 2 ^ 17

/-- What the receive path takes of the bits that arrive (R129): under TEST 1 and 2 the lane's own frame, and nothing else. -/
def rxLine (s : State) (n : Nat) (line : List Bool) : Option (List Bool) :=
  if [1, 2].contains (s.g F.ZL_LANE_CTRL_TEST [n]) then (s.lane n).loop else some line

/-- A PRBS (R130): the places of the two bits whose sum is the next one, and whether O.150 inverts it (PRESUMED, log 104). -/
def prbsForm (poly : Nat) : Nat × Nat × Bool :=
  match poly with
  | 0 => (7, 6, false) | 1 => (9, 5, false) | 2 => (15, 14, true) | 3 => (23, 18, true) | _ => (31, 28, true)

/-- The next bit of a register that holds the latest bit lowest. -/
def prbsBit (f : Nat × Nat × Bool) (reg : Nat) : Bool := bitOf reg (f.1 - 1) != bitOf reg (f.2.1 - 1)

/-- A register with a bit shifted in. -/
def prbsShift (f : Nat × Nat × Bool) (reg : Nat) (b : Bool) : Nat := (2 * reg + b2n b) % 2 ^ f.1

/-- n bits of the generator, and its register after them. -/
def prbsBits (f : Nat × Nat × Bool) (inv : Bool) : Nat → Nat → List Bool × Nat
  | 0, reg => ([], reg)
  | n + 1, reg =>
    let b := prbsBit f reg
    let (bs, r) := prbsBits f inv n (prbsShift f reg b)
    ((b != (f.2.2 != inv)) :: bs, r)

/-- Bits on a lane in the time of a frame (R103). -/
def frameBits : Nat := 32768

/-- The checker takes a bit: unlocked it follows what it receives, locked it runs by itself; 64 error-free bits lock it, 64 errors
among 1,024 bits unlock it. The result says whether it is locked, and whether the bit counts as an error. -/
def prbsCheck (f : Nat × Nat × Bool) (inv lock : Bool) (x : PrbsChk) (bit : Bool) : PrbsChk × Bool × Bool :=
  let b := bit != (f.2.2 != inv)
  let p := prbsBit f x.reg
  if lock then
    let bad := b != p
    let es := (x.errs.filter (fun e => x.pos < e + 1024)) ++ (if bad then [x.pos] else [])
    if 64 ≤ es.length then ({}, false, bad)
    else ({ x with reg := prbsShift f x.reg p, pos := x.pos + 1, errs := es }, true, bad)
  else
    let good := if f.1 ≤ x.filled && x.reg != 0 && b == p then x.good + 1 else 0
    let y : PrbsChk := { x with reg := prbsShift f x.reg b, filled := x.filled + 1, good := good, pos := 0, errs := [] }
    (y, decide (64 ≤ good), false)

/-- Bits reach lane n's checker (R130): the checker after them, whether it is locked, the errors counted. -/
def prbsRun (f : Nat × Nat × Bool) (inv : Bool) : List Bool → PrbsChk × Bool × Nat → PrbsChk × Bool × Nat
  | [], a => a
  | b :: l, (x, lock, n) =>
    let (y, k, e) := prbsCheck f inv lock x b
    prbsRun f inv l (y, k, n + b2n e)

/-- The bits that reach a lane's checker while CHK_EN is 1. -/
def prbsReceive (n : Nat) (bits : List Bool) (s : State) : State :=
  if !s.on F.ZL_LANE_PRBS_CHK_EN [n] then s
  else
    let (x, lock, errs) := prbsRun (prbsForm (s.g F.ZL_LANE_PRBS_POLY [n])) (s.on F.ZL_LANE_PRBS_INV [n]) bits
      ((s.lane n).chk, s.on F.ZL_LANE_PRBS_CHK_LOCK [n], 0)
    let s1 := s.setLane n { s.lane n with chk := x }
    ((s1.p F.ZL_LANE_PRBS_CHK_LOCK [n] (b2n lock)).bump F.ZL_LANE_PRBS_ERR_ERRORS [n] errs).count 426 errs

/-- The pattern on the pins for the time of a frame (R129, R130). The manual gives the generator no first state: a free value other
than zeros. -/
def prbsSend (n : Nat) (s : State) : State :=
  let f := prbsForm (s.g F.ZL_LANE_PRBS_POLY [n])
  let start := match (s.lane n).gen with
    | some r => (r, s)
    | none => ((s.freeNat 31).1 % (2 ^ f.1 - 1) + 1, (s.freeNat 31).2)
  let sent := prbsBits f (s.on F.ZL_LANE_PRBS_INV [n]) frameBits start.1
  (start.2.setLane n { start.2.lane n with gen := some sent.2 }).emit (.laneBits n sent.1)

/-- A ZL frame is built and sent (R103, R108). The first frame's FCRC covers no earlier frame: a free value. TEST says what the
pins carry and whether the frame comes back to the lane's own receiver (R129). -/
def zlTransmit (n : Nat) (arr : List Nat) (s : State) : State :=
  let h0 := txHeader s n
  let (blocks, s1) := if n < 576 then txBlocks n arr s else partnerFrame (n - 576) s
  let (crc, s2) := match (s1.lane n).txPrev with
    | some prev => (fcrc h0 prev, s1)
    | none => s1.freeNat 16
  let h := h0 + crc
  let (line, k) := stuff (scramble (msbBits 64 h ++ blocks.flatMap (fun b => msbBits 128 b.toNat)))
  let test := s2.g F.ZL_LANE_CTRL_TEST [n]
  let s3 := (s2.setLane n { s2.lane n with txPrev := some blocks, loop := if test = 1 || test = 2 then some line else none }).count 431 k
  if test = 4 then prbsSend n s3
  else if test = 1 || test = 3 then s3 else s3.emit (.zl n (BitVec.ofNat 64 h) blocks line)

end Sys2Proof.Machine
end

