-- ==== Sys2Proof/Machine/SrcOps.lean ====
section
/-! DEFINITION. Records entering the source buses: those of lanes, larder and engines as they are completed, those of the
generators (R45 to R50) as they are made, and the alignment sample of each (R89, R90). -/
namespace Sys2Proof.Machine

/-- A value between 64 and 940 at position i of 0 to n (R46). -/
def rampCode (i n : Nat) : Nat :=
  if n = 0 then 64 else 64 + 876 * i / n + (if 876 * i % n = 0 then 0 else b2n (Sys2Proof.Config.rampUp i n))

/-- Sample j of picture line i of a pattern (R46, R61): chroma at even samples; COLOUR 3 is treated as 0. -/
def patternSample (pat colour fmt i j : Nat) : Nat :=
  if pat = 1 || pat = 2 then (Sys2Proof.Config.barSample pat (if colour = 3 then 0 else colour) fmt i j).toNat
  else if j % 2 = 0 then 512
  else match pat with
    | 3 => rampCode (j / 2) (widthOf fmt - 1)
    | 4 => rampCode (frameLine fmt i) (activeLines fmt - 1)
    | _ => 64

/-- The picture words of picture line i of generator g, of member t in an 8K group. -/
def genWords (s : State) (g t fmt i : Nat) : List BusWord :=
  let x := genRuns s g
  let n := pictureWords fmt
  if F.XPT_GEN_CFG_PATTERN.of x.cfg = 5 then getD (List.replicate n blackWord) s.xpt.genPic g
  else
    let ws := packWords n (Array.ofFn (n := 2 * widthOf fmt) (fun j =>
      patternSample (F.XPT_GEN_CFG_PATTERN.of x.cfg) (F.XPT_GEN_CFG_COLOUR.of x.cfg) fmt i j.val))
    if F.XPT_GEN_CFG_CLASS.of x.cfg = 5 then (((List.range n).zip ws).filter (fun y => y.1 % 4 == t)).map (·.2) else ws

/-- A change of generator g waits on a cadence that is off or has not begun frame 0 (R50). -/
def genStopped (s : State) (g : Nat) : Bool := (find? s.xpt.genWait g).isSome && !(s.cad (s.g F.XPT_GEN_CFG_CADENCE [g])).running

/-- The record generator g emits on the house line its cadence is on, with base m (R45); none while a change of it, or of the
generator it follows, waits on a stopped cadence. -/
def genRecord (s : State) (g m : Nat) : Option LineRec :=
  let x := genRuns s g
  let c := F.XPT_GEN_CFG_CADENCE.of x.cfg
  let cls := F.XPT_GEN_CFG_CLASS.of x.cfg
  let k := s.cad c
  let fmt := s.g F.XPT_CAD_CFG_FORMAT [c]
  let t := if cls = 5 then g % 4 else 0
  let lead := if cls = 5 then g / 4 * 4 else genLead s g
  if F.XPT_GEN_CFG_ENABLE.of x.cfg = 1 && k.running && legalBase cls m && !genStopped s lead then
    let ws := match activeIdx fmt k.line with
      | some i => genWords s g t fmt i
      | none => []
    some ⟨k.line, k.frame % 2 ^ 16, cls, t, if ws.isEmpty then [nullWord] else ws⟩
  else none

/-- At a house line of cadence c, the slate generators take the line they read ahead, or repeat the one before (R49). -/
def genLines (c : Nat) (s : State) : State :=
  let k := s.cad c
  let fmt := s.g F.XPT_CAD_CFG_FORMAT [c]
  match activeIdx fmt k.line with
  | none => s
  | some i =>
    each (s.xpt.genOn.filter (fun x => F.XPT_GEN_CFG_ENABLE.of x.2.cfg == 1 && F.XPT_GEN_CFG_PATTERN.of x.2.cfg == 5
        && F.XPT_GEN_CFG_CADENCE.of x.2.cfg == c && F.XPT_GEN_CFG_CLASS.of (genRun s (x.1 / 4 * 4)).cfg != 5)) (fun x t =>
      let here := fun (w : CelReader) => match w with
        | .slate g l => g.val == x.1 && l == i
        | _ => false
      match t.cel.lines.find? (fun y => here y.1) with
      | some (_, d) =>
        { t with cel := { t.cel with lines := t.cel.lines.filter (fun y => !here y.1) }
                 xpt := { t.xpt with genPic := put t.xpt.genPic x.1 (bytesToWords (pictureWords fmt) d) } }
      | none => occur 87 x.1 ((t.bump F.XPT_GEN_STAT_REPEATS [x.1] 1).count 177 1)) s

/-- The next record of source signal (slot, m), and the state without it where it was waiting. A lane delivers in UP alone (R127). -/
def nextRecord (s : State) (slot m : Nat) : Option LineRec × State :=
  let key := 8 * slot + m
  if 1216 ≤ slot then
    match genRecord s (slot - 1216) m, find? s.xpt.lastRec key with
    | some r, some (_, l) => (if r.line = l.line && r.frame = l.frame then none else some r, s)
    | r, _ => (r, s)
  else if 1152 ≤ slot then
    let k := 4 * (slot - 1152) + m
    let t := engFlush (slot - 1152) m s
    (find? t.eng.ready k, { t with eng := { t.eng with ready := drop1 t.eng.ready k } })
  else if packetSlot s slot then
    (find? s.flw.ready key, { s with flw := { s.flw with ready := drop1 s.flw.ready key } })
  else if !laneUp s (slot / 2) then (none, s)
  else
    ((s.zl.ready.find? (fun x => x.1 == key)).map (·.2),
     { s with zl := { s.zl with ready := eraseFirst (fun x => x.1 == key) s.zl.ready } })

/-- The house frame of a record: the one that puts its line nearest the line its cadence is on. -/
def houseFrame (k : Cad) (n line : Nat) : Nat :=
  if k.line + n / 2 < line then (k.frame + 2 ^ 32 - 1) % 2 ^ 32 else if line + n / 2 < k.line then (k.frame + 1) % 2 ^ 32 else k.frame

/-- The frame whose switch point a record of house frame f is the first at or after, unless that frame has been sampled (R90). Without
SWITCH_SYNC the switch point is line P; a resolved one may lie in the first lines of the frame that follows. -/
def sampleFrame (s : State) (c i f line : Nat) : Option Nat :=
  let k := s.cad c
  let n := s.raster c
  let before := (f + 2 ^ 32 - 1) % 2 ^ 32
  let pos := linePos n k.frame f line
  let done := find? s.xpt.sampled i
  let at_ := fun (g : Nat) => k.points.find? (fun x => x.1 == g)
  let past := match at_ f with
    | some (_, af, al) => decide (linePos n k.frame af al ≤ pos)
    | none => !s.on F.XPT_CAD_CTRL_SSYNC_EN [c] && decide (s.g F.XPT_CAD_CFG_SWITCH_LINE [c] ≤ line)
  let pastBefore := match at_ before with
    | some (_, af, al) => af == f && decide (al ≤ line)
    | none => false
  if past then (if done = some f then none else some f)
  else if pastBefore && done != some before then some before else none

/-- The alignment sample of a frame (R90, R91): its first record at or after the switch point of the source's cadence. -/
def alignSample (slot m : Nat) (r : LineRec) (d : Int) (s : State) : State :=
  let c := srcCad s slot m
  let i := 8 * slot + m
  let k := s.cad c
  match (if k.running then sampleFrame s c i (houseFrame k (s.raster c) r.line) r.line else none) with
  | some f =>
    let a := reduceAlign s c d
    let out := decide (cleanWindow s c r.cls < a.natAbs)
    let s1 := ((s.p F.XPT_ALIGN_OFFSET [i] (ofSigned 32 a)).p F.XPT_ALIGN_STAT_VALID [i] 1).p F.XPT_ALIGN_STAT_OUTSIDE [i] (b2n out)
    let s2 := when out (fun t => t.count (104 + 8 * c + 7) 1) s1
    histSample 1 i a { s2 with xpt := { s2.xpt with missed := put s2.xpt.missed i 0, sampled := put s2.xpt.sampled i f } }
  | none => s

/-- A record passes the probe's source point (R61): BUS and SUBPHASE name a sub-slot of its signal. -/
def probeSource (slot m : Nat) (r : LineRec) (s : State) : State :=
  let sub := s.g F.XPT_PROBE_CTRL_SUBPHASE []
  if s.on F.XPT_PROBE_CTRL_ARM [] && s.g F.XPT_PROBE_CTRL_MODE [] == 0 && s.g F.XPT_PROBE_CTRL_BUS [] * 16 + sub % 16 == slot
      && baseOf r.cls (sub / 16) == m then
    { s with xpt := { s.xpt with probe := some r } }
  else s

/-- A record passes the probe's destination point (R61). MODE 2 and 3 are reserved: a probe armed with them sees no word and stays
armed until it is cancelled (DESIGN CHOICE, log 97). -/
def probeDest (d m : Nat) (r : LineRec) (s : State) : State :=
  if s.on F.XPT_PROBE_CTRL_ARM [] && s.g F.XPT_PROBE_CTRL_MODE [] == 1 && s.g F.XPT_PROBE_DST_DST_SLOT [] == d
      && baseOf r.cls (s.g F.XPT_PROBE_DST_SUB_SLOT []) == m then
    { s with xpt := { s.xpt with probe := some r } }
  else s

/-- Where the record of (slot, m) stands against its house line as it enters the source bus (R89): `d` of a lane, larder or generator;
of an engine 189 cycles after what it was made from (R214, R216). -/
def entryAt (s : State) (slot m : Nat) (d : Int) : Int :=
  if 1152 ≤ slot && slot < 1216 then getD 0 s.eng.outAt (4 * (slot - 1152) + m) + 189 else d

/-- A record of (slot, m) enters its source bus (R115, R90, R254). -/
def enterBus (slot m : Nat) (r : LineRec) (d : Int) (s : State) : State :=
  let key := 8 * slot + m
  let s1 := probeSource slot m r (alignSample slot m r d s)
  deRecord key r { s1 with xpt := { s1.xpt with
    lastRec := put s1.xpt.lastRec key (s1.xpt.serial, r)
    entered := put s1.xpt.entered key d
    serial := s1.xpt.serial + 1 } }

end Sys2Proof.Machine
end

