-- ==== Sys2Proof/Machine/TimeOps.lean ====
section
/-! DEFINITION. House time, references and the DPLL (R180 to R198), and the calendar (R201 to R204). -/
namespace Sys2Proof.Machine

/-- A quotient in a register's units: exact, or a neighbour as Config.roundUp has it. -/
def inUnits (n : Int) (d : Nat) : Int :=
  if d = 0 then 0 else n / d + (if n % d = 0 then 0 else (b2n (Sys2Proof.Config.roundUp n d) : Nat))

/-- Nanoseconds of a phase in H units, and the saturated value of a signed 32-bit register. -/
def phaseNs (x : Int) : Int := inUnits x hUnit
def sat32 (x : Int) : Int := max (-(2 ^ 31 : Nat)) (min ((2 ^ 31 : Nat) - 1) x)

/-- The time of a system time counter in H units. -/
def tcUnits (t : TCnt) : Nat := (t.sec * 10 ^ 9 + t.ns) * hUnit + t.frac * 10 ^ 11

/-- A counter's next cycle (R171). -/
def TCnt.tick (t : TCnt) : TCnt :=
  let f := t.frac + t.incr
  let ns := t.ns + f / 2 ^ 48
  { t with frac := f % 2 ^ 48, ns := ns % 10 ^ 9, sec := (t.sec + ns / 10 ^ 9) % 2 ^ 48 }

/-- A counter of domain d, and the state with another. -/
def State.tc (s : State) (d : Nat) : TCnt := if d = 0 then s.ptp.tc0 else s.ptp.tc1
def State.setTc (s : State) (d : Nat) (t : TCnt) : State :=
  if d = 0 then { s with ptp := { s.ptp with tc0 := t } } else { s with ptp := { s.ptp with tc1 := t } }

/-- The DPLL state code of R193. -/
def dpllState (s : State) : Nat := s.g F.REF_DPLL_STAT_STATE []
def dpllTracks (s : State) : Bool := dpllState s == 1 || dpllState s == 2
def frozen (s : State) : Bool := s.on F.REF_DPLL_STAT_FROZEN []

/-- The output frequency in 0.01 ppb. -/
def outFreq (s : State) : Int := toSigned 32 (s.g F.REF_DPLL_FREQ_FREQ [])
def setFreq (f : Int) (s : State) : State :=
  s.p F.REF_DPLL_FREQ_FREQ [] (ofSigned 32 (max (-11000000) (min 11000000 f)))

/-- House time wraps with its 48-bit seconds (R171, R180). -/
def hWrap : Nat := 2 ^ 48 * 10 ^ 9 * hUnit
def wrapH (x : Int) : Nat := (x % (hWrap : Int)).toNat

/-- The difference of two house times, the shorter way round. -/
def hDiff (a b : Nat) : Int := ((a : Int) - b + (hWrap / 2 : Nat)) % (hWrap : Int) - (hWrap / 2 : Nat)

/-- One cycle of the 500 MHz clock (R171, R180). -/
def timeTick (s : State) : State :=
  let s1 := { s with ticks := s.ticks + 1 }
  if s.sys.por || s.sys.rstLow then s1
  else
    let dh : Int := 2 * 2 ^ 48 * (10 ^ 11 + outFreq s)
    { s1 with ptp := { s1.ptp with tc0 := s1.ptp.tc0.tick, tc1 := s1.ptp.tc1.tick }
              ref := { s1.ref with h := wrapH (s1.ref.h + dh) } }

/-- QL of a code (R187): reserved codes count as 15. -/
def qlOf (q : Nat) : Nat := if q = 0 || q = 9 || (12 ≤ q && q ≤ 14) then 15 else q

/-- QL of a clockClass (R187). -/
def classQl (c : Nat) : Nat :=
  match c with
  | 6 => 1 | 7 => 2 | 13 => 3 | 14 => 4 | 52 => 5 | 58 => 5 | 187 => 5 | 193 => 5 | 255 => 15 | _ => 10

/-- The QL of reference i now (R187). With LANE outside 0 to 575 a ZL reference shows the QL the wrapped index reaches (DESIGN CHOICE, log
111). -/
def refQl (s : State) (i : Nat) : Nat :=
  if i < 2 then classQl (s.g F.PTP_DOM_CFG_CLASS [i])
  else if i < 6 then qlOf (s.g F.REF_IN_SRC_QL_FIXED [i])
  else if i < 14 then qlOf (s.g F.ZL_LANE_RXHDR_QL [s.g F.REF_IN_SRC_LANE [i]])
  else qlOf s.ref.twinQl

/-- The source signal of a ZL reference: slot and base. -/
def refSignal (s : State) (i : Nat) : Nat × Nat :=
  (2 * s.g F.REF_IN_SRC_LANE [i] + s.g F.REF_IN_SRC_SLOT [i], s.g F.REF_IN_SRC_BASE [i])

/-- The bandwidth class of reference i (R184), and the loop bandwidth it selects in 0.01 Hz (R192). -/
def bwClass (s : State) (i : Nat) : Nat :=
  if i < 2 then 0 else if i < 6 then (if s.g F.REF_IN_SRC_TYPE [i] = 3 then 2 else 1) else if i < 14 then 3 else 4
def refBw (s : State) (i : Nat) : Nat := s.g F.REF_BW_BW [bwClass s i]

/-- The frequency of reference i against REFCLK_CORE, in 0.01 ppb: of a time counter by its increment, else as it is measured. -/
def refFreq (s : State) (i : Nat) (freq : Int) : Int :=
  if i < 2 then (((s.tc i).incr : Int) - 2 ^ 49) * 10 ^ 11 / 2 ^ 49 else freq

/-- Whether the frequency of reference i lies within FREQ_RANGE (R186). -/
def freqIn (s : State) (i : Nat) (freq : Int) : Bool :=
  let range := s.g F.REF_DPLL_CFG_FREQ_RANGE []
  if i < 2 then decide ((((s.tc i).incr : Int) - 2 ^ 49).natAbs * 10 ^ 6 ≤ range * 2 ^ 49) else decide (freq.natAbs ≤ range * 10 ^ 5)

/-- The conditions of R186 that the state shows: enabled, and the further condition of the reference's kind, but for what is
measured at an input. A ZL reference with LANE outside 0 to 575 is not VALID (DESIGN CHOICE, log 111). -/
def refCond (s : State) (i : Nat) : Bool :=
  s.on F.REF_IN_CFG_ENABLE [i] &&
  (if i < 2 then s.on F.PTP_DOM_CFG_VALID [i]
   else if i < 6 then true
   else if i < 14 then
     let n := s.g F.REF_IN_SRC_LANE [i]
     let (sl, m) := refSignal s i
     decide (n < 576) && laneUp s n && !s.on F.ZL_LANE_STAT_FCRC_FAIL [n] && s.on F.XPT_ALIGN_STAT_VALID [8 * sl + m]
       && cadOn s (srcCad s sl m)
   else s.on F.RED_PARTNER_STAT_UP [] && !s.ref.twinSelf && qlOf s.ref.twinQl != 15)

def refValid (s : State) (i : Nat) : Bool := s.on F.REF_IN_STAT_VALID [i]

/-- REF_IN_OFFSET in H units. -/
def refOffset (s : State) (i : Nat) : Int := toSigned 32 (s.g F.REF_IN_OFFSET_OFFSET [i]) * hUnit

/-- The phase error of reference i (R185): reference less OFFSET less H, in H units. -/
def refError (s : State) (i : Nat) : Int :=
  if i < 2 then (tcUnits (s.tc i) : Int) - refOffset s i - s.ref.h else getD 0 s.ref.err i

/-- A phase taken into the range from minus half a period to just under half (R185); the period is num ÷ den H units. -/
def intoHalf (x : Int) (num den : Nat) : Int :=
  if num = 0 then x else x - (2 * x * den + num) / (2 * num) * num / den

/-- A measurement of reference i (R195): of the tracked reference a jump above 1 µs goes into P. H's own slew, by which P has
shrunk since the last measurement, is no jump of the reference. -/
def measured (i : Nat) (e : Int) (s : State) : State :=
  let mine := s.ref.current == some i
  let jump := e - getD 0 s.ref.err i - (s.ref.p - s.ref.measP)
  let had := (find? s.ref.err i).isSome
  let s1 := { s with ref := { s.ref with err := put s.ref.err i e } }
  let s2 := if had && mine && decide (1000 * hUnit < jump.natAbs) then
      { s1 with ref := { s1.ref with p := s1.ref.p + jump } }.count 192 1
    else s1
  if mine then { s2 with ref := { s2.ref with measP := s2.ref.p } } else s2

/-- Frame period of a RATE code as a fraction of a second in H units: num ÷ den. -/
def periodUnits (rate lines : Nat) : Nat × Nat :=
  let (num, den) := rateOf rate
  (den * 10 ^ 9 * hUnit, num * lines)

/-- The period of what a SYNC_IN or SYNC_OUT type gives: frame, line, second, 48 kHz. -/
def syncPeriod (s : State) (type cad : Nat) : Nat × Nat :=
  match type with
  | 0 => periodUnits (s.g F.XPT_CAD_CFG_RATE [cad]) 1
  | 1 => periodUnits (s.g F.XPT_CAD_CFG_RATE [cad]) (s.raster cad)
  | 2 => (10 ^ 9 * hUnit, 1)
  | _ => (10 ^ 9 * hUnit, 48000)

/-- Where the instants of a type count from (R181): LAG for frames and lines. -/
def syncBase (s : State) (type cad : Nat) : Nat := if type < 2 then s.g F.REF_CAD_LAG_LAG [cad] * hUnit else 0

/-- The phase error at an edge of SYNC_IN[k] (R184, R185): the instant that the edge stands for, less OFFSET, less H. -/
def syncEdge (k : Nat) (s : State) : State :=
  let i := 2 + k
  let type := s.g F.REF_IN_SRC_TYPE [i]
  let cad := s.g F.REF_IN_SRC_CAD [i]
  if type = 3 then measured i 0 s
  else
    let (num, den) := syncPeriod s type cad
    measured i (intoHalf ((syncBase s type cad : Int) - refOffset s i - s.ref.h) num den) s

/-- A line record of the signal of a ZL reference (R184): alignment a to 0. -/
def zlMeasure (slot m : Nat) (a : Int) (s : State) : State :=
  each [6, 7, 8, 9, 10, 11, 12, 13] (fun i t =>
    if t.on F.REF_IN_CFG_ENABLE [i] && refSignal t i == (slot, m) then
      let c := srcCad t slot m
      let (num, den) := syncPeriod t 0 c
      measured i (intoHalf (-(a * hUnit * 5 / 8) - refOffset t i) num den) t
    else t) s

/-- QL_SENT (R188). -/
def showQl (s : State) : State :=
  s.p F.REF_DPLL_STAT_QL_SENT [] (match dpllState s with
    | 0 => 11
    | 3 => max 8 s.ref.lastQl
    | _ => s.ref.lastQl)

/-- A change of the DPLL's state (R193, R356, R399). -/
def setDpll (st : Nat) (s : State) : State :=
  let old := dpllState s
  let s1 := s.p F.REF_DPLL_STAT_STATE [] st
  let s2 := if old = st then s1 else s1.count (match st with
    | 0 => 191 | 1 => 188 | 2 => 189 | _ => 190) 1
  let s3 := if st = 3 && old != 3 then { s2 with ref := { s2.ref with hoAt := s2.ticks, hoNext := s2.ticks } }
    else if st = 0 then setFreq 0 s2 else s2
  let s4 := { s3 with ref := { s3.ref with histLocked := s3.ref.histLocked && st == 2 } }
  level 89 0 (st == 0 && s4.ref.chosenBefore) (level 88 0 (st == 3) (showQl s4))

/-- SWITCHED and the REF event after a change of SELECTED or STATE (R208, R356). -/
def refChanged (sel st : Nat) (s : State) : State :=
  let sel1 := s.g F.REF_DPLL_STAT_SELECTED []
  let st1 := dpllState s
  if sel = sel1 && st = st1 then s
  else
    raiseEvent 3 (if st != st1 && (st1 == 3 || st1 == 0) then 1 else 0) sel1 st1 [0] (s.p F.REF_DPLL_STAT_SWITCHED [] 1)

/-- P as REF_DPLL_PHASE reports it, and PHASE_ALIGNED (R194). -/
def showPhase (s : State) : State :=
  let loopErr := match s.ref.current with
    | some i => refError s i - s.ref.p
    | none => 0
  let al := dpllTracks s && decide (s.ref.p.natAbs ≤ 10 * hUnit) && decide (loopErr.natAbs ≤ 100 * hUnit)
  (s.p F.REF_DPLL_PHASE_P [] (ofSigned 32 (sat32 (phaseNs s.ref.p)))).p F.REF_DPLL_STAT_PHASE_ALIGNED [] (b2n al)

/-- The last instant of pulse output k that house time has reached, counted from its base (R183): SYNC_OUT pins 0 to 3, PPS_OUT 4. -/
def pulseBefore (s : State) (k : Nat) : Int :=
  if k = 4 then (s.ref.h / (10 ^ 9 * hUnit) : Nat)
  else
    let type := s.g F.REF_SYNC_OUT_TYPE [k]
    let cad := s.g F.REF_SYNC_OUT_CAD [k]
    let (num, den) := syncPeriod s type cad
    let ofs := toSigned 32 (s.g F.REF_SYNC_OUT_OFS_OFFSET [k]) * hUnit
    let x : Int := ((s.ref.h : Int) - syncBase s type cad - ofs) * den
    if num = 0 then 0 else x / num

/-- A pulse output is set up anew (R183): instants before now are not sent. -/
def restartPulse (k : Nat) (s : State) : State :=
  { s with ref := { s.ref with pulses := put s.ref.pulses k (pulseBefore s k) } }

/-- Frame and line pulses of cadence c follow a change of its format, rate or LAG (R183). -/
def restartCadPulses (c : Nat) (s : State) : State :=
  each ([0, 1, 2, 3].filter (fun k => decide (s.g F.REF_SYNC_OUT_TYPE [k] < 2) && s.g F.REF_SYNC_OUT_CAD [k] == c)) restartPulse s

/-- No pulse instant up to now is sent any more (R200). -/
def passPulses (s : State) : State :=
  { s with ref := { s.ref with pulses := [0, 1, 2, 3, 4].map (fun k =>
      (k, match find? s.ref.pulses k with
        | some n => max n (pulseBefore s k)
        | none => pulseBefore s k)) } }

/-- H steps by x units (R180): the errors measured against it step too, and SYNC_OUT and PPS_OUT instants passed over are gone,
none to be sent twice (R200). -/
def stepH (x : Int) (s : State) : State :=
  let s1 := { s with ref := { s.ref with h := wrapH ((s.ref.h : Int) + x), histH := wrapH ((s.ref.histH : Int) + x),
                                         err := s.ref.err.map (fun y => (y.1, y.2 - x)), measP := s.ref.measP - x } }
  audStep (passPulses s1)

/-- Whether the first selection sets H at once (R194): every cadence, SYNC_OUT pin, PPS_OUT and TDM port disabled. -/
def outputsOff (s : State) : Bool :=
  (List.range 8).all (fun c => !cadOn s c && !(s.cad c).running) && (List.range 4).all (fun k => !s.on F.REF_SYNC_OUT_ENABLE [k])
    && !s.on F.REF_PPS_OUT_ENABLE [] && (List.range 16).all (fun t => !s.on F.AUD_TDM_CFG_EN [t])

/-- Begin to track reference i (R193, R194). -/
def track (i : Nat) (s : State) : State :=
  let e := refError s i
  let first := !s.ref.chosenBefore
  let s1 := { s with ref := { s.ref with current := some i, chosenBefore := true, lastQl := refQl s i, p := e } }
  let s2 := (s1.p F.REF_DPLL_STAT_SELECTED [] i).count 184 1
  let s3 := if first && outputsOff s2 then stepH e { s2 with ref := { s2.ref with p := 0 } } else s2
  showPhase (setDpll 1 { s3 with ref := { s3.ref with
    measP := s3.ref.p
    lockSum := 0
    lockN := 0
    lockGood := 0
    lockBad := false } })

/-- The choice of R191 among the references. -/
def refChoice (s : State) : Option Nat :=
  if s.on F.REF_DPLL_CFG_FORCE [] then
    let f := s.g F.REF_DPLL_CFG_FORCE_REF []
    if f < 15 && refValid s f then some f else none
  else
    let cand := (List.range 15).filter (fun i => s.on F.REF_IN_STAT_SELECTABLE [i] && decide (refQl s i < 15))
    let better := fun (a b : Nat) =>
      let x := (refQl s a, s.g F.REF_IN_CFG_PRIORITY [a])
      let y := (refQl s b, s.g F.REF_IN_CFG_PRIORITY [b])
      decide (x.1 < y.1) || (x.1 == y.1 && decide (x.2 < y.2))
    match cand with
    | [] => none
    | a :: r =>
      let best := r.foldl (fun b i => if better i b then i else b) a
      match s.ref.current with
      | some cur =>
        if s.on F.REF_DPLL_CFG_REVERT [] || !cand.contains cur || decide (refQl s best < refQl s cur) then some best else some cur
      | none => some best

/-- Selection (R191, R193); a reference in hold-off is kept. -/
def selectRef (s : State) : State :=
  let sel := s.g F.REF_DPLL_STAT_SELECTED []
  let st := dpllState s
  if frozen s then s
  else
    let s1 := match refChoice s with
      | none =>
        let t := { s with ref := { s.ref with current := none } }
        setDpll (if s.on F.REF_DPLL_STAT_HO_VALID [] then 3 else 0) t
      | some i => if s.ref.current = some i && dpllTracks s then
          showQl { s with ref := { s.ref with lastQl := refQl s i } } else track i s
    refChanged sel st s1

/-- Mark a reference failed (R189). -/
def markFailed (i : Nat) (s : State) : State :=
  let s1 := (s.p F.REF_IN_STAT_FAILED [i] 1).p F.REF_IN_STAT_SELECTABLE [i] 0
  let s2 := { s1 with ref := { s1.ref with failed := s1.ref.failed.filter (· != i) ++ [i] } }
  occur 90 i (s2.count 185 1)

/-- |P| shrinks by SLOPE for n ms of tracking (R194). -/
def slewPhase (s : State) : State :=
  let d : Int := s.g F.REF_DPLL_CFG_SLOPE [] * (hUnit / 10)
  let p := s.ref.p
  { s with ref := { s.ref with p := if p < 0 then min 0 (p + d) else max 0 (p - d) } }

/-- A millisecond of tracking with frequency error x in 0.01 ppb (R193): its average over each second is held against 10 ppb and 100
ppb. -/
def lockSample (x : Int) (s : State) : State :=
  let r := s.ref
  let sum := r.lockSum + x
  if r.lockN + 1 < 1000 then { s with ref := { r with lockSum := sum, lockN := r.lockN + 1 } }
  else { s with ref := { r with
    lockSum := 0
    lockN := 0
    lockGood := if sum.natAbs ≤ 10 * 100 * 1000 then r.lockGood + 1 else 0
    lockBad := decide (100 * 100 * 1000 < sum.natAbs) } }

/-- The loop tracks reference i for a millisecond (R192 to R194). -/
def trackStep (i : Nat) (freq : Int) (s : State) : State :=
  let f := refFreq s i freq
  let s1 := setFreq (Sys2Proof.Config.loopFreq (refBw s i) (refError s i - s.ref.p) f (outFreq s)) (slewPhase s)
  lockSample (f - outFreq s1) s1

/-- A sample of frequency and temperature in the averages of R197, one each millisecond of locked operation. -/
def averageSample (temp : Int) (s : State) : State :=
  let r := s.ref
  let f := r.secF + outFreq s
  let t := r.secT + temp
  if r.secN + 1 < 1000 then { s with ref := { r with secF := f, secT := t, secN := r.secN + 1 } }
  else
    let secs := lastN (max 1 (s.g F.REF_HO_CFG_AVG_S [])) (r.secs ++ [(f, t)])
    let n := 1000 * secs.length
    let s1 := { s with ref := { r with secF := 0, secT := 0, secN := 0, secs := secs, lockSecs := r.lockSecs + 1 } }
    (s1.p F.REF_HO_FAVG_F_AVG [] (ofSigned 32 (inUnits (secs.map (·.1)).sum n))).p F.REF_HO_TAVG_T_AVG []
      (ofSigned 16 (inUnits (secs.map (·.2)).sum n))

/-- The holdover model (R198) at temperature `t` in 0.01 °C, in 0.01 ppb: exact over the common denominator 86400 × 5 × 10⁸ × 10⁶
of its terms, then in the register's units. -/
def holdoverFreq (s : State) (t : Int) : Int :=
  let favg := toSigned 32 (s.g F.REF_HO_FAVG_F_AVG [])
  if !s.on F.REF_HO_CFG_COEF_VALID [] then favg
  else
    let tavg := toSigned 16 (s.g F.REF_HO_TAVG_T_AVG [])
    let t0 := toSigned 16 (s.g F.REF_HO_T0_T0 [])
    let a1 := toSigned 32 (s.g F.REF_HO_A1_A1 [])
    let a2 := toSigned 32 (s.g F.REF_HO_A2_A2 [])
    let b := toSigned 32 (s.g F.REF_HO_B_B [])
    let day : Nat := 86400 * 500000000
    let dt : Int := (s.ticks - s.ref.hoAt : Nat)
    let n : Int := favg * 10 ^ 6 * day + a1 * (t - tavg) * 1000 * day + a2 * ((t - t0) ^ 2 - (tavg - t0) ^ 2) * day
      + b * dt * 10 ^ 5
    inUnits n (10 ^ 6 * day)

/-- Days of a month in the Gregorian calendar (R201). -/
def leapYear (y : Nat) : Bool := y % 4 == 0 && (y % 100 != 0 || y % 400 == 0)
def monthDays (y m : Nat) : Nat :=
  match m with
  | 1 => 31 | 2 => if leapYear y then 29 else 28 | 3 => 31 | 4 => 30 | 5 => 31 | 6 => 30
  | 7 => 31 | 8 => 31 | 9 => 30 | 10 => 31 | 11 => 30 | 12 => 31 | _ => 0
def realDate (y m d : Nat) : Bool := decide (2000 ≤ y) && decide (y ≤ 2399) && decide (1 ≤ d) && decide (d ≤ monthDays y m)

/-- The counter of REF_TC_CFG.DOMAIN less UTC_OFFSET, and plus LOCAL: UTC and local seconds (R202, R204). -/
def utcSeconds (s : State) : Int :=
  ((s.tc (s.g F.REF_TC_CFG_DOMAIN [])).sec : Int) - toSigned 16 (s.g F.REF_LEAP_UTC_OFFSET [])
def localSeconds (s : State) : Int := utcSeconds s + toSigned 7 (s.g F.REF_TC_CFG_LOCAL []) * 900
def localDay (s : State) : Int := localSeconds s / 86400

/-- The date advances by a day (R202, R203). -/
def nextDate (s : State) : State :=
  let y := s.g F.REF_CAL_DATE_YEAR []
  let m := s.g F.REF_CAL_DATE_MONTH []
  let d := s.g F.REF_CAL_DATE_DAY []
  let set := fun (y m d : Nat) (t : State) =>
    ((t.p F.REF_CAL_DATE_YEAR [] y).p F.REF_CAL_DATE_MONTH [] m).p F.REF_CAL_DATE_DAY [] d
  let s1 := s.count 197 1
  if d < monthDays y m then set y m (d + 1) s1
  else if m < 12 then set y (m + 1) 1 s1
  else if y < 2399 then set (y + 1) 1 1 s1
  else s1.p F.REF_CAL_STAT_CAL_RANGE [] 1

/-- The midnights that local time has passed since the last one counted. -/
def passMidnights (s : State) : State :=
  let n := (localDay s - s.ref.calDay).toNat
  let s1 := { s with ref := { s.ref with calDay := max s.ref.calDay (localDay s) } }
  each (List.range n) (fun _ t => nextDate t) s1

/-- Local time is set anew: midnights count from here. -/
def newLocalTime (s : State) : State := { s with ref := { s.ref with calDay := localDay s } }

end Sys2Proof.Machine
end

