-- ==== Sys2Proof/Machine/Weave.lean ====
section
/-! DEFINITION. The commands of the weave (02_weave.md): layouts, crossing modes, the probe, generators, parity. -/
namespace Sys2Proof.Machine

/-- Class code of sub-slot k in a layout word. -/
def layoutSub (v : Word) (k : Nat) : Nat := bitsOf v.toNat (4 * k + 3) (4 * k)

/-- Every used sub-slot belongs to a complete group of R32 (R33). -/
def layoutComplete (v : Word) : Bool :=
  (List.range 8).all (fun k =>
    let c := layoutSub v k
    c == 0 || (subsOf c != 0 && (groupSubs c (baseOf c k)).all (fun j => layoutSub v j == c)))

/-- Record a refused layout write (R33, R34). -/
def refuseLayout (dir i : Nat) (busy err : Bool) (s : State) : State :=
  let s1 := when busy (fun t => t.p F.XPT_LAYOUT_STAT_BUSY [] 1) s
  let s2 := when err (fun t => t.p F.XPT_LAYOUT_STAT_ERR [] 1) s1
  ((s2.p F.XPT_LAYOUT_STAT_LAST_DIR [] dir).p F.XPT_LAYOUT_STAT_LAST_INDEX [] i).count 179 1

/-- Write of XPT_SRC_LAYOUT (R33, R34, R35). -/
def writeSrcLayout (i : Nat) (v : Word) (s : State) : State :=
  if 1152 ≤ i then s else
  let busy := (liveEntries s ++ loftEntries s).any (fun e => eValid e.2 && (eSource e.2).1 == i)
  let err := !layoutComplete v
  if busy || err then refuseLayout 0 i busy err s else s.wr R.XPT_SRC_LAYOUT [i] v

/-- Write of XPT_DST_LAYOUT (R33, R34, R35). -/
def writeDstLayout (i : Nat) (v : Word) (s : State) : State :=
  if 1152 ≤ i then s else
  let busy := (liveEntries s ++ loftEntries s).any (fun e => eValid e.2 && e.1 / 8 == i)
  let err := !layoutComplete v
  if busy || err then refuseLayout 1 i busy err s else s.wr R.XPT_DST_LAYOUT [i] v

/-- SRC_LAYOUT_WRITE (R33). -/
def execSrcLayoutWrite (r : Req) (i : Fin 1280) (v : Word) (s : State) : Out :=
  .next (gate r .xpt (writeSrcLayout i v) s)

/-- DST_LAYOUT_WRITE (R34). -/
def execDstLayoutWrite (r : Req) (i : Fin 1280) (v : Word) (s : State) : Out :=
  .next (gate r .xpt (writeDstLayout i v) s)

/-- Write of XPT_XING_CFG (R57, R61): 1 starts fixed-latency operation on every locked lane at its next frame boundary and
re-arms the lanes that fell back; 0 makes every crossing elastic. -/
def writeXing (v : Word) (s : State) : State :=
  let m := F.XPT_XING_CFG_MODE.of v
  let s1 := s.p F.XPT_XING_CFG_MODE [] m
  if m = 1 then
    let act := Sys2Proof.Config.refsCommon
    let s2 := s1.p F.XPT_XING_STAT_FIXED_ACTIVE [] (b2n act)
    { s2 with xpt := { s2.xpt with fellBack := [], fixedDue := if act then (List.range 576).filter (laneUp s2) else [] } }
  else
    let s2 := s1.p F.XPT_XING_STAT_FIXED_ACTIVE [] 0
    { s2 with xpt := { s2.xpt with fixed := [], fixedDue := [] } }

/-- XING_MODE_WRITE (R61). -/
def execXingModeWrite (r : Req) (v : Word) (s : State) : Out := .next (gate r .xpt (writeXing v) s)

/-- FIXED_LATENCY_START (R53, R61): at its ZL frame boundary a lane that is due starts fixed-latency operation and its
hold is fixed at the measured h. -/
def execFixedLatencyStart (n : Fin 576) (h : Fin 16) (s : State) : Out :=
  .next (if s.xpt.fixedDue.contains n.val && laneUp s n && s.on F.XPT_XING_STAT_FIXED_ACTIVE [] then
    let s1 := (s.p F.XPT_RX_HOLD_HELD [n] 1).p F.XPT_RX_HOLD_HOLD [n] h
    { s1 with xpt := { s1.xpt with fixed := s1.xpt.fixed.filter (· != n.val) ++ [n.val]
                                   fixedDue := s1.xpt.fixedDue.filter (· != n.val) } }
  else s)

/-- XING_FALLBACK (R57): the lane's crossings go elastic until MODE is written again. -/
def execXingFallback (n : Fin 576) (s : State) : Out :=
  .next (if s.xpt.fixed.contains n.val then
    let s1 := { s with xpt := { s.xpt with fixed := s.xpt.fixed.filter (· != n.val)
                                           fellBack := s.xpt.fellBack ++ [n.val] } }
    let s2 := (s1.p F.XPT_XING_STAT_FALLBACK [] 1).p F.ZL_LANE_STAT_XING_FALLBACK [n] 1
    occur 85 n (s2.count 174 1)
  else s)

/-- Write of XPT_PROBE_CTRL (R61): while armed only ARM is written. -/
def writeProbe (v : Word) (s : State) : State :=
  let arm := F.XPT_PROBE_CTRL_ARM.of v
  if s.on F.XPT_PROBE_CTRL_ARM [] then s.p F.XPT_PROBE_CTRL_ARM [] arm
  else
    let s1 := s.write R.XPT_PROBE_CTRL [] v
    if arm = 1 then { s1.p F.XPT_PROBE_CTRL_DONE [] 0 with xpt := { s1.xpt with probe := none } } else s1

/-- Write of XPT_PROBE_DST (R61): no effect while armed. -/
def writeProbeDst (v : Word) (s : State) : State :=
  if s.on F.XPT_PROBE_CTRL_ARM [] then s else s.write R.XPT_PROBE_DST [] v

/-- PROBE_ARM (R61): a write with ARM at 1. -/
def execProbeArm (r : Req) (v : Word) (s : State) : Out :=
  .next (gateUnit r .xpt (writeProbe (v ||| 0x80000000#32)) s)

/-- PROBE_CANCEL (R61): a write with ARM at 0. -/
def execProbeCancel (r : Req) (v : Word) (s : State) : Out :=
  .next (gateUnit r .xpt (writeProbe (v &&& 0x7FFFFFFF#32)) s)

/-- Whether a record carries word w, as its first and as its last word or not. -/
def carries (r : LineRec) (w : BusWord) (sor eor : Bool) : Bool :=
  (List.range r.words.length).any (fun i => r.words[i]? == some w && (i == 0) == sor && (i + 1 == r.words.length) == eor)

/-- PROBE_CAPTURE (R61): a word with its tag passes the armed point in a core cycle; a valid one of the record at that point (log 97)
that the trigger asks for is captured. -/
def execProbeCapture (w : BusWord) (valid sor eor : Bool) (cycle : Nat) (s : State) : Out :=
  .next (match s.xpt.probe with
  | some r =>
    if s.on F.XPT_PROBE_CTRL_ARM [] && valid && (!s.on F.XPT_PROBE_CTRL_TRIG [] || sor) && carries r w sor eor then
      let s1 := each (List.range 4) (fun j t => t.wr R.XPT_PROBE_WORD [j] (w.extractLsb' (32 * j) 32)) s
      let tag := (cycle % 2 ^ 16) * 2 ^ 16 + b2n eor * 4 + b2n sor * 2 + 1
      let s2 := s1.wr R.XPT_PROBE_TAG [] (BitVec.ofNat 32 tag)
      ((s2.p F.XPT_PROBE_CTRL_ARM [] 0).p F.XPT_PROBE_CTRL_DONE [] 1).count 180 1
    else s
  | none => s)

/-- The charge of a generator configuration (R48). Generators 4h + 1 to 4h + 3 that follow an 8K generator keep the charge of their
own registers (DESIGN CHOICE, log 96). -/
def genCharge (s : State) (v : Word) : Nat :=
  if F.XPT_GEN_CFG_ENABLE.of v = 1 && F.XPT_GEN_CFG_PATTERN.of v = 5 then
    let c := F.XPT_GEN_CFG_CADENCE.of v
    pictureCharge (s.g F.XPT_CAD_CFG_FORMAT [c]) (s.g F.XPT_CAD_CFG_RATE [c])
  else 0

/-- The cases of R51. -/
def genRefused (s : State) (g : Nat) (v : Word) : Bool :=
  let cls := F.XPT_GEN_CFG_CLASS.of v
  let c := F.XPT_GEN_CFG_CADENCE.of v
  let fmt := s.g F.XPT_CAD_CFG_FORMAT [c]
  cls == 0 || decide (5 < cls) || !classFits cls fmt (s.g F.XPT_CAD_CFG_RATE [c])
    || (cls == 5 && (g % 4 != 0 || F.XPT_GEN_CFG_PATTERN.of v == 5))

/-- A generator's change waits for its frame start (R50): the first at least 10 µs from now on a running cadence, else frame 0. -/
def genWaits (g : Nat) (s : State) : State :=
  let c := s.g F.XPT_GEN_CFG_CADENCE [g]
  let w : GenWait := ⟨if (s.cad c).running then some (s.ticks + usTicks 10) else none⟩
  { s with xpt := { s.xpt with genWait := put s.xpt.genWait g w } }

/-- Write of XPT_GEN_CFG (R48, R50, R51). The manual gives R48 and R51 no order: R51 is judged first, and a write that it refuses sets
CFG_ERR alone (DESIGN CHOICE, log 96). -/
def writeGenCfg (g : Nat) (v : Word) (s : State) : State :=
  if genLead s g != g then s
  else if genRefused s g v then s.p F.XPT_GEN_STAT_CFG_ERR [g] 1
  else
    let old := genCharge s (s.rd R.XPT_GEN_CFG [g])
    let new := genCharge s v
    if !admits s old new then (s.p F.XPT_GEN_STAT_ADMIT_ERR [g] 1).count 178 1
    else genWaits g (charge old new (s.write R.XPT_GEN_CFG [g] v))

/-- GEN_CFG_WRITE (R51). -/
def execGenCfgWrite (r : Req) (g : Fin 64) (v : Word) (s : State) : Out := .next (gate r .xpt (writeGenCfg g v) s)

/-- GEN_CFG_APPLY (R50): at the frame start it waits for, a change takes effect. -/
def execGenCfgApply (g : Fin 64) (s : State) : Out :=
  .next (match find? s.xpt.genWait g with
  | none => s
  | some w =>
    let k := s.cad (s.g F.XPT_GEN_CFG_CADENCE [g])
    let here := k.running && k.line == 1 && (match w.after with
      | some t => decide (t ≤ k.frameTick)
      | none => true)
    if here then
      let slate := s.g F.XPT_GEN_SLATE_HI_ADDR_HI [g] * 2 ^ 32 + s.g F.XPT_GEN_SLATE_LO_ADDR_LO [g] * 2 ^ 12
      { s with xpt := { s.xpt with genWait := drop1 s.xpt.genWait g
                                   genOn := put s.xpt.genOn g ⟨s.rd R.XPT_GEN_CFG [g], slate⟩ } }
    else s)

/-- GEN_CLR_REPEATS (R61). -/
def execGenClrRepeats (r : Req) (g : Fin 64) (v : Word) (s : State) : Out :=
  .next (gate r .xpt (fun t => when (F.XPT_GEN_STAT_CLR_REPEATS.of v == 1) (fun u => u.p F.XPT_GEN_STAT_REPEATS [g] 0)
    (t.write R.XPT_GEN_STAT [g] v)) s)

/-- BUS_PARITY_ERROR (R61, R399). -/
def execBusParityError (b : Fin 80) (s : State) : Out :=
  .next (occur (4 + b) 0 ((s.p F.XPT_BUS_STAT_PAR_ERR [b] 1).count 175 1))

/-- SEL_PARITY_ERROR (R399). -/
def execSelParityError (i : Fin 10240) (s : State) : Out := .next (occur 84 i (s.count 176 1))

end Sys2Proof.Machine
end

