-- ==== Sys2Proof/Machine/CadLine.lean ====
section
/-! DEFINITION. What the start cycle of a house line carries out (R65, R233): CADENCE_SET, realignment, commits, engines,
releases, the stop of a cadence; and the frame numbers of a device that follows its twin (R379). -/
namespace Sys2Proof.Machine

/-- The load that the users bound to a cadence hold through its format and rate: slate generators and extended merges (R48,
R164). -/
def cadLoad (c : Nat) (s : State) : Nat :=
  ((List.range 64).map (fun g => if s.g F.XPT_GEN_CFG_CADENCE [g] = c then genCharge s (s.rd R.XPT_GEN_CFG [g]) else 0)).sum
    + (((extPairs s).filter (fun e => fCad s e == c)).map (extCharge s)).sum

/-- Change the set-up of a cadence; charges that follow its format and rate change with it (DEDUCED, log 51). -/
def setCadCfg (c : Nat) (w : Word) (s : State) : State :=
  let s1 := s.wr R.XPT_CAD_CFG [c] w
  let moved := s.g F.XPT_CAD_CFG_FORMAT [c] != s1.g F.XPT_CAD_CFG_FORMAT [c] || s.g F.XPT_CAD_CFG_RATE [c] != s1.g F.XPT_CAD_CFG_RATE [c]
  when moved (restartCadPulses c) (charge (cadLoad c s) (cadLoad c s1) s1)

/-- H at a grid line of a format, rate and LAG, rounded up to a whole unit. -/
def gridH (fmt rate lag n : Nat) : Nat :=
  let (num, den) := rateOf rate
  lag * hUnit + ceilDiv (n * den * 10 ^ 9 * hUnit) (num * rasterLines fmt)

/-- The first line of frame F after a change of format or rate (R69): whole where a frame start of the new grid falls in the
start cycle of F (0.625 ns wide), else cut where the next one comes. `n` is its line on the old grid, ended at the H given. -/
def newGrid (c oldStart : Nat) (s : State) : State :=
  let fmt := s.g F.XPT_CAD_CFG_FORMAT [c]
  let rate := s.g F.XPT_CAD_CFG_RATE [c]
  let lag := s.g F.REF_CAD_LAG_LAG [c]
  let n := rasterLines fmt
  let cyc := hUnit * 5 / 8
  let at_ := ceilDiv oldStart cyc * cyc
  let here := gridLine fmt rate lag at_ / n
  let k := s.cad c
  if lag * hUnit ≤ at_ && at_ < gridH fmt rate lag (here * n) + cyc then s.setCad c { k with base := none, n := here * n }
  else
    let next := if at_ < lag * hUnit then 0 else here + 1
    let n1 := if next = 0 then 0 else here * n
    s.setCad c { k with base := some (at_, next), n := n1 }

/-- The active's decisions on frames of a cadence from a frame on, or on all of them, count no longer: those frames have been dropped
(R69, R71). -/
def dropDecisions (c : Nat) (from_ : Option Nat) (s : State) : State :=
  let gone := fun (d : Decision) => match d, from_ with
    | .switchPoint c' f _ _, some g => c'.val == c && decide (0 ≤ linePos 1 g f 0)
    | .switchPoint c' _ _ _, none => c'.val == c
    | .flip _ _ e _ _ _ _, none => s.engCad e.val == c
    | .select e _ _ _, none => s.engCad e.val == c
    | _, _ => false
  { s with eng := { s.eng with decisions := s.eng.decisions.filter (fun d => !gone d) } }

/-- A CADENCE_SET takes effect at line 1 of frame F (R69). -/
def applyCadSet (o : PendCad) (s : State) : State :=
  let c := o.stamp.cad
  let k := s.cad c
  let n := s.raster c
  let fmt := s.g F.XPT_CAD_CFG_FORMAT [c]
  let rate := s.g F.XPT_CAD_CFG_RATE [c]
  let oldStart := gridH fmt rate (s.g F.REF_CAD_LAG_LAG [c]) k.n
  let change := fmt != o.format || rate != o.rate
  let own := fun (v : Option SalvoKey) => match v with
    | none => true
    | some y => s.xpt.salvos.any (fun x => x.key == y && x.cad == c && x.commit.isSome)
  let count := (s.xpt.takes.filter (fun t => t.stamp.cad == c && own t.salvo)).length
    + (s.aud.pend.filter (fun t => t.stamp.cad == c && own t.salvo)).length
  let s1 := cancelSalvos c (cancelTakes c s).1
  let s2 := when change (cancelEngines c) s1
  let k2 := s2.cad c
  let kept := k2.points.filter (fun x => decide (linePos n k.frame x.1 1 < linePos n k.frame k.frame 1))
  let s3 := clearCadAlign c (dropDecisions c (some k.frame) (s2.setCad c { k2 with points := kept, edgeFrame := some k.frame }))
  let w := (s3.rd R.XPT_CAD_CFG [c]).toNat
  let w1 := bitsOf w 31 31 * 2 ^ 31 + o.format * 2 ^ 28 + o.rate * 2 ^ 25 + o.switchLine * 2 ^ 12 + w % 2 ^ 12
  let s4 := setCadCfg c (BitVec.ofNat 32 w1) s3
  let s5 := when change (newGrid c oldStart) s4
  finish o.tok 0 (b2n o.late) count (some o.stamp) (s5.count 171 1)

/-- A realignment (R199, R200): H steps by P, forward or back, unless the DPLL runs without a
reference; transmit audio stamps jump with it (R277). -/
def applyRealign (o : PendCad) (s : State) : State :=
  let p := s.ref.p
  let st := dpllState s
  if p = 0 || st = 0 || st = 3 then finish o.tok 0 (b2n o.late) 0 (some o.stamp) s
  else
    let s0 := { s with aud := { s.aud with step := s.aud.step + p * 40500 / hUnit } }
    let s1 := showPhase (stepH p { s0 with ref := { s0.ref with p := 0 } })
    let s2 := when (decide (0 < p)) (fun t => each (List.range 8) (fun c u =>
      if (u.cad c).running then u.setCad c { u.cad c with cut := true } else u) t) s1
    finish o.tok 0 (b2n o.late) (ofSigned 64 (phaseNs p)) (some o.stamp) (s2.count 193 1)

/-- What is due on a cadence of its own set-up and phase at the line it is on, in the order accepted. -/
def cadOpsDue (realign : Bool) (c : Nat) (s : State) : State :=
  each (s.xpt.cadOps.filter (fun o => o.realign == realign && stampDue s c o.stamp)) (fun o t =>
    let t1 := { t with xpt := { t.xpt with cadOps := t.xpt.cadOps.filter (fun x => x.tok != o.tok) } }
    if realign then applyRealign o t1 else applyCadSet o t1) s

/-- Receive entries of a cadence's signals enter LOST, transmit entries send nothing more (R71). -/
def stopFlows (c : Nat) (s : State) : State :=
  let mine := fun (e : BitVec 512) => fValid e && fKind e != 1 && fCad s e == c
  let s1 := each (s.flw.tbl.filter (fun x => mine x.2 && !fTx x.2 && !(fPair x.2 && fSecondary x.2))) (fun x t =>
    if isLost t x.1 then t else enterLost x.1 t) s
  let s2 := each (s1.flw.tbl.filter (fun x => mine x.2 && fTx x.2)) (fun x t =>
    let y := t.ftx x.1
    t.setTx x.1 { y with hs := [], part := [], pkts := [] }) s1
  { s2 with flw := { s2.flw with dying := s2.flw.dying.filter (fun x => !mine x.2.1) } }

/-- Everything stamped on a cadence ends as it stops (R71). What committed in the stop cycle is judged in it, since its line does not
end (DEDUCED, log 99). -/
def endCadence (c : Nat) (s : State) : State :=
  let s0 := dropDecisions c none (judgeLine c s)
  let s1 := cancelEngines c (cancelCadOps c (cancelSalvos c (cancelTakes c s0).1))
  let s2 := stopFlows c (clearCadAlign c s1)
  let k := s2.cad c
  s2.setCad c { lastSwitch := k.lastSwitch, startN := k.startN }

/-- Flip groups whose line 1 was passed over go to line 1 of the next frame, flagged LATE (R66, log 52). -/
def restampGroups (c f0 : Nat) (s : State) : State :=
  let k := s.cad c
  let passed := fun (g : FlipGroup) => g.cad == c && g.closed &&
    decide (linePos 1 f0 f0 0 < linePos 1 f0 g.frame 0) && decide (linePos 1 f0 g.frame 0 ≤ linePos 1 f0 k.frame 0) && k.line != 1
  let anew := fun (m : FlipM) => { m with seen := none, reading := false }
  { s with eng := { s.eng with groups := s.eng.groups.map (fun g => if passed g then
      { g with frame := (k.frame + 1) % 2 ^ 32, late := true, verdict := none, members := g.members.map anew } else g) } }

/-- What stood on the lines passed over since (f0, l0) moves to line 1 of the next frame (R66). -/
def moveSkipped (c f0 l0 : Nat) (s : State) : State :=
  let k := s.cad c
  let fr := if k.line = 1 then k.frame else (k.frame + 1) % 2 ^ 32
  let n := (s.xpt.takes.filter (fun t => stampSkipped s c f0 l0 t.stamp)).length
    + (s.aud.pend.filter (fun t => stampSkipped s c f0 l0 t.stamp)).length
  let s1 := restampGroups c f0 (restampSkipped c f0 l0 s)
  let mv := fun (x : PendEng) => if stampSkipped s c f0 l0 x.stamp then
    { x with stamp := { x.stamp with frame := fr, line := 1 }, late := true } else x
  { s1.count 182 n with eng := { s1.eng with pend := s1.eng.pend.map mv } }

/-- The frame of the twin that starts nearest this device's frame start (R379): its number, and whether the starts lie less than
half a frame period apart. The heartbeats give the latest start; the frames next to it lie a frame period away (DEDUCED, log 53). -/
def twinFrame (c : Nat) (s : State) : Option (Nat × Bool) :=
  match find? s.red.twinFrames c with
  | none => none
  | some (num, start) =>
    let (pn, pd) := periodUnits (s.g F.XPT_CAD_CFG_RATE [c]) 1
    let d : Int := ((s.cad c).frameH : Int) - start
    let k := max (-1) (min 1 ((2 * d * pd + pn) / (2 * pn)))
    some (((num : Int) + k).toNat % 2 ^ 32, decide (2 * (d * pd - k * pn).natAbs < pn))

/-- The frame number at a frame start (R379). A run of unaligned frames ends with the first that is not one. -/
def adjustFrame (c : Nat) (s : State) : State :=
  let k := s.cad c
  let follows := !s.takesHost && s.on F.RED_PARTNER_STAT_UP [] && s.g F.RED_PARTNER_STAT_TWIN_STATE [] == 3 && cadOn s c
  match (if follows then twinFrame c s else none) with
  | none => s.setCad c { k with unaligned := false }
  | some (f, true) =>
    let moved := fun (x : Nat) => (x + f + 2 ^ 32 - k.frame) % 2 ^ 32
    let pts := k.points.map (fun x => (moved x.1, moved x.2.1, x.2.2))
    let s1 := s.setCad c { k with frame := f, unaligned := false, points := pts }
    if f = k.frame then s1 else (s1.bump F.RED_FRAME_ADJ_ADJ [] 1).count 457 1
  | some (_, false) =>
    let s1 := (s.setCad c { k with unaligned := true }).bump F.RED_FRAME_ADJ_UNALIGNED [] 1
    if k.unaligned then s1 else occur 317 (8 + c) s1

/-- A frame of a cadence has begun: each of its sources is one frame further from its last alignment sample (R90). -/
def ageSamples (c : Nat) (s : State) : State :=
  each (listed s R.XPT_ALIGN_STAT 10240) (fun e t =>
    if e.2.getLsbD 31 && srcCad t (e.1 / 8) (e.1 % 8) == c then
      { t with xpt := { t.xpt with missed := put t.xpt.missed e.1 (getD 1 t.xpt.missed e.1 + 1) } } else t) s

/-- The control state that a snapshot carries (R385). -/
def snapOf (s : State) : Snap :=
  let keep := fun (a : Nat) => [R.XPT_LIVE, R.XPT_LOFT, R.AUD_LIVE, R.AUD_LOFT, R.ENG_ECB, R.ENG_FENCE_LO,
    R.ENG_FENCE_HI].any (fun r => (r.at? a).isSome)
  { regs := s.regs.filter (fun x => keep x.1), takes := s.xpt.takes, salvos := s.xpt.salvos, cadOps := s.xpt.cadOps,
    auds := s.aud.pend, fades := s.aud.fades, commits := s.aud.commits, inst := s.aud.inst, engs := s.eng.pend, groups := s.eng.groups, flows := s.flw.tbl,
    rseq := s.g F.RED_REPL_TX_HI_TX [] * 2 ^ 32 + s.g F.RED_REPL_TX_LO_TX [] }

/-- The lowest-numbered enabled cadence. -/
def firstCadence (s : State) : Option Nat := (List.range 8).find? (fun c => cadOn s c && (s.cad c).running)

/-- A snapshot the twin waits for is captured after the commits of the lowest-numbered enabled cadence's line (R385). -/
def serveSnapshot (c : Nat) (s : State) : State :=
  if s.red.snapAsked && firstCadence s == some c then
    { s with red := { s.red with snapAsked := false } }.tell (.snapshot (snapOf s))
  else s

/-- Whether the line a cadence is on is a switch point. -/
def atSwitch (c : Nat) (s : State) : Bool := (s.cad c).points.any (fun x => x.2 == ((s.cad c).frame, (s.cad c).line))

/-- What happens at the start cycle of the line a cadence is on (R65, R233). -/
def atLine (c cycle : Nat) (s : State) : State :=
  let one := fun (t : State) => (t.cad c).line == 1
  let s1 := if one s then cadOpsDue false c (ageSamples c (adjustFrame c s)) else s
  let (s2, mk) := resolveAtLine c s1
  let s3 := commitDue c cycle mk (if one s2 then cadOpsDue true c s2 else s2)
  let s4 := if one s3 then flowLine1 c (flipsDue c (commitEngines c s3)) else s3
  let s5 := serveSnapshot c (engLines c (genLines c (fenceLines c s4)))
  let s6 := when (atSwitch c s5) (releaseForced c) s5
  if (s6.cad c).stopDue then endCadence c s6 else s6

/-- The next house line of a running cadence, if it has begun. -/
def lineStart (c cycle : Nat) (s : State) : State :=
  if !(s.cad c).running then s
  else match nextLine s c with
    | none => s
    | some (f, l, n, skipped) =>
      let s1 := judgeLine c s
      let k := s1.cad c
      let k1 := { k with frame := f, line := l, n := n, cut := false, base := if n = k.n then k.base else none,
                         frameH := if l < k.line || f != k.frame then s1.ref.h else k.frameH
                         frameTick := if l < k.line || f != k.frame then s1.ticks else k.frameTick
                         first := k.first && f == k.frame }
      let s2 := s1.setCad c k1
      atLine c cycle (when skipped (moveSkipped c k.frame k.line) s2)

/-- Frame 0 of a cadence begins at the frame start its enable gave it (R70, R182). -/
def startCadence (c cycle : Nat) (s : State) : State :=
  let k := s.cad c
  match k.startN with
  | some n =>
    if !k.running && cadOn s c && n ≤ gridNow s c then
      atLine c cycle (s.setCad c { running := true, line := 1, n := n, lastSwitch := k.lastSwitch, frameH := s.ref.h, frameTick := s.ticks, first := true })
    else s
  | none => s

end Sys2Proof.Machine
end

