-- ==== Sys2Proof/Machine/Flows.lean ====
section
/-! DEFINITION. The commands of the flow table and of flows (05_packet_ports.md, R346). -/
namespace Sys2Proof.Machine

/-- Fields of FLOW_ADD and FLOW_DEL (R346). -/
def faFlow (v : Nat) (d : Desc) : Nat := body v d 13 0

/-- BAD_FIELD of FLOW_ADD before its read: reserved bits, and an ENTRY_ADDR not 64 B aligned (DEDUCED, log 35). -/
def flowAddBad (v : Nat) (d : Desc) : Bool := body v d 63 14 != 0 || body v d 383 128 != 0 || body v d 69 64 != 0

/-- FLOW_ADD (R148, R344): the read of the entry starts. -/
def execFlowAdd (p r : Fin 8) (s : State) : Out :=
  .next (presentRead p r 0x30 64 flowAddBad true (fun v d => body v d 127 64) s)

/-- BAD_FIELD of the entry (R147, R334, R346): VALID must be 1, KIND 3 and the fields reserved in every entry must be 0. -/
def entryBad (e : BitVec 512) : Bool :=
  !fValid e || fKind e == 3 || fw e 0 9 0 != 0 || fw e 4 3 0 != 0 || fw e 6 7 0 != 0 || fw e 9 17 0 != 0 || fw e 10 8 0 != 0
    || fw e 11 21 0 != 0 || fw e 12 31 24 != 0 || fw e 13 9 0 != 0 || fw e 14 19 0 != 0 || fw e 15 31 0 != 0
    || (if fKind e = 1 then fw e 8 5 0 != 0 else fw e 8 21 0 != 0)

/-- Whether f lies in the flow range of partition p, as the descriptor's protection set-up has it (R304). -/
def inFlowRange (d : Desc) (f : Nat) : Bool :=
  d.part == 0 || (let b := gIn d.prot F.HIF_PART_FLOW_BASE [d.part]
    decide (b ≤ f) && decide (f < b + gIn d.prot F.HIF_PART_FLOW_COUNT [d.part]))

/-- FLOW_PARTITION (R148, R304). -/
def flowPartition (d : Desc) (f : Nat) (e : BitVec 512) : Bool :=
  d.part == 0 || (inFlowRange d f && (fKind e == 1 ||
    (if fTx e then gIn d.prot F.HIF_DST_OWN_OWNER [fSlot e] == d.part else bitOf (gIn d.prot F.HIF_SRC_VIS_VIS [fSlot e]) d.part)))

/-- FLOW_PORT (R148). -/
def flowPortBad (s : State) (e : BitVec 512) : Bool :=
  let m := s.g F.ZL_QUAD_CFG_MODE [fPort e]
  !(m == 1 || m == 2) || (m == 1 && fSub e != 0)

/-- FLOW_FORMAT (R148, R163, R250). -/
def flowFormatBad (s : State) (e : BitVec 512) : Bool :=
  if fKind e = 1 then
    decide (2 ≤ fPtime e) || decide (2 ≤ fDepth e) || fChanCount e == 0 || decide (64 < fChanCount e)
      || decide (audChans s < fChanBase e + fChanCount e)
      || (!fTx e && (producers s).any (fun x => x.1 != 2 && runsMeet x.2.2.1 x.2.2.2 (fChanBase e) (fChanCount e)))
  else
    !packetSlot s (fSlot e) || ((if fTx e then dstClass s (fSlot e) (fBase e) else srcClass s (fSlot e) (fBase e)).isNone)
      || !cadOn s (fCad s e) || fFmt s e == 4
      || (fExt e && !fTx e && !(fPair e && fSecondary e) &&
          decide (8 * 10 ^ 6 * 40500 < (fExtLines e - 1) * lineU s (fCad s e)))

/-- Receive entries in the table other than f. -/
def otherRx (s : State) (f : Nat) : List (Nat × BitVec 512) := s.flw.tbl.filter (fun x => fValid x.2 && !fTx x.2 && x.1 != f)

/-- FLOW_DUPLICATE (R148). -/
def flowDuplicate (s : State) (f : Nat) (e : BitVec 512) : Bool :=
  !fTx e && (otherRx s f).any (fun x =>
    let o := x.2
    fPort o == fPort e && fSub o == fSub e && fDstIp o == fDstIp e && fDstUdp o == fDstUdp e
      && (!(fw o 0 12 12 == 1 || fw e 0 12 12 == 1) || fSrcIp o == fSrcIp e)
      && (!(fVlanEn o || fVlanEn e) || fVlan o == fVlan e))

/-- FLOW_TARGET (R148). -/
def flowTarget (s : State) (f : Nat) (e : BitVec 512) : Bool :=
  !fTx e && (otherRx s f).any (fun x =>
    let o := x.2
    fKind o == fKind e && !(fPair e && fMate e == x.1)
      && (if fKind e = 1 then runsMeet (fChanBase o) (fChanCount o) (fChanBase e) (fChanCount e)
          else fSlot o == fSlot e && fBase o == fBase e))

/-- FLOW_PAIR (R148, R160, R168). -/
def flowPairBad (s : State) (f : Nat) (e : BitVec 512) : Bool :=
  fPair e && (let o := s.flow (fMate e)
    !fValid o || fPort o == fPort e || fKind o != fKind e || fTx o != fTx e || fSecondary o == fSecondary e
      || (if fKind e = 1 then fChanBase o != fChanBase e || fChanCount o != fChanCount e
          else fSlot o != fSlot e || fBase o != fBase e)
      || (fPair o && fMate o != f))

/-- FLOW_LARDER (R147, R148). -/
def flowLarderBad (s : State) (f : Nat) (e : BitVec 512) : Bool :=
  if fTx e || (fPair e && fSecondary e) then false
  else
    let n := larderBlocks s e
    (if fKind e = 1 then fLines e == 0 else decide (fLines e < 4)) || decide (24576 < fLarder e + n) || decide (24575 < fLarder e)
      || (otherRx s f).any (fun x => !(fPair x.2 && fSecondary x.2) && runsMeet (fLarder x.2) (larderBlocks s x.2) (fLarder e) n)

/-- Line rate of a transmit entry in bit/s × 1001 (R169): preamble and gap 20 B, Ethernet 14 and 4, VLAN tag, IPv4, UDP, RTP and
payload headers. -/
def lineRate (s : State) (e : BitVec 512) : Nat :=
  let taken := 20 + 18 + (if fVlanEn e then 4 else 0) + 20 + 8 + 12
  if fKind e = 1 then
    let n := perPacket s e
    8 * 1001 * (taken + n * fChanCount e * (if fDepth e = 0 then 3 else 2)) * (audRate s / max 1 n)
  else
    let fmt := fFmt s e
    let rate := s.g F.XPT_CAD_CFG_RATE [fCad s e]
    let (num, den) := rateOf rate
    if fKind e = 2 then 1001 * Sys2Proof.Config.ancLineRate fmt rate
    else
      let w := widthOf fmt / 2
      let fields := if fmt = 0 then 2 else 1
      let lines := activeLines fmt / fields
      let bytes := if fBlockPack e then
          let packets := ceilDiv (w * lines) 252
          let cuts := ((List.range lines).filter (fun i => i != 0 && i * w % 252 != 0)).length
          fields * (packets * (taken + 2) + (packets + cuts) * 6 + 5 * w * lines)
        else fields * lines * (ceilDiv w 240 * (taken + 8) + 5 * w)
      8 * 1001 * bytes * num / den

/-- FLOW_ADMIT of R169. -/
def portFull (s : State) (e : BitVec 512) : Bool :=
  let mine := (s.flw.tbl.map (·.2)).filter (fun o => fValid o && fTx o && fPort o == fPort e && fSub o == fSub e)
  let top := if s.g F.ZL_QUAD_CFG_MODE [fPort e] = 2 then 25 else 100
  fTx e && decide (top * 10 ^ 9 * 1001 < ((e :: mine).map (lineRate s)).sum)

/-- FLOW_ADMIT of R164. A replicated entry is not held to the cellar budget (R295). -/
def extFull (s : State) (replicated : Bool) (e : BitVec 512) : Bool :=
  fExt e && !fTx e && !(fPair e && fSecondary e) &&
    (decide (32 ≤ (extPairs s).length) || (!replicated && !admits s 0 (extCharge s e)))

/-- The checks on an entry after HOST_READ (R148, R334), in order. -/
def flowCheck (s : State) (replicated : Bool) (d : Desc) (f : Nat) (e : BitVec 512) : Option Nat :=
  if entryBad e then some 0x14
  else if !flowPartition d f e then some 0x40
  else if fValid (s.flow f) then some 0x41
  else if flowPortBad s e then some 0x42
  else if flowFormatBad s e then some 0x43
  else if flowDuplicate s f e then some 0x44
  else if flowTarget s f e then some 0x45
  else if flowPairBad s f e then some 0x46
  else if flowLarderBad s f e then some 0x47
  else if extFull s replicated e || portFull s e then some 0x48 else none

/-- Replace bits hi to lo of word w of an entry. -/
def setFw (e : BitVec 512) (w hi lo v : Nat) : BitVec 512 :=
  let n := hi + 1 - lo
  let m := (2 ^ n - 1) * 2 ^ (32 * w + lo)
  BitVec.ofNat 512 (e.toNat - (e.toNat &&& m) + v % 2 ^ n * 2 ^ (32 * w + lo))

/-- Replace an entry of the table. -/
def State.setFlow (s : State) (f : Nat) (e : BitVec 512) : State :=
  { s with flw := { s.flw with tbl := putD 0 s.flw.tbl f e } }

/-- FLW_LARDER and FLW_EXT follow the table (R170). -/
def flowTotals (s : State) : State :=
  let ex := extPairs s
  ((s.p F.FLW_LARDER_USED [] (larderUsed s)).p F.FLW_EXT_PAIRS [] ex.length).p F.FLW_EXT_LOAD []
    (ceilDiv (ex.map (extCharge s)).sum 100)

/-- Write an accepted entry (R148, R149, R161, R164, R166). -/
def addFlow (f : Nat) (e : BitVec 512) (s : State) : State :=
  let s1 := (((s.setFlow f e).wr R.FLW_CNT0 [f] 0).wr R.FLW_CNT1 [f] 0).wr R.FLW_CNT2 [f] 0
  let s2 := (s1.wr R.FLW_STAT [f] 0).p F.FLW_STAT_VALID [f] 1
  let s3 := if fPair e then
      let m := fMate e
      s2.setFlow m (setFw (setFw (s2.flow m) 0 20 20 1) 9 31 18 f)
    else s2
  let s4 := if fTx e then
      let (q, t) := s3.freeNat 32
      if fPair e && fSecondary e then t.setTx f {} else t.setTx f { seq := q }
    else if fPair e && fSecondary e then
      let x := s3.frx (fMate e)
      (s3.setRx (fMate e) { x with hist := [] }).p F.FLW_STAT_LOST [f] (b2n (isLost s3 (fMate e)))
    else
      enterLost f (charge 0 (extCharge s3 e) (s3.setRx f { from_ := if fExt e then some (s3.ticks + usTicks 10) else none }))
  flowTotals ((if fTx e then s4 else s4.setLeg f { lastPkt := s4.ticks }).count 307 1)

/-- FLOW_ENTRY_READ_COMPLETE (R148, R344): the entry of the ring's waiting FLOW_ADD arrives and is checked, in the
plane state it is accepted in (R329). -/
def execFlowEntryReadComplete (p r : Fin 8) (e : BitVec 512) (s : State) : Out :=
  .next (match readOf s p r 0x30 with
  | none => s
  | some x =>
    let v := ringVer s p r
    let d := x.desc
    let f := faFlow v d
    let s1 := dropRead p r s
    if !s.takesHost then refuse v d 0x16 0 s1
    else match flowCheck s1 false d f e with
    | some c => refuse v d c 0 (when (c == 0x48 && extFull s1 false e) (fun t => t.count 311 1) (s1.count 309 1))
    | none =>
      let (id, s2) := accept v d s1
      let s3 := addFlow f e s2
      finish id 0 0 (s3.g F.FLW_LARDER_USED []) none (forward v d none false (toWords 16 e.toNat) s3))

/-- Delete one entry (R149): a transmit entry sends on to the end of its frame. -/
def dropFlow (f : Nat) (s : State) : State :=
  let e := s.flow f
  let s1 := if fTx e then { s with flw := { s.flw with dying := s.flw.dying ++ [(f, e, s.ftx f)], tx := drop1 s.flw.tx f } }
    else charge (if fPair e && fSecondary e then 0 else extCharge s e) 0
      { s with flw := { s.flw with rx := drop1 s.flw.rx f, legs := drop1 s.flw.legs f } }
  { s1.wr R.FLW_STAT [f] 0 with flw := { s1.flw with tbl := drop1 s1.flw.tbl f } }

/-- Delete an entry: a primary with its secondary (R149), a secondary alone, its primary then runs unpaired (R150). -/
def delFlow (f : Nat) (s : State) : State :=
  let e := s.flow f
  let s1 := if fPair e then
      if fSecondary e then
        let m := fMate e
        let t := (s.setFlow m (setFw (setFw (s.flow m) 0 20 20 0) 9 31 18 0)).p F.FLW_STAT_LEG_OK [m] 0
        dropFlow f (if fTx e then t else
          let x := t.frx m
          let leg := t.fleg m
          (t.setRx m { x with hist := [] }).setLeg m { leg with g0 := leg.g0.orElse (fun _ => x.g0) })
      else dropFlow f (dropFlow (fMate e) s)
    else dropFlow f s
  flowTotals (s1.count 308 1)

/-- FLOW_DEL (R149, R150). -/
def execFlowDel (p r : Fin 8) (s : State) : Out :=
  .next (present p r 0x31 (fun v d => body v d 383 14 != 0) false true
    (fun v d t =>
      let f := faFlow v d
      let e := t.flow f
      if !inFlowRange d f then some (0x40, 0) else if !fValid e then some (0x49, 0) else none)
    (fun id v d t => finish id 0 0 0 none (forward v d none false [] (delFlow (faFlow v d) t))) s)

/-- FLOW_PACKET_ENQUEUE (R167): the next packet of entry f enters its queue, not earlier than one line period after the last
word it carries left, and not ahead of its time in the schedule of SHAPE. -/
def execFlowPacketEnqueue (f : Fin 16384) (s : State) : Out :=
  .next (sendNext f (fun e pk =>
    fKind e != 1 && linesPassed s (fCad s e) 1 (s.ticks - pk.left) && decide (pk.due ≤ s.ticks * 81000)) s)

/-- AUDIO_PACKET_ENQUEUE (R267). -/
def execAudioPacketEnqueue (f : Fin 16384) (s : State) : Out := .next (sendNext f (fun e _ => fKind e == 1) s)

/-- EXT_FLOW_MATCH_START (R149): 10 µs after acceptance. -/
def execExtFlowMatchStart (f : Fin 16384) (s : State) : Out :=
  .next (match (s.frx f).from_ with
  | some t => if fValid (s.flow f) && t ≤ s.ticks then s.setRx f { s.frx f with from_ := none } else s
  | none => s)

/-- LARDER_RECORD_PLAYOUT (R155): the next record of entry f, at its play time; `wait` is the time in core cycles from there to
the first pass of the signal's group. -/
def execLarderRecordPlayout (f : Fin 16384) (wait : Fin 128) (s : State) : Out :=
  .next (let e := s.flow f
    let x := s.frx f
    if leads s f then
      match x.g0 with
      | none => s
      | some g => if g + x.next * lineU s (fCad s e) + fDelay e * 40500 ≤ s.domU (fDomain e) then playRecord f wait s else s
    else s)

/-- FLOW_LOST_ENTER (R157, R161): 16 picture lines in a row without a packet. -/
def execFlowLostEnter (f : Fin 16384) (s : State) : Out :=
  .next (let e := s.flow f
    if fValid e && !fTx e && !(fPair e && fSecondary e) && !isLost s f && decide (16 ≤ (s.frx f).empty) then enterLost f s else s)

/-- Raster lines, counted back from line L, that hold n picture lines. -/
def linesBack (fmt N : Nat) : Nat → Nat → Nat → Nat
  | 0, _, _ => 0
  | _, 0, _ => 0
  | fuel + 1, n, L =>
    1 + linesBack fmt N fuel (if (activeIdx fmt L).isSome then n - 1 else n) (if L ≤ 1 then N else L - 1)

/-- PAIR_LEG_TIMEOUT (R161): the leg has neither written nor duplicated a packet for 16 picture lines. -/
def execPairLegTimeout (f : Fin 16384) (s : State) : Out :=
  .next (let e := s.flow f
    let lead := s.flow (flowLead s f)
    let c := fCad s lead
    let N := s.raster c
    let k := s.cad c
    let old := if fKind e = 1 then true
      else k.running && linesPassed s c (linesBack (fFmt s lead) N N 16 k.line) (s.ticks - (s.fleg f).lastPkt)
    if fPair e && s.on F.FLW_STAT_LEG_OK [f] && old then
      let s1 := (s.p F.FLW_STAT_LEG_OK [f] 0).count 303 1
      if s1.on F.FLW_STAT_LEG_OK [fMate e] then occur 95 f s1 else s1
    else s)

/-- Write of FLW_CNT0 (R170): all three counters of the entry clear. -/
def writeFlowCnt (f : Nat) (s : State) : State := ((s.wr R.FLW_CNT0 [f] 0).wr R.FLW_CNT1 [f] 0).wr R.FLW_CNT2 [f] 0

/-- FLOW_COUNTERS_CLEAR (R170). -/
def execFlowCountersClear (rq : Req) (f : Fin 16384) (s : State) : Out := .next (gate rq .flw (writeFlowCnt f) s)

/-- FLW_STAT as read (R170): SENDING while packets of a transmit entry leave the MAC (R142). -/
def flowStatView (s : State) (f : Nat) : Word :=
  let e := s.flow f
  let send := fValid e && fTx e && (fKind e == 1 || !(s.ftx f).hs.isEmpty) && flowsLeave s && s.on F.ETH_MAC_CFG_TX_EN [fPort e, fSub e]
  F.FLW_STAT_SENDING.into (b2n send) (s.rd R.FLW_STAT [f])

end Sys2Proof.Machine
end

