-- ==== Sys2Proof/Machine/Cadence.lean ====
section
/-! DEFINITION. The commands of the cadences: line starts, start and stop, set-up, position, CADENCE_SET and
REALIGN_PULSES (03_takes_and_cadences.md, R199, R342). -/
namespace Sys2Proof.Machine

/-- CADENCE_LINE_START (R65). `cycle` is the core cycle count at the line's start cycle. -/
def execCadenceLineStart (c : Fin 8) (cycle : Nat) (s : State) : Out := .next (lineStart c cycle s)

/-- CADENCE_START (R182). -/
def execCadenceStart (c : Fin 8) (cycle : Nat) (s : State) : Out := .next (startCadence c cycle s)

/-- A write of XPT_CAD_CFG is refused (R68, R81). -/
def cadCfgRefused (s : State) (c : Nat) (new : Word) : Bool :=
  let fmt := F.XPT_CAD_CFG_FORMAT.of new
  let rate := F.XPT_CAD_CFG_RATE.of new
  let p := F.XPT_CAD_CFG_SWITCH_LINE.of new
  let d := F.XPT_CAD_CFG_DEADLINE.of new
  let runs := cadOn s c || (s.cad c).stopDue
  (runs && (fmt != s.g F.XPT_CAD_CFG_FORMAT [c] || rate != s.g F.XPT_CAD_CFG_RATE [c]
    || p != s.g F.XPT_CAD_CFG_SWITCH_LINE [c]))
    || !legalFormat fmt rate || p == 0 || decide (rasterLines fmt < p) || d == 0 || linesShorterThanUs fmt rate d 10

/-- ENABLE goes to 1 (R70, R182): the start is set; a stop already due still comes first (R71). -/
def enableCadence (c : Nat) (s : State) : State :=
  let k := s.cad c
  s.setCad c { k with startN := some (frameAfter s c 1000000) }

/-- ENABLE goes to 0 (R71): a running cadence stops at its next line; one that has not begun ends at once. -/
def disableCadence (c : Nat) (s : State) : State :=
  let k := s.cad c
  if k.running then s.setCad c { k with stopDue := true, startN := none }
  else endCadence c (s.setCad c { k with startN := none })

/-- Write of XPT_CAD_CFG (R68, R70, R71). -/
def writeCadCfg (c : Nat) (v : Word) (s : State) : State :=
  let old := s.rd R.XPT_CAD_CFG [c]
  let new := writtenWord R.XPT_CAD_CFG [c] v old
  if cadCfgRefused s c new then s.p F.XPT_CAD_STAT_CFG_ERR [c] 1
  else
    let s1 := setCadCfg c new s
    match F.XPT_CAD_CFG_ENABLE.of old, F.XPT_CAD_CFG_ENABLE.of new with
    | 0, 1 => enableCadence c s1
    | 1, 0 => disableCadence c s1
    | _, _ => s1

/-- CAD_CFG_WRITE (R68). -/
def execCadCfgWrite (rq : Req) (c : Fin 8) (v : Word) (s : State) : Out := .next (gate rq .xpt (writeCadCfg c v) s)

/-- CADENCE_ENABLE (R70): a write with ENABLE at 1. -/
def execCadenceEnable (rq : Req) (c : Fin 8) (v : Word) (s : State) : Out :=
  .next (gate rq .xpt (writeCadCfg c (v ||| 0x80000000#32)) s)

/-- CADENCE_DISABLE (R71): a write with ENABLE at 0. -/
def execCadenceDisable (rq : Req) (c : Fin 8) (v : Word) (s : State) : Out :=
  .next (gate rq .xpt (writeCadCfg c (v &&& 0x7FFFFFFF#32)) s)

/-- XPT_CAD_POS as it reads (R95): a stopped cadence has no line. -/
def cadPosView (s : State) (c : Nat) : Word :=
  let k := s.cad c
  BitVec.ofNat 32 (b2n k.running * 2 ^ 31 + (if k.running then k.line else 0) * 2 ^ 16 + k.lastSwitch)

/-- A read of XPT_CAD_POS latches XPT_CAD_FRAME (R95). -/
def readCadPos (rq : Req) (c : Nat) (s : State) : State :=
  answer rq (R.XPT_CAD_POS.addr [c]) (cadPosView s c) (latch rq R.XPT_CAD_FRAME [c] (BitVec.ofNat 32 (s.cad c).frame) s)

/-- CAD_POS_READ (R95). -/
def execCadPosRead (rq : Req) (c : Fin 8) (s : State) : Out := .next (readHeld .xpt rq (R.XPT_CAD_POS.addr [c]) (readCadPos rq c) s)

/-- Body fields of CADENCE_SET and REALIGN_PULSES (R341). -/
def csCad (v : Nat) (d : Desc) : Nat := body v d 66 64
def csFormat (v : Nat) (d : Desc) : Nat := body v d 69 67
def csRate (v : Nat) (d : Desc) : Nat := body v d 72 70
def csLine (v : Nat) (d : Desc) : Nat := body v d 85 73

/-- A signal or generator bound to cadence c does not fit a format and rate (R342); engines are not checked. A generator is judged by
what it runs and by the change that waits (R50). -/
def classMisfit (s : State) (c fmt rate : Nat) : Bool :=
  (List.range 1152).any (fun i => (List.range 8).any (fun k =>
    (match srcClass s i k with
      | some x => srcCad s i k == c && !classFits x fmt rate
      | none => false)
    || (match dstClass s i k with
      | some x => dstCad s i k == c && !classFits x fmt rate
      | none => false)))
  || (List.range 64).any (fun g =>
      (genLead s g == g && s.g F.XPT_GEN_CFG_CADENCE [g] == c && !classFits (s.g F.XPT_GEN_CFG_CLASS [g]) fmt rate)
      || (F.XPT_GEN_CFG_CADENCE.of (genRuns s g).cfg == c && !classFits (F.XPT_GEN_CFG_CLASS.of (genRuns s g).cfg) fmt rate))

/-- A valid video or ancillary flow entry targets a signal of cadence c (R342). -/
def flowsBound (s : State) (c : Nat) : Bool := s.flw.tbl.any (fun x => fValid x.2 && fKind x.2 != 1 && fCad s x.2 == c)

/-- The cases of R342, in the order of its table. The last two concern a change of format or rate. -/
def cadFormatRefused (s : State) (c fmt rate p : Nat) : Bool :=
  let change := fmt != s.g F.XPT_CAD_CFG_FORMAT [c] || rate != s.g F.XPT_CAD_CFG_RATE [c]
  !legalFormat fmt rate || p == 0 || decide (rasterLines fmt < p)
    || linesShorterThanUs fmt rate (s.g F.XPT_CAD_CFG_DEADLINE [c]) 10
    || (change && (classMisfit s c fmt rate || flowsBound s c))

/-- CADENCE_SET's own checks: CADENCE_OFF, CADENCE_FORMAT (R342), PAST (R82). -/
def cadSetOwn (v : Nat) (d : Desc) (s : State) : Option (Nat × Nat) :=
  let c := csCad v d
  if !cadOn s c then some (0x28, 0)
  else if cadFormatRefused s c (csFormat v d) (csRate v d) (csLine v d) then some (0x30, 0)
  else match stampOf s v d c true with
    | .error e => some (e, 0)
    | .ok _ => none

/-- Stage a CADENCE_SET or a realignment. -/
def stageCad (x : PendCad) (s : State) : State := { s with xpt := { s.xpt with cadOps := s.xpt.cadOps ++ [x] } }

def cadSetGo (id v : Nat) (d : Desc) (s : State) : State :=
  match stampOf s v d (csCad v d) true with
  | .error _ => s
  | .ok (st, late) => forward v d (some st) late [] (stageCad ⟨id, st, late, false, csFormat v d, csRate v d, csLine v d⟩ s)

/-- CADENCE_SET (R69, R342). -/
def execCadenceSet (p r : Fin 8) (s : State) : Out :=
  .next (present p r 0x14 (fun v d => cbBad [0, 1] false v d || body v d 383 86 != 0) true true cadSetOwn cadSetGo s)

/-- REALIGN_PULSES' own checks: CADENCE_OFF, PAST (R342, R199). -/
def realignOwn (v : Nat) (d : Desc) (s : State) : Option (Nat × Nat) :=
  if !cadOn s (csCad v d) then some (0x28, 0)
  else match stampOf s v d (csCad v d) true with
    | .error e => some (e, 0)
    | .ok _ => none

def realignGo (id v : Nat) (d : Desc) (s : State) : State :=
  match stampOf s v d (csCad v d) true with
  | .error _ => s
  | .ok (st, late) => forward v d (some st) late [] (stageCad ⟨id, st, late, true, 0, 0, 0⟩ s)

/-- REALIGN_PULSES (R199). -/
def execRealignPulses (p r : Fin 8) (s : State) : Out :=
  .next (present p r 0x15 (fun v d => cbBad [0, 1] false v d || body v d 383 67 != 0) true true realignOwn realignGo s)

end Sys2Proof.Machine
end

