-- ==== Sys2Proof/Machine/RedView.lean ====
section
/-! DEFINITION. What the RED and FLT status registers show (R369, R392, R395, R396): the top status word, hearing the frame
controller, the health report. -/
namespace Sys2Proof.Machine

/-- The top status word (R396): bit b while a source of block b is latched. -/
def fltTop (s : State) : Nat :=
  (((latchedSources s).map (fun e => srcBlock e.1)).eraseDups.map (fun b => 2 ^ b)).sum

/-- The hearing interval (R368), in ticks. -/
def hearWindow (s : State) : Nat :=
  if s.holder then msTicks (s.g F.RED_LEASE_TERM_TERM []) / 2 else 2 * msTicks (s.g F.RED_LEASE_CFG_HELLO_MS [])

/-- The device hears the frame controller (R368). -/
def hearsFc (s : State) : Bool :=
  match s.red.heard with
  | some t => decide (s.ticks ≤ t + hearWindow s)
  | none => false

/-- RED_STATE as it reads (R395). -/
def redStateView (s : State) : Word :=
  BitVec.ofNat 32 (s.planeCode * 2 ^ 30 + b2n s.holder * 2 ^ 29 + b2n (hearsFc s) * 2 ^ 28 + b2n (inRecovery s) * 2 ^ 27
    + s.g F.RED_PARTNER_STAT_UP [] * 2 ^ 26 + b2n (leaseKey s).isSome * 2 ^ 25)

/-- RED_LEASE_LEFT as it reads: whole microseconds to t_exp, saturating. -/
def leaseLeft (s : State) : Nat :=
  match s.red.tExp with
  | some t => min (2 ^ 32 - 1) ((t - s.ticks) / 500)
  | none => 0

/-- The last RSEQ forwarded, and acknowledged. -/
def replTx (s : State) : Nat := s.g F.RED_REPL_TX_HI_TX [] * 2 ^ 32 + s.g F.RED_REPL_TX_LO_TX []
def replAckd (s : State) : Nat := s.g F.RED_REPL_ACK_HI_ACK [] * 2 ^ 32 + s.g F.RED_REPL_ACK_LO_ACK []

/-- The health report (R392). -/
def healthReport (s : State) : List Byte :=
  let flags := s.g F.RED_PARTNER_STAT_UP [] + 2 * b2n (inRecovery s) + 4 * b2n (fatalHeld s) + 8 * s.g F.SYS_STRAP_ID_CLASH []
    + 16 * b2n (leaseKey s).isSome + 32 * b2n s.holder + 64 * b2n (hearsFc s)
  leBytes 8 (fltTop s)
    ++ leBytes 1 s.planeCode ++ leBytes 1 (s.g F.REF_DPLL_STAT_STATE [] + 16 * s.g F.REF_DPLL_STAT_QL_SENT [])
    ++ leBytes 1 (s.g F.RED_PARTNER_STAT_LANES []) ++ leBytes 1 flags
    ++ leBytes 4 (s.g F.RED_TWIN_EPOCH_EPOCH []) ++ leBytes 4 (s.g F.RED_SIG_STAT_MISMATCHING [])
    ++ leBytes 4 (s.rd R.RED_SIG_CNT []).toNat ++ leBytes 4 (s.rd R.RED_CHECK_STAT []).toNat
    ++ leBytes 4 (s.rd R.CEL_ECC_CE []).toNat ++ leBytes 4 (s.rd R.CEL_ECC_UE []).toNat
    ++ leBytes 4 (min (2 ^ 32 - 1) (replTx s - replAckd s)) ++ leBytes 2 (s.g F.SYS_TEMP_DIE [])
    ++ leBytes 2 (s.g F.RED_SYNC_STAT_PROGRESS []) ++ List.replicate 20 0

/-- RED_HEALTH[i] as it reads. -/
def healthView (s : State) (i : Nat) : Word := BitVec.ofNat 32 (ofLE (((healthReport s).drop (4 * i)).take 4))

end Sys2Proof.Machine
end

