-- ==== Sys2Proof/Machine/RedOps.lean ====
section
/-! DEFINITION. The lease (R362 to R371), epochs (R372), plane states (R375, R376) and the partner link (R377, R378). -/
namespace Sys2Proof.Machine

/-- The fields of a message from the frame controller (R363). -/
structure LeaseMsg where
  type : Nat
  plane : Nat
  state : Nat
  epoch : Nat
  nonce : Nat
  term : Nat
deriving DecidableEq, Repr

/-- A message of the frame controller is well framed (R362, R363): its TYPE, and the length that TYPE and LEN give. -/
def framed (bytes : List Byte) : Bool :=
  let f := fun (o n : Nat) => ofLE ((bytes.drop o).take n)
  bytes.length == 52 && (f 0 1 == 0x81 || f 0 1 == 0x82) && f 18 2 == 0

/-- Read a received message (R362 to R364): none where its length, TYPE, VERSION, LEN or TAG is wrong. -/
def leaseParse (key bytes : List Byte) : Option LeaseMsg :=
  let f := fun (o n : Nat) => ofLE ((bytes.drop o).take n)
  if framed bytes && f 1 1 == 1 && bytes.drop 20 == hmac key (bytes.take 20) then
    some ⟨f 0 1, f 2 1, f 3 1, f 4 4, f 8 8, f 16 2⟩
  else none

/-- The guard g of a term in ticks (R367). -/
def leaseGuard (term : Nat) : Nat := min (msTicks 10) (msTicks term / 2)

/-- The end of the lease that a GRANT gives (R367), for a HELLO sent at t_h. -/
def grantExpiry (s : State) (m : LeaseMsg) (th : Nat) : Nat :=
  let e := th + msTicks m.term
  if m.epoch = s.g F.RED_EPOCH_EPOCH [] then max e (s.red.tExp.getD 0) else e

/-- Accept a GRANT (R367, R393). -/
def grantAccept (m : LeaseMsg) (e : Nat) (s : State) : State :=
  let newEpoch := decide (s.g F.RED_EPOCH_EPOCH [] < m.epoch)
  let s1 := ((s.p F.RED_EPOCH_EPOCH [] m.epoch).p F.RED_LEASE_TERM_TERM [] m.term).count 434 1
  let s2 := { s1 with red := { s1.red with tExp := some e } }
  match s.red.plane with
  | .standby => setPlane .active (when (newEpoch && s.red.twinEver) startRecovery s2)
  | _ => s2

/-- A GRANT is discarded (R366). -/
def grantDiscard (f : FR) (s : State) : State := (s.bump f [] 1).count 435 1

/-- Judge a GRANT that passes the first two checks (R366). -/
def grantJudge (m : LeaseMsg) (s : State) : State :=
  let own := s.g F.RED_EPOCH_EPOCH []
  match s.red.hellos.find? (fun h => h.1 == m.nonce) with
  | none => grantDiscard F.RED_LEASE_CNT_STALE s
  | some (_, th) =>
    if m.term < 5 || 500 < m.term then grantDiscard F.RED_LEASE_CNT_STALE s
    else if m.epoch = 0 || m.epoch < s.g F.RED_SEEN_SEEN [] || (s.holder && decide (m.epoch < own)) then
      grantDiscard F.RED_LEASE_CNT_STALE s
    else
      let e := grantExpiry s m th
      if (s.red.plane = .standby || s.red.plane = .active) && !s.on F.SYS_STRAP_ID_CLASH [] && !fatalHeld s
          && decide (s.ticks + leaseGuard m.term < e) then grantAccept m e s
      else grantDiscard F.RED_LEASE_CNT_REFUSED s

/-- A message that fails the first check (R362, R364, R366). -/
def badMsg (s : State) : State := (s.bump F.RED_LEASE_CNT_BAD_MSG [] 1).count 440 1

/-- A message on LEASE_RX (R362 to R369). Without a lease key it is discarded; only its framing can then be counted. -/
def leaseReceive (bytes : List Byte) (s : State) : State :=
  match leaseKey s with
  | none => if framed bytes then s else badMsg s
  | some k =>
    match leaseParse k bytes with
    | none => badMsg s
    | some m =>
      if m.plane != s.planeId then
        (if m.type = 0x81 then grantDiscard F.RED_LEASE_CNT_WRONG_PLANE s else s.bump F.RED_LEASE_CNT_WRONG_PLANE [] 1)
      else
        let s1 := { s with red := { s.red with heard := some s.ticks } }
        if m.type = 0x81 then seeEpoch 0 m.epoch (grantJudge m s1)
        else
          let s2 := seeEpoch 1 m.epoch (s1.count 437 1)
          if m.state < 2 && m.state != s.planeId then leaveActive false s2 else s2

/-- Whether the lease port runs (R365). -/
def leaseRuns (s : State) : Bool := s.on F.RED_LEASE_CFG_EN [] && (leaseKey s).isSome

/-- The HELLO interval in ticks (R365). -/
def helloInterval (s : State) : Nat :=
  if s.holder then msTicks (s.g F.RED_LEASE_TERM_TERM []) / 4 else msTicks (s.g F.RED_LEASE_CFG_HELLO_MS [])

/-- Send a HELLO that is due (R365). -/
def helloSend (s : State) : State :=
  let due := match s.red.helloAt with
    | some t => decide (t + helloInterval s ≤ s.ticks)
    | none => true
  if leaseRuns s && due then
    let (n, s1) := s.freeNat 64
    let s2 := { s1 with red := { s1.red with helloAt := some s1.ticks, hellos := lastN 4 (s1.red.hellos ++ [(n, s1.ticks)]) } }
    (sendLease 1 n [] s2).count 436 1
  else s

/-- Send a HEALTH message that is due (R365): 1 s after the last, or when bytes 8 to 11 have changed. -/
def healthSend (s : State) : State :=
  let rep := healthReport s
  let now := (rep.drop 8).take 4
  let due := match s.red.healthAt with
    | some t => decide (t + msTicks 1000 ≤ s.ticks)
    | none => true
  if leaseRuns s && (due || now != s.red.healthSent) then
    let (n, s1) := s.freeNat 64
    (sendLease 3 n rep { s1 with red := { s1.red with healthAt := some s1.ticks, healthSent := now } }).count 439 1
  else s

/-- The present time has reached t_exp (R369, R399). -/
def leaseExpiry (s : State) : State :=
  match s.red.tExp with
  | some t =>
    if t ≤ s.ticks then
      leaveActive true (occur 320 0 ({ s with red := { s.red with tExp := none } }.count 441 1))
    else s
  | none => s

/-- A holder that hears the frame controller has reached t_exp − g (R369). -/
def guardStepdown (s : State) : State :=
  match s.red.tExp with
  | some t =>
    if s.red.plane = .active && s.holder && hearsFc s && decide (t ≤ s.ticks + leaseGuard (s.g F.RED_LEASE_TERM_TERM [])) then
      leaveActive false (s.count 442 1)
    else s
  | none => s

/-- Leave ACTIVE for an epoch seen above the own one, or in a conflict (R373, R374). -/
def epochStepdown (s : State) : State :=
  if s.red.plane = .active && (decide (s.g F.RED_EPOCH_EPOCH [] < s.g F.RED_SEEN_SEEN []) || s.red.owed) then
    leaveActive false (s.count 443 1)
  else s

/-- The partner lanes in UP that the link has (R377). -/
def upLanes (s : State) : Nat := ((List.range 8).filter (fun i => bitOf (s.g F.RED_PARTNER_STAT_LANES []) i)).length

/-- The conditions of R377. -/
def linkHolds (s : State) : Bool :=
  decide (s.g F.RED_PARTNER_CFG_MIN_LANES [] ≤ upLanes s) &&
    (match s.red.hbAt with
     | some t => decide (s.ticks ≤ t + usTicks 100)
     | none => false)

/-- Resync starts from BULK (R385, R388): the first unit is asked for. -/
def startSync (s : State) : State :=
  let s1 := when s.red.stopped (fun t => t.bump F.RED_SYNC_STAT_ATTEMPTS [] 1) s
  let s2 := { s1 with red := { s1.red with sync := some {}, stopped := false } }
  (((s2.p F.RED_SYNC_STAT_PHASE [] 0).p F.RED_SYNC_STAT_PROGRESS [] 0).count 454 1).tell (.copyReq (some 0))

/-- Resync ends or stops; `again` says that it is to start once more (R388). -/
def endSync (again : Bool) (s : State) : State :=
  let was := s.red.sync.isSome
  let s1 := { s with red := { s.red with sync := none, stopped := again && (was || s.red.stopped) } }
  (s1.p F.RED_SYNC_STAT_PHASE [] 0).p F.RED_SYNC_STAT_PROGRESS [] 0

/-- What a SYNCING device does once the link is up (R376). -/
def decideSync (s : State) : State :=
  if s.red.plane = .syncing && s.on F.RED_PARTNER_STAT_UP [] && s.red.sync.isNone then
    let own := s.g F.RED_EPOCH_EPOCH []
    let twin := s.g F.RED_TWIN_EPOCH_EPOCH []
    match s.g F.RED_PARTNER_STAT_TWIN_STATE [] with
    | 0 => movePlane .standby s
    | 1 => if twin < own || (twin == own && s.planeId == 0) then movePlane .standby s else s
    | _ => startSync s
  else s

/-- Go from STANDBY to SYNCING (R375). -/
def enterSyncing (s : State) : State := if s.red.plane = .standby then decideSync (movePlane .syncing s) else s

/-- The device goes to ISOLATED (R375): an ACTIVE device relinquishes first. -/
def goIsolated (s : State) : State := endSync false (setPlane .isolated (leaveActive false s))

/-- ISOLATE (R375), where R27 lets it. -/
def isolate (s : State) : State := if clashHolds s then s else goIsolated s

/-- JOIN (R375). -/
def join (s : State) : State :=
  if s.red.plane = .isolated && !clashHolds s then
    if s.on F.RED_PARTNER_STAT_UP [] && s.g F.RED_PARTNER_STAT_TWIN_STATE [] == 3 then decideSync (setPlane .syncing s)
    else setPlane .standby s
  else s

/-- Write of RED_CTRL (R375, R395): bits set together act in the order RELINQUISH, RESYNC, ISOLATE, JOIN. -/
def writeRedCtrl (v : Word) (s : State) : State :=
  let s1 := when (F.RED_CTRL_RELINQUISH.of v == 1) (leaveActive false) s
  let s2 := when (F.RED_CTRL_RESYNC.of v == 1) enterSyncing s1
  let s3 := when (F.RED_CTRL_ISOLATE.of v == 1) isolate s2
  when (F.RED_CTRL_JOIN.of v == 1) join s3

/-- Write of RED_LEASE_CFG (R395): HELLO_MS outside 1 to 1,000 is refused. -/
def writeLeaseCfg (v : Word) (s : State) : State :=
  let n := F.RED_LEASE_CFG_HELLO_MS.of v
  if n = 0 || 1000 < n then s else s.write R.RED_LEASE_CFG [] v

/-- No heartbeat can be heard (R377): no partner lane is in UP, or none has come for 100 µs. -/
def partnerSilent (s : State) : Bool :=
  upLanes s == 0 || (match s.red.hbAt with
    | some t => decide (t + usTicks 100 < s.ticks)
    | none => true)

/-- The link goes down (R377, R27, R374, R375, R388). Heartbeats are heard on a link short of MIN_LANES too: the clash that they
showed ends with the last of them. -/
def partnerDown (s : State) : State :=
  if s.on F.RED_PARTNER_STAT_UP [] && !linkHolds s then
    let s1 := ({ s with red := { s.red with conflict := false } }.p F.RED_PARTNER_STAT_UP [] 0).p F.SYS_STRAP_ID_CLASH [] 0
    let s2 := level 319 0 true (level 313 0 false s1)
    endSync true (when (s2.red.plane = .standby) (setPlane .syncing) s2)
  else if !s.on F.RED_PARTNER_STAT_UP [] && s.on F.SYS_STRAP_ID_CLASH [] && partnerSilent s then
    level 313 0 false (s.p F.SYS_STRAP_ID_CLASH [] 0)
  else s

/-- The link comes up (R377, R376). -/
def partnerUp (s : State) : State :=
  if !s.on F.RED_PARTNER_STAT_UP [] && linkHolds s then decideSync (level 319 0 false (s.p F.RED_PARTNER_STAT_UP [] 1)) else s

/-- Send a HEARTBEAT (R378): every 10 µs, over the partner lanes in UP. -/
def heartbeatSend (s : State) : State :=
  let due := match s.red.hbSent with
    | some t => decide (t + usTicks 10 ≤ s.ticks)
    | none => true
  if due && s.g F.RED_PARTNER_STAT_LANES [] != 0 then
    let fr := ((List.range 8).filter (fun c => cadOn s c && (s.cad c).running)).map (fun c => (c, (s.cad c).frame, (s.cad c).frameH))
    let m : Heartbeat :=
      { plane := s.planeId == 1, state := Fin.ofNat 4 s.marked, epoch := s.rd R.RED_EPOCH []
        ql := Fin.ofNat 16 (s.g F.REF_DPLL_STAT_QL_SENT []), self := s.ref.current == some 14, h := s.ref.h
        echo := s.red.lastHb.map (fun x => (x.1, s.ref.h - x.2)), tx := replTx s
        rx := s.g F.RED_REPL_RX_HI_RX [] * 2 ^ 32 + s.g F.RED_REPL_RX_LO_RX [], frames := fr }
    ({ s with red := { s.red with hbSent := some s.ticks } }).tell (.heartbeat m)
  else s

/-- The round trip that a heartbeat shows, in units of H (R184, R378). -/
def heartbeatRtt (s : State) (m : Heartbeat) : Option Nat := m.echo.map (fun e => s.ref.h - e.1 - e.2)

/-- The clash of identities (R27). -/
def setClash (b : Bool) (s : State) : State :=
  let s1 := level 313 0 b (s.p F.SYS_STRAP_ID_CLASH [] (b2n b))
  when b (leaveActive false) s1

/-- Two ACTIVE devices at equal epochs (R374): plane B then owes its step-down, whatever later heartbeats say. -/
def setConflict (b : Bool) (s : State) : State :=
  let s1 := { s with red := { s.red with conflict := b, owed := s.red.owed || (b && s.planeId == 1) } }
  if b && !s.red.conflict then (occur 314 0 s1).count 444 1 else s1

/-- The time that a heartbeat gives to reference 14 and to the twin's frame starts (R184, R379, log 53). -/
def heartbeatTime (m : Heartbeat) (s : State) : State :=
  match heartbeatRtt s m with
  | none => s
  | some rtt =>
    let s1 := s.p F.RED_PARTNER_STAT_RTT [] (min (2 ^ 20 - 1) (rtt / hUnit))
    let off : Int := (s.ref.h : Int) - m.h - (rtt / 2 : Nat)
    let s2 := { s1 with red := { s1.red with twinFrames := m.frames.map (fun f => (f.1, f.2.1, ((f.2.2 : Int) + off).toNat)) } }
    when (s2.on F.REF_IN_CFG_ENABLE [14]) (measured 14 (-off - refOffset s2 14)) s2

/-- A HEARTBEAT is received (R27, R372, R374, R378, R388, R393). -/
def heartbeatReceive (m : Heartbeat) (s : State) : State :=
  if s.g F.RED_PARTNER_STAT_LANES [] = 0 then s
  else
    let left := s.g F.RED_PARTNER_STAT_TWIN_STATE [] == 3 && m.state != 3
    let r := s.red
    let s1 := { s with
      red := { r with hbAt := some s.ticks, lastHb := some (m.h, s.ref.h), twinEver := r.twinEver || m.epoch != 0,
                      txPre := if m.state = 3 then r.txPre else some m.tx }
      ref := { s.ref with twinQl := m.ql, twinSelf := m.self } }
    let s2 := ((s1.p F.RED_PARTNER_STAT_TWIN_STATE [] m.state).p F.RED_PARTNER_STAT_TWIN_PLANE [] (b2n m.plane)).wr
      R.RED_TWIN_EPOCH [] m.epoch
    let s3 := seeEpoch 2 m.epoch.toNat (when left startRecovery (heartbeatTime m s2))
    let s4 := setClash (b2n m.plane == s3.planeId) s3
    let s5 := setConflict (s4.isActive && m.state == 3 && m.epoch.toNat == s4.g F.RED_EPOCH_EPOCH []) s4
    let s6 := if s5.red.sync.isSome && m.state.val < 2 then endSync true s5 else s5
    decideSync s6

end Sys2Proof.Machine
end

