-- ==== Sys2Proof/Machine/ReplOps.lean ====
section
/-! DEFINITION. Replicated descriptors on the twin (R79, R92, R93, R308, R336, R380 to R383). -/
namespace Sys2Proof.Machine

/-- The point of a replicated take on this device (R74, R93): a switch point not resolved by the active takes this device's
resolution; a line that has begun is met one frame later. The flag says so. -/
def localStamp (s : State) (t : Stamp) : Stamp × Bool :=
  let k := s.cad t.cad
  let n := s.raster t.cad
  let res := fun (f : Nat) => match k.points.find? (fun x => x.1 == f) with
    | some (_, af, al) => Stamp.mk t.cad af al true
    | none => Stamp.mk t.cad f 0 true
  let begun := fun (x : Stamp) => x.line != 0 && decide (linePos n k.frame x.frame x.line ≤ posNow s t.cad)
  if t.line = 0 then (if begun (res t.frame) then (res ((t.frame + 1) % 2 ^ 32), true) else (res t.frame, false))
  else if begun t then ({ t with frame := (t.frame + 1) % 2 ^ 32 }, true) else (t, false)

/-- A replicated take came after its line had begun (R93). -/
def replLate (c : Nat) (s : State) : State := occur 318 0 ((s.p F.XPT_CAD_STAT_REPL_LATE [c] 1).count 172 1)

/-- A replicated descriptor as the twin holds it. -/
def replDesc (m : ReplMsg) : Desc := ⟨m.part, 0, m.bits, 0, 0, 0, 0, [], m.ver⟩

/-- Its tracker entry: it takes no credit and has no record (R336). -/
def replTok (s : State) (m : ReplMsg) : Tok :=
  let d := replDesc m
  { id := s.cmd.nextId, part := m.part, ring := 0, ver := m.ver, opcode := dOpcode d, tag := dTag m.ver d, seq := dSeq m.ver d
    noCpl := true, credit := false, dead := false, repl := true, addr := 0, bellTick := s.ticks, bellNs := s.ptp.tc0.ns
    accTick := s.ticks, period := false, bell := 0 }

/-- A base entry of an image as stored (R79): FORCED and FOLLOWER ignored, CLASS from the layout; and the followers of R39 and R43
with it. -/
def imageEntries (cls d m : Nat) (w : Word) : List (Nat × Word) :=
  let base := (w &&& 0x83FFFC00#32) ||| BitVec.ofNat 32 (cls * 2 ^ 26)
  (memberSlots cls d).flatMap (fun e => (List.range (subsOf cls)).map (fun u =>
    (8 * e.1 + m + u * (8 / subsOf cls),
     if u = 0 && e.2 = 0 then base
     else
       let (sl, _) := eSource base
       let bus := if cls = 5 then (sl / 4 * 4 + e.2) / 16 else eBus base
       let low := if cls = 5 then (eSub base - sl % 16 + (sl / 4 * 4 + e.2) % 16) else eSub base
       entryWord (eValid base) (u != 0) cls bus ((low + u * (128 / subsOf cls)) % 128) (if cls = 5 then e.2 else 0))))

/-- The pairs of index and value that an image commit carries. -/
def contentPairs : List Word → List (Nat × Word)
  | i :: w :: r => (i.toNat, w) :: contentPairs r
  | _ => []

/-- The route of a replicated take cannot be set up here (R381): the slots' layouts differ. -/
def replRouteBad (s : State) (d m : Nat) (src : Option (Nat × Nat)) : Bool :=
  match routeCheck s d m src with
  | some c => c != 0x24
  | none => false

/-- A salvo is open and not committed. -/
def salvoOpen (s : State) (k : SalvoKey) : Bool :=
  match salvoOf s k with
  | some x => x.commit.isNone
  | none => false

/-- TAKE. Each function answers none where the own set-up cannot carry the descriptor out. -/
def replTake (id : Nat) (m : ReplMsg) (d : Desc) (s : State) : Option State :=
  let (dst, b) := takeDst m.ver d
  let src := takeSrc m.ver d
  let c := dstCad s dst b
  if replRouteBad s dst b src then none
  else if cbMode m.ver d = 2 then
    let key : SalvoKey := ⟨m.part, cbSalvo m.ver d⟩
    if salvoOpen s key then some (stageTake id dst b src ⟨c, 0, 0, false⟩ false (some key) s) else none
  else match m.stamp with
    | none => none
    | some st =>
      if cadOn s st.cad then
        let (x, late) := localStamp s st
        some (when late (replLate st.cad) (stageTake id dst b src x (m.late || late) none s))
      else none

/-- AUDIO_TAKE. -/
def replAudio (id : Nat) (m : ReplMsg) (d : Desc) (s : State) : Option State :=
  let n := atN m.ver d
  let x := fun (st : Stamp) (late : Bool) (sv : Option SalvoKey) =>
    PendAud.mk id n (atC m.ver d) (atSrc m.ver d) (atFade m.ver d) st late sv
  if audRange s m.ver d then none
  else if cbMode m.ver d = 2 then
    let key : SalvoKey := ⟨m.part, cbSalvo m.ver d⟩
    if salvoOpen s key then some (stageAud (x ⟨s.g F.AUD_DCAD_CAD [n / 32], 0, 0, false⟩ false (some key)) s) else none
  else match m.stamp with
    | none => none
    | some st =>
      if cadOn s st.cad then
        let (y, late) := localStamp s st
        some (when late (replLate st.cad) (stageAud (x y (m.late || late) none) s))
      else none

/-- SALVO_OPEN. -/
def replOpen (id : Nat) (m : ReplMsg) (d : Desc) (s : State) : Option State :=
  let key : SalvoKey := ⟨m.part, body m.ver d 2 0⟩
  let c := body m.ver d 5 3
  if (salvoOf s key).isSome || !cadOn s c then none else some (finish id 0 0 0 none (openSalvo key c s))

/-- An image commit (R79): base entries are staged and their groups become a salvo without an ID. -/
def replImage (id : Nat) (m : ReplMsg) (st : Stamp) (s : State) : Option State :=
  let es := contentPairs m.content
  let bad := es.any (fun e => match dstClass s (e.1 / 8) (e.1 % 8) with
    | some c => eValid e.2 && c != eClass e.2
    | none => true)
  if bad || !cadOn s st.cad then none
  else
    let (x, late) := localStamp s st
    let gs := es.map (·.1)
    let taken := each (s.xpt.takes.filter (fun t => gs.contains (8 * t.d + t.m))) (fun t u => endTake t 1 u) s
    let s1 := each es (fun e u => stageEntries (imageEntries (groupClass u e.1) (e.1 / 8) (e.1 % 8) e.2) u) taken
    some (when late (replLate st.cad) (closeImage m.part st.cad id x (m.late || late) gs s1))

/-- SALVO_COMMIT. -/
def replCommit (id : Nat) (m : ReplMsg) (d : Desc) (s : State) : Option State :=
  let key : SalvoKey := ⟨m.part, cbSalvo m.ver d⟩
  if scAbort m.ver d then
    if scImage m.ver d then some (finish id 3 0 0 none s)
    else if salvoOpen s key then some (finish id 3 0 0 none ((abortSalvo key s).count 97 1)) else none
  else match m.stamp with
    | none => none
    | some st =>
      if scImage m.ver d then replImage id m st s
      else if salvoOpen s key && cadOn s st.cad then
        let (x, late) := localStamp s st
        some (when late (replLate st.cad) (commitSalvo key id x (m.late || late) s))
      else none

/-- CADENCE_SET and REALIGN_PULSES. -/
def replCad (realign : Bool) (id : Nat) (m : ReplMsg) (d : Desc) (s : State) : Option State :=
  match m.stamp with
  | none => none
  | some st =>
    if cadOn s st.cad then
      let (x, late) := localStamp s st
      let v := m.ver
      some (stageCad (if realign then ⟨id, x, m.late || late, true, 0, 0, 0⟩
        else ⟨id, x, m.late || late, false, csFormat v d, csRate v d, csLine v d⟩) s)
    else none

/-- ENGINE_SET: the ECB is the content. -/
def replEngine (id : Nat) (m : ReplMsg) (d : Desc) (s : State) : Option State :=
  match m.stamp with
  | none => none
  | some st =>
    if cadOn s st.cad && m.content.length == 64 then
      let (x, late) := localStamp s st
      some (stageEngine ⟨id, edEngine m.ver d, x, m.late || late, m.content, ecbCharge s m.content⟩ s)
    else none

/-- LAYER_FLIP and SIG_EXPECT: its frame is stamped, or its group takes it later. -/
def replFlip (gid : Nat) (abort : Bool) (x : FlipM) (id : Nat) (m : ReplMsg) (s : State) : Option State :=
  let c := s.engCad x.eng
  let joins := match groupOf s m.part gid with
    | some g => g.cad == c && !g.closed
    | none => true
  if abort then some (finish id 3 0 0 none ((if gid = 0 then s else abortGroup m.part gid s).count 97 1))
  else if !s.engOn x.eng || !joins then none
  else match m.stamp with
    | none => some (stageFlip m.part gid c x none s)
    | some st =>
      let (y, late) := localStamp s st
      some (stageFlip m.part gid c x (some (y.frame, m.late || late)) s)

/-- FENCE_SET. -/
def replFence (id : Nat) (m : ReplMsg) (d : Desc) (s : State) : State :=
  let v := m.ver
  { s with cmd := { s.cmd with fences := s.cmd.fences ++
    [PendFence.mk id (body v d 5 0) (body v d 7 6) (body v d 8 8 == 1) (body v d 127 64)] } }

/-- A number from 32-bit words, the lowest first. -/
def ofWords : List Word → Nat
  | [] => 0
  | w :: r => w.toNat + 2 ^ 32 * ofWords r

/-- FLOW_ADD: the entry is the content; partition checks are the active's (R308); past the cellar budget it is applied and charged
(R295). -/
def replFlow (id : Nat) (m : ReplMsg) (d : Desc) (s : State) : Option State :=
  let e := BitVec.ofNat 512 (ofWords m.content)
  let f := faFlow m.ver d
  if (flowCheck s true { d with part := 0 } f e).isSome then none else some (finish id 0 0 0 none (addFlow f e s))

/-- FLOW_DEL. -/
def replUnflow (id : Nat) (m : ReplMsg) (d : Desc) (s : State) : Option State :=
  let f := faFlow m.ver d
  if fValid (s.flow f) then some (finish id 0 0 0 none (delFlow f s)) else none

/-- Carry out a replicated descriptor (R92, R308, R336). -/
def replGo (id : Nat) (m : ReplMsg) (s : State) : Option State :=
  let d := replDesc m
  let v := m.ver
  match dOpcode d with
  | 0x10 => replTake id m d s
  | 0x11 => replOpen id m d s
  | 0x12 => replCommit id m d s
  | 0x13 => replAudio id m d s
  | 0x14 => replCad false id m d s
  | 0x15 => replCad true id m d s
  | 0x20 => replEngine id m d s
  | 0x21 => replFlip (lfGroup v d) (lfAbort v d) (lfMember v d id) id m s
  | 0x22 => some (replFence id m d s)
  | 0x23 => replFlip (seGroup v d) (seAbort v d) (seMember v d id) id m s
  | 0x30 => replFlow id m d s
  | 0x31 => replUnflow id m d s
  | _ => none

/-- Stage or drop a replicated descriptor and acknowledge it (R381, R382): a dropped one has been received in order too. -/
def replApply (m : ReplMsg) (s : State) : State :=
  let t := replTok s m
  let s1 := { s with cmd := { s.cmd with nextId := s.cmd.nextId + 1, live := s.cmd.live ++ [t] } }
  let s2 := match replGo t.id m s1 with
    | some u => u
    | none => occur 317 m.part (({ s with cmd := { s.cmd with nextId := s.cmd.nextId + 1 } }.bump F.RED_REPL_STAT_DROPPED [] 1).count 448 1)
  let s3 := (s2.p F.RED_REPL_RX_LO_RX [] (m.rseq % 2 ^ 32)).p F.RED_REPL_RX_HI_RX [] (m.rseq / 2 ^ 32)
  (s3.count 447 1).tell (.replAck m.rseq)

/-- The TAG of the last descriptor of a partition received by replication (R383). -/
def noteTag (m : ReplMsg) (s : State) : State :=
  let tag := dTag m.ver (replDesc m)
  (s.p F.RED_REPL_TAG_LO_TAG_LO [m.part] (tag % 2 ^ 32)).p F.RED_REPL_TAG_HI_TAG_HI [m.part] (tag / 2 ^ 32)

/-- The RSEQ that the next REPL must carry (R381), where it is known. -/
def replWant (s : State) (epoch : Nat) : Option Nat :=
  match s.red.rx with
  | some (e, n) => if e = epoch then some (n + 1) else s.red.txPre.map (· + 1)
  | none => s.red.txPre.map (· + 1)

/-- A REPL is received (R381, R385): only a device that follows its twin heeds it; it waits while BULK and SNAPSHOT last. -/
def replReceive (m : ReplMsg) (s : State) : State :=
  let gap := match replWant s m.epoch with
    | some n => n != m.rseq
    | none => false
  let s1 := { s with red := { s.red with rx := some (m.epoch, m.rseq) } }
  if s.takesHost then s1
  else
    let s2 := when gap (fun t => (t.p F.RED_REPL_STAT_GAP [] 1).count 449 1) (noteTag m s1)
    match s2.red.plane, s2.red.sync with
    | .standby, _ => if gap then enterSyncing s2 else replApply m s2
    | _, some y =>
      if y.phase < 2 then { s2 with red := { s2.red with sync := some { y with queue := y.queue ++ [m] } } } else replApply m s2
    | _, none => s2

end Sys2Proof.Machine
end

