-- ==== Sys2Proof/Machine/SyncOps.lean ====
section
/-! DEFINITION. Resync (R385 to R388): units copied, the snapshot installed, SETTLE; and the self-test of a standby (R391). -/
namespace Sys2Proof.Machine

/-- Bytes of the LUT pool. -/
def lutData (s : State) (a n : Nat) : List Byte := (List.range n).map (fun i => memByte s.eng.lut (a + i))

/-- The CRC-32C of a LUT set of 256 KiB (R225, R391). -/
def lutSetCrc (s : State) (n : Nat) : Nat := (crc32c (lutData s (n * 2 ^ 18) (2 ^ 18))).toNat

/-- The CRC recorded when a set was last written; one never written holds zeros. -/
def lutRecorded (s : State) (n : Nat) : Nat :=
  match find? s.red.lutCrc n with
  | some x => x
  | none => (crc32c (List.replicate (2 ^ 18) 0)).toNat

/-- Write bytes of the LUT pool: the CRC of each set written is recorded (R391). -/
def lutStore (a : Nat) (bs : List Byte) (s : State) : State :=
  let s1 := { s with eng := { s.eng with lut := memPuts s.eng.lut a bs } }
  let sets := if bs.isEmpty then [] else (List.range ((a + bs.length - 1) / 2 ^ 18 - a / 2 ^ 18 + 1)).map (a / 2 ^ 18 + ·)
  { s1 with red := { s1.red with lutCrc := sets.foldl (fun m n => put m n (lutSetCrc s1 n)) s1.red.lutCrc } }

/-- The set that an ECB names (R226). -/
def namedSet (b : List Word) : Option Nat :=
  if ecbBits b 0 31 31 = 1 && ecbBits b 0 10 9 != 0 then some (ecbBits b 1 31 25) else none

/-- Units of a resync (R385): pages of the LUT pool, then of the cellar. -/
def syncUnits : Nat := lutPages + celBytes / 4096

/-- Serve a unit to the twin (R385): from the LUT pool or, in the HOST class, from the cellar; none asks for the snapshot, which is
captured at a line start of the lowest-numbered enabled cadence, or at once while none runs. A read of the cellar waits for the stack
(R285, R286); of one whose training failed every word is sent marked errored. -/
def serveCopy (u : Option Nat) (s : State) : State :=
  match u with
  | none =>
    if (firstCadence s).isSome then { s with red := { s.red with snapAsked := true } } else s.tell (.snapshot (snapOf s))
  | some n =>
    if n < lutPages then s.tell (.copyData n (lutData s (4096 * n) 4096) [])
    else if syncUnits ≤ n then s
    else
      let t := wakePort 6 (wakePort 4 s)
      if celWaits t then celHoldReq (.copy n) t
      else if t.on F.CEL_STAT_TRAIN_FAIL [] then t.tell (.copyData n (List.replicate 4096 0) (List.range 128))
      else
      let a := 4096 * (n - lutPages)
      let (d, bad, s1) := celRead 2 a 4096 t
      s1.tell (.copyData n d (bad.map (fun w => (w - a) / 32)))

/-- Store the bytes of a unit, with its errored words (R386, R387). -/
def storeUnit (n : Nat) (data : List Byte) (errored : List Nat) (s : State) : State :=
  if n < lutPages then lutStore (4096 * n) data s
  else if celWaits s then celHoldReq (.unit n data errored) s
  else
    let a := 4096 * (n - lutPages)
    let s1 := celPut 2 a data s
    let bad := errored.filter (fun i => i < 128)
    let s2 := { s1 with cel := { s1.cel with flips := bad.foldl (fun m i => put m (celLoc s1.grain (a + 32 * i) / 32) 2) s1.cel.flips } }
    if bad.isEmpty then s2 else (s2.bump F.RED_SYNC_STAT_ERRORED [] 1).count 455 1

/-- A unit of BULK arrives (R385 to R387): the next one, or after the last the snapshot, is asked for. -/
def copyArrives (n : Nat) (data : List Byte) (errored : List Nat) (s : State) : State :=
  match s.red.sync with
  | none => s
  | some y =>
    if y.phase != 0 || y.next != n then s
    else if !errored.isEmpty && y.again != some n then
      ({ s with red := { s.red with sync := some { y with again := some n } } }).tell (.copyReq (some n))
    else
      let s1 := if y.wrote.contains n then s else storeUnit n (data.take 4096) errored s
      let s2 := { s1 with red := { s1.red with sync := some { y with next := n + 1, again := none } } }
      if n + 1 < syncUnits then
        (s2.p F.RED_SYNC_STAT_PROGRESS [] (1000 * (n + 1) / syncUnits)).tell (.copyReq (some (n + 1)))
      else
        let s3 := { s2 with red := { s2.red with sync := some { y with next := n + 1, again := none, phase := 1 } } }
        ((s3.p F.RED_SYNC_STAT_PROGRESS [] 1000).p F.RED_SYNC_STAT_PHASE [] 1).tell (.copyReq none)

/-- The device's own business gives way to the twin's (R385, log 56): what is pending of its own host's completes CANCELLED. -/
def clearPending (s : State) : State :=
  let s1 := endAuds (fun _ => true) 2 (endTakes (fun _ => true) 2 s)
  let s2 := each s1.xpt.salvos (fun x t => match x.commit with
    | some (tk, st) => finish tk 2 (b2n x.late) 0 (some st) t
    | none => t) s1
  let s3 := each s2.xpt.cadOps (fun o t => finish o.tok 2 (b2n o.late) 0 (some o.stamp) t) s2
  let s4 := commitSamples (endMembers (fun _ _ => true) 2 (each s3.eng.pend (endEngine 2) s3))
  { s4 with xpt := { s4.xpt with salvos := [], cadOps := [] }, eng := { s4.eng with groups := [] } }

/-- Replace the elements of a register array by those of a snapshot, keeping the bits of `mask` as they are here. -/
def installArray (r : Reg) (n : Nat) (mask : Word) (x : Snap) (s : State) : State :=
  let theirs := x.regs.filterMap (fun e => if r.base ≤ e.1 && e.1 < r.base + 4 * n then some ((e.1 - r.base) / 4) else none)
  let mine := (listed s r n).map (·.1)
  each ((mine ++ theirs).eraseDups) (fun i t =>
    t.wr r [i] (maskIn mask (getD (r.resetWord [i]) x.regs (r.addr [i])) (t.rd r [i]))) s

/-- The fences of a snapshot. -/
def installFences (x : Snap) (s : State) : State :=
  each (List.range 64) (fun e t => each (List.range 4) (fun k u =>
    each [R.ENG_FENCE_LO, R.ENG_FENCE_HI] (fun r v => v.wr r [e, k] (getD (r.resetWord [e, k]) x.regs (r.addr [e, k]))) u) t) s

/-- The engines whose ECB differs take the snapshot's (R385). -/
def installEngines (x : Snap) (s : State) : State :=
  each (List.range 64) (fun e t =>
    let b := (List.range 64).map (fun w => getD (R.ENG_ECB.resetWord [e, w]) x.regs (R.ENG_ECB.addr [e, w]))
    let t1 := if b = t.ecb e then t else engApply e b t
    let most := (x.engs.filter (·.eng == e)).foldl (fun a y => max a y.charge) (curCharge t1 e)
    engCharge e most t1) s

/-- The flow table becomes the snapshot's (R385): entries that differ are dropped and added again, primaries first. -/
def installFlows (x : Snap) (s : State) : State :=
  let gone := s.flw.tbl.filter (fun e => getD 0 x.flows e.1 != e.2)
  let s1 := each gone (fun e t => dropFlow e.1 t) s
  let new := x.flows.filter (fun e => fValid e.2 && s1.flow e.1 != e.2)
  let second := fun (e : Nat × BitVec 512) => fPair e.2 && fSecondary e.2
  each (new.filter (fun e => !second e) ++ new.filter second) (fun e t => addFlow e.1 e.2 t) s1

/-- The largest tracker number of a snapshot, members of an image aside. -/
def snapTop (x : Snap) : Nat :=
  let ids := x.takes.map (·.tok) ++ x.salvos.filterMap (fun y => y.commit.map (·.1)) ++ x.cadOps.map (·.tok) ++ x.auds.map (·.tok) ++ x.commits.map (·.tok)
    ++ x.engs.map (·.tok) ++ x.groups.flatMap (fun g => g.members.map (·.tok))
  (ids.filter (· != noTok)).foldl max 0

/-- What is pending in a snapshot, under tracker numbers of this device that no descriptor of it has. -/
def installPending (x : Snap) (s : State) : State :=
  let b := s.cmd.nextId
  let re := fun (n : Nat) => if n = noTok then noTok else b + n
  { s with
    cmd := { s.cmd with nextId := b + snapTop x + 1 }
    xpt := { s.xpt with
      takes := x.takes.map (fun t => { t with tok := re t.tok })
      salvos := x.salvos.map (fun y => { y with commit := y.commit.map (fun c => (re c.1, c.2)) })
      cadOps := x.cadOps.map (fun o => { o with tok := re o.tok }) }
    aud := { s.aud with
      pend := x.auds.map (fun t => { t with tok := re t.tok })
      commits := x.commits.map (fun t => { t with tok := re t.tok })
      fades := x.fades }
    eng := { s.eng with
      pend := x.engs.map (fun t => { t with tok := re t.tok })
      groups := x.groups.map (fun g => { g with members := g.members.map (fun m => { m with tok := re m.tok, reading := false }) }) } }

/-- Commits that fell due here after the capture move to the line each cadence is on (R385). -/
def dueNow (s : State) : State :=
  let now := fun (t : Stamp) =>
    let k := s.cad t.cad
    if k.running && t.line != 0 && decide (linePos (s.raster t.cad) k.frame t.frame t.line ≤ posNow s t.cad) then
      { t with frame := k.frame, line := k.line }
    else t
  let frame := fun (g : FlipGroup) =>
    let k := s.cad g.cad
    if k.running && g.closed && decide (linePos 1 k.frame g.frame 0 ≤ linePos 1 k.frame k.frame 0) then k.frame else g.frame
  { s with
    xpt := { s.xpt with
      takes := s.xpt.takes.map (fun t => { t with stamp := now t.stamp })
      salvos := s.xpt.salvos.map (fun x => { x with commit := x.commit.map (fun c => (c.1, now c.2)) })
      cadOps := s.xpt.cadOps.map (fun o => { o with stamp := now o.stamp }) }
    aud := { s.aud with pend := s.aud.pend.map (fun t => { t with stamp := now t.stamp }) }
    eng := { s.eng with
      pend := s.eng.pend.map (fun t => { t with stamp := now t.stamp })
      groups := s.eng.groups.map (fun g => { g with frame := frame g }) } }

/-- Carry out the commits that are due at installation (R385). -/
def carryDue (cycle : Nat) (s : State) : State :=
  each ((List.range 8).filter (fun c => (s.cad c).running)) (fun c t =>
    flipsDue c (commitEngines c (cadOpsDue true c (commitDue c cycle false (cadOpsDue false c t))))) (dueNow s)

/-- Fades and commit samples stand where the sample instants since the capture have brought them (R261, R385). -/
def catchFades (inst : Nat) (s : State) : State :=
  let n := s.aud.inst - inst
  if n = 0 then s
  else
    let s1 := commitSamples s
    { s1 with aud := { s1.aud with fades := s1.aud.fades.map (fun f => { f with k := f.k + n }) } }

/-- Four frames of the slowest enabled cadence in ticks (R385). -/
def settleTicks (s : State) : Nat :=
  ((List.range 8).filter (cadOn s)).foldl (fun a c =>
    let (num, den) := rateOf (s.g F.XPT_CAD_CFG_RATE [c])
    max a (ceilDiv (4 * den * 500000000) num)) 0

/-- The snapshot arrives (R385): it is installed, what fell due since is carried out, the descriptors queued since the start of BULK
and not yet in it are applied, and SETTLE begins. -/
def snapInstall (x : Snap) (cycle : Nat) (s : State) : State :=
  match s.red.sync with
  | none => s
  | some y =>
    if y.phase != 1 then s
    else
      let s1 := clearPending s
      let s2 := installArray R.AUD_LIVE 32768 0 x (installArray R.AUD_LOFT 32768 0 x
        (installArray R.XPT_LIVE 10240 0x40000000#32 x (installArray R.XPT_LOFT 10240 0 x s1)))
      let s3 := installFences x (installFlows x (installEngines x s2))
      let s4 := carryDue cycle (catchFades x.inst (installPending x s3))
      let ep := s4.g F.RED_TWIN_EPOCH_EPOCH []
      let last := match s4.red.rx with
        | some (e, n) => if e = ep && x.rseq ≤ n then (e, n) else (ep, x.rseq)
        | none => (ep, x.rseq)
      let s5 := (s4.p F.RED_REPL_RX_LO_RX [] (x.rseq % 2 ^ 32)).p F.RED_REPL_RX_HI_RX [] (x.rseq / 2 ^ 32)
      let s6 := { s5 with red := { s5.red with rx := some last, sync := some { y with phase := 3, queue := [], caught := s5.ticks, settle := s5.ticks + settleTicks s5 } } }
      (each (y.queue.filter (fun m => decide (x.rseq < m.rseq))) replApply s6).p F.RED_SYNC_STAT_PHASE [] 3

/-- RED_SYNC_STAT as it reads (R395): CATCH_UP shows in the cycle that carries it out. -/
def syncStatView (s : State) : Word :=
  let now := s.red.sync.any (fun y => y.phase == 3 && y.caught == s.ticks)
  if now then F.RED_SYNC_STAT_PHASE.into 2 (s.rd R.RED_SYNC_STAT []) else s.rd R.RED_SYNC_STAT []

/-- SETTLE is over (R385): the device goes to STANDBY. -/
def settleEnd (s : State) : State :=
  match s.red.sync with
  | some y => if s.red.plane = .syncing && y.phase = 3 && y.settle ≤ s.ticks && !clashHolds s then setPlane .standby (endSync false s) else s
  | none => s

/-- The self-test of a STANDBY device (R391). `sels` are selectors that fail, of which those without a valid route are tested;
`upsets` are bytes of the LUT pool that have changed by themselves. -/
def selfTest (sels : List Nat) (upsets : List (Nat × Byte)) (s : State) : State :=
  let s0 := { s with eng := { s.eng with lut := upsets.foldl (fun m u => memPut m u.1 u.2) s.eng.lut } }
  if s0.red.plane != .standby then s0
  else
    let idle := (sels.eraseDups).filter (fun i => decide (i < 10240) && !eValid (s0.rd R.XPT_LIVE [i]))
    let named := ((List.range 64).filterMap (fun e => if s0.engOn e then namedSet (s0.ecb e) else none)).eraseDups
    let bad := named.filter (fun n => lutSetCrc s0 n != lutRecorded s0 n)
    let fail := fun (f : FR) (inst : Nat) (t : State) => occur 316 inst ((t.bump f [] 1).count 456 1)
    let s1 := each idle (fun _ t => fail F.RED_CHECK_STAT_SEL_ERR 0 t) s0
    each bad (fun _ t => fail F.RED_CHECK_STAT_LUT_ERR 1 t) s1

end Sys2Proof.Machine
end

