-- ==== Sys2Proof/Machine/Redundancy.lean ====
section
/-! DEFINITION. The commands of plane redundancy and the lease (12_plane_redundancy.md). -/
namespace Sys2Proof.Machine

/-- GRANT_RECEIVE (R366). -/
def execGrantReceive (bytes : List Byte) (s : State) : Out := .next (leaseReceive bytes s)

/-- ACK_RECEIVE (R369). -/
def execAckReceive (bytes : List Byte) (s : State) : Out := .next (leaseReceive bytes s)

/-- BAD_MSG_RECEIVE (R362, R364): the code groups of a message, from its opening character on, at the running disparity before
them. A message that passes every check is none of this command's. -/
def execBadMsgReceive (rd : Bool) (groups : List (BitVec 10)) (s : State) : Out :=
  .next (match lineRead rd groups, leaseKey s with
  | none, _ => badMsg s
  | some bytes, some k => if (leaseParse k bytes).isNone then badMsg s else s
  | some bytes, none => if framed bytes then s else badMsg s)

/-- HELLO_SEND (R365). -/
def execHelloSend (s : State) : Out := .next (helloSend s)

/-- HEALTH_SEND (R365). -/
def execHealthSend (s : State) : Out := .next (healthSend s)

/-- LEASE_EXPIRY (R369). -/
def execLeaseExpiry (s : State) : Out := .next (leaseExpiry s)

/-- LEASE_GUARD_STEPDOWN (R369). -/
def execLeaseGuardStepdown (s : State) : Out := .next (guardStepdown s)

/-- HEARS_FC_LAPSE (R368): the hearing interval has passed, which RED_STATE shows (`hearsFc`). The last message is forgotten once no
interval that the device can come to have reaches back to it: 2 × HELLO_MS is at most 2 s, TERM ÷ 2 at most 250 ms. -/
def execHearsFcLapse (s : State) : Out :=
  .next (match s.red.heard with
  | some t => if t + msTicks 2000 < s.ticks then { s with red := { s.red with heard := none } } else s
  | none => s)

/-- EPOCH_STEPDOWN (R373). -/
def execEpochStepdown (s : State) : Out := .next (epochStepdown s)

/-- JOIN (R375). -/
def execJoin (rq : Req) (s : State) : Out := .next (gate rq .red (writeRedCtrl (fldMask 0 0)) s)

/-- ISOLATE (R375). -/
def execIsolate (rq : Req) (s : State) : Out := .next (gate rq .red (writeRedCtrl (fldMask 1 1)) s)

/-- RESYNC (R375). -/
def execResync (rq : Req) (s : State) : Out := .next (gate rq .red (writeRedCtrl (fldMask 2 2)) s)

/-- RELINQUISH (R369). -/
def execRelinquish (rq : Req) (s : State) : Out := .next (gate rq .red (writeRedCtrl (fldMask 3 3)) s)

/-- HEARTBEAT_SEND (R378). -/
def execHeartbeatSend (s : State) : Out := .next (heartbeatSend s)

/-- HEARTBEAT_RECEIVE (R378). -/
def execHeartbeatReceive (m : Heartbeat) (s : State) : Out := .next (heartbeatReceive m s)

/-- PARTNER_LINK_DOWN (R377). -/
def execPartnerLinkDown (s : State) : Out := .next (partnerDown s)

/-- PARTNER_LINK_UP (R377). -/
def execPartnerLinkUp (s : State) : Out := .next (partnerUp s)

/-- Whether a message can arrive on the partner link (R377): some partner lane is in UP. -/
def partnerHeard (s : State) (f : State → State) : State := if s.g F.RED_PARTNER_STAT_LANES [] = 0 then s else f s

/-- REPL_RECEIVE (R381). -/
def execReplReceive (m : ReplMsg) (s : State) : Out := .next (partnerHeard s (replReceive m))

/-- REPL_ACK_RECEIVE (R382). -/
def execReplAckReceive (rseq : Nat) (s : State) : Out :=
  .next (partnerHeard s (fun t =>
    let n := max (replAckd t) rseq
    (t.p F.RED_REPL_ACK_LO_ACK [] (n % 2 ^ 32)).p F.RED_REPL_ACK_HI_ACK [] (n / 2 ^ 32)))

/-- Two decisions on one matter: a later one takes the place of the earlier. -/
def sameMatter : Decision → Decision → Bool
  | .switchPoint c f _ _, .switchPoint c' f' _ _ => c == c' && f == f'
  | .flip p i e g t f _, .flip p' i' e' g' t' f' _ => p == p' && i == i' && e == e' && g == g' && t == t' && f == f'
  | .select e k f _, .select e' k' f' _ => e == e' && k == k' && f == f'
  | _, _ => false

/-- The cadence a decision concerns, and its frame. -/
def matterOf (s : State) : Decision → Nat × Nat
  | .switchPoint c f _ _ => (c.val, f)
  | .flip _ _ e _ _ f _ => (s.engCad e.val, f)
  | .select e _ f _ => (s.engCad e.val, f)

/-- Hold a decision for use: those of its cadence that lie eight frames or more from it are past. -/
def holdDecision (d : Decision) (s : State) : State :=
  let (c, f) := matterOf s d
  let near := fun (y : Decision) =>
    let (c', f') := matterOf s y
    c' != c || (f + 2 ^ 32 - f') % 2 ^ 32 < 8 || (f' + 2 ^ 32 - f) % 2 ^ 32 < 8
  { s with eng := { s.eng with decisions := s.eng.decisions.filter (fun y => near y && !sameMatter d y) ++ [d] } }

/-- A DECISION of the active (R74, R241, R384): a device that follows its twin holds it for use; a switch point that differs from
the one resolved here is shown. -/
def decisionReceive (d : Decision) (s : State) : State :=
  if s.takesHost then s
  else
    let s1 := holdDecision d s
    match d with
    | .switchPoint c f x y =>
      if (s.cad c).points.any (fun p => p.1 == f && p.2 != (x, y)) then occur 86 c ((s1.p F.XPT_CAD_STAT_SSYNC_DIFF [c] 1).count 173 1)
      else s1
    | _ => s1

/-- DECISION_RECEIVE (R378). -/
def execDecisionReceive (d : Decision) (s : State) : Out := .next (partnerHeard s (decisionReceive d))

/-- SIG_RECEIVE (R390). -/
def execSigReceive (y : SigRec) (s : State) : Out := .next (partnerHeard s (sigReceived y))

/-- SIG_MISSING_TIMEOUT (R390). -/
def execSigMissingTimeout (d : Fin 1280) (m : Fin 8) (s : State) : Out := .next (sigMissing d m s)

/-- COPY_REQ_RECEIVE (R385): a unit by its number, none for the snapshot. -/
def execCopyReqReceive (u : Option Nat) (s : State) : Out := .next (partnerHeard s (serveCopy u))

/-- COPY_DATA_RECEIVE (R386, R387): the unit's bytes, and its 32 B words marked errored. -/
def execCopyDataReceive (u : Nat) (data : List Byte) (errored : List Nat) (s : State) : Out :=
  .next (partnerHeard s (copyArrives u data errored))

/-- SNAPSHOT_INSTALL (R385). `cycle` is the core cycle count. -/
def execSnapshotInstall (x : Snap) (cycle : Nat) (s : State) : Out := .next (partnerHeard s (snapInstall x cycle))

/-- RESYNC_SETTLE_END (R385). -/
def execResyncSettleEnd (s : State) : Out := .next (settleEnd s)

/-- SELFTEST_TICK (R391). -/
def execSelftestTick (sels : List Nat) (upsets : List (Nat × Byte)) (s : State) : Out := .next (selfTest sels upsets s)

/-- RECOVERY_END (R393): the window's term is over. -/
def execRecoveryEnd (s : State) : Out := .next (if s.red.recov ≤ s.ticks then { s with red := { s.red with recov := 0 } } else s)

/-- Write of RED_LEASE_CNT, RED_SIG_CNT, RED_CHECK_STAT (R395): each clears. -/
def writeLeaseCnt (s : State) : State := s.restore R.RED_LEASE_CNT []
def writeSigCnt (s : State) : State := s.restore R.RED_SIG_CNT []
def writeCheckStat (s : State) : State := s.restore R.RED_CHECK_STAT []

/-- LEASE_CNT_CLEAR (R395). -/
def execLeaseCntClear (rq : Req) (s : State) : Out := .next (gate rq .red writeLeaseCnt s)

/-- Write of RED_REPL_STAT (R395): the flags clear by 1, CLR clears DROPPED. -/
def writeReplStat (v : Word) (s : State) : State :=
  let s1 := s.write R.RED_REPL_STAT [] v
  if F.RED_REPL_STAT_CLR.of v = 1 then s1.p F.RED_REPL_STAT_DROPPED [] 0 else s1

/-- REPL_DROPPED_CLR (R395). -/
def execReplDroppedClr (rq : Req) (s : State) : Out := .next (gate rq .red (writeReplStat (fldMask 2 2)) s)

/-- SIG_CNT_CLEAR (R395). -/
def execSigCntClear (rq : Req) (s : State) : Out := .next (gate rq .red writeSigCnt s)

/-- CHECK_STAT_CLEAR (R395). -/
def execCheckStatClear (rq : Req) (s : State) : Out := .next (gate rq .red writeCheckStat s)

end Sys2Proof.Machine
end

