-- ==== Sys2Proof/Machine/ResetOps.lean ====
section
/-! DEFINITION. The resets (R9, R426 to R428, R434): what each restores, the sources that are true when a reset ends, and the
block resets of SYS_BLK_RESET. -/
namespace Sys2Proof.Machine

/-- A register word after a reset of kind k (R9): each field that the kind restores takes its reset value. -/
def restoredWord (k : RKind) (r : Reg) (i : List Nat) (w : Word) : Word :=
  r.flds.foldl (fun w f =>
    if (f.kind.getD r.kind).rank ≤ k.rank then maskIn (fldMask f.hi f.lo) w (r.resetWord i) else w) w

/-- Whether a reset of kind k restores the register at an address (R9). -/
def restoresAt (k : RKind) (a : Nat) : Bool :=
  match findReg a with
  | some (r, _) => decide (r.kind.rank ≤ k.rank)
  | none => true

/-- Restore registers under a reset of kind k where a test on the address allows it, with their read latches and held writes
(R6, R9). -/
def restoreRegs (k : RKind) (p : Nat → Bool) (s : State) : State :=
  let regs := s.regs.filterMap (fun e =>
    if !p e.1 then some e else
    match findReg e.1 with
    | none => none
    | some (r, i) =>
      let w := restoredWord k r i e.2
      if w = r.resetWord i then none else some (e.1, w))
  { s with regs := regs
           latches := s.latches.filter (fun e => !(p e.1.2 && restoresAt k e.1.2))
           held := s.held.filter (fun e => !(p e.1.2 && restoresAt k e.1.2)) }

/-- Every register block. -/
def allBlks : List Blk := ({} : SysHid).held

/-- SYS_RESET_STAT after a reset of a kind (R449). -/
def countReset (kind : Nat) (s : State) : State := (s.p F.SYS_RESET_STAT_LAST [] kind).bump F.SYS_RESET_STAT_RESETS [] 1

/-- POR is asserted (R9, R426, R453, R459): everything returns to its reset value; the pins, the rails and the clocks stay as they
are. -/
def porAssert (rails : List Nat) (hot : Bool) (s : State) : State :=
  let r : State := {}
  { r with pending := s.pending, out := s.out, free := s.free, ticks := s.ticks
           cmd := { r.cmd with perst := s.cmd.perst }
           sys := { r.sys with rstLow := s.sys.rstLow, railOut := (s.sys.railOut ++ rails).eraseDups, clk := s.sys.clk
                               hot := hot || s.sys.hot } }

/-- POR_ASSERT (R453, R454): power is applied, or the rails listed have fallen below 80 % of nominal. -/
def execPorAssert (rails : List (Fin 6)) (s : State) : Out := .next (porAssert (rails.map (·.val)) false s)

/-- A supply excursion at the collector (R453). -/
def railFault (i : Nat) (s : State) : State :=
  let s1 := occur 330 i ((s.p F.SYS_RAIL_EXCURSION [i] 1).count 583 1)
  s1.p F.FLT_SRC_STAT_COND [330] 1

/-- Whether the core PLL, which is both on-die PLLs together, is out of lock (R470). -/
def pllOut (s : State) : Bool := !(s.sys.clk.getLsbD 7 && s.sys.clk.getLsbD 6)

/-- Whether REFCLK_CORE is absent. -/
def refOut (s : State) : Bool := !s.sys.clk.getLsbD 5

/-- The faults of the fuse sensing (R434): each marginal trim word (18 to 69), the root secret. Reserved words raise none. -/
def fuseFaults (s : State) : State :=
  let bad := fun (i : Nat) => (s.rd R.KEY_FUSE_MARG [i / 32]).getLsbD (i % 32)
  let s1 := each (((List.range 52).map (· + 18)).filter bad) (fun i t => occur 323 i t) s
  when (s.on F.KEY_FUSE_STATUS_ROOT_MARGINAL []) (occur 324 0) s1

/-- The levels that are true when a POR or RESET_N ends (R397): the PCIe link and the partner link are down; the rails, the PLLs
and REFCLK_CORE as they are. The first interval of the history starts here (R196). -/
def endReset (s : State) : State :=
  let s1 := level 319 0 true (level 1 0 true s)
  let s2 := each s1.sys.railOut railFault s1
  let s3 := level 332 0 (refOut s) (level 331 0 (pllOut s) s2)
  { s3 with ref := { s3.ref with histAt := s3.ticks }
            cel := { s3.cel with scrubAt := s3.ticks } }

/-- Number of bits at 1 among the lowest n of a number. -/
def popCount (n v : Nat) : Nat := ((List.range n).map (fun i => b2n (bitOf v i))).sum

/-- POR_RELEASE (R429, R433 to R435): the fuses are sensed, 128 words at the normal threshold and at the strict margins, PLANE_ID
is sampled, the rails are measured. POR ends once every rail is within tolerance (R453) and no sensor is hot (R459). With RESET_N
low the device stays in reset (R454). -/
def execPorRelease (plane : Bool) (normal low high : BitVec 4096) (mv : BitVec 96) (s : State) : Out :=
  .next (if !s.sys.por || !s.sys.railOut.isEmpty || s.sys.hot then s
  else
    let word := fun (v : BitVec 4096) (i : Nat) => v.extractLsb' (32 * i) 32
    let bad := (List.range 128).filter (fun i => !(word normal i == word low i && word normal i == word high i))
    let any := fun (lo hi : Nat) => b2n (bad.any (fun i => lo ≤ i && i ≤ hi))
    let s1 := each ((List.range 120).map (· + 8)) (fun i t => t.wr R.KEY_FUSE [i] (word normal i)) s
    let s2 := each bad (fun i t => t.p F.KEY_FUSE_MARG_MARG [i / 32] (t.g F.KEY_FUSE_MARG_MARG [i / 32] + 2 ^ (i % 32))) s1
    let s3 := ((((((s2.p F.KEY_FUSE_STATUS_SENSED [] 1).p F.KEY_FUSE_STATUS_MARG_COUNT [] (min 127 bad.length)).p
      F.KEY_FUSE_STATUS_ROOT_MARGINAL [] (any 0 7)).p F.KEY_FUSE_STATUS_PKH_MARGINAL [] (any 8 15)).p
      F.KEY_FUSE_STATUS_RB_MARGINAL [] (any 16 17)).p F.KEY_FUSE_STATUS_TRIM_MARGINAL [] (any 18 127)).p
      F.BOOT_ROLLBACK_FLOOR [] (popCount 64 (normal.toNat >>> 512))
    let s4 := each (List.range 6) (fun i t => t.p F.SYS_RAIL_MV [i] (bitsOf mv.toNat (16 * i + 15) (16 * i))) s3
    let s5 := { s4 with sys := { s4.sys with por := false, root := leBytes 32 normal.toNat, clk := s4.sys.clk ||| 0xE0
                                             sensedLow := s4.sys.rstLow } }
    let s6 := s5.p F.SYS_STRAP_PLANE_ID [] (b2n plane)
    if s6.sys.rstLow then s6 else fuseFaults (endReset (s6.p F.BOOT_STAT_STAGE [] 1)))

/-- RESET_N_ASSERT (R9, R426, R414): every register but those restored by POR alone; counters, house time, plane state, lease and
routes with them. The fuse reading, the contents of the cellar and of the LUT pool, the pins, rails and clocks stay. -/
def execResetNAssert (s : State) : Out :=
  .next (if s.sys.por then { s with sys := { s.sys with rstLow := true } }
  else if s.sys.rstLow then s
  else
    let r : State := {}
    let t := restoreRegs .resetN (fun _ => true) s
    countReset 1 { r with
      pending := s.pending, out := s.out, free := s.free, ticks := s.ticks, regs := t.regs
      cmd := { r.cmd with perst := s.cmd.perst }
      red := { r.red with twinEver := s.red.twinEver, lutCrc := s.red.lutCrc }
      eng := { r.eng with lut := s.eng.lut }
      cel := { r.cel with mem := s.cel.mem, flips := s.cel.flips }
      sys := { r.sys with por := false, rstLow := true, root := s.sys.root, sensedLow := s.sys.sensedLow
                          railOut := s.sys.railOut, clk := s.sys.clk } })

/-- RESET_N_DEASSERT (R25, R397, R429): PLANE_ID is sampled again; stage 1 starts, after POR if that still holds. -/
def execResetNDeassert (plane : Bool) (s : State) : Out :=
  .next (if !s.sys.rstLow then s
  else
    let s1 := { s with sys := { s.sys with rstLow := false } }.p F.SYS_STRAP_PLANE_ID [] (b2n plane)
    if s1.sys.por then s1
    else
      let s2 := { s1 with sys := { s1.sys with sensedLow := false } }
      when s.sys.sensedLow fuseFaults
        (endReset (s2.p F.BOOT_STAT_STAGE [] 1)))

/-- Write of SYS_RESET (R427): an ACTIVE device first leaves ACTIVE with its RELINQUISH. -/
def writeSysReset (v : Word) (s : State) : State :=
  if F.SYS_RESET_SOFT.of v = 1 then
    let s1 := leaveActive false s
    { s1 with sys := { s1.sys with softDue := true } }
  else s

/-- SOFT_RESET (R427). -/
def execSoftReset (rq : Req) (s : State) : Out := .next (gate rq .sys (writeSysReset 1#32) s)

/-- Every ring of every partition is disabled (R360), with the partition pages restored; the configuration space, with its Bus
Master Enable, and the MSI-X table stay (R426). -/
def softRings (s : State) : State :=
  let s1 := each allParts resetRings s
  let s2 := restoreRegs .soft (fun _ => true) s1
  let s3 := each allParts (fun p t => t.p F.HIF_PART_STAT_BME [p] (s.g F.HIF_PART_STAT_BME [p])) s2
  { s3 with cmd := { s3.cmd with
      unmasked := s.cmd.unmasked
      pba := s.cmd.pba
      msix := s.cmd.msix
      msiFor := s.cmd.msiFor } }

/-- What SOFT discards of the stamped descriptors (R427): the members of salvos and flip groups still open. -/
def softOpen (s : State) : State :=
  let s1 := each (s.xpt.salvos.filter (fun x => x.commit.isNone)) (fun x t => abortSalvo x.key t) s
  let s2 := endMembers (fun g _ => !g.closed) 3 s1
  { s2 with eng := { s2.eng with groups := s2.eng.groups.filter (·.closed) } }

/-- SOFT takes effect, but for stage 2 of the boot ROM (R426, R427, R446). -/
def softReset (s : State) : State :=
  let s1 := goIsolated (softOpen (softRings s))
  let s2 := { s1 with
    pmu := { s1.pmu with sampN := 0, dropsBefore := 0, notified := false }
    red := { s1.red with tExp := none }
    sys := { s1.sys with softDue := false } }
  let s3 := match s2.sys.fw with
    | some x => finish x.tok 0x5B 0 0 none { s2 with sys := { s2.sys with fw := none } }
    | none => s2
  (countReset 2 s3).count 579 1

/-- The units and the block of SYS_BLK_RESET by bit, with what each resets (R428, R449). -/
def blkBits : List (Nat × Blk) := [(13, .pmu), (10, .zl), (9, .cel), (2, .xpt)]

/-- A block reset by its bit: the registers marked Block, or the cellar controller under R288. -/
def blkApply (b : Nat × Blk) (s : State) : State :=
  if b.2 = .cel then celHold s
  else
    let s1 := restoreRegs .block (fun a => blkAt a == some b.2) s
    if b.2 = .pmu then { s1 with pmu := { s1.pmu with sampN := 0, dropsBefore := 0, notified := false } } else s1

/-- Write of SYS_BLK_RESET (R428): each bit written 1 places its block in reset for 1 µs. -/
def writeBlkReset (v : Word) (s : State) : State :=
  each (blkBits.filter (fun b => v.getLsbD b.1)) (fun b t =>
    let t1 := blkApply b (t.wr R.SYS_BLK_RESET [] (t.rd R.SYS_BLK_RESET [] ||| BitVec.ofNat 32 (2 ^ b.1)))
    { t1.count 580 1 with sys := { t1.sys with blkEnds := putD 0 t1.sys.blkEnds b.1 (t1.ticks + usTicks 1) } }) s

/-- BLOCK_RESET (R428). -/
def execBlockReset (rq : Req) (v : Word) (s : State) : Out := .next (gate rq .sys (writeBlkReset v) s)

/-- BLOCK_RESET_RELEASE (R428, R288): the blocks whose 1 µs has passed leave reset and their bits clear; the cellar trains
again. -/
def execBlockResetRelease (s : State) : Out :=
  .next (each (blkBits.filter (fun b => s.sys.blkEnds.any (fun e => e.1 == b.1 && decide (e.2 ≤ s.ticks)))) (fun b t =>
    let t1 := if b.2 = .cel then celRetrain t else blkApply b t
    let t2 := t1.wr R.SYS_BLK_RESET [] (t1.rd R.SYS_BLK_RESET [] &&& ~~~(BitVec.ofNat 32 (2 ^ b.1)))
    { t2 with sys := { t2.sys with blkEnds := drop1 t2.sys.blkEnds b.1 } }) s)

end Sys2Proof.Machine
end

