-- ==== Sys2Proof/Machine/BootOps.lean ====
section
/-! DEFINITION. The boot ROM's stage 2, the image checks, firmware updates, the key register and anti-rollback
(15_boot_keys_firmware.md). -/
namespace Sys2Proof.Machine

/-- UPDATE_SEQ of a slot record (R438); none where TAG or CRC is wrong. -/
def slotRecord (w : BitVec 128) : Option Nat :=
  let b := leBytes 16 w.toNat
  if bitsOf w.toNat 31 0 = 0x52544C53 && (crc32c (b.take 12)).toNat = bitsOf w.toNat 127 96 then some (bitsOf w.toNat 63 32)
  else none

/-- The order in which stage 2 tries the slots (R440). -/
def slotOrder : Option Nat → Option Nat → List Nat
  | some a, some b => if a < b then [1, 0] else [0, 1]
  | none, some _ => [1, 0]
  | _, none => [0, 1]

/-- Recovery (R442). -/
def enterRecovery (code : Nat) (s : State) : State :=
  let s1 := (s.p F.BOOT_STAT_STAGE [] 4).p F.BOOT_STAT_RECOV [] code
  { s1 with sys := { s1.sys with toTry := [] } }

/-- The boot ROM starts stage 2 (R440): `flash` says that the flash answers and is suitable; the slot records as the flash holds
them. What BOOT shows of the last boot starts anew. -/
def stage2 (flash : Bool) (r0 r1 : BitVec 128) (s : State) : State :=
  let s1 := (((s.p F.BOOT_STAT_STAGE [] 2).p F.BOOT_STAT_FW_RUNNING [] 0).p F.BOOT_STAT_SKIPPED [] 0).p F.BOOT_STAT_RECOV [] 0
  let s2 := each [0, 1] (fun k t => (t.p F.BOOT_SLOT_STAT_REASON [k] 0).wr R.BOOT_VERSION [] 0) s1
  if s2.on F.KEY_FUSE_STATUS_PKH_MARGINAL [] then enterRecovery 1 s2
  else if s2.on F.KEY_FUSE_STATUS_RB_MARGINAL [] then enterRecovery 2 s2
  else if !flash then
    enterRecovery 4 (each [0, 1] (fun k t => ((t.wr R.BOOT_SLOT_SEQ [k] 0).wr R.BOOT_SLOT_STAT [k] 8).wr R.BOOT_SLOT_VER [k] 0) s2)
  else
    let show_ := fun (x : Nat × Option Nat) (t : State) =>
      (t.wr R.BOOT_SLOT_SEQ [x.1] (BitVec.ofNat 32 (x.2.getD 0))).p F.BOOT_SLOT_STAT_RECORD [x.1] (b2n x.2.isSome)
    let s3 := each [(0, slotRecord r0), (1, slotRecord r1)] show_ s2
    { s3 with sys := { s3.sys with toTry := slotOrder (slotRecord r0) (slotRecord r1) } }

/-- A slot is skipped (R440); with none left no slot has started. -/
def skipSlot (k reason : Nat) (s : State) : State :=
  let s1 := (s.p F.BOOT_SLOT_STAT_REASON [k] reason).p F.BOOT_STAT_SKIPPED [] (s.g F.BOOT_STAT_SKIPPED [] ||| 2 ^ k)
  let s2 := (occur 325 k s1).count 559 1
  let s3 := { s2 with sys := { s2.sys with toTry := s2.sys.toTry.drop 1 } }
  if s3.sys.toTry.isEmpty then enterRecovery 3 s3 else s3

/-- A field of an image header (R439): offset and size in bytes, little-endian. -/
def hdr (h : List Byte) (o n : Nat) : Nat := ofLE ((h.drop o).take n)

/-- The firmware signing key's hash in the fuses (R432). -/
def pkh (s : State) : List Byte := (List.range 8).flatMap (fun i => leBytes 4 (s.rd R.KEY_FUSE [8 + i]).toNat)

/-- The header check of R439: 0 where it passes, else the reason of BOOT_SLOT_STAT for the first line that does not hold
(DEDUCED, log 62). -/
def headerReason (s : State) (h : List Byte) : Nat :=
  let rev := s.g F.HIF_ID_REV []
  let key := (h.drop 0x20).take 65
  if hdr h 0 4 != 0x3146564D || hdr h 4 2 != 1 then 2
  else if hdr h 6 2 != 0x1152 then 3
  else if hdr h 0xA 2 != 0 || hdr h 0x18 8 != 0 || hdr h 0x61 31 != 0 || hdr h 0x100 256 != 0 then 2
  else if rev < hdr h 8 1 || hdr h 9 1 < rev then 3
  else if hdr h 0x10 4 = 0 || 4193792 < hdr h 0x10 4 || hdr h 0x10 4 ≤ hdr h 0x14 4 then 2
  else if sha256 key != pkh s then 4
  else if !ecdsaVerify key ((h.drop 0x80).take 64) (h.take 0x80) then 6
  else if hdr h 0xF 1 < s.g F.BOOT_ROLLBACK_FLOOR [] then 5
  else 0

/-- The check of a slot's copy (R439, R440): 0 where it may run, else the reason. A copy that ends before the body does is a flash
error. -/
def imageReason (s : State) (d : List Byte) : Nat :=
  if d.length < 512 then 8
  else
    let h := d.take 512
    let r := headerReason s h
    if r != 0 then r
    else
      let n := hdr h 0x10 4
      if d.length < 512 + n then 8
      else if ecdsaVerify ((h.drop 0x20).take 65) ((h.drop 0xC0).take 64) (h.take 0xC0 ++ (d.drop 512).take n) then 0 else 7

/-- The image of a slot starts (R440, R429): at the first start after a reset the cellar then trains (R286, R288). -/
def startSlot (k version : Nat) (s : State) : State :=
  let s1 := (((s.p F.BOOT_STAT_SLOT_RUN [] k).p F.BOOT_STAT_STAGE [] 3).p F.BOOT_STAT_FW_RUNNING [] 1).wr R.BOOT_VERSION []
    (BitVec.ofNat 32 version)
  let s2 := { s1 with sys := { s1.sys with toTry := [] } }
  if !s2.on F.BOOT_STAT_READY [] && s2.g F.CEL_STAT_STATE [] = 0 && !s2.on F.CEL_STAT_TRAIN_FAIL [] then startTraining s2 else s2

/-- A copy of the slot that stage 2 tries is complete, none where the flash failed (R440). -/
def slotCopied (data : Option (List Byte)) (s : State) : State :=
  match s.sys.toTry with
  | [] => s
  | k :: _ =>
    let d := data.getD []
    let ver := if d.length < 512 then 0 else hdr d 0xC 4
    let s1 := s.wr R.BOOT_SLOT_VER [k] (BitVec.ofNat 32 ver)
    let r := imageReason s1 d
    if r = 0 then startSlot k ver s1 else skipSlot k r s1

/-- Fields of an FW_UPDATE (R349). -/
def fwAddr (v : Nat) (d : Desc) : Nat := body v d 21 0 * 4096
def fwLen (v : Nat) (d : Desc) : Nat := body v d 95 64

/-- Reserved bits of an FW_UPDATE (R349). -/
def fwBad (v : Nat) (d : Desc) : Bool := body v d 63 22 != 0 || body v d 383 96 != 0

/-- The checks of FW_UPDATE before its header is read (R349, R444, R446). -/
def fwEarly (v : Nat) (d : Desc) (s : State) : Option (Nat × Nat) :=
  let n := fwLen v d
  if s.sys.fw.isSome || s.on F.BOOT_ROLLBACK_BUSY [] || !s.on F.BOOT_STAT_FW_RUNNING [] then some (0x58, 0)
  else if n = 0 || 2 ^ 22 < n || !inCellar (fwAddr v d) n then some (0x5C, 0)
  else none

/-- The address of the header that an FW_UPDATE at the head of a ring has the firmware read, in the HOST class (R445). -/
def fwReads (p r : Nat) (s : State) : Option Nat :=
  match headDesc s p r with
  | none => none
  | some d =>
    let v := ringVer s p r
    if dOpcode d != 0x40 || (dBarrier v d && earlierWaits s p d.bell) then none
    else match generalCheck v d true (fwBad v d) true false (popDesc p r s) with
      | (some _, _) => none
      | (none, s1) => if (fwEarly v d s1).isNone then some (fwAddr v d) else none

/-- The checks of FW_UPDATE (R349, R444 to R446). The header is read from the cellar; one with an uncorrectable word fails its
check (DESIGN CHOICE, log 63). -/
def fwOwn (v : Nat) (d : Desc) (s : State) : Option (Nat × Nat) :=
  let a := fwAddr v d
  let n := fwLen v d
  if (fwEarly v d s).isSome then fwEarly v d s
  else
    let h := s.celData a 512
    let r := headerReason s h
    if s.on F.CEL_STAT_TRAIN_FAIL [] || (wordsOf a 512).any (celUe s) || (r != 0 && r != 5) || n != 512 + hdr h 0x10 4 then some (0x59, 0)
    else if r = 5 then some (0x5A, 0) else none

/-- An FW_UPDATE is accepted: its header has been read (R445). -/
def fwGo (id v : Nat) (d : Desc) (s : State) : State :=
  let a := fwAddr v d
  { s with sys := { s.sys with fw := some ⟨id, a, fwLen v d, hdr (s.celData a 512) 0xC 4⟩ } }

/-- The end of an update (R445): written and read back, or failed; then `kept` says whether the slot's record still reads
present. -/
def fwEnd (ok kept : Bool) (s : State) : State :=
  match s.sys.fw with
  | none => s
  | some x =>
    let k := 1 - s.g F.BOOT_STAT_SLOT_RUN []
    let seq := (s.g F.BOOT_SLOT_SEQ_UPDATE_SEQ [1 - k] + 1) % 2 ^ 32
    let s0 := { s with sys := { s.sys with fw := none } }
    if ok then
      let (img, _, s1) := celRead 2 x.addr x.len s0
      let s2 := (((s1.emit (.flashSlot k seq img)).wr R.BOOT_SLOT_VER [k] (BitVec.ofNat 32 x.version)).wr R.BOOT_SLOT_SEQ [k]
        (BitVec.ofNat 32 seq)).p F.BOOT_SLOT_STAT_RECORD [k] 1
      finish x.tok 0 0 (k + x.version * 2 ^ 32) none (s2.count 556 1)
    else
      let s1 := if kept then s0 else (s0.wr R.BOOT_SLOT_SEQ [k] 0).p F.BOOT_SLOT_STAT_RECORD [k] 0
      finish x.tok 0x5B 0 0 none s1

/-- The management watchdog expires (R444). -/
def fwWatchdog (flash : Bool) (r0 r1 : BitVec 128) (s : State) : State :=
  stage2 flash r0 r1 (fwEnd false true ((occur 326 0 s).count 558 1))

/-- Write of KEY_CTRL (R436, R437): a write that derives or clears is refused with the flag of the first row that applies. -/
def writeKeyCtrl (v : Word) (s : State) : State :=
  let s1 := s.write R.KEY_CTRL [] v
  let der := F.KEY_CTRL_DERIVE.of v = 1
  let clr := F.KEY_CTRL_CLEAR.of v = 1
  let use := F.KEY_CTRL_USE.of v
  let len := F.KEY_CTRL_LABEL_LEN.of v
  if !der && !clr then s1
  else if s1.on F.KEY_FUSE_STATUS_ROOT_MARGINAL [] then (s1.p F.KEY_STAT_REF_MARGINAL [] 1).count 555 1
  else if s1.holder then (s1.p F.KEY_STAT_REF_HOLDER [] 1).count 555 1
  else if (der && (32 < len || use = 0 || use = 3)) || s1.on F.KEY_STAT_BUSY [] || (der && clr) then
    (s1.p F.KEY_STAT_LEN_ERR [] 1).count 555 1
  else if clr then
    ((each (List.range 8) (fun i t => t.wr R.KEY_REG [i] 0) s1).p F.KEY_STAT_LOADED [] 0).p F.KEY_STAT_USE [] 0
  else
    let label := ((List.range 8).flatMap (fun i => leBytes 4 (s1.rd R.KEY_LABEL [i]).toNat)).take len
    let s2 := s1.p F.KEY_STAT_BUSY [] 1
    { s2 with sys := { s2.sys with derive_ := some (label, use) } }

/-- The derivation completes (R436). -/
def keyDerived (s : State) : State :=
  match s.sys.derive_ with
  | none => s
  | some (label, use) =>
    let salt := (List.range 4).flatMap (fun i => leBytes 4 (s.rd R.KEY_FUSE [18 + i]).toNat)
    let key := hkdf salt s.sys.root label
    let s1 := each (List.range 8) (fun i t => t.wr R.KEY_REG [i] (BitVec.ofNat 32 (ofLE ((key.drop (4 * i)).take 4)))) s
    let s2 := ((s1.p F.KEY_STAT_LOADED [] 1).p F.KEY_STAT_USE [] use).p F.KEY_STAT_BUSY [] 0
    { s2 with sys := { s2.sys with derive_ := none } }.count 554 1

/-- Write of BOOT_ROLLBACK (R448): a write of ADVANCE that is refused changes ERR alone. -/
def writeRollback (v : Word) (s : State) : State :=
  let upTo := F.BOOT_ROLLBACK_TARGET.of v
  if F.BOOT_ROLLBACK_ADVANCE.of v = 0 then s.write R.BOOT_ROLLBACK [] v
  else if s.g F.BOOT_VERSION_VERSION [] / 2 ^ 24 < upTo || 64 < upTo || upTo ≤ s.g F.BOOT_ROLLBACK_FLOOR [] || s.sys.fw.isSome
      || s.on F.BOOT_ROLLBACK_BUSY [] then s.p F.BOOT_ROLLBACK_ERR [] 1
  else
    let s1 := (s.write R.BOOT_ROLLBACK [] v).p F.BOOT_ROLLBACK_BUSY [] 1
    { s1 with sys := { s1.sys with rbTo := some upTo } }

/-- The lowest anti-rollback bit at 0. -/
def rbNext (s : State) : Nat :=
  let w := (s.rd R.KEY_FUSE [16]).toNat + 2 ^ 32 * (s.rd R.KEY_FUSE [17]).toNat
  ((List.range 64).find? (fun i => !bitOf w i)).getD 64

/-- An anti-rollback bit has been programmed and read (R448): `ok` at both strict margins, else `one` as it reads at the normal
threshold. -/
def rbProgrammed (ok one : Bool) (s : State) : State :=
  match s.sys.rbTo with
  | none => s
  | some upTo =>
    let b := rbNext s
    let k := 16 + b / 32
    let s1 := if (ok || one) && b < 64 then
      (s.wr R.KEY_FUSE [k] (s.rd R.KEY_FUSE [k] ||| BitVec.ofNat 32 (2 ^ (b % 32)))).p F.BOOT_ROLLBACK_FLOOR []
        (s.g F.BOOT_ROLLBACK_FLOOR [] + 1) else s
    let taken := { s1.p F.BOOT_ROLLBACK_BUSY [] 0 with sys := { s1.sys with rbTo := none } }
    if !ok then (taken.p F.BOOT_ROLLBACK_ERR [] 1).count 557 1
    else if upTo ≤ s1.g F.BOOT_ROLLBACK_FLOOR [] then taken else s1

end Sys2Proof.Machine
end

