-- ==== Sys2Proof/Machine/Boot.lean ====
section
/-! DEFINITION. The commands of boot, keys and firmware (15_boot_keys_firmware.md). -/
namespace Sys2Proof.Machine

/-- SOFT_RESET_EFFECT (R426, R427): SOFT takes effect and stage 2 runs again on the flash as it then is. -/
def execSoftResetEffect (flash : Bool) (r0 r1 : BitVec 128) (s : State) : Out :=
  .next (if s.sys.softDue then stage2 flash r0 r1 (softReset s) else s)

/-- BOOT_STAGE1_DONE (R429): HIF, KEY, BOOT and SYS leave reset; stage 2 starts. -/
def execBootStage1Done (flash : Bool) (r0 r1 : BitVec 128) (s : State) : Out :=
  .next (if s.g F.BOOT_STAT_STAGE [] = 1 && !inReset s then
    let held := s.sys.held.filter (fun b => !([Blk.hif, Blk.key, Blk.boot, Blk.sys].contains b))
    stage2 flash r0 r1 { s with sys := { s.sys with held := held } }
  else s)

/-- SLOT_COPY_DONE (R440). -/
def execSlotCopyDone (data : Option (List Byte)) (s : State) : Out :=
  .next (if s.g F.BOOT_STAT_STAGE [] = 2 then slotCopied data s else s)

/-- BOOT_READY (R429): the cellar has trained after the start of the firmware; the remaining blocks leave reset. -/
def execBootReady (s : State) : Out :=
  .next (if s.on F.BOOT_STAT_FW_RUNNING [] && !s.on F.BOOT_STAT_READY [] && !s.cel.training && !inReset s then
    let s1 := s.p F.BOOT_STAT_READY [] 1
    { s1 with sys := { s1.sys with held := [] } }
  else s)

/-- FW_WDOG_EXPIRY (R444). -/
def execFwWdogExpiry (flash : Bool) (r0 r1 : BitVec 128) (s : State) : Out :=
  .next (if s.on F.BOOT_STAT_FW_RUNNING [] then fwWatchdog flash r0 r1 s else s)

/-- DERIVE (R436, R437): a write of KEY_CTRL with DERIVE at 1. -/
def execDerive (rq : Req) (v : Word) (s : State) : Out := .next (gate rq .key (writeKeyCtrl (v ||| fldMask 31 31)) s)

/-- KEY_DERIVE_DONE (R436). -/
def execKeyDeriveDone (s : State) : Out := .next (keyDerived s)

/-- CLEAR (R436, R437): a write of KEY_CTRL with CLEAR at 1. -/
def execClear (rq : Req) (v : Word) (s : State) : Out := .next (gate rq .key (writeKeyCtrl (v ||| fldMask 30 30)) s)

/-- ADVANCE (R448): a write of BOOT_ROLLBACK with ADVANCE at 1. -/
def execAdvance (rq : Req) (v : Word) (s : State) : Out := .next (gate rq .boot (writeRollback (v ||| fldMask 31 31)) s)

/-- RB_BIT_PROGRAMMED (R448). -/
def execRbBitProgrammed (ok one : Bool) (s : State) : Out := .next (rbProgrammed ok one s)

/-- FW_UPDATE (R349, R445). Its header is read with the checks and logs of R289 and R290, whether it is then refused or not; while the
stack is not ready, the descriptor waits (R285, R286). -/
def execFwUpdate (p r : Fin 8) (s : State) : Out :=
  .next (match fwReads p r s with
    | none => present p r 0x40 fwBad true false fwOwn fwGo s
    | some a => if celWaits s then srWake s else present p r 0x40 fwBad true false fwOwn fwGo (celRead 2 a 512 s).2.2)

/-- FW_UPDATE_COMPLETE (R445): the image is read from the cellar, once the stack is ready. -/
def execFwUpdateComplete (ok kept : Bool) (s : State) : Out :=
  .next (if ok && s.sys.fw.isSome && celWaits s then srWake s else fwEnd ok kept s)

end Sys2Proof.Machine
end

