-- ==== Sys2Proof/Machine/BdpOps.lean ====
section
/-! DEFINITION. The bulk data port (R310 to R313): what its spaces read as, what refuses a write, the flags and the window. -/
namespace Sys2Proof.Machine

/-- The window address of a channel (R311). -/
def bdpW (s : State) (c : Nat) : Nat := s.g F.HIF_BDP_ADDR_HI_W_HI [c] * 2 ^ 32 + s.g F.HIF_BDP_ADDR_LO_W_LO [c] * 2 ^ 12

/-- A byte address of the channel's space for an offset in its window; W_HI is ignored in internal space (R320). -/
def bdpAddr (s : State) (c o : Nat) : Nat :=
  if s.on F.HIF_BDP_CTRL_SPACE [c] then bdpW s c % 2 ^ 32 + o else bdpW s c + o

/-- A dword lies where the channel may not reach (R312): outside the space, outside the partition's cellar window, or in internal
space for channels 1 to 7. -/
def bdpOut (s : State) (c a : Nat) : Bool :=
  if s.on F.HIF_BDP_CTRL_SPACE [c] then (decide (1 ≤ c) && decide (c ≤ 7)) || decide (2 ^ 32 ≤ a)
  else decide (celBytes ≤ a) || (decide (1 ≤ c) && decide (c ≤ 7) &&
    !(s.on F.HIF_PART_CEL_BASE_VALID [c] && decide (s.g F.HIF_PART_CEL_BASE_BASE [c] ≤ a / 4096)
      && decide (a / 4096 ≤ s.g F.HIF_PART_CEL_LIMIT_LIMIT [c])))

/-- A dword of internal space (R310). How the larder lays out what it holds is not stated: its dwords are free values (log 66). -/
def innerDword (a : Nat) (s : State) : Word × State :=
  if 0x10000000 ≤ a && a < 0x10100000 then ((s.flow ((a - 0x10000000) / 64)).extractLsb' (a % 64 * 8) 32, s)
  else if 0x20000000 ≤ a && a < 0x21400000 then (BitVec.ofNat 32 (ofLE (lutData s (a - 0x20000000) 4)), s)
  else if 0x30000000 ≤ a && a < 0x3000A000 then (s.rd R.XPT_LOFT [(a - 0x30000000) / 4], s)
  else if 0x30010000 ≤ a && a < 0x3001A000 then (s.rd R.XPT_LIVE [(a - 0x30010000) / 4], s)
  else if 0x31000000 ≤ a && a < 0x31020000 then (s.rd R.AUD_LIVE [(a - 0x31000000) / 4], s)
  else if 0x40000000 ≤ a && a < 0x41800000 then
    let (n, s1) := s.freeNat 32
    (BitVec.ofNat 32 n, s1)
  else (0, s)

/-- The engines that name a LUT set (R226). -/
def lutNamers (s : State) (n : Nat) : List Nat :=
  (List.range 64).filter (fun e => (s.engOn e && namedSet (s.ecb e) == some n) ||
    s.eng.pend.any (fun x => x.eng == e && namedSet x.ecb == some n))

/-- Whether internal space takes a write of a dword (R310, R312). -/
def innerTakes (s : State) (a : Nat) : Bool :=
  (0x20000000 ≤ a && a < 0x21400000 && (lutNamers s ((a - 0x20000000) / 2 ^ 18)).isEmpty) ||
  (0x30000000 ≤ a && a < 0x3000A000 && s.on F.XPT_BANK_CTRL_IMAGE_OPEN [])

/-- A write of entry i of the loft bank image (R79). -/
def imageWrite (i : Nat) (w : Word) (s : State) : State :=
  let d := i / 8
  let k := i % 8
  let c := dstSub s d k
  if subsOf c = 0 then s.wr R.XPT_LOFT [i] (maskIn 0x9FFFFC00#32 (s.rd R.XPT_LOFT [i]) w)
  else if baseOf c k != k || (c == 5 && d % 4 != 0) then s
  else stageEntries (imageEntries c d k w) s

/-- A write of a dword that internal space takes. -/
def innerWrite (a : Nat) (w : Word) (s : State) : State :=
  if a < 0x30000000 then
    markWrote [(a - 0x20000000) / 4096] (lutStore (a - 0x20000000) (leBytes 4 w.toNat) s)
  else imageWrite ((a - 0x30000000) / 4) w s

/-- A flagged access (R312): counted in DENIED. -/
def bdpFlag (c : Nat) (f : FR) (s : State) : State :=
  ((s.p f [c] 1).bump F.HIF_BDP_STAT_DENIED [c] 1).count 25 1

/-- W advances when an access covers offset 0xFFF (R311). -/
def bdpAdvance (c o n : Nat) (s : State) : State :=
  if o + 4 * n ≤ 0xFFF then s
  else
    let w := bdpW s c + 4096
    (s.p F.HIF_BDP_ADDR_LO_W_LO [c] (w / 2 ^ 12)).p F.HIF_BDP_ADDR_HI_W_HI [c] (w / 2 ^ 32)

/-- The dwords of a read of the cellar (R289, R312): those of a word that fails read as ones. -/
def celDwords (c a n : Nat) (s : State) : List Word × State :=
  if s.on F.CEL_STAT_TRAIN_FAIL [] then
    (List.replicate n 0xFFFFFFFF, bdpFlag c F.HIF_BDP_STAT_UE ((s.p F.CEL_STAT_BDP_UE [] 1).count 26 1))
  else
    let (d, bad, s1) := celRead 2 a (4 * n) s
    let ws := (List.range n).map (fun j =>
      if bad.contains ((a + 4 * j) / 32 * 32) then 0xFFFFFFFF else BitVec.ofNat 32 (ofLE ((d.drop (4 * j)).take 4)))
    (ws, if bad.isEmpty then s1 else bdpFlag c F.HIF_BDP_STAT_UE ((s1.p F.CEL_STAT_BDP_UE [] 1).count 26 1))

/-- Whether an access of a channel reaches the cellar while its stack is not ready (R285, R286, R313). -/
def bdpNeeds (s : State) (c o n : Nat) (read whole : Bool) : Bool :=
  let out := (List.range n).map (fun j => bdpOut s c (bdpAddr s c o + 4 * j))
  celWaits s && s.on F.HIF_BDP_CTRL_EN [c] && !s.on F.HIF_BDP_CTRL_SPACE [c] && whole && decide (n ≤ 128) &&
    (if read then s.on F.HIF_BDP_CTRL_DIR [c] && out.any (! ·) else !s.on F.HIF_BDP_CTRL_DIR [c] && out.all (! ·))

/-- Whether an access of a requester must wait behind one that does (R311, R313, R316): its own, and for the set-up of a channel, or the
read of its status, those of the channel. -/
def behind (s : State) (rq : Req) (c : Option Nat) : Bool :=
  s.cel.wait.any (fun x => x.2.owner == some rq || (c.isSome && x.2.chan == c))

/-- The channel whose set-up or status an address is: BDP_CTRL, the ADDR pair, BDP_STAT for a read (R320). -/
def bdpChan (a : Nat) (read : Bool) : Option Nat :=
  let o := a % 0x1000
  if 0x80000 ≤ a && a < 0x89000 && (if read then o == 0xC else o == 0 || o == 4 || o == 8) then some ((a - 0x80000) / 0x1000) else none

/-- The dwords of a read of internal space. -/
def innerDwords (a n : Nat) (s : State) : List Word × State :=
  (List.range n).foldl (fun acc j =>
    let (w, t) := innerDword (a + 4 * j) acc.2
    (acc.1 ++ [w], t)) ([], s)

/-- A read of n dwords at offset o of channel c (R311, R312): what it returns. -/
def bdpRead (c o n : Nat) (s : State) : List Word × State :=
  let s0 := s.count 24 1
  let a := bdpAddr s c o
  if !s.on F.HIF_BDP_CTRL_EN [c] || !s.on F.HIF_BDP_CTRL_DIR [c] || 128 < n then
    (List.replicate n 0, bdpAdvance c o n (bdpFlag c F.HIF_BDP_STAT_DENY s0))
  else
    let ok := ((List.range n).filter (fun j => !bdpOut s c (a + 4 * j))).length
    let (ws, s1) := if ok = 0 then ([], s0) else if s.on F.HIF_BDP_CTRL_SPACE [c] then innerDwords a ok s0 else celDwords c a ok s0
    let s2 := if ok = n then s1 else bdpFlag c F.HIF_BDP_STAT_RANGE s1
    (ws ++ List.replicate (n - ok) 0xFFFFFFFF, bdpAdvance c o n s2)

/-- A write of dwords at offset o of channel c (R311, R312); `whole` says that every byte enable is set. -/
def bdpWrite (c o : Nat) (data : List Word) (whole : Bool) (s : State) : State :=
  let s0 := s.count 24 1
  let a := bdpAddr s c o
  let as := (List.range data.length).map (fun j => a + 4 * j)
  let inner := s.on F.HIF_BDP_CTRL_SPACE [c]
  let done :=
    if !s.on F.HIF_BDP_CTRL_EN [c] || s.on F.HIF_BDP_CTRL_DIR [c] then bdpFlag c F.HIF_BDP_STAT_DENY s0
    else if !whole then bdpFlag c F.HIF_BDP_STAT_BE_ERR s0
    else if as.any (bdpOut s c) then bdpFlag c F.HIF_BDP_STAT_RANGE s0
    else if inner then
      if as.all (innerTakes s) then each (as.zip data) (fun x t => innerWrite x.1 x.2 t) s0
      else
        let sets := ((as.filter (fun x => 0x20000000 ≤ x && x < 0x21400000)).map (fun x => (x - 0x20000000) / 2 ^ 18)).eraseDups
        let es := (sets.flatMap (lutNamers s)).eraseDups
        let s1 := each es (fun e t => t.p F.ENG_STAT_LUT_WR_ERR [e] 1) s0
        bdpFlag c F.HIF_BDP_STAT_DENY (if es.isEmpty then s1 else s1.count 377 1)
    else if s.on F.CEL_STAT_TRAIN_FAIL [] then bdpFlag c F.HIF_BDP_STAT_UE ((s0.p F.CEL_STAT_BDP_UE [] 1).count 26 1)
    else celWrite 2 a (data.flatMap (fun w => leBytes 4 w.toNat)) s0
  bdpAdvance c o data.length done

end Sys2Proof.Machine
end

