-- ==== Sys2Proof/Machine/FaultCmd.lean ====
section
/-! DEFINITION. The commands of the fault collector (13_fault_handling.md). -/
namespace Sys2Proof.Machine

/-- FAULT_OCCURRENCE (R397, R405, R408). -/
def execFaultOccurrence (i : Fin 333) (inst : Fin 65536) (s : State) : Out := .next (occur i inst s)

/-- Ethernet transmit resumes when a FATAL reaction has ended (R404). -/
def afterFatal (was : Bool) (s : State) : State := when (was && !fatalHeld s) txGoAll s

/-- Write of FLT_LATCH[j] (R406): each bit at 1 acknowledges its source. -/
def writeLatch (j : Nat) (v : Word) (s : State) : State :=
  afterFatal (fatalHeld s)
    (each ((List.range 32).filter (fun b => v.getLsbD b && decide (32 * j + b < 333))) (fun b t => ackSource (32 * j + b) t) s)

/-- FAULT_ACK (R406). -/
def execFaultAck (rq : Req) (j : Fin 11) (v : Word) (s : State) : Out := .next (gate rq .flt (writeLatch j v) s)

/-- Write of FLT_SRC_CFG (R410, R412): its fields, then FORCE. -/
def writeSrcCfg (i : Nat) (v : Word) (s : State) : State :=
  let s1 := s.write R.FLT_SRC_CFG [i] v
  if F.FLT_SRC_CFG_FORCE.of v = 1 then occurN 3 true i 0 s1 else s1

/-- FAULT_INJECT (R410): a write with FORCE at 1. -/
def execFaultInject (rq : Req) (i : Fin 333) (v : Word) (s : State) : Out :=
  .next (gate rq .flt (writeSrcCfg i (v ||| 0x80000000#32)) s)

/-- MASK_WINDOW_END (R408). -/
def execMaskWindowEnd (s : State) : Out :=
  .next { s with flt := { s.flt with windows := s.flt.windows.filter (fun w => decide (s.ticks < w.2)) } }

/-- Write of FLT_SAFE (R401, R412): for a forced signal it takes effect at the next switch point. -/
def writeSafe (i : Nat) (v : Word) (s : State) : State :=
  let kind := F.FLT_SAFE_KIND.of v
  if 2 ≤ kind || (kind = 1 && !safeNamed s (i / 8) (i % 8) v.toNat) then s.p F.FLT_STAT_SAFE_ERR [] 1
  else
    let s1 := s.write R.FLT_SAFE [i] v
    if isForced s i then { s1 with flt := { s1.flt with safePend := put s1.flt.safePend i v } } else s1

/-- SAFE_SOURCE_WRITE (R401). -/
def execSafeSourceWrite (rq : Req) (i : Fin 10240) (v : Word) (s : State) : Out := .next (gate rq .flt (writeSafe i v) s)

/-- Write of FLT_CFG (R412): a MASK_WIN outside 10 to 1,000 is refused whole. -/
def writeFltCfg (v : Word) (s : State) : State :=
  let m := F.FLT_CFG_MASK_WIN.of v
  if m < 10 || 1000 < m then s.p F.FLT_STAT_CFG_ERR [] 1 else s.write R.FLT_CFG [] v

/-- FLT_CFG_WRITE (R412). -/
def execFltCfgWrite (rq : Req) (v : Word) (s : State) : Out := .next (gate rq .flt (writeFltCfg v) s)

/-- Write of FLT_SRC_CNT (R412). -/
def writeSrcCnt (i : Nat) (s : State) : State := s.p F.FLT_SRC_CNT_MASKED [i] 0

/-- FLT_MASKED_CLEAR (R412). -/
def execFltMaskedClear (rq : Req) (i : Fin 333) (s : State) : Out := .next (gate rq .flt (writeSrcCnt i) s)

/-- FLT_LATCH[j] and FLT_COND[j] as they read (R412). -/
def latchView (s : State) (j : Nat) : Word :=
  BitVec.ofNat 32 (((List.range 32).map (fun b => b2n (decide (32 * j + b < 333) && latched s (32 * j + b)) * 2 ^ b)).sum)
def condView (s : State) (j : Nat) : Word :=
  BitVec.ofNat 32 (((List.range 32).map (fun b =>
    b2n (decide (32 * j + b < 333) && s.on F.FLT_SRC_STAT_COND [32 * j + b]) * 2 ^ b)).sum)

/-- FLT_STAT as it reads (R412). -/
def fltStatView (s : State) : Word :=
  F.FLT_STAT_FORCED.into s.flt.waiting.length (F.FLT_STAT_FATAL_HELD.into (b2n (fatalHeld s)) (s.rd R.FLT_STAT []))

end Sys2Proof.Machine
end

