-- ==== Sys2Proof/Machine/Eth.lean ====
section
/-! DEFINITION. The commands of the Ethernet ports (05_packet_ports.md, R138 to R146, R170). -/
namespace Sys2Proof.Machine

/-- Whether sub-port p.k exists (R134): all four in MODE 2, sub-port 0 in MODE 1. -/
def subExists (s : State) (p k : Nat) : Bool :=
  let m := s.g F.ZL_QUAD_CFG_MODE [p]
  m == 2 || (m == 1 && k == 0)

/-- The FCS of a frame (IEEE 802.3). -/
def fcs (b : List Byte) : Nat := (~~~(b.foldl (fun c x => crc32Byte 0xEDB88320 8 (c ^^^ x.zeroExtend 32)) (0xFFFFFFFF : Word))).toNat

/-- The statistic under which a frame is discarded (R138). -/
def badFrame (s : State) (p k : Nat) (b : List Byte) (pcsErr : Bool) : Option Nat :=
  let n := b.length
  let good := fcs (b.take (n - 4)) == ofLE (b.drop (n - 4)) && decide (4 ≤ n)
  if n < 64 then some (if good then 16 else 17)
  else if s.g F.ETH_MAC_CFG_MAX_LEN [p, k] < n then some (if good then 18 else 19)
  else if good && !pcsErr then none else some 20

/-- Where the UDP datagram of a frame stands, in IPv4 or IPv6. -/
def frUdp (b : List Byte) : Option Nat :=
  if frIpv4 b && frProto b == 17 && nb b (frL3 b + 6) 2 % 0x2000 == 0 then some (frL4 b)
  else if frType b = 0x86DD && nb b (frL3 b + 6) 1 == 17 then some (frL3 b + 40) else none

/-- The PTP message of a frame (R143, REASON 2): where it starts. -/
def frPtp (b : List Byte) : Option Nat :=
  if frType b = 0x88F7 then some (frL3 b)
  else match frUdp b with
    | some u => if nb b (u + 2) 2 = 319 || nb b (u + 2) 2 = 320 then some (u + 8) else none
    | none => none

/-- The lowest REASON that applies to a frame (R143). -/
def hostReason (s : State) (p k : Nat) (b : List Byte) : Option Nat :=
  let mac := s.g F.ETH_MAC_ADDR_HI_ADDR_HI [p, k] * 2 ^ 32 + s.g F.ETH_MAC_ADDR_LO_ADDR_LO [p, k]
  if nb b 0 6 = mac then some 0
  else if castOf b = 2 then some 1
  else if (frPtp b).isSome then some 2
  else if frIpv4 b && frProto b == 2 then some 3
  else if frType b = 0x0806 then some 4
  else if castOf b = 1 && s.on F.ETH_MAC_CFG_ALLMULTI [p, k] then some 5 else none

/-- Whether a frame carries a PTP event message (R177). -/
def ptpEvent (b : List Byte) : Bool :=
  match frPtp b with
  | some i => decide (nb b i 1 % 16 ≤ 3)
  | none => false

/-- Deliver a frame to the host receive ring (R144, R145): the frame, the descriptor's upper half, and the dword with DONE last.
`d` is the descriptor at RX_HEAD, `age` the nanoseconds since the timestamp point. -/
def hostDeliver (p k reason : Nat) (b : List Byte) (age : Nat) (d : BitVec 256) (s : State) : State :=
  let x := s.port p k
  let head := s.g F.ETH_HRING_HEAD_RX_HEAD [p, k]
  let n := b.length
  if !s.on F.ETH_HRING_CFG_RX_EN [p, k] || !s.on F.HIF_PART_STAT_BME [0] || head == s.g F.ETH_HRING_TAIL_RX_TAIL [p, k]
      || bitsOf d.toNat 77 64 < n then ethStat p k 28 1 s
  else
    let ts := reason == 2 && ptpEvent b
    let (sec, ns) := addNs (portTime s p k) (-((age + s.g F.PTP_PORT_CFG_RX_LAT [p, k] : Nat) : Int))
    let a := x.rxBase + 32 * head
    let s1 := (dmaWrite 0 (bitsOf d.toNat 63 0) b s).emit
      (.hostWrite 0 (a + 16) 16 (if ts then sec * 2 ^ 32 + ns else 0))
    let s2 := s1.emit (.hostWrite 0 (a + 12) 4 (n + reason * 2 ^ 14 + b2n ts * 2 ^ 17 + 2 ^ 31))
    let s3 := s2.p F.ETH_HRING_HEAD_RX_HEAD [p, k] ((head + 1) % hringEntries x.rxSize)
    raiseIrq 0 3 (ethStat p k 27 1 (when ts (fun t => t.count 208 1) s3))

/-- Pause or release the queues of a priority (R140): quanta of 512 bit times, in units of 10 ps. -/
def pausePriority (p k v quanta : Nat) (s : State) : State :=
  let unit := if s.g F.ZL_QUAD_CFG_MODE [p] = 1 then 512 else 2048
  let pri := (s.rd R.ETH_TXQ_CFG [p, k]).toNat
  each ((List.range 8).filter (fun q => bitsOf pri (3 * q + 2) (3 * q) == v)) (fun q t =>
    let x := t.port p k
    let w := t.g F.ETH_TXQ_STAT_PAUSED [p, k]
    let w0 := w - (if bitOf w q then 2 ^ q else 0)
    let t1 := t.setPort p k { x with paused := if quanta = 0 then drop1 x.paused q else put x.paused q (t.ticks * 200 + quanta * unit) }
    ethStat p k 37 quanta (t1.p F.ETH_TXQ_STAT_PAUSED [p, k] (w0 + if quanta = 0 then 0 else 2 ^ q))) s

/-- A PFC frame: the class enable vector and the eight times (R140). -/
def pfcApply (p k vec : Nat) (time : Nat → Nat) (s : State) : State :=
  let s1 := ethStat p k 7 1 s
  if s1.on F.ETH_TXQ_CFG_PFC_EN [p, k] then
    txGo p k (each ((List.range 8).filter (bitOf vec)) (fun v t => pausePriority p k v (time v) t) s1)
  else s1

/-- The statistics of a good frame (R146). -/
def goodStats (p k : Nat) (b : List Byte) (s : State) : State :=
  let n := b.length
  let s1 := each [(0, n), (1, n), (2, 1), (3 + castOf b, 1), (9 + sizeBin n, 1)] (fun x t => ethStat p k x.1 x.2 t) s
  when (frVlan b).isSome (ethStat p k 8 1) s1

/-- A sub-port that receives. -/
def rxOpen (s : State) (p k : Nat) : Bool := subExists s p k && s.on F.ETH_MAC_CFG_RX_EN [p, k] && !s.sys.held.contains .eth

/-- ETH_FRAME_RECEIVE (R138, R140, R143): a frame with its FCS; whether a PCS error lies in it; the nanoseconds since its timestamp
point; the descriptor that host memory holds at RX_HEAD. -/
def execEthFrameReceive (p : Fin 16) (k : Fin 4) (b : List Byte) (pcsErr : Bool) (age : Nat) (d : BitVec 256) (s : State) : Out :=
  .next (if !rxOpen s p k then s
  else match badFrame s p k b pcsErr with
    | some i => ethStat p k i 1 (ethStat p k 1 b.length s)
    | none =>
      let s1 := goodStats p k b s
      let ctl := nb b 12 2 == 0x8808
      if ctl && nb b 14 2 == 0x0001 then ethStat p k 6 1 s1
      else if ctl && nb b 14 2 == 0x0101 then pfcApply p k (nb b 16 2) (fun v => nb b (18 + 2 * v) 2) s1
      else match flowOf s1 p k b with
        | some f => flowReceive p k f b s1
        | none => match hostReason s1 p k b with
          | some r => hostDeliver p k r b age d s1
          | none => ethStat p k 29 1 s1)

/-- PFC_FRAME_RECEIVE (R140): the frame of 64 B that carries a class enable vector and eight times. -/
def execPfcFrameReceive (p : Fin 16) (k : Fin 4) (vec : BitVec 8) (times : BitVec 128) (s : State) : Out :=
  .next (if !rxOpen s p k then s
  else
    let head := [0x01, 0x80, 0xC2, 0x00, 0x00, 0x01] ++ List.replicate 6 (0 : Byte) ++ [0x88, 0x08, 0x01, 0x01, 0, vec]
    let b := head ++ List.replicate (64 - head.length) (0 : Byte)
    pfcApply p k vec.toNat (fun v => bitsOf times.toNat (16 * v + 15) (16 * v)) (goodStats p k b s))

/-- PFC_PAUSE_EXPIRY (R140): the pause of queue q has run out. -/
def execPfcPauseExpiry (p : Fin 16) (k : Fin 4) (q : Fin 8) (s : State) : Out :=
  .next (let x := s.port p k
    match find? x.paused q.val with
    | some e =>
      if e ≤ s.ticks * 200 then
        let w := s.g F.ETH_TXQ_STAT_PAUSED [p, k]
        let s1 := s.setPort p k { x with paused := drop1 x.paused q }
        txGo p k (s1.p F.ETH_TXQ_STAT_PAUSED [p, k] (w - if bitOf w q then 2 ^ q.val else 0))
      else s
    | none => s)

/-- ETH_TX_FRAME_END (R139): the frame on the wire ends, and the next starts. -/
def execEthTxFrameEnd (p : Fin 16) (k : Fin 4) (s : State) : Out :=
  .next (let x := s.port p k
    match x.wire with
    | some (fr, dom, sec, ns) => txGo p k (frameSent p k fr dom sec ns (s.setPort p k { x with wire := none }))
    | none => s)

/-- Write of ETH_HRING_TAIL (R144): `descs` are the host transmit descriptors from the first that the device has not read, with
the frames they name; the device reads as many as the tail makes available, once it is a bus master (log 110). -/
def writeHringTail (p k : Nat) (v : Word) (descs : List (BitVec 128 × List Byte)) (s : State) : State :=
  let s1 := s.write R.ETH_HRING_TAIL [p, k] v
  if !s1.on F.ETH_HRING_CFG_TX_EN [p, k] then s1
  else hostTake p k (s1.setPort p k { s1.port p k with announced := descs })

/-- HOST_RING_TAIL_WRITE (R144). -/
def execHostRingTailWrite (rq : Req) (p : Fin 16) (k : Fin 4) (v : Word) (descs : List (BitVec 128 × List Byte)) (s : State) : Out :=
  .next (gate rq .eth (fun t => if subExists t p k then writeHringTail p k v descs t else t) s)

/-- Write of ETH_HRING_CFG (R170): an enable that goes from 0 to 1 takes size and base, and zeroes head and tail. -/
def writeHringCfg (p k : Nat) (v : Word) (s : State) : State :=
  let s1 := s.write R.ETH_HRING_CFG [p, k] v
  let rises := fun (f : FR) => !s.on f [p, k] && s1.on f [p, k]
  let s2 := if rises F.ETH_HRING_CFG_TX_EN then
      ((s1.setPort p k { s1.port p k with
          hostWait := [], announced := [], txSize := s1.g F.ETH_HRING_CFG_TX_SIZE [p, k]
          txBase := s1.g F.ETH_HTX_BASE_HI_ADDR [p, k] * 2 ^ 32 + s1.g F.ETH_HTX_BASE_LO_ADDR [p, k] / 256 * 256 }).p
        F.ETH_HRING_HEAD_TX_HEAD [p, k] 0).p F.ETH_HRING_TAIL_TX_TAIL [p, k] 0
    else s1
  if rises F.ETH_HRING_CFG_RX_EN then
    ((s2.setPort p k { s2.port p k with
        rxSize := s2.g F.ETH_HRING_CFG_RX_SIZE [p, k]
        rxBase := s2.g F.ETH_HRX_BASE_HI_ADDR [p, k] * 2 ^ 32 + s2.g F.ETH_HRX_BASE_LO_ADDR [p, k] / 256 * 256 }).p
      F.ETH_HRING_HEAD_RX_HEAD [p, k] 0).p F.ETH_HRING_TAIL_RX_TAIL [p, k] 0
  else s2

/-- HOST_RING_ENABLE (R170). -/
def execHostRingEnable (rq : Req) (p : Fin 16) (k : Fin 4) (v : Word) (s : State) : Out :=
  .next (gate rq .eth (fun t => if subExists t p k then writeHringCfg p k v t else t) s)

/-- Write of ETH_MAC_CFG (R170): a MAX_LEN outside 64 to 9,216 is refused. -/
def writeMacCfg (p k : Nat) (v : Word) (s : State) : State :=
  let m := F.ETH_MAC_CFG_MAX_LEN.in_ v
  let keep := s.g F.ETH_MAC_CFG_MAX_LEN [p, k]
  let s1 := s.write R.ETH_MAC_CFG [p, k] v
  txGo p k (if 64 ≤ m && m ≤ 9216 then s1 else s1.p F.ETH_MAC_CFG_MAX_LEN [p, k] keep)

/-- Whether a sub-port runs without FEC (R135): 25GbE with FEC 2. -/
def noFec (s : State) (p k : Nat) : Bool := s.g F.ZL_QUAD_CFG_MODE [p] == 2 && s.g F.ETH_MAC_CFG_FEC [p, k] == 2

/-- ETH_LINK_STAT as read (R170): FEC_LOCK is 1 where no FEC is used. -/
def linkStatView (s : State) (p k : Nat) : Word :=
  F.ETH_LINK_STAT_FEC_LOCK.into (b2n (noFec s p k || s.on F.ETH_LINK_STAT_FEC_LOCK [p, k])) (s.rd R.ETH_LINK_STAT [p, k])

/-- ETH_LINK_CHANGE (R170): what the PCS and the FEC report. -/
def execEthLinkChange (p : Fin 16) (k : Fin 4) (up fecLock loc rem : Bool) (s : State) : Out :=
  .next (if !subExists s p k || s.sys.held.contains .eth then s
  else
    let s1 := ((s.p F.ETH_LINK_STAT_FEC_LOCK [p, k] (b2n fecLock)).p F.ETH_LINK_STAT_LOCAL_FAULT [p, k] (b2n loc)).p
      F.ETH_LINK_STAT_REMOTE_FAULT [p, k] (b2n rem)
    setLink occur p k up s1)

/-- FEC_CODEWORD_RECEIVE (R146, R399): kind 0 a codeword corrected, 1 one not correctable, 2 a PCS block with an invalid sync
header. Without FEC there are no codewords (R135). -/
def execFecCodewordReceive (p : Fin 16) (k : Fin 4) (kind : Fin 3) (s : State) : Out :=
  .next (if !subExists s p k || s.sys.held.contains .eth || (noFec s p k && decide (kind.val < 2)) then s
  else match kind.val with
    | 0 => ethStat p k 21 1 s
    | 1 => occur 93 (4 * p + k) (ethStat p k 22 1 s)
    | _ => ethStat p k 23 1 s)

end Sys2Proof.Machine
end

