-- ==== Sys2Proof/Machine/Lanes.lean ====
section
/-! DEFINITION. The commands of the lanes (04_zwialnik_lanes.md) and LINE_RECORD_RX. -/
namespace Sys2Proof.Machine

/-- LINE_RECORD_RX (R115, R184): the next record of the source signal at (i, m) enters its bus; `d` is t_sor less t_house in core
cycles (R89). -/
def execLineRecordRx (i : Fin 1280) (m : Fin 8) (d : Int) (s : State) : Out :=
  .next (match nextRecord s i m with
  | (some r, t) =>
    let a := entryAt t i m d
    zlMeasure i m (reduceAlign t (srcCad t i m) a) (enterBus i m r a t)
  | (none, _) => s)

/-- ZL_FRAME_RECEIVE (R108, R129): the line bits after the comma; the core cycle at which the frame's header would enter the source
bus. A near-end loopback takes the lane's own frame in their place, a far-end loopback sends them back. -/
def execZlFrameReceive (n : Fin 584) (start : Nat) (line : List Bool) (s : State) : Out :=
  .next (let st := s.g F.ZL_LANE_STAT_TRAIN_STATE [n]
    if runsZl s n && 3 ≤ st && st ≤ 6 && !s.sys.held.contains .zl then
      match rxLine s n line with
      | none => s
      | some l =>
        let s1 := s.setLane n { s.lane n with loop := none }
        let s2 := if s.g F.ZL_LANE_CTRL_TEST [n] = 3 && s.on F.ZL_LANE_CTRL_TX_EN [n] then s1.emit (.laneBits n l) else s1
        zlReceive n start l s2
    else s)

/-- ZL_FRAME_TRANSMIT (R103): `arr` says how many words reach the lane's queue in each block time. -/
def execZlFrameTransmit (n : Fin 584) (arr : List Nat) (s : State) : Out :=
  .next (if runsZl s n && s.on F.ZL_LANE_CTRL_TX_EN [n] && !s.sys.held.contains .zl then zlTransmit n arr s else s)

/-- Whether a live or loft entry names a slot of quad q (R97). -/
def quadRouted (s : State) (q : Nat) : Bool :=
  (liveEntries s ++ loftEntries s).any (fun e => eValid e.2 && (e.1 / 64 == q || (eSource e.2).1 / 8 == q))

/-- Whether a flow entry names the port of quad q, or a packet slot of it (R137). -/
def quadFlows (s : State) (q : Nat) : Bool :=
  s.flw.tbl.any (fun x => fValid x.2 && (fPort x.2 == q || (fKind x.2 != 1 && fSlot x.2 / 8 == q)))

/-- A quad's PLL loses lock (R127, R133). -/
def quadLoss (q : Nat) (s : State) : State :=
  if s.on F.ZL_QUAD_STAT_PLL_LOCK [q] then
    each ((List.range 4).map (4 * q + ·)) (fun n t => if laneUp t n then leaveUp occur n 2 t else t)
      ((s.p F.ZL_QUAD_STAT_PLL_LOCK [q] 0).count 421 1)
  else s

/-- Write of ZL_QUAD_CFG (R97, R98, R137). MODE 3 has no row in R96: refused (DESIGN CHOICE, log 49). -/
def writeQuadCfg (q : Nat) (v : Word) (s : State) : State :=
  let old := s.g F.ZL_QUAD_CFG_MODE [q]
  let s1 := s.write R.ZL_QUAD_CFG [q] v
  let new := s1.g F.ZL_QUAD_CFG_MODE [q]
  let busy := (List.range 4).any (fun k => s.on F.ZL_LANE_CTRL_RX_EN [4 * q + k] || s.on F.ZL_LANE_CTRL_TX_EN [4 * q + k])
  if new = old then when (!s1.sys.clk.getLsbD (s1.g F.ZL_QUAD_CFG_REFCLK [q])) (quadLoss q) s1
  else if busy || quadRouted s q || quadFlows s q || new = 3 then
    ((s1.p F.ZL_QUAD_CFG_MODE [q] old).p F.ZL_QUAD_STAT_MODE_REFUSED [q] 1).count 430 1
  else s1

/-- QUAD_MODE_WRITE (R97). -/
def execQuadModeWrite (rq : Req) (q : Fin 146) (v : Word) (s : State) : Out := .next (gate rq .zl (writeQuadCfg q v) s)

/-- Whether a quad's PLL is switched on (R456): a lane of the quad has RX_EN or TX_EN at 1. -/
def quadOn (s : State) (q : Nat) : Bool :=
  (List.range 4).any (fun i => s.on F.ZL_LANE_CTRL_RX_EN [4 * q + i] || s.on F.ZL_LANE_CTRL_TX_EN [4 * q + i])

/-- A quad none of whose lanes is enabled switches off its PLL (R456), which is then not locked (DEDUCED, log 73). -/
def quadPower (q : Nat) (s : State) : State := if quadOn s q then s else s.p F.ZL_QUAD_STAT_PLL_LOCK [q] 0

/-- Write of ZL_LANE_CTRL (R127, R129): a refused TEST keeps its value; RX_EN at 0 disables the lane, RETRAIN restarts training. A
lane that no longer transmits drops what waits for it. -/
def writeLaneCtrl (n : Nat) (v : Word) (s : State) : State :=
  let s1 := s.write R.ZL_LANE_CTRL [n] v
  let bad := s.isActive && s1.on F.ZL_LANE_CTRL_TEST [n] && s1.on F.ZL_LANE_CTRL_TX_EN [n]
  let s2 := if bad then
      ((s1.p F.ZL_LANE_CTRL_TEST [n] (s.g F.ZL_LANE_CTRL_TEST [n])).p F.ZL_LANE_STAT_TEST_REFUSED [n] 1).count 429 1
    else s1
  let s3 := when (s2.on F.ZL_LANE_CTRL_CTLE_MANUAL [n])
    (fun t => t.p F.ZL_LANE_STAT_CTLE_USED [n] (t.g F.ZL_LANE_CTRL_CTLE_CODE [n])) s2
  let s4 := when (!s3.on F.ZL_LANE_CTRL_TX_EN [n])
    (fun t => t.setLane n { t.lane n with txWait := [], txQ := [], txErr := [], txPrev := none }) s3
  let s5 := quadPower (n / 4) s4
  let rx := s5.on F.ZL_LANE_CTRL_RX_EN [n]
  if !rx then when (s5.g F.ZL_LANE_STAT_TRAIN_STATE [n] != 0) (leaveUp occur n 0) s5
  else if s5.g F.ZL_LANE_STAT_TRAIN_STATE [n] = 0 then setTrain n 1 s5
  else when (F.ZL_LANE_CTRL_RETRAIN.of v == 1) (retrain occur n) s5

/-- LANE_CTRL_WRITE (R129). -/
def execLaneCtrlWrite (rq : Req) (n : Fin 584) (v : Word) (s : State) : Out := .next (gate rq .zl (writeLaneCtrl n v) s)

/-- RETRAIN (R127): RETRAIN written to 1, the other fields as they are. -/
def execRetrain (rq : Req) (n : Fin 584) (s : State) : Out := .next (gate rq .zl (retrain occur n) s)

/-- Ticks since a lane entered its training state. -/
def trainTicks (s : State) (n : Nat) : Nat := s.ticks - (s.lane n).since

/-- A lane reaches UP (R53, R125, R61): its version shows, its hold is fixed at h, and while the mode is fixed-latency it is due to
start at its first frame boundary. So does a lane that had fallen back, although MODE was not written again (R57 against R61; DESIGN
CHOICE, log 105). -/
def laneReachesUp (n h : Nat) (s : State) : State :=
  let zl := runsZl s n
  let use := if zl then (s.lane n).use else 0
  let s1 := ((setTrain n 6 s).p F.ZL_LANE_STAT_VER [n] use).count 417 1
  let s2 := showFcrc n s1
  if 576 ≤ n then s2.p F.RED_PARTNER_STAT_LANES [] (partnerLanes s2)
  else
    let s3 := (s2.p F.XPT_RX_HOLD_HELD [n] 1).p F.XPT_RX_HOLD_HOLD [n] h
    if s3.on F.XPT_XING_CFG_MODE [] && s3.on F.XPT_XING_STAT_FIXED_ACTIVE [] then
      { s3 with xpt := { s3.xpt with fixedDue := s3.xpt.fixedDue.filter (· != n) ++ [n] } }
    else s3

/-- TRAIN_STATE_ADVANCE (R125): `code` is the peaking code that the sweep keeps, `h` the hold that UP fixes. -/
def execTrainStateAdvance (n : Fin 584) (code h : Fin 16) (s : State) : Out :=
  .next (if !s.on F.ZL_LANE_CTRL_RX_EN [n] then s
  else
    let dt := trainTicks s n
    let x := s.lane n
    match s.g F.ZL_LANE_STAT_TRAIN_STATE [n] with
    | 1 =>
      if s.on F.ZL_LANE_CTRL_CTLE_MANUAL [n] then
        setTrain n 2 (s.p F.ZL_LANE_STAT_CTLE_USED [n] (s.g F.ZL_LANE_CTRL_CTLE_CODE [n]))
      else if usTicks (16 * 64) ≤ dt then setTrain n 2 (s.p F.ZL_LANE_STAT_CTLE_USED [n] code) else s
    | 2 =>
      if dt < usTicks 10 then s
      else if runsZl s n then setTrain n 3 s else laneReachesUp n h s
    | 3 =>
      if 4 ≤ x.passes then
        let s1 := setTrain n 4 s
        s1.setLane n { s1.lane n with first := true, judged := [] }
      else s
    | 4 => if 8 ≤ x.passes then (let s1 := setTrain n 5 s; s1.setLane n { s1.lane n with use := 0, offer := 0 }) else s
    | 5 => if 4 ≤ x.useEq then laneReachesUp n h s else s
    | _ => s)

/-- Timeout of a training state in ticks, and where it leads (R125). -/
def trainLimit (st : Nat) : Option (Nat × Nat) :=
  match st with
  | 1 => some (usTicks 1200, 7) | 2 => some (usTicks 100, 7) | 3 => some (usTicks 20, 2)
  | 4 => some (usTicks 50, 3) | 5 => some (usTicks 1000, 7) | _ => none

/-- TRAIN_TIMEOUT (R125). -/
def execTrainTimeout (n : Fin 584) (s : State) : Out :=
  .next (let st := s.g F.ZL_LANE_STAT_TRAIN_STATE [n]
    match trainLimit st with
    | some (lim, upTo) =>
      if lim ≤ trainTicks s n then
        setTrain n upTo (((s.bump F.ZL_LANE_TRAIN_ATTEMPTS [n] 1).p F.ZL_LANE_TRAIN_LAST_FAIL [n] st).count 416 1)
      else s
    | none => s)

/-- BACKOFF_EXPIRY (R125). -/
def execBackoffExpiry (n : Fin 584) (s : State) : Out :=
  .next (if s.g F.ZL_LANE_STAT_TRAIN_STATE [n] = 7 && usTicks 1000 ≤ trainTicks s n then setTrain n 1 s else s)

/-- CDR_LOSS_OF_LOCK (R127). -/
def execCdrLossOfLock (n : Fin 584) (s : State) : Out :=
  .next (if laneUp s n then leaveUp occur n 2 (s.count 419 1) else s)

/-- COMMA_LOSS (R127). -/
def execCommaLoss (n : Fin 584) (s : State) : Out :=
  .next (if laneUp s n && runsZl s n then leaveUp occur n 3 (s.count 420 1) else s)

/-- QUAD_PLL_LOSS (R127, R133). -/
def execQuadPllLoss (q : Fin 146) (s : State) : Out := .next (quadLoss q s)

/-- The reference clock that a quad's PLL runs from is there (R98). -/
def quadRef (s : State) (q : Nat) : Bool := s.sys.clk.getLsbD (s.g F.ZL_QUAD_CFG_REFCLK [q])

/-- QUAD_PLL_RELOCK (R98, R133): a PLL that is switched on locks to the input that REFCLK selects. -/
def execQuadPllRelock (q : Fin 146) (s : State) : Out :=
  .next (when (quadOn s q && quadRef s q) (fun t => t.p F.ZL_QUAD_STAT_PLL_LOCK [q] 1) s)

/-- The quads whose PLL runs from REFCLK_SDS k lose lock with it (R98; DEDUCED, log 73). -/
def refclkLost (k : Nat) (s : State) : State :=
  each ((List.range 146).filter (fun q => s.g F.ZL_QUAD_CFG_REFCLK [q] == k)) quadLoss s

/-- PEER_WINDOW_CLOSE (R132): each held failure is reported. -/
def execPeerWindowClose (p : Fin 127) (s : State) : Out :=
  .next (match s.zl.windows.find? (fun w => w.1 == p.val) with
  | some w =>
    if w.2.1 ≤ s.ticks then
      each w.2.2 (fun n t => occur (175 + n / 64) n (t.count 425 1))
        { s with zl := { s.zl with windows := s.zl.windows.filter (fun x => x.1 != p.val) } }
    else s
  | none => s)

/-- Write of ZL_LANE_ERRCLR (R133). -/
def writeErrclr (n : Nat) (v : Word) (s : State) : State :=
  if F.ZL_LANE_ERRCLR_CLR.of v = 1 then
    (each [R.ZL_LANE_ERR0, R.ZL_LANE_ERR1, R.ZL_LANE_ERR2, R.ZL_LANE_ERR3] (fun r t => t.wr r [n] 0) s).p F.ZL_LANE_TRAIN_ATTEMPTS [n] 0
  else s

/-- LANE_ERR_CLR (R133). -/
def execLaneErrClr (rq : Req) (n : Fin 584) (s : State) : Out := .next (gate rq .zl (writeErrclr n 1) s)

/-- Write of ZL_LANE_PRBS (R133): CLR clears the error count; a checker switched off is not locked. -/
def writePrbs (n : Nat) (v : Word) (s : State) : State :=
  let s1 := s.write R.ZL_LANE_PRBS [n] v
  let s2 := when (!s1.on F.ZL_LANE_PRBS_CHK_EN [n]) (fun t =>
    (t.setLane n { t.lane n with chk := {} }).p F.ZL_LANE_PRBS_CHK_LOCK [n] 0) s1
  if F.ZL_LANE_PRBS_CLR.of v = 1 then s2.wr R.ZL_LANE_PRBS_ERR [n] 0 else s2

/-- PRBS_ERR_CLR (R133). -/
def execPrbsErrClr (rq : Req) (n : Fin 584) (s : State) : Out :=
  .next (gate rq .zl (fun t => t.wr R.ZL_LANE_PRBS_ERR [n] 0) s)

/-- PRBS_CHK_LOCK (R130): bits reach the checker; 64 error-free ones in a row lock it. -/
def execPrbsChkLock (n : Fin 584) (bits : List Bool) (s : State) : Out := .next (prbsReceive n bits s)

/-- PRBS_CHK_UNLOCK (R130): bits reach a locked checker; 64 errors among 1,024 of them unlock it. -/
def execPrbsChkUnlock (n : Fin 584) (bits : List Bool) (s : State) : Out :=
  .next (when (s.on F.ZL_LANE_PRBS_CHK_LOCK [n]) (prbsReceive n bits) s)

/-- Write of ZL_LANE_EYE_CTRL (R131, R133): RUN at 1 starts a measurement. A write with RUN at 0 cancels one, and DWELL below 10 is taken
as written (DESIGN CHOICE, log 106). -/
def writeEyeCtrl (n : Nat) (v : Word) (s : State) : State :=
  let s1 := s.write R.ZL_LANE_EYE_CTRL [n] v
  if F.ZL_LANE_EYE_CTRL_RUN.of v = 1 then (s1.p F.ZL_LANE_EYE_CTRL_DONE [n] 0).count 427 1 else s1

/-- EYE_RUN (R131): a write with RUN at 1. -/
def execEyeRun (rq : Req) (n : Fin 584) (v : Word) (s : State) : Out :=
  .next (gateUnit rq .zl (writeEyeCtrl n (v ||| 0x80000000#32)) s)

/-- EYE_DONE (R131): the disagreements that the monitor counted. -/
def execEyeDone (n : Fin 584) (errs : Nat) (s : State) : Out :=
  .next (if s.on F.ZL_LANE_EYE_CTRL_RUN [n] then
    ((s.p F.ZL_LANE_EYE_RES_ERRORS [n] (min errs (2 ^ 32 - 1))).p F.ZL_LANE_EYE_CTRL_DONE [n] 1).p F.ZL_LANE_EYE_CTRL_RUN [n] 0
  else s)

/-- EYE_MARGIN_UPDATE (R131, R422): the four margins of the background scan, sampled by the histogram units while the lane is
UP. -/
def execEyeMarginUpdate (n : Fin 584) (left right up down : BitVec 8) (s : State) : Out :=
  .next (if s.on F.ZL_LANE_EYE_CTRL_RUN [n] then s
  else
    let s1 := s.wr R.ZL_LANE_EYE_MARGIN [n] (left ++ right ++ up ++ down)
    if laneUp s1 n then
      each [(0, left), (1, right), (2, up), (3, down)] (fun x t => histSample 0 (4 * n + x.1) x.2.toNat t) s1
    else s1)

end Sys2Proof.Machine
end

