-- ==== Sys2Proof/Machine/Pmu.lean ====
section
/-! DEFINITION. The performance monitoring unit (14_counters_and_monitors.md): ticks of the monitor clock, snapshots, the
sampling buffer and the histogram units' writes. -/
namespace Sys2Proof.Machine

/-- A ring of partition p waits for credits, and a ring waits for the full tracker (CREDIT_STALL, TRACK_FULL; R331). -/
def ringReady (s : State) (p r : Nat) : Bool :=
  s.on F.CMD_RING_CFG_EN [p, r] && s.g F.CMD_RING_PTR_HEAD [p, r] != s.g F.CMD_RING_PTR_TAIL [p, r] && inFlight s p r == 0

def creditStall (s : State) : Bool :=
  allParts.any (fun p => allParts.any (ringReady s p) &&
    decide (min (s.g F.CMD_PART_QUOTA_QUOTA [p]) (ringEntries (s.g F.CMD_CPL_CFG_SIZE [p]) - 1) ≤ credits s p))

def trackFull (s : State) : Bool := decide (65536 ≤ trackUsed s)

/-- The condition of a counter that has one (R413, R415): the seven counters marked (L). -/
def levelCond (s : State) (e : Nat) : Bool :=
  if e = 102 then creditStall s
  else if e = 103 then trackFull s
  else if e = 181 then !s.flt.waiting.isEmpty
  else if e = 194 then s.g F.REF_DPLL_STAT_STATE [] == 3
  else if e = 310 then (listed s R.FLW_STAT 16384).any (fun x => F.FLW_STAT_LOST.of x.2 == 1)
  else if e = 358 then s.g F.AUD_POOL_USED [] == 4096
  else s.on F.CEL_STAT_OVER []

def levelEvents : List Nat := [102, 103, 181, 194, 310, 358, 406]

/-- One tick for the counters in LEVEL mode (R415): 1 for each whose condition held at any point since the last tick, or
whose event occurred since. An occurrence of counters 102, 103, 194, 310 and 358 is the start of their condition, seen at the tick
(DEDUCED, log 125). MODE as written is in force from here on. -/
def tickLevels (s : State) : State :=
  let now := levelEvents.filter (levelCond s)
  let was := s.pmu.condWas
  let held := ((s.pmu.seen ++ was ++ now).eraseDups).filter (fun e => s.levelMode e &&
    (s.pmu.seen.contains e || levelEvents.contains e))
  let rises := [102, 103, 194, 310, 358].filter (fun e => now.contains e && !was.contains e && !s.levelMode e)
  each (held ++ rises) (fun e => addCounter e 1) { s with pmu := { s.pmu with seen := [], condWas := now, modePend := [] } }

/-- Write of PMU_CNT_CFG (R415): until the next tick the counter counts in the mode it had. -/
def writeCntCfg (e : Nat) (v : Word) (s : State) : State :=
  let was := s.levelMode e
  let rest := s.pmu.modePend.filter (· != e)
  let t := s.write R.PMU_CNT_CFG [e] v
  { t with pmu := { t.pmu with modePend := if t.on F.PMU_CNT_CFG_MODE [e] == was then rest else e :: rest } }

/-- Top-down slots of a tick (R417): RETIRED, WASTED and BACK_STARVED of a unit as they fell; the unit's other slots of the
10 ns (8 of the command processor's, 10 of an engine's) are FRONT_STARVED, all of them for a disabled engine. -/
def tickSlots (td : List (Nat × Nat × Nat × Nat)) (s : State) : State :=
  let add := fun (m : List (Nat × Nat)) (u : Nat) =>
    let n := if u = 0 then 8 else 10
    let (r, w, b) := match td.find? (fun x => x.1 == u) with
      | some (_, r, w, b) => if r + w + b ≤ n && (u = 0 || s.on F.ENG_STAT_RUNNING [u - 1]) then (r, w, b) else (0, 0, 0)
      | none => (0, 0, 0)
    let put1 := fun (m : List (Nat × Nat)) (k v : Nat) => putD 0 m (4 * u + k) ((getD 0 m (4 * u + k) + v) % 2 ^ 48)
    put1 (put1 (put1 (put1 m 0 r) 1 w) 2 b) 3 (n - (r + w + b))
  { s with pmu := { s.pmu with td := (List.range 65).foldl add s.pmu.td } }

/-- Copy every event and top-down counter (R416). -/
def snapCopy (s : State) : State :=
  let s0 := { s with regs := s.regs.filter (fun e => !(R.PMU_SNAP_LO.base ≤ e.1 && e.1 < R.PMU_TD_LO.base + 65 * 32)) }
  let s1 := each s.pmu.cnt (fun e t => (t.wr R.PMU_SNAP_LO [e.1] (BitVec.ofNat 32 e.2)).wr R.PMU_SNAP_HI [e.1]
    (BitVec.ofNat 32 (e.2 / 2 ^ 32))) s0
  let s2 := each s.pmu.td (fun e t => (t.wr R.PMU_TD_LO [e.1 / 4, e.1 % 4] (BitVec.ofNat 32 e.2)).wr R.PMU_TD_HI
    [e.1 / 4, e.1 % 4] (BitVec.ofNat 32 (e.2 / 2 ^ 32))) s1
  (s2.p F.PMU_SNAP_CTRL_BUSY [] 0).inc F.PMU_SNAP_CTRL_SEQ [] 1

/-- A copy in progress is completed (R416). -/
def snapDone (s : State) : State := if s.on F.PMU_SNAP_CTRL_BUSY [] then snapCopy s else s

/-- MONITOR_TICK (R415 to R417, R422): a tick of the monitor clock. `td` gives the slots of each unit that were not
FRONT_STARVED; `depth` the deepest queue of each class of the cellar, at the ticks that end a microsecond. -/
def execMonitorTick (td : List (Nat × Nat × Nat × Nat)) (depth : Option (Nat × Nat × Nat × Nat)) (s : State) : Out :=
  .next (if s.sys.por || s.sys.rstLow then s
  else
    let s1 := tickSlots td (tickLevels s)
    let s2 := match depth with
      | some (a, b, c, d) => histSample 5 3 d (histSample 5 2 c (histSample 5 1 b (histSample 5 0 a s1)))
      | none => s1
    snapDone s2)

/-- Write of PMU_SNAP_CTRL (R416). -/
def writeSnap (v : Word) (s : State) : State :=
  if F.PMU_SNAP_CTRL_TAKE.of v = 1 then s.p F.PMU_SNAP_CTRL_BUSY [] 1 else s

/-- SNAP_TAKE (R416): a write of 1 to TAKE; the copy is made at the next tick. -/
def execSnapTake (rq : Req) (s : State) : Out := .next (gate rq .pmu (writeSnap (fldMask 31 31)) s)

/-- Write of PMU_SAMP_PTR (R421): READ frees entries; the event of NOTIFY is armed again where fewer are left unread. -/
def writeSampPtr (v : Word) (s : State) : State :=
  let s1 := s.write R.PMU_SAMP_PTR [] v
  if sampUnread s1 < s1.g F.PMU_SAMP_CFG_NOTIFY [] then { s1 with pmu := { s1.pmu with notified := false } } else s1

/-- SAMP_READ_WRITE (R421). -/
def execSampReadWrite (rq : Req) (v : Word) (s : State) : Out := .next (gateUnit rq .pmu (writeSampPtr v) s)

/-- Write of PMU_SAMP_STAT (R425). -/
def writeSampStat (v : Word) (s : State) : State :=
  let s1 := s.write R.PMU_SAMP_STAT [] v
  if F.PMU_SAMP_STAT_CLR.of v = 1 then s1.p F.PMU_SAMP_STAT_DROPS [] 0 else s1

/-- SAMP_DROPS_CLR (R425). -/
def execSampDropsClr (rq : Req) (s : State) : Out := .next (gateUnit rq .pmu (writeSampStat (fldMask 30 30)) s)

/-- CLEAR of a histogram unit (R424). -/
def histClear (u : Nat) (s : State) : State :=
  let s1 := each (List.range 64) (fun b t => t.wr R.PMU_HIST_BIN [u, b] 0) s
  let s2 := (((s1.wr R.PMU_HIST_SAMPLES [u] 0).restore R.PMU_HIST_MIN [u]).restore R.PMU_HIST_MAX [u])
  (s2.p F.PMU_HIST_STAT_DONE [u] 0).p F.PMU_HIST_STAT_OVF [u] 0

/-- Write of PMU_HIST_CFG (R424): while EN is 1 a write that changes SEL, INDEX or WIDTH sets CFG_ERR and changes nothing
(DEDUCED, log 30: one that leaves them as they are is no write to them). -/
def writeHistCfg (u : Nat) (v : Word) (s : State) : State :=
  let old := s.rd R.PMU_HIST_CFG [u]
  let new := writtenWord R.PMU_HIST_CFG [u] v old
  let m := fldMask 28 7
  if F.PMU_HIST_CFG_EN.of old = 1 && (old &&& m) != (new &&& m) then s.p F.PMU_HIST_STAT_CFG_ERR [u] 1
  else
    let s1 := s.wr R.PMU_HIST_CFG [u] new
    if F.PMU_HIST_CFG_CLEAR.of v = 1 then histClear u s1 else s1

/-- Write of PMU_HIST_LOW (R424). -/
def writeHistLow (u : Nat) (v : Word) (s : State) : State :=
  if s.on F.PMU_HIST_CFG_EN [u] then s.p F.PMU_HIST_STAT_CFG_ERR [u] 1 else s.wr R.PMU_HIST_LOW [u] v

/-- Write of PMU_HIST_STAT (R424): the flags clear by 1; WINDOW as the rest of the configuration. -/
def writeHistStat (u : Nat) (v : Word) (s : State) : State :=
  if s.on F.PMU_HIST_CFG_EN [u] && F.PMU_HIST_STAT_WINDOW.of v != s.g F.PMU_HIST_STAT_WINDOW [u]
  then s.p F.PMU_HIST_STAT_CFG_ERR [u] 1 else s.write R.PMU_HIST_STAT [u] v

/-- HIST_CFG_WRITE (R424): a write of PMU_HIST_CFG, PMU_HIST_LOW or PMU_HIST_STAT (which 0, 1, 2). -/
def execHistCfgWrite (rq : Req) (u : Fin 32) (which : Fin 3) (v : Word) (s : State) : Out :=
  .next (gateUnit rq .pmu (if which = 0 then writeHistCfg u v else if which = 1 then writeHistLow u v else writeHistStat u v) s)

/-- HIST_CLEAR (R424): a write of PMU_HIST_CFG as it stands, with CLEAR. -/
def execHistClear (rq : Req) (u : Fin 32) (s : State) : Out :=
  .next (gateUnit rq .pmu (fun t => writeHistCfg u (t.rd R.PMU_HIST_CFG [u] ||| fldMask 29 29) t) s)

end Sys2Proof.Machine
end

