-- ==== Sys2Proof/Machine/SysCmd.lean ====
section
/-! DEFINITION. Supplies, temperatures and clocks (16_electrical_and_package.md). -/
namespace Sys2Proof.Machine

/-- SUPPLY_EXCURSION (R453): rail i has been outside ±5 % for 1 µs and measures mv, in 0.1 mV. -/
def execSupplyExcursion (i : Fin 6) (mv : BitVec 16) (s : State) : Out :=
  .next (if s.sys.railOut.contains i.val then s
  else
    let s1 := { s with sys := { s.sys with railOut := s.sys.railOut ++ [i.val] } }
    if inReset s1 then s1 else railFault i (s1.p F.SYS_RAIL_MV [i] mv.toNat))

/-- RAIL_WITHIN_TOLERANCE (R453, R397): the level ends when no rail is out. -/
def execRailWithinTolerance (i : Fin 6) (mv : BitVec 16) (s : State) : Out :=
  .next (let s1 := { s with sys := { s.sys with railOut := s.sys.railOut.filter (· != i.val) } }
    if inReset s1 then s1
    else
      let s2 := s1.p F.SYS_RAIL_MV [i] mv.toNat
      if s2.sys.railOut.isEmpty then level 330 0 false s2 else s2)

/-- The hottest of eight readings with its sensor, the lowest sensor on a tie. -/
def hottest (t : BitVec 128) : Int × Nat :=
  (List.range 8).foldl (fun m i =>
    let v := toSigned 16 (bitsOf t.toNat (16 * i + 15) (16 * i))
    if m.1 < v then (v, i) else m) (toSigned 16 (bitsOf t.toNat 15 0), 0)

/-- A sensor's reading (R474): PEAK is the highest since its last clear. -/
def readSensor (i w : Nat) (s : State) : State :=
  let old := s.g F.SYS_TEMP_SNS_PEAK [i]
  let peak := if s.sys.peaked.contains i && toSigned 16 w < toSigned 16 old then old else w
  let s1 := (s.p F.SYS_TEMP_SNS_TEMP [i] w).p F.SYS_TEMP_SNS_PEAK [i] peak
  if s1.sys.peaked.contains i then s1 else { s1 with sys := { s1.sys with peaked := s1.sys.peaked ++ [i] } }

/-- The temperature levels (R458): true above 100 °C and 110 °C, false at 2 °C below. -/
def tempLevel (src ev on : Nat) (die : Int) (s : State) : State :=
  let was := s.on F.FLT_SRC_STAT_COND [src]
  let now := if was then decide ((on : Int) - 200 < die) else decide ((on : Int) < die)
  level src 0 now (when (now && !was) (fun t => t.count ev 1) s)

/-- TEMP_SENSOR_READ (R458, R459, R474): the readings of the eight sensors in 0.01 °C and of the six rails in 0.1 mV. A sensor at
120 °C asserts POR, which holds until every sensor reads 100 °C or below. -/
def execTempSensorRead (t : BitVec 128) (mv : BitVec 96) (s : State) : Out :=
  .next (let (die, k) := hottest t
    if 12000 ≤ die then porAssert [] true s
    else
      let s0 := when (decide (die ≤ 10000)) (fun u => { u with sys := { u.sys with hot := false } }) s
      if inReset s0 then s0
      else
        let s1 := each (List.range 8) (fun i u => readSensor i (bitsOf t.toNat (16 * i + 15) (16 * i)) u) s0
        let s2 := each (List.range 6) (fun i u => u.p F.SYS_RAIL_MV [i] (bitsOf mv.toNat (16 * i + 15) (16 * i))) s1
        let s3 := ((s2.p F.SYS_TEMP_VALID [] 1).p F.SYS_TEMP_HOT_SNS [] k).p F.SYS_TEMP_DIE [] (ofSigned 16 die)
        tempLevel 329 582 11000 die (tempLevel 328 581 10000 die s3))

/-- Write of SYS_TEMP_SNS (R474): any value clears PEAK. -/
def writeTempSns (i : Nat) (s : State) : State :=
  let s1 := s.p F.SYS_TEMP_SNS_PEAK [i] 0
  { s1 with sys := { s1.sys with peaked := s1.sys.peaked.filter (· != i) } }

/-- TEMP_PEAK_CLEAR (R474). -/
def execTempPeakClear (rq : Req) (i : Fin 8) (s : State) : Out := .next (gate rq .sys (writeTempSns i) s)

/-- A clock or PLL starts or stops: bits of SYS_CLK_STAT[31:24]; the levels of R397 follow. -/
def setClk (bits : BitVec 8) (on : Bool) (s : State) : State :=
  let s1 := { s with sys := { s.sys with clk := if on then s.sys.clk ||| bits else s.sys.clk &&& ~~~bits } }
  if inReset s1 then s1 else level 332 0 (refOut s1) (level 331 0 (pllOut s1) s1)

/-- Events counted when a clock that ran stops, outside reset. -/
def clkLost (e : Nat) (bits : BitVec 8) (s : State) : State :=
  setClk bits false (when (!inReset s && s.sys.clk &&& bits != 0) (fun t => t.count e 1) s)

/-- CORE_PLL_UNLOCK (R399, R470): the core PLL, or the system PLL. -/
def execCorePllUnlock (system : Bool) (s : State) : Out := .next (clkLost 584 (if system then 0x40 else 0x80) s)

/-- CORE_PLL_RELOCK (R474). -/
def execCorePllRelock (system : Bool) (s : State) : Out := .next (setClk (if system then 0x40 else 0x80) true s)

/-- REFCLK_CORE_LOSS (R399). -/
def execRefclkCoreLoss (s : State) : Out := .next (clkLost 585 0x20 s)

/-- REFCLK_CORE_RETURN (R474). -/
def execRefclkCoreReturn (s : State) : Out := .next (setClk 0x20 true s)

/-- REFCLK_SDS_LOSS (R98, R474). -/
def execRefclkSdsLoss (k : Fin 4) (s : State) : Out := .next (refclkLost k (setClk (BitVec.ofNat 8 (2 ^ k.val)) false s))

/-- REFCLK_SDS_RETURN (R474). -/
def execRefclkSdsReturn (k : Fin 4) (s : State) : Out := .next (setClk (BitVec.ofNat 8 (2 ^ k.val)) true s)

/-- REFCLK_PCIE_LOSS (R474). -/
def execRefclkPcieLoss (s : State) : Out := .next (setClk 0x10 false s)

/-- REFCLK_PCIE_RETURN (R474). -/
def execRefclkPcieReturn (s : State) : Out := .next (setClk 0x10 true s)

/-- SYS_CLK_STAT and SYS_RAIL as they read (R474): outside reset they show the clocks and rails as they are. -/
def clkStatView (s : State) : Word := if inReset s then 0 else s.sys.clk ++ (0 : BitVec 24)
def railView (s : State) (i : Nat) : Word :=
  F.SYS_RAIL_OK.into (b2n (!inReset s && !s.sys.railOut.contains i)) (s.rd R.SYS_RAIL [i])

end Sys2Proof.Machine
end

