-- ==== Sys2Proof/Machine/Time.lean ====
section
/-! DEFINITION. The commands of time, references and the calendar (06_time_and_house_reference.md). -/
namespace Sys2Proof.Machine

/-- TIME_COUNTER_TICK (R171). -/
def execTimeCounterTick (s : State) : Out := .next (timeTick s)

/-- The increment pair of domain d is written (R172): refused beyond 1,000 ppm of 2 ns. -/
def writeIncr (d : Nat) (v : Nat) (s : State) : State :=
  let nom : Int := 2 * 2 ^ 48
  if ((v : Int) - nom).natAbs * 1000 ≤ 2 * 2 ^ 48 then
    let s1 := (s.p F.PTP_INCR_LO_INCR_LO [d] v).p F.PTP_INCR_HI_INCR_HI [d] (v / 2 ^ 32)
    (s1.setTc d { s1.tc d with incr := v }).count (200 + 4 * d) 1
  else (s.p F.PTP_DOM_STAT_INCR_ERR [d] 1).count (201 + 4 * d) 1

/-- INCR_WRITE (R172). -/
def execIncrWrite (rq : Req) (d : Fin 2) (v : BitVec 64) (s : State) : Out := .next (gate rq .ptp (writeIncr d v.toNat) s)

/-- An offset step of a signed number of nanoseconds (R173, R195, R202). -/
def writeAdj (d : Nat) (v : Nat) (s : State) : State :=
  let n := toSigned 64 v
  let t := s.tc d
  let (sec, ns) := addNs t n
  let s1 := (s.setTc d { t with sec := sec, ns := ns }).count (202 + 4 * d) 1
  let s2 := if s1.ref.current = some d && 1000 < n.natAbs then
      showPhase ({ s1 with ref := { s1.ref with p := s1.ref.p + n * hUnit } }.count 192 1)
    else s1
  if s2.g F.REF_TC_CFG_DOMAIN [] != d then s2
  else if 0 ≤ n then passMidnights s2 else newLocalTime s2

/-- ADJ_STEP (R173). -/
def execAdjStep (rq : Req) (d : Fin 2) (v : BitVec 64) (s : State) : Out := .next (gate rq .ptp (writeAdj d v.toNat) s)

/-- PTP_TIME_SEC_HI as a time read latches it (R174). -/
def timeHi (s : State) (d : Nat) : Word :=
  BitVec.ofNat 32 (b2n (!s.on F.PTP_DOM_CFG_VALID [d]) * 2 ^ 31 + dpllState s * 2 ^ 29 + (s.tc d).sec / 2 ^ 32)

/-- A read of PTP_TIME_NS (R174). -/
def readTime (rq : Req) (d : Nat) (s : State) : State :=
  let t := s.tc d
  answer rq (R.PTP_TIME_NS.addr [d]) (BitVec.ofNat 32 t.ns)
    (latch rq R.PTP_TIME_SEC_HI [d] (timeHi s d) (latch rq R.PTP_TIME_SEC_LO [d] (BitVec.ofNat 32 t.sec) s))

/-- PTP_TIME_READ (R174). -/
def execPtpTimeRead (rq : Req) (d : Fin 2) (s : State) : Out := .next (readHeld .ptp rq (R.PTP_TIME_NS.addr [d]) (readTime rq d) s)

/-- PPS_IN_EDGE (R175). -/
def execPpsInEdge (s : State) : Out :=
  .next (each [0, 1] (fun d t =>
    ((t.p F.PTP_PPS_CAP_NS [d] (t.tc d).ns).p F.PTP_PPS_CAP_NEW [d] 1).count (203 + 4 * d) 1) s)

/-- A read of PTP_TXTS_ID (R178). -/
def readTxts (rq : Req) (p k : Nat) (s : State) : State :=
  let a := R.PTP_TXTS_ID.addr [p, k]
  match getD [] s.ptp.txts (4 * p + k) with
  | [] => answer rq a 0 s
  | x :: rest =>
    let s1 := { s with ptp := { s.ptp with txts := put s.ptp.txts (4 * p + k) rest } }
    let s2 := (s1.p F.PTP_TXTS_STAT_COUNT [p, k] rest.length).count 211 1
    let s3 := latch rq R.PTP_TXTS_SEC_LO [p, k] (BitVec.ofNat 32 x.sec) (latch rq R.PTP_TXTS_NS [p, k] (BitVec.ofNat 32 x.ns) s2)
    answer rq a (BitVec.ofNat 32 (2 ^ 31 + x.id))
      (latch rq R.PTP_TXTS_SEC_HI [p, k] (BitVec.ofNat 32 (x.dom * 2 ^ 16 + x.sec / 2 ^ 32)) s3)

/-- TXTS_ID_READ (R178). -/
def execTxtsIdRead (rq : Req) (p : Fin 16) (k : Fin 4) (s : State) : Out := .next (readHeld .ptp rq (R.PTP_TXTS_ID.addr [p, k]) (readTxts rq p k) s)

/-- Write of PTP_TXTS_STAT (R208). -/
def writeTxtsStat (p k : Nat) (v : Word) (s : State) : State :=
  let s1 := s.write R.PTP_TXTS_STAT [p, k] v
  if F.PTP_TXTS_STAT_CLR.of v = 1 then s1.p F.PTP_TXTS_STAT_DROPS [p, k] 0 else s1

/-- TXTS_DROPS_CLR (R208). -/
def execTxtsDropsClr (rq : Req) (p : Fin 16) (k : Fin 4) (s : State) : Out :=
  .next (gate rq .ptp (writeTxtsStat p k (fldMask 30 30)) s)

/-- SYNC_IN_EDGE (R184): an edge of the polarity the reference takes. -/
def execSyncInEdge (k : Fin 4) (rising : Bool) (s : State) : Out :=
  .next (let i := 2 + k.val
    if s.on F.REF_IN_CFG_ENABLE [i] && (s.g F.REF_IN_SRC_POL [i] == b2n (!rising)) && !s.sys.held.contains .ref
    then showPhase (syncEdge k s) else s)

/-- A reference stops being VALID (R189). -/
def refLost (i : Nat) (s : State) : State :=
  let s1 := (s.p F.REF_IN_STAT_VALID [i] 0).p F.REF_IN_STAT_SELECTABLE [i] 0
  let s2 := { s1.p F.REF_IN_STAT_WTR_RUN [i] 0 with ref := { s1.ref with wtr := drop1 s1.ref.wtr i } }
  if s2.ref.current = some i && dpllTracks s2 then
    let s3 := ((s2.p F.REF_IN_STAT_HOLDOFF_RUN [i] 1).p F.REF_DPLL_STAT_FROZEN [] 1).count 186 1
    { s3 with ref := { s3.ref with histLocked := false, holdEnd := some (s3.ticks + msTicks (10 * s3.g F.REF_IN_CFG_HOLDOFF [i])) } }
  else markFailed i s2

/-- REF_INVALID (R186, R189): the state's condition of reference i fails (cause 0), its frequency, as measured, lies outside FREQ_RANGE
(1), or edges are missing at its input (2). -/
def execRefInvalid (i : Fin 15) (x : RefLoss) (s : State) : Out :=
  .next (if !refValid s i || (x.cause.val == 0 && refCond s i) || (x.cause.val == 1 && freqIn s i x.freq)
      || (x.cause.val == 2 && !(2 ≤ i.val && i.val ≤ 5)) then s
  else refLost i (if x.cause.val = 2 then s.count 195 1 else s))

/-- REF_VALID_RESTORE (R186, R189, R190): the reference's conditions hold, its input's among them, and its frequency, as measured, lies
within FREQ_RANGE. -/
def execRefValidRestore (x : RefMeas) (s : State) : Out :=
  .next (let i := x.ref
  if refValid s i || !refCond s i || !freqIn s i x.freq then s
  else
    let s1 := s.p F.REF_IN_STAT_VALID [i] 1
    if s1.ref.current = some i.val && frozen s1 then
      let s2 := ((s1.p F.REF_IN_STAT_HOLDOFF_RUN [i] 0).p F.REF_DPLL_STAT_FROZEN [] 0).count 187 1
      { s2.p F.REF_IN_STAT_SELECTABLE [i] 1 with ref := { s2.ref with holdEnd := none } }
    else if s1.ref.failed.contains i.val then
      { s1.p F.REF_IN_STAT_WTR_RUN [i] 1 with
        ref := { s1.ref with wtr := put s1.ref.wtr i (s1.ticks + msTicks (1000 * s1.g F.REF_IN_CFG_WTR [i])) } }
    else s1.p F.REF_IN_STAT_SELECTABLE [i] 1)

/-- HOLDOFF_EXPIRY (R189). -/
def execHoldoffExpiry (s : State) : Out :=
  .next (match s.ref.holdEnd, s.ref.current with
  | some t, some i =>
    if t ≤ s.ticks then
      let s1 := (s.p F.REF_IN_STAT_HOLDOFF_RUN [i] 0).p F.REF_DPLL_STAT_FROZEN [] 0
      selectRef (markFailed i { s1 with ref := { s1.ref with holdEnd := none } })
    else s
  | _, _ => s)

/-- WTR_EXPIRY (R190). -/
def execWtrExpiry (i : Fin 15) (s : State) : Out :=
  .next (match find? s.ref.wtr i.val with
  | some t =>
    if t ≤ s.ticks then
      let s1 := { s with ref := { s.ref with wtr := drop1 s.ref.wtr i, failed := s.ref.failed.filter (· != i.val) } }
      (s1.p F.REF_IN_STAT_WTR_RUN [i] 0).p F.REF_IN_STAT_SELECTABLE [i] (b2n (refValid s1 i))
    else s
  | none => s)

/-- REF_SELECTION (R191 to R195, R197, R422): every 1 ms. `freq` is the frequency of the tracked reference as measured, in 0.01 ppb;
`temp` the on-die temperature in 0.01 °C. -/
def execRefSelection (freq temp : Int) (s : State) : Out :=
  .next (if s.ticks < s.ref.selAt || s.sys.held.contains .ref then s
  else
    let s1 := { s with ref := { s.ref with selAt := s.ticks + msTicks 1 } }
    let s2 := match s1.ref.current with
      | some i => when (dpllTracks s1 && !frozen s1) (trackStep i freq) s1
      | none => s1
    let s3 := when (dpllState s2 == 2 && !frozen s2) (averageSample temp) s2
    let s4 := each (List.range 15) (fun i t =>
      t.p F.REF_IN_STAT_QL [i] (if t.on F.REF_IN_CFG_ENABLE [i] then refQl t i else 15)) s3
    let s5 := showPhase (selectRef s4)
    let s6 := { s5 with ref := { s5.ref with histLocked := s5.ref.histLocked && dpllState s5 == 2 && !frozen s5 } }
    let s7 := histSample 3 0 (phaseNs s6.ref.p) s6
    each (List.range 15) (fun i t => if refValid t i then histSample 4 i (phaseNs (refError t i)) t else t) s7)

/-- DPLL_LOCKED (R193): the frequency error, averaged over each second, has stayed within 10 ppb for 10 s. -/
def execDpllLocked (s : State) : Out :=
  .next (if dpllState s = 1 && !frozen s && decide (10 ≤ s.ref.lockGood) then refChanged (s.g F.REF_DPLL_STAT_SELECTED []) 1 (setDpll 2 s) else s)

/-- DPLL_LOCK_LOST (R193): the frequency error of a second exceeds 100 ppb; not during a hold-off. -/
def execDpllLockLost (s : State) : Out :=
  .next (if dpllState s = 2 && !frozen s && s.ref.lockBad then refChanged (s.g F.REF_DPLL_STAT_SELECTED []) 2 (setDpll 1 s) else s)

/-- HOLDOVER_UPDATE (R198): once per second in HOLDOVER, at the on-die temperature in 0.01 °C. -/
def execHoldoverUpdate (temp : Int) (s : State) : Out :=
  .next (if dpllState s = 3 && s.ref.hoNext ≤ s.ticks then
    setFreq (holdoverFreq s temp) { s with ref := { s.ref with hoNext := s.ticks + msTicks 1000 } }
  else s)

/-- HISTORY_ENTRY (R196): every HIST_INT seconds; the mean temperature of the interval is measured. -/
def execHistoryEntry (temp : Int) (s : State) : Out :=
  .next (let dt := s.ticks - s.ref.histAt
    if dt < msTicks (1000 * s.g F.REF_HO_CFG_HIST_INT []) || dt = 0 || s.sys.held.contains .ref then s
    else
      let n := s.g F.REF_HO_STAT_NEXT []
      let nom : Int := (dt * 2 * hUnit : Nat)
      let f := inUnits ((hDiff s.ref.h s.ref.histH - nom) * 10 ^ 11) (dt * 2 * hUnit)
      let w := b2n s.ref.histLocked * 2 ^ 31 + ofSigned 16 temp
      let s1 := (s.wr R.REF_HIST_FREQ [n] (BitVec.ofNat 32 (ofSigned 32 f))).wr R.REF_HIST_TEMP [n] (BitVec.ofNat 32 w)
      let s2 := (s1.p F.REF_HO_STAT_NEXT [] ((n + 1) % 64)).p F.REF_HO_STAT_COUNT [] (min 64 (s1.g F.REF_HO_STAT_COUNT [] + 1))
      { s2 with ref := { s2.ref with histAt := s2.ticks, histH := s2.ref.h, histLocked := dpllState s2 == 2 && !frozen s2 } })

/-- HO_VALID_SET (R197). -/
def execHoValidSet (s : State) : Out :=
  .next (if s.g F.REF_HO_CFG_AVG_S [] ≤ s.ref.lockSecs && 0 < s.ref.lockSecs then s.p F.REF_DPLL_STAT_HO_VALID [] 1 else s)

/-- Write of REF_CAD_LAG (R182). -/
def writeCadLag (c : Nat) (v : Word) (s : State) : State :=
  let (num, den) := rateOf (s.g F.XPT_CAD_CFG_RATE [c])
  if cadOn s c || den * 10 ^ 9 ≤ v.toNat * num then s.p F.REF_DPLL_STAT_CFG_ERR [] 1
  else restartCadPulses c (s.write R.REF_CAD_LAG [c] v)

/-- CAD_LAG_WRITE (R182). -/
def execCadLagWrite (rq : Req) (c : Fin 8) (v : Word) (s : State) : Out := .next (gate rq .ref (writeCadLag c v) s)

/-- Write of REF_DPLL_CFG (R208): SLOPE and FREQ_RANGE outside 1 to 100 are refused, and the write with them. -/
def writeDpllCfg (v : Word) (s : State) : State :=
  let ok := fun (n : Nat) => decide (1 ≤ n) && decide (n ≤ 100)
  if ok (F.REF_DPLL_CFG_SLOPE.of v) && ok (F.REF_DPLL_CFG_FREQ_RANGE.of v) then s.write R.REF_DPLL_CFG [] v
  else s.p F.REF_DPLL_STAT_CFG_ERR [] 1

def writeSyncOut (r : Reg) (k : Nat) (v : Word) (s : State) : State := restartPulse k (s.write r [k] v)
def writePpsOut (v : Word) (s : State) : State :=
  let s1 := s.write R.REF_PPS_OUT [] v
  if !s.on F.REF_PPS_OUT_ENABLE [] && s1.on F.REF_PPS_OUT_ENABLE [] then restartPulse 4 s1 else s1

/-- SYNC_OUT_PULSE (R183): the next instant of the pin's signal has come. -/
def execSyncOutPulse (k : Fin 4) (s : State) : Out :=
  .next (let n := pulseBefore s k
    if s.on F.REF_SYNC_OUT_ENABLE [k] && !s.sys.held.contains .ref && decide (getD 0 s.ref.pulses k.val < n) then
      { s with ref := { s.ref with pulses := put s.ref.pulses k n } }.emit
        (.syncOut k (s.g F.REF_SYNC_OUT_TYPE [k]) (s.on F.REF_SYNC_OUT_POL [k]) (s.g F.REF_SYNC_OUT_WIDTH [k]))
    else s)

/-- PPS_OUT_PULSE (R183). -/
def execPpsOutPulse (s : State) : Out :=
  .next (let n := pulseBefore s 4
    if s.on F.REF_PPS_OUT_ENABLE [] && !s.sys.held.contains .ref && decide (getD 0 s.ref.pulses 4 < n) then
      { s with ref := { s.ref with pulses := put s.ref.pulses 4 n } }.emit (.ppsOut (s.g F.REF_PPS_OUT_WIDTH []))
    else s)

/-- Write of REF_CAL_SET (R201): the register reads the last write. -/
def writeCalSet (v : Word) (s : State) : State :=
  let s1 := s.write R.REF_CAL_SET [] v
  let y := F.REF_CAL_SET_YEAR.of v
  let m := F.REF_CAL_SET_MONTH.of v
  let d := F.REF_CAL_SET_DAY.of v
  if realDate y m d then
    newLocalTime ((((s1.p F.REF_CAL_DATE_YEAR [] y).p F.REF_CAL_DATE_MONTH [] m).p F.REF_CAL_DATE_DAY [] d).p F.REF_CAL_STAT_CAL_RANGE [] 0)
  else (s1.p F.REF_CAL_STAT_DATE_ERR [] 1).count 196 1

/-- CAL_SET_WRITE (R201). -/
def execCalSetWrite (rq : Req) (v : Word) (s : State) : Out := .next (gate rq .ref (writeCalSet v) s)

/-- MIDNIGHT (R202, R203): local time has passed 24:00:00. -/
def execMidnight (s : State) : Out := .next (if s.sys.held.contains .ref then s else passMidnights s)

/-- LEAP_APPLY (R204): at the end of the UTC day, which is 23:59:59 for a negative leap. -/
def execLeapApply (s : State) : Out :=
  .next (let at_ := utcSeconds s % 86400
    let u := toSigned 16 (s.g F.REF_LEAP_UTC_OFFSET [])
    let go := fun (x : Int) => ((s.p F.REF_LEAP_UTC_OFFSET [] (ofSigned 16 x)).p F.REF_LEAP_PENDING [] 0).count 198 1
    match s.g F.REF_LEAP_PENDING [] with
    | 1 => if at_ = 0 then go (u + 1) else s
    | 2 => if at_ = 86399 then go (u - 1) else s
    | _ => s)

/-- Writes of REF_TC_CFG and REF_LEAP: local time is set anew, and no midnight is counted for it (DEDUCED, log 50). -/
def writeLocal (r : Reg) (v : Word) (s : State) : State := newLocalTime (s.write r [] v)

/-- Write of REF_TC_STAT (R208). -/
def writeTcStat (v : Word) (s : State) : State :=
  if F.REF_TC_STAT_CLR.of v = 1 then s.p F.REF_TC_STAT_SKIPPED [] 0 else s

/-- TC_SKIPPED_CLR (R208). -/
def execTcSkippedClr (rq : Req) (s : State) : Out := .next (gate rq .ref (writeTcStat (fldMask 16 16)) s)

end Sys2Proof.Machine
end

