-- ==== Sys2Proof/Machine/Views.lean ====
section
/-! DEFINITION. What a register reads as (R4, R5, R303): the word it holds, or what the register table makes it show of the
rest of the state. -/
namespace Sys2Proof.Machine

/-- The first index of an element, and the second. -/
def ix0 (i : List Nat) : Nat := i.headD 0
def ix1 (i : List Nat) : Nat := i.getD 1 0

/-- Pack a value for each of eight sub-slots. -/
def packSubs (w : Nat) (f : Nat → Nat) : Word := BitVec.ofNat 32 (((List.range 8).map (fun k => f k * 2 ^ (w * k))).sum)

/-- XPT_BUS_STAT (R61). -/
def busStatView (s : State) (b : Nat) : Word :=
  let n := ((liveEntries s).filter (fun e => eValid e.2 && eBus e.2 == b)).length
  F.XPT_BUS_STAT_USERS.into n (F.XPT_BUS_STAT_FAULT.into (b2n (latched s (4 + b))) (s.rd R.XPT_BUS_STAT [b]))

/-- ZL_PEER_STAT (R133). -/
def peerView (s : State) (p : Nat) : Word :=
  F.ZL_PEER_STAT_LOST.into (b2n (latched s (184 + p))) (F.ZL_PEER_STAT_FAILED.into (peerFailed s p) (s.rd R.ZL_PEER_STAT [p]))

/-- CMD_RING_STAT (R361): BUSY while descriptors of the ring are fetched and not yet accepted or refused. -/
def ringStatView (s : State) (p r : Nat) : Word :=
  let busy := s.cmd.fetched.any (fun d => d.part == p && d.ring == r) || s.cmd.reads.any (fun x => x.desc.part == p && x.desc.ring == r)
  F.CMD_RING_STAT_BUSY.into (b2n busy) (s.rd R.CMD_RING_STAT [p, r])

/-- Registers of HIF and CMD that show other state. -/
def viewHost (rq : Req) (r : Reg) (i : List Nat) (s : State) : Word :=
  if r.base = R.HIF_DST_OWN.base then
    BitVec.ofNat 32 (if 1152 ≤ ix0 i then s.g F.HIF_ENG_ALLOC_PART [(ix0 i - 1152) / 2] else s.g F.HIF_DST_OWN_OWNER i)
  else if r.base = R.HIF_MGMT_STAT.base then F.HIF_MGMT_STAT_ACTIVE.into (b2n (rq == .mgmt)) (s.rd r i)
  else if r.base = R.CMD_TRACK.base then F.CMD_TRACK_USED.into (trackUsed s) 0
  else if r.base = R.CMD_CPL_STAT.base then F.CMD_CPL_STAT_CREDITS.into (credits s (ix0 i)) (s.rd r i)
  else if r.base = R.CMD_RING_STAT.base then ringStatView s (ix0 i) (ix1 i)
  else s.rd r i

/-- Registers of XPT that show other state. -/
def viewXpt (r : Reg) (i : List Nat) (s : State) : Word :=
  let n := ix0 i
  if r.base = R.XPT_BUS_STAT.base then busStatView s n
  else if r.base = R.XPT_BANK_STAT.base then F.XPT_BANK_STAT_PENDING.into s.xpt.takes.length (s.rd r i)
  else if r.base = R.XPT_CAD_POS.base then cadPosView s n
  else if r.base = R.XPT_CAD_FRAME.base then BitVec.ofNat 32 (s.cad n).frame
  else if r.base = R.XPT_SRC_LAYOUT.base && 1216 ≤ n then packSubs 4 (srcSub s n)
  else if r.base = R.XPT_SRC_CAD.base && 1216 ≤ n then packSubs 3 (srcCad s n)
  else s.rd r i

/-- Registers of PTP that show other state. -/
def viewPtp (r : Reg) (i : List Nat) (s : State) : Word :=
  if r.base = R.PTP_TIME_NS.base then BitVec.ofNat 32 (s.tc (ix0 i)).ns
  else if r.base = R.PTP_TIME_SEC_LO.base then BitVec.ofNat 32 (s.tc (ix0 i)).sec
  else if r.base = R.PTP_TIME_SEC_HI.base then timeHi s (ix0 i)
  else s.rd r i

/-- Registers of RED that show other state. -/
def viewRed (r : Reg) (i : List Nat) (s : State) : Word :=
  if r.base = R.RED_STATE.base then redStateView s
  else if r.base = R.RED_SYNC_STAT.base then syncStatView s
  else if r.base = R.RED_LEASE_LEFT.base then BitVec.ofNat 32 (leaseLeft s)
  else if r.base = R.RED_HEALTH.base then healthView s (ix0 i)
  else s.rd r i

/-- Registers of FLT that show other state. -/
def viewFlt (r : Reg) (i : List Nat) (s : State) : Word :=
  if r.base = R.FLT_TOP_LO.base then BitVec.ofNat 32 (fltTop s)
  else if r.base = R.FLT_LATCH.base then latchView s (ix0 i)
  else if r.base = R.FLT_COND.base then condView s (ix0 i)
  else if r.base = R.FLT_STAT.base then fltStatView s
  else s.rd r i

/-- Registers of PMU that show other state: the live counters (R414). -/
def viewPmu (r : Reg) (i : List Nat) (s : State) : Word :=
  if r.base = R.PMU_CNT_LO.base then BitVec.ofNat 32 (s.cnt (ix0 i))
  else if r.base = R.PMU_CNT_HI.base then BitVec.ofNat 32 (s.cnt (ix0 i) / 2 ^ 32)
  else s.rd r i

/-- Registers of SYS that show other state. -/
def viewSys (r : Reg) (i : List Nat) (s : State) : Word :=
  if r.base = R.SYS_CLK_STAT.base then clkStatView s else if r.base = R.SYS_RAIL.base then railView s (ix0 i) else s.rd r i

/-- What a register element shows (R4): a page of an absent Ethernet sub-port reads 0 (R134). -/
def viewReg (rq : Req) (r : Reg) (i : List Nat) (s : State) : Word :=
  match r.blk with
  | .hif => viewHost rq r i s
  | .cmd => viewHost rq r i s
  | .xpt => viewXpt r i s
  | .ref => s.rd r i
  | .ptp => viewPtp r i s
  | .eth => if !subExists s (ix0 i) (ix1 i) then 0
    else if r.base = R.ETH_LINK_STAT.base then linkStatView s (ix0 i) (ix1 i) else s.rd r i
  | .flw => if r.base = R.FLW_STAT.base then flowStatView s (ix0 i) else s.rd r i
  | .aud => if r.base = R.AUD_TDM_STAT.base then
      F.AUD_TDM_STAT_DRIVING.into (b2n (s.on F.AUD_TDM_STAT_DRIVING i && !fatalHeld s)) (s.rd r i) else s.rd r i
  | .eng => if r.base = R.ENG_FLIP_STAT.base then flipStatView s (ix0 i) else s.rd r i
  | .cel => s.rd r i
  | .zl => if r.base = R.ZL_PEER_STAT.base then peerView s (ix0 i) else s.rd r i
  | .red => viewRed r i s
  | .flt => viewFlt r i s
  | .pmu => viewPmu r i s
  | .key => s.rd r i
  | .boot => s.rd r i
  | .noc => s.rd r i
  | .sys => viewSys r i s

/-- The pairs of R5: low half and high half. -/
def pairs : List (Reg × Reg) :=
  [(R.PTP_INCR_LO, R.PTP_INCR_HI), (R.PTP_ADJ_LO, R.PTP_ADJ_HI), (R.PTP_TIME_SEC_LO, R.PTP_TIME_SEC_HI)] ++
  [(R.PTP_TXTS_SEC_LO, R.PTP_TXTS_SEC_HI), (R.ENG_FENCE_LO, R.ENG_FENCE_HI), (R.ENG_FENCE_SEEN_LO, R.ENG_FENCE_SEEN_HI)] ++
  [(R.AUD_TDM_TS_SEC_LO, R.AUD_TDM_TS_SEC_HI), (R.CEL_CE_ADDR_LO, R.CEL_CE_ADDR_HI), (R.CEL_UE_ADDR_LO, R.CEL_UE_ADDR_HI)] ++
  [(R.ETH_MAC_ADDR_LO, R.ETH_MAC_ADDR_HI), (R.ETH_HTX_BASE_LO, R.ETH_HTX_BASE_HI), (R.ETH_HRX_BASE_LO, R.ETH_HRX_BASE_HI)] ++
  [(R.ETH_STAT_LO, R.ETH_STAT_HI), (R.XPT_GEN_SLATE_LO, R.XPT_GEN_SLATE_HI), (R.RED_REPL_TX_LO, R.RED_REPL_TX_HI)] ++
  [(R.RED_REPL_ACK_LO, R.RED_REPL_ACK_HI), (R.RED_REPL_RX_LO, R.RED_REPL_RX_HI), (R.RED_REPL_TAG_LO, R.RED_REPL_TAG_HI)] ++
  [(R.FLT_TOP_LO, R.FLT_TOP_HI), (R.PMU_CNT_LO, R.PMU_CNT_HI), (R.PMU_SNAP_LO, R.PMU_SNAP_HI), (R.PMU_TD_LO, R.PMU_TD_HI)] ++
  [(R.HIF_BDP_ADDR_LO, R.HIF_BDP_ADDR_HI), (R.CMD_RING_BASE_LO, R.CMD_RING_BASE_HI), (R.CMD_CPL_BASE_LO, R.CMD_CPL_BASE_HI)] ++
  [(R.CMD_EVT_BASE_LO, R.CMD_EVT_BASE_HI), (R.NOC_ERR_ADDR_LO, R.NOC_ERR_ADDR_HI)]

/-- The high half of a pair whose low half is register r. -/
def highOf (r : Reg) : Option Reg := (pairs.find? (fun x => x.1.base == r.base)).map (·.2)

/-- The low half of a pair whose high half is register r. -/
def lowOf (r : Reg) : Option Reg := (pairs.find? (fun x => x.2.base == r.base)).map (·.1)

/-- Whether a register is held in reset (R303, R428). -/
def regHeld (s : State) (r : Reg) : Bool := blkHeld s r.blk || (r.kind == .block && unitHeld s r.blk)

/-- A read of a register that does no more than latch (R5): of the low half of a pair it latches the high half, unless the
low half itself stands latched; a latched word answers a read. -/
def readPlain (rq : Req) (r : Reg) (i : List Nat) (s : State) : State :=
  let a := r.addr i
  match latched? s rq a with
  | some w => answer rq a w s
  | none =>
    let s1 := match highOf r with
      | some h => latch rq h i (viewReg rq h i s) s
      | none => s
    answer rq a (viewReg rq r i s) s1

/-- A read of a BAR0 address (R3 to R5, R302, R303): VFs read the KEY block as 0, a block held in reset reads its reset values; a
few reads do more. -/
def busRead (rq : Req) (a : Nat) (s : State) : State :=
  if !(Req.priv rq) && blkAt a == some .key then answer rq a 0 s
  else match findReg a with
  | none => answer rq a 0 s
  | some (r, i) =>
    if regHeld s r then answer rq a (r.resetWord i) s
    else if r.base = R.PTP_TIME_NS.base then readTime rq (ix0 i) s
    else if r.base = R.PTP_TXTS_ID.base then readTxts rq (ix0 i) (ix1 i) s
    else if r.base = R.XPT_CAD_POS.base then readCadPos rq (ix0 i) s
    else if r.base = R.AUD_TDM_TS_NS.base then readTdmTs rq (ix0 i) s
    else if r.base = R.PMU_SNAP_CTRL.base then readPlain rq r i (snapDone s)
    else readPlain rq r i s

end Sys2Proof.Machine
end

