-- ==== Sys2Proof/Machine/BusWrite.lean ====
section
/-! DEFINITION. Writes of BAR0 registers (R3, R4, R6, R7, R302, R303): what each register's write does, by block. -/
namespace Sys2Proof.Machine

/-- Write both halves of a pair (R6). -/
def writePair (lo hi : Reg) (i : List Nat) (l h : Word) (s : State) : State :=
  let both := (s.write lo i l).write hi i h
  if lo.base = R.PTP_INCR_LO.base then writeIncr (ix0 i) (l.toNat + 2 ^ 32 * h.toNat) s
  else if lo.base = R.PTP_ADJ_LO.base then writeAdj (ix0 i) (l.toNat + 2 ^ 32 * h.toNat) s
  else if lo.base = R.CMD_RING_BASE_LO.base then (if s.on F.CMD_RING_CFG_EN i then s else both)
  else if lo.base = R.CMD_CPL_BASE_LO.base then (if s.on F.CMD_CPL_CFG_EN i then s else both)
  else if lo.base = R.CMD_EVT_BASE_LO.base then (if s.on F.CMD_EVT_CFG_EN i then s else both)
  else if lo.base = R.XPT_GEN_SLATE_LO.base then genWaits (ix0 i) both
  else if lo.base = R.HIF_BDP_ADDR_LO.base && ix0 i = 8 then { both with cmd := { both.cmd with mgmtOfs := 0 } }
  else both

/-- Write a register of HIF. -/
def writeHif (r : Reg) (i : List Nat) (v : Word) (s : State) : State :=
  let n := ix0 i
  if r.base = R.HIF_MGMT_STAT.base then writeMgmtStat v s
  else if r.base = R.HIF_DST_OWN.base then writeProt (.dstOwn (Fin.ofNat 1280 n)) v s
  else if r.base = R.HIF_SRC_VIS.base then writeProt (.srcVis (Fin.ofNat 1280 n)) v s
  else if r.base = R.HIF_ENG_ALLOC.base then writeProt (.engAlloc (Fin.ofNat 64 n)) v s
  else if r.base = R.HIF_PART_FLOW.base then writeProt (.partFlow (Fin.ofNat 8 n)) v s
  else if r.base = R.HIF_PART_CEL_BASE.base then writeProt (.celBase (Fin.ofNat 8 n)) v s
  else if r.base = R.HIF_PART_CEL_LIMIT.base then writeProt (.celLimit (Fin.ofNat 8 n)) v s
  else if r.base = R.HIF_BDP_STAT.base then writeBdpStat n v s
  else if r.base = R.HIF_PART_STAT.base then writePartStat n v s
  else s.write r i v

/-- Write a register of CMD. -/
def writeCmd (r : Reg) (i : List Nat) (v : Word) (s : State) : State :=
  if r.base = R.CMD_RING_CFG.base then writeRingCfg (ix0 i) (ix1 i) v s
  else if r.base = R.CMD_RING_STAT.base then writeRingStat (ix0 i) (ix1 i) v s
  else if r.base = R.CMD_CPL_CFG.base then writeCplCfg (ix0 i) v s
  else if r.base = R.CMD_EVT_CFG.base then writeEvtCfg (ix0 i) v s
  else if r.base = R.CMD_EVT_MASK.base then s.write r i (v &&& (if ix0 i = 0 then 0x3FF#32 else 0x185#32))
  else s.write r i v

/-- Write a register of XPT. -/
def writeXpt (r : Reg) (i : List Nat) (v : Word) (s : State) : State :=
  let n := ix0 i
  if r.base = R.XPT_XING_CFG.base then writeXing v s
  else if r.base = R.XPT_PROBE_CTRL.base then writeProbe v s
  else if r.base = R.XPT_PROBE_DST.base then writeProbeDst v s
  else if r.base = R.XPT_GEN_CFG.base then writeGenCfg n v s
  else if r.base = R.XPT_GEN_STAT.base then
    when (F.XPT_GEN_STAT_CLR_REPEATS.of v == 1) (fun u => u.p F.XPT_GEN_STAT_REPEATS [n] 0) (s.write r i v)
  else if r.base = R.XPT_SRC_LAYOUT.base then writeSrcLayout n v s
  else if r.base = R.XPT_DST_LAYOUT.base then writeDstLayout n v s
  else if r.base = R.XPT_BANK_CTRL.base then writeImageOpen v s
  else if r.base = R.XPT_CAD_CFG.base then writeCadCfg n v s
  else if r.base = R.XPT_CAD_SSYNC.base then writeSsync n v s
  else if r.base = R.XPT_CAD_STAT.base then writeCadStat n v s
  else if r.base = R.XPT_SRC_CAD.base then writeSrcCad n v s
  else if r.base = R.XPT_DST_CAD.base then writeDstCad n v s
  else if r.base = R.XPT_ALIGN_STAT.base then writeAlignStat n v s
  else s.write r i v

/-- Write a register of REF or PTP. -/
def writeRef (r : Reg) (i : List Nat) (v : Word) (s : State) : State :=
  let n := ix0 i
  if r.base = R.REF_DPLL_CFG.base then writeDpllCfg v s
  else if r.base = R.REF_CAD_LAG.base then writeCadLag n v s
  else if r.base = R.REF_SYNC_OUT.base || r.base = R.REF_SYNC_OUT_OFS.base then writeSyncOut r n v s
  else if r.base = R.REF_PPS_OUT.base then writePpsOut v s
  else if r.base = R.REF_CAL_SET.base then writeCalSet v s
  else if r.base = R.REF_LEAP.base || r.base = R.REF_TC_CFG.base then writeLocal r v s
  else if r.base = R.REF_TC_STAT.base then writeTcStat v s
  else if r.base = R.PTP_TXTS_STAT.base then writeTxtsStat n (ix1 i) v s
  else s.write r i v

/-- Write a register of ETH: pages of absent sub-ports take none (R134). `host` is what the device reads of host memory after a
write of ETH_HRING_TAIL. -/
def writeEth (r : Reg) (i : List Nat) (v : Word) (host : List (BitVec 128 × List Byte)) (s : State) : State :=
  if !subExists s (ix0 i) (ix1 i) then s
  else if r.base = R.ETH_MAC_CFG.base then writeMacCfg (ix0 i) (ix1 i) v s
  else if r.base = R.ETH_HRING_CFG.base then writeHringCfg (ix0 i) (ix1 i) v s
  else if r.base = R.ETH_HRING_TAIL.base then writeHringTail (ix0 i) (ix1 i) v host s
  else s.write r i v

/-- Write a register of AUD. -/
def writeAud (r : Reg) (i : List Nat) (v : Word) (s : State) : State :=
  let n := ix0 i
  if r.base = R.AUD_CFG.base then writeAudCfg v s
  else if r.base = R.AUD_POOL.base then writePool v s
  else if r.base = R.AUD_DCAD.base then writeDcad n v s
  else if r.base = R.AUD_SVIS.base then writeProt (.audSvis (Fin.ofNat 1024 n)) v s
  else if r.base = R.AUD_TDM_CFG.base then writeTdmCfg n v s
  else if r.base = R.AUD_TDM_MAP.base then writeTdmMap n v s
  else if r.base = R.AUD_TDM_STAT.base then writeTdmStat n v s
  else if r.base = R.AUD_DEEMB.base then writeDeemb n v s
  else if r.base = R.AUD_DEEMB_STAT.base then writeDeembStat n v s
  else if r.base = R.AUD_REEMB.base then writeReemb n v s
  else if r.base = R.AUD_REEMB_STAT.base then writeReembStat n v s
  else s.write r i v

/-- Write a register of ENG or CEL. -/
def writeEngCel (r : Reg) (i : List Nat) (v : Word) (s : State) : State :=
  let n := ix0 i
  if r.base = R.ENG_STAT.base then writeEngStat n v s
  else if r.base = R.ENG_FS_STAT.base then writeFsStat n s
  else if r.base = R.ENG_FLIP_STAT.base then writeFlipStat n v s
  else if r.base = R.ENG_SIG_STAT.base then writeSigStat n (ix1 i) v s
  else if r.base = R.CEL_CFG.base then writeCelCfg v s
  else if r.base = R.CEL_BUDGET.base then writeBudget v s
  else if r.base = R.CEL_TRAIN.base then writeCelTrain v s
  else if r.base = R.CEL_SCRUB.base then writeScrub v s
  else if r.base = R.CEL_ECC_CTRL.base then writeEccCtrl v s
  else s.write r i v

/-- Write a register of ZL. -/
def writeZl (r : Reg) (i : List Nat) (v : Word) (s : State) : State :=
  let n := ix0 i
  if r.base = R.ZL_LANE_CTRL.base then writeLaneCtrl n v s
  else if r.base = R.ZL_LANE_ERRCLR.base then writeErrclr n v s
  else if r.base = R.ZL_LANE_PRBS.base then writePrbs n v s
  else if r.base = R.ZL_LANE_EYE_CTRL.base then writeEyeCtrl n v s
  else if r.base = R.ZL_QUAD_CFG.base then writeQuadCfg n v s
  else s.write r i v

/-- Write a register of RED or FLT. -/
def writeRedFlt (r : Reg) (i : List Nat) (v : Word) (s : State) : State :=
  let n := ix0 i
  if r.base = R.RED_CTRL.base then writeRedCtrl v s
  else if r.base = R.RED_LEASE_CFG.base then writeLeaseCfg v s
  else if r.base = R.RED_LEASE_CNT.base then writeLeaseCnt s
  else if r.base = R.RED_SIG_CNT.base then writeSigCnt s
  else if r.base = R.RED_CHECK_STAT.base then writeCheckStat s
  else if r.base = R.RED_REPL_STAT.base then writeReplStat v s
  else if r.base = R.FLT_CFG.base then writeFltCfg v s
  else if r.base = R.FLT_LATCH.base then writeLatch n v s
  else if r.base = R.FLT_SRC_CFG.base then writeSrcCfg n v s
  else if r.base = R.FLT_SRC_CNT.base then writeSrcCnt n s
  else if r.base = R.FLT_SAFE.base then writeSafe n v s
  else s.write r i v

/-- Write a register of PMU. -/
def writePmu (r : Reg) (i : List Nat) (v : Word) (s : State) : State :=
  let n := ix0 i
  if r.base = R.PMU_SNAP_CTRL.base then writeSnap v s
  else if r.base = R.PMU_CNT_CFG.base then writeCntCfg n v s
  else if r.base = R.PMU_SAMP_PTR.base then writeSampPtr v s
  else if r.base = R.PMU_SAMP_STAT.base then writeSampStat v s
  else if r.base = R.PMU_HIST_CFG.base then writeHistCfg n v s
  else if r.base = R.PMU_HIST_LOW.base then writeHistLow n v s
  else if r.base = R.PMU_HIST_STAT.base then writeHistStat n v s
  else s.write r i v

/-- Write a register of KEY, BOOT or SYS. -/
def writeBoot (r : Reg) (i : List Nat) (v : Word) (s : State) : State :=
  if r.base = R.KEY_CTRL.base then writeKeyCtrl v s
  else if r.base = R.BOOT_ROLLBACK.base then writeRollback v s
  else if r.base = R.SYS_RESET.base then writeSysReset v s
  else if r.base = R.SYS_BLK_RESET.base then writeBlkReset v s
  else if r.base = R.SYS_TEMP_SNS.base then writeTempSns (ix0 i) s
  else s.write r i v

/-- Write a register that is not half of a writable pair. -/
def writeOne (r : Reg) (i : List Nat) (v : Word) (host : List (BitVec 128 × List Byte)) (s : State) : State :=
  match r.blk with
  | .hif => writeHif r i v s
  | .cmd => writeCmd r i v s
  | .xpt => writeXpt r i v s
  | .ref => writeRef r i v s
  | .ptp => writeRef r i v s
  | .eth => writeEth r i v host s
  | .flw => if r.base = R.FLW_CNT0.base then writeFlowCnt (ix0 i) s
    else s.write r i v
  | .aud => writeAud r i v s
  | .eng => writeEngCel r i v s
  | .cel => writeEngCel r i v s
  | .zl => writeZl r i v s
  | .red => writeRedFlt r i v s
  | .flt => writeRedFlt r i v s
  | .pmu => writePmu r i v s
  | .key => writeBoot r i v s
  | .boot => writeBoot r i v s
  | .noc => s.write r i v
  | .sys => writeBoot r i v s

/-- Whether a low half can be written, so that its pair is a writable one (R6). -/
def loWritable (r : Reg) : Bool := r.flds.any (fun f => f.acc == .rw || f.acc == .rwp || f.acc == .wo)

/-- Whether the register's page exists: those of absent Ethernet sub-ports do not (R134). -/
def pageExists (s : State) (r : Reg) (i : List Nat) : Bool := r.blk != .eth || subExists s (ix0 i) (ix1 i)

/-- A write reaches a register (R6): the low half of a writable pair is held, the high half applies both. -/
def writeReg (rq : Req) (r : Reg) (i : List Nat) (v : Word) (host : List (BitVec 128 × List Byte)) (s : State) : State :=
  if regHeld s r || !pageExists s r i then s
  else if (highOf r).isSome && loWritable r then hold rq (r.addr i) v s
  else match (lowOf r).filter loWritable with
    | some lo => writePair lo r i ((heldLow? s rq (lo.addr i)).getD (s.rd lo i)) v (unhold rq (lo.addr i) s)
    | none => writeOne r i v host s

/-- The partition page of HIF or CMD in which an address lies (R320, R361): its block and partition. -/
def pageAt (a : Nat) : Option (Blk × Nat) :=
  if 0x80000 ≤ a && a < 0x89000 then some (.hif, (a - 0x80000) / 0x1000)
  else if 0x100000 ≤ a && a < 0x108000 then some (.cmd, (a - 0x100000) / 0x1000) else none

/-- A write of a BAR0 address (R4, R302): an address that names no register takes none, but a VF's write outside its pages is
discarded and counted all the same. -/
def busWrite (rq : Req) (a : Nat) (v : Word) (host : List (BitVec 128 × List Byte)) (s : State) : State :=
  let go := fun (t : State) => match findReg a with
    | some (r, i) => writeReg rq r i v host t
    | none => t
  match pageAt a, blkAt a with
  | some (b, q), _ => gatePage rq b q go s
  | none, some b => gate rq b go s
  | none, none => match rq with
    | .part p => if p = 0 then s else denyWrite p s
    | .mgmt => s

end Sys2Proof.Machine
end

