-- ==== Sys2Proof/Machine/CelServe.lean ====
section
/-! DEFINITION. The requests that wait for the cellar's stack, served once it is ready (R285, R286, R288), with the commands that make it
so. -/
namespace Sys2Proof.Machine

/-- Serve a request that has waited. One that a reset of the controller discarded ends as R289 gives for its reader: a bulk read in ones,
a read for the twin marked errored, a write without effect. -/
def serveReq (kept : Bool) (r : CelReq) (s : State) : State :=
  match r with
  | .bdpRead c o n =>
    let (ws, s1) := if kept then bdpRead c o n s else
      (List.replicate n 0xFFFFFFFF#32, bdpAdvance c o n (bdpFlag c F.HIF_BDP_STAT_UE (((s.count 24 1).p F.CEL_STAT_BDP_UE [] 1).count 26 1)))
    s1.emit (.bdpRead c ws)
  | .bdpWrite c o data whole => if kept then bdpWrite c o data whole s else bdpAdvance c o data.length (s.count 24 1)
  | .regRead rq a => busRead rq a s
  | .regWrite rq a v host => busWrite rq a v host s
  | .write k a bs => if kept then celPut k a bs s else s
  | .copy n => if kept then serveCopy (some n) s else s.tell (.copyData n (List.replicate 4096 0) (List.range 128))
  | .unit n data errored => if kept then storeUnit n data errored s else s

/-- Every request that waits is served, in the order they came (R281, R285). -/
def celServe (s : State) : State :=
  each s.cel.wait (fun x t => serveReq x.1 x.2 t) { s with cel := { s.cel with wait := [] } }

/-- The end of a training (R287): the channels that trained; a failed one leaves the stack untrained (DEDUCED, log 33). -/
def endTraining (ok : Nat) (s : State) : State :=
  let bad := ok != 0xFFFF
  let s1 := ((s.p F.CEL_TRAIN_CH_OK [] ok).p F.CEL_STAT_TRAIN_FAIL [] (b2n bad)).p F.CEL_STAT_STATE [] (if bad then 0 else 1)
  let s2 := { s1 with cel := { s1.cel with training := false, lastReq := s1.ticks } }
  celServe (level 169 0 bad (when bad (fun t => t.count 400 1) s2))

/-- CEL_TRAIN_DONE (R287): bit c of `ok` for each channel c that trained. -/
def execCelTrainDone (ok : BitVec 16) (s : State) : Out :=
  .next (if s.cel.training && s.g F.CEL_STAT_STATE [] == 3 then endTraining ok.toNat s else s)

/-- The refresh that ends self-refresh (R285): every bank that needs one, owed or due, is refreshed. -/
def refreshAll (s : State) : State :=
  let needs := fun (b : Nat) => decide (0 < getD 0 s.cel.debt b) || decide (getD 0 s.cel.refAt b + refreshTicks s ≤ s.ticks)
  let bs := List.range 1024
  ({ s with cel := { s.cel with
      debt := s.cel.debt.filter (fun x => !needs x.1)
      refAt := (bs.map (fun b => (b, if needs b then s.ticks else getD 0 s.cel.refAt b))).filter (fun x => x.2 != 0) } }).count 401
    (bs.filter needs).length

/-- SR_EXIT_COMPLETE (R285): the banks are refreshed and the first command issues; LAST_EXIT holds the time since the wake in ns. -/
def execSrExitComplete (s : State) : Out :=
  .next (if s.cel.exiting then
    let s1 := ((s.p F.CEL_STAT_STATE [] 1).p F.CEL_SR_STAT_LAST_EXIT [] (min 65535 (2 * (s.ticks - s.cel.wakeAt)))).count 393 1
    celServe (refreshAll { s1 with cel := { s1.cel with exiting := false, lastReq := s1.ticks } })
  else s)

end Sys2Proof.Machine
end

