-- ==== Sys2Proof/Machine/Bus.lean ====
section
/-! DEFINITION. The commands of register access, of the bulk data port and of the management QSPI port (R3 to R7, R310 to R315). A
BAR0 address is given as a dword number of the 64 MiB. -/
namespace Sys2Proof.Machine

/-- A register access waits behind one that does; on the path from PCIe inbound it counts as held back for ordering (R317). -/
def holdBack (rq : Req) (r : CelReq) (s : State) : State :=
  let s1 := { s with cel := { s.cel with wait := s.cel.wait ++ [(true, r)] } }
  match rq with
  | .part _ => (s1.bump F.NOC_HOLD_ORDER_HELD [] 1).count 566 1
  | .mgmt => s1

/-- A read of a BAR0 address as its requester brings it: behind one of its accesses that waits, it waits (R316, R317). -/
def regRead (rq : Req) (a : Nat) (s : State) : State :=
  let t := wakeBus rq s
  if behind t rq (bdpChan a true) then holdBack rq (.regRead rq a) t else busRead rq a t

/-- A write of a BAR0 address as its requester brings it. -/
def regWrite (rq : Req) (a : Nat) (v : Word) (host : List (BitVec 128 × List Byte)) (s : State) : State :=
  let t := wakeBus rq s
  if behind t rq (bdpChan a false) then holdBack rq (.regWrite rq a v host) t else busWrite rq a v host t

/-- REGISTER_WRITE (R3, R7): a write whose byte enables are not all set is discarded. -/
def execRegisterWrite (rq : Req) (a : BitVec 24) (be : BitVec 4) (v : Word) (host : List (BitVec 128 × List Byte)) (s : State) : Out :=
  .next (if be = 0xF then regWrite rq (4 * a.toNat) v host s else s)

/-- PAIR_LO_READ (R5). -/
def execPairLoRead (rq : Req) (a : BitVec 24) (s : State) : Out := .next (regRead rq (4 * a.toNat) s)

/-- PAIR_LO_WRITE (R6). -/
def execPairLoWrite (rq : Req) (a : BitVec 24) (v : Word) (s : State) : Out := .next (regWrite rq (4 * a.toNat) v [] s)

/-- PAIR_HI_WRITE (R6). -/
def execPairHiWrite (rq : Req) (a : BitVec 24) (v : Word) (s : State) : Out := .next (regWrite rq (4 * a.toNat) v [] s)

/-- An aperture access that PCIe can bring (R312): it does not cross a 4 KiB boundary. -/
def apertureFits (o n : Nat) : Bool := decide (1 ≤ n) && decide (o + n ≤ 1024)

/-- BDP_APERTURE_WRITE (R311, R312): dwords from dword offset `o` of the aperture in BAR2 of function p, of up to 512 B; `whole` says that
every byte enable is set. One that reaches the cellar waits for its stack (R313). -/
def execBdpApertureWrite (p : Fin 8) (o : Fin 1024) (data : List Word) (whole : Bool) (s : State) : Out :=
  .next (if apertureFits o data.length && data.length ≤ 128 && !blkHeld s .hif then
    let t := wakeBulk p s
    if behind t (.part p) (some p) || bdpNeeds t p (4 * o) data.length false whole then celHoldReq (.bdpWrite p (4 * o) data whole) t
    else bdpWrite p (4 * o) data whole t
  else s)

/-- BDP_APERTURE_READ (R311, R312): n dwords from dword offset `o`, up to the 4,096 B of a read request. -/
def execBdpApertureRead (p : Fin 8) (o : Fin 1024) (n : Fin 1025) (s : State) : Out :=
  .next (if apertureFits o n && !blkHeld s .hif then
    let t := wakeBulk p s
    if behind t (.part p) (some p) || bdpNeeds t p (4 * o) n true true then celHoldReq (.bdpRead p (4 * o) n) t
    else
      let (ws, s1) := bdpRead p (4 * o) n t
      s1.emit (.bdpRead p ws)
  else s)

/-- BDP_CTRL_WRITE (R311): it takes effect after every earlier access of the channel. -/
def execBdpCtrlWrite (rq : Req) (c : Fin 9) (which : Fin 3) (v : Word) (s : State) : Out :=
  .next (regWrite rq (0x80000 + 0x1000 * c + 4 * which) v [] s)

/-- BDP_STAT_READ (R313): it returns after earlier writes of the channel have reached their targets. -/
def execBdpStatRead (rq : Req) (c : Fin 9) (s : State) : Out := .next (regRead rq (0x8000C + 0x1000 * c) s)

/-- A command of the management port (R314): it works from the end of stage 1. -/
def mgmtCmd (f : State → State) (s : State) : State := if blkHeld s .hif then s else f (s.count 27 1)

/-- A refused command (R315). -/
def mgmtError (s : State) : State := (s.bump F.HIF_MGMT_STAT_CMD_ERR [] 1).count 28 1

/-- READ_ID (R315). -/
def execReadId (s : State) : Out :=
  .next (mgmtCmd (fun t => t.emit (.mgmt 0xA5 (leBytes 4 (t.rd R.HIF_ID []).toNat))) s)

/-- READ_STATUS (R315). -/
def execReadStatus (s : State) : Out :=
  .next (mgmtCmd (fun t => t.emit (.mgmt (t.g F.HIF_LINK_UP [] + 2 * t.g F.BOOT_STAT_FW_RUNNING []
    + 4 * b2n (t.g F.BOOT_STAT_RECOV [] != 0) + 8 * b2n (t.g F.HIF_MGMT_STAT_CMD_ERR [] != 0)) [])) s)

/-- The register read's answer as the port returns it: status, then the bytes. -/
def mgmtAnswer (s : State) : State :=
  match s.out.getLast? with
  | some (.regRead _ _ w) => { s with out := s.out.dropLast ++ [Output.mgmt 0xA5 (leBytes 4 w.toNat)] }
  | _ => s

/-- REG_READ (R315): an offset that is not a multiple of 4 reads the whole register (R3). An access that waits has not finished. -/
def execRegRead (off : Word) (s : State) : Out :=
  .next (mgmtCmd (fun t => if off.toNat < 2 ^ 26 then
      let u := wakeBus .mgmt t
      if behind u .mgmt (bdpChan (off.toNat / 4 * 4) true) then u.emit (.mgmt 0x5A []) else mgmtAnswer (busRead .mgmt (off.toNat / 4 * 4) u)
    else (mgmtError t).emit (.mgmt 0xE1 [])) s)

/-- REG_WRITE (R315): an offset that is not a multiple of 4 names no whole register, and the write is discarded (R3). -/
def execRegWrite (off v : Word) (host : List (BitVec 128 × List Byte)) (s : State) : Out :=
  .next (mgmtCmd (fun t => if off.toNat < 2 ^ 26 then (if off.toNat % 4 = 0 then regWrite .mgmt off.toNat v host t else t)
    else mgmtError t) s)

/-- The port's place in its window moves on (DEDUCED, log 65). -/
def mgmtMove (n : Nat) (s : State) : State := { s with cmd := { s.cmd with mgmtOfs := (s.cmd.mgmtOfs + 4 * n) % 4096 } }

/-- BDP_READ (R315): n dwords through channel 8. One that would have to wait answers 0x5A, and neither reads nor advances; it wakes the
stack. -/
def execBdpRead (n : BitVec 16) (s : State) : Out :=
  .next (mgmtCmd (fun u => if 1 ≤ n.toNat && n.toNat ≤ 128 then
    let t := wakeBulk 8 u
    if behind t .mgmt (some 8) || bdpNeeds t 8 t.cmd.mgmtOfs n.toNat true true then (srWake t).emit (.mgmt 0x5A [])
    else
      let (ws, t1) := bdpRead 8 t.cmd.mgmtOfs n.toNat t
      (mgmtMove n.toNat t1).emit (.mgmt 0xA5 (ws.flatMap (fun w => leBytes 4 w.toNat)))
  else (mgmtError u).emit (.mgmt 0xE1 [])) s)

/-- BDP_WRITE (R315). -/
def execBdpWrite (data : List Word) (s : State) : Out :=
  .next (mgmtCmd (fun u => if 1 ≤ data.length && data.length ≤ 128 then
    let t := wakeBulk 8 u
    mgmtMove data.length (if behind t .mgmt (some 8) || bdpNeeds t 8 t.cmd.mgmtOfs data.length false true then
      celHoldReq (.bdpWrite 8 t.cmd.mgmtOfs data true) t else bdpWrite 8 t.cmd.mgmtOfs data true t)
  else mgmtError u) s)

/-- The opcodes of R315. -/
def mgmtOpcodes : List (BitVec 8) := [0x9F, 0x05, 0x0B, 0x02, 0x3B, 0x32]

/-- MGMT_UNKNOWN_OPCODE (R315). -/
def execMgmtUnknownOpcode (op : BitVec 8) (s : State) : Out :=
  .next (if mgmtOpcodes.contains op then s else mgmtCmd mgmtError s)

/-- Latch the first interconnect error and raise its source (R318, R320): kind 0 decode, 1 timeout. -/
def nocError (kind master target addr : Nat) (s : State) : State :=
  let s1 := if s.on F.NOC_ERR_VALID [] then s else
    ((s.wr R.NOC_ERR [] (BitVec.ofNat 32 (2 ^ 31 + kind * 2 ^ 29 + master * 2 ^ 26 + target * 2 ^ 23))).wr
      R.NOC_ERR_ADDR_LO [] (BitVec.ofNat 32 addr)).p F.NOC_ERR_ADDR_HI_ADDR_HI [] (addr / 2 ^ 32)
  occur 327 master (s1.count 567 1)

/-- The master of a request (R320). -/
def nocMaster : NocReq → Nat
  | .regRead (.part _) => 0
  | .regRead .mgmt => 1
  | .bulkRead _ _ _ => 3
  | .fence _ _ => 5
  | .copy _ => 4
  | .fetch _ _ => 2
  | .hostRead _ _ => 2
  | .plain m => m.val

/-- A request ends with an error (R318): a read returns 0xFFFF_FFFF to its master, a write is discarded. A fence read has not reached its
target (R238), and a descriptor's read of host memory refuses it (R344). -/
def nocEnd (what : NocReq) (addr : Nat) (s : State) : State :=
  let ones := fun (n : Nat) => List.replicate n 0xFFFFFFFF#32
  match what with
  | .regRead (.part p) => answer (.part p) (addr % 2 ^ 26) 0xFFFFFFFF (wakeBus (.part p) s)
  | .regRead .mgmt => (wakeBus .mgmt s).emit (.mgmt 0xA5 (List.replicate 4 0xFF))
  | .bulkRead c o n =>
    if c.val = 8 then (mgmtMove n (bdpAdvance 8 s.cmd.mgmtOfs n s)).emit (.mgmt 0xA5 ((ones n).flatMap (fun w => leBytes 4 w.toNat)))
    else (bdpAdvance c o n s).emit (.bdpRead c (ones n))
  | .fence e k =>
    let key := (e.val, k.val)
    if s.eng.oldReads.contains key then ({ s with eng := { s.eng with oldReads := eraseFirst (· == key) s.eng.oldReads } }).count 381 1
    else if s.eng.engReads.contains key then
      fenceReturn e k none (({ s with eng := { s.eng with engReads := s.eng.engReads.filter (· != key) } }).count 381 1)
    else s
  | .copy n => s.tell (.copyData n (List.replicate 4096 0xFF) (List.range 128))
  | .fetch p r =>
    match s.cmd.flight.find? (fun x => x.part == p.val && x.ring == r.val) with
    | none => s
    | some x => fetchDone p r (List.replicate x.count (BitVec.allOnes 512)) s
  | .hostRead p r => hostReadFails p r s
  | .plain _ => s

/-- NOC_TIMEOUT (R318): a request to a target had no response in 100 µs. -/
def execNocTimeout (what : NocReq) (target : Fin 5) (addr : BitVec 40) (s : State) : Out :=
  .next (nocEnd what addr.toNat (nocError 1 (nocMaster what) target addr.toNat s))

/-- NOC_DECODE_ERROR (R318): a request decodes to no target. -/
def execNocDecodeError (what : NocReq) (addr : BitVec 40) (s : State) : Out :=
  .next (nocEnd what addr.toNat (nocError 0 (nocMaster what) 7 addr.toNat s))

end Sys2Proof.Machine
end

