-- ==== Sys2Proof/Machine/Timecode.lean ====
section
/-! DEFINITION. Timecode insertion (R205 to R207). The packet form of SMPTE ST 12-2 and the places of the bits of ST 12-1 and ST
309 are not in the manual (PRESUMED, log 54). -/
namespace Sys2Proof.Machine

/-- Time of day of the frame in progress on cadence c, less LAG, in H units (R206): local time on the counter of DOMAIN. -/
def frameTimeOfDay (s : State) (c : Nat) : Nat :=
  let t := s.tc (s.g F.REF_TC_CFG_DOMAIN [])
  let past : Int := (s.ref.h : Int) - (s.cad c).frameH
  let secs : Int := toSigned 7 (s.g F.REF_TC_CFG_LOCAL []) * 900 - toSigned 16 (s.g F.REF_LEAP_UTC_OFFSET [])
  let x : Int := (tcUnits t : Int) - past - s.g F.REF_CAD_LAG_LAG [c] * hUnit + secs * (10 ^ 9 * hUnit : Nat)
  (x % (86400 * 10 ^ 9 * hUnit : Nat)).toNat

/-- A time address: hours, minutes, seconds, frames, whether drop-frame, whether the second frame of a pair, and frames counted to
a second. -/
structure TimeAddr where
  hh : Nat
  mm : Nat
  ss : Nat
  ff : Nat
  drop : Bool
  second : Bool
  base : Nat
deriving DecidableEq, Repr

/-- The time address of frame number n of the day at a RATE (R206). -/
def timeAddr (rate : Nat) (df : Bool) (n : Nat) : TimeAddr :=
  let pair := decide (5 ≤ rate)
  let base := match rate with
    | 0 => 24 | 1 => 24 | 2 => 25 | 5 => 25 | _ => 30
  let m := if pair then n / 2 else n
  let drop := df && (rate == 3 || rate == 6)
  let l := if drop then
      let r := m % 17982
      m + 18 * (m / 17982) + (if r < 2 then 0 else 2 * ((r - 2) / 1798))
    else m
  ⟨l / (base * 3600) % 24, l / (base * 60) % 60, l / base % 60, l % base, drop, pair && n % 2 == 1, base⟩

/-- The frame number of the day nearest a time of day (R206). -/
def frameOfDay (rate t : Nat) : Nat :=
  let (num, den) := periodUnits rate 1
  (2 * t * den + num) / (2 * num)

/-- The modified Julian date of a calendar date (R205). -/
def julianDay (y m d : Nat) : Nat :=
  let years := (List.range (y - 2000)).foldl (fun a i => a + (if leapYear (2000 + i) then 366 else 365)) 0
  let months := (List.range (m - 1)).foldl (fun a i => a + monthDays y (i + 1)) 0
  51544 + years + months + (d - 1)

/-- The eight binary groups (R205): 0 without a date. -/
def binaryGroups (s : State) : List Nat :=
  let z := (Sys2Proof.Config.zoneCode (toSigned 7 (s.g F.REF_TC_CFG_LOCAL []))).toNat
  let y := s.g F.REF_CAL_DATE_YEAR []
  let m := s.g F.REF_CAL_DATE_MONTH []
  let d := s.g F.REF_CAL_DATE_DAY []
  if !s.on F.REF_TC_CFG_DATE_EN [] then List.replicate 8 0
  else if s.on F.REF_TC_CFG_DATE_FORM [] then
    let j := julianDay y m d
    [j % 10, j / 10 % 10, j / 100 % 10, j / 1000 % 10, j / 10000 % 10, j / 100000 % 10, z % 16, z / 16]
  else [d % 10, d / 10, m % 10, m / 10, y % 10, y / 10 % 10, z % 16, z / 16]

/-- The 16 nibbles of a time address and its binary groups, in the order of the code word. The date sets BGF2. -/
def tcNibbles (a : TimeAddr) (dated : Bool) (bg : List Nat) : List Nat :=
  let late := a.base == 25
  let b := fun (i : Nat) => bg.getD i 0
  [a.ff % 10, b 0, a.ff / 10 + b2n a.drop * 4, b 1,
   a.ss % 10, b 2, a.ss / 10 + b2n (if late then false else a.second) * 8, b 3,
   a.mm % 10, b 4, a.mm / 10 + b2n (late && dated) * 8, b 5,
   a.hh % 10, b 6, a.hh / 10 + b2n (if late then a.second else dated) * 8, b 7]

/-- An ATC packet (R205): 16 user data words, nibble i in bits 7 to 4 of word i, the payload type in bit 3 of words 0 to 7 and a
second byte of status in words 8 to 15. -/
def atcPacket (type status : Nat) (nib : List Nat) : List Nat :=
  ancPacket 0x60 0x60 ((List.range 16).map (fun i =>
    parity10 (nib.getD i 0 * 16 + b2n (if i < 8 then bitOf type i else bitOf status (i - 8)) * 8)))

/-- The payload types due on a record's line (R205): 0 LTC, 1 VITC1, 2 VITC2. -/
def atcTypes (s : State) (c line : Nat) : List Nat :=
  let l := s.g F.REF_TC_CFG_LINE []
  let t := s.g F.REF_TC_CFG_TYPE []
  let first := line == l
  let second := s.g F.XPT_CAD_CFG_FORMAT [c] == 0 && line == l + 562
  (if first && (t == 0 || t == 2 || t == 3) then [0] else []) ++ (if first && (t == 1 || t == 2) then [1] else [])
    ++ (if second && (t == 1 || t == 2) then [2] else [])

/-- Source packets marked for deletion (R205): an ATC packet takes DID 0x80 and a new checksum. -/
def remarkAtc : Nat → List BusWord → List BusWord
  | 0, ws => ws
  | _ + 1, [] => []
  | n + 1, w :: ws =>
    let x := samplesOf ((w :: ws).take 22)
    if isAnc w && x.take 3 == [0, 0x3FF, 0x3FF] then
      let len := 7 + x.getD 5 0 % 256
      let p := x.take len
      let k := ceilDiv len 12
      (if ancDid p = 0x60 && ancSdid p = 0x60 then ancWords (ancPacket 0x80 0x60 (ancUdw p)) else (w :: ws).take k)
        ++ remarkAtc n ((w :: ws).drop k)
    else w :: remarkAtc n ws

/-- Timecode insertion on a record of the destination signal (d, m) (R205, R207). `room` is what the signal's class holds, and
what passes before its next record. -/
def insertTimecode (d m room : Nat) (r : LineRec) (s : State) : LineRec × State :=
  let c := dstCad s d m
  let ts := if d < 1152 && bitOf (s.g F.REF_TC_DST_EN [d]) m then atcTypes s c r.line else []
  if ts.isEmpty || s.sys.held.contains .ref then (r, s)
  else if room < r.words.length + 2 * ts.length then (r, (s.bump F.REF_TC_STAT_SKIPPED [] 1).count 199 1)
  else
    let rate := s.g F.XPT_CAD_CFG_RATE [c]
    let a := timeAddr rate (s.on F.REF_TC_CFG_DF []) (frameOfDay rate (frameTimeOfDay s c))
    let nib := tcNibbles a (s.on F.REF_TC_CFG_DATE_EN []) (binaryGroups s)
    let (v, s1) := s.freeNat 8
    let ps := ts.flatMap (fun t => ancWords (atcPacket t (if t = 0 then 0 else v) nib))
    ({ r with words := remarkAtc r.words.length r.words ++ ps }, s1)

end Sys2Proof.Machine
end

