-- ==== Sys2Proof/Machine/DestEmit.lean ====
section
/-! DEFINITION. A line record leaves the destination multiplex (R36, R37, R265, R389). -/
namespace Sys2Proof.Machine

/-- The record of a BLACK safety source on the house line of a cadence (R401). -/
def blackLine (s : State) (c cls t : Nat) : LineRec :=
  let f := s.g F.XPT_CAD_CFG_FORMAT [c]
  let l := (s.cad c).line
  let n := if cls = 5 then pictureWords f / 4 else pictureWords f
  ⟨l, (s.cad c).frame % 2 ^ 16, cls, t, if (activeIdx f l).isSome then List.replicate n blackWord else [nullWord]⟩

/-- The next record of the destination signal at slot d, base m, of member t of its group, with what `emitted` is to hold
(R37, R402): that of the source its live entry names, or while it is forced that of its safety source, routed or not (R78); and that source
signal. -/
def destRecord (s : State) (d m : Nat) : Option (LineRec × Nat × Option (Nat × Nat)) :=
  let key := 8 * d + m
  let w := s.rd R.XPT_LIVE [key]
  match dstClass s d m with
  | none => none
  | some cls =>
    let t := if cls = 5 then d % 4 else 0
    let last := getD 0 s.xpt.emitted key
    let fits := fun (r : LineRec) => ({ r with cls := cls, member := t } : LineRec)
    let (od, om) := ownerOf s key
    match s.flt.waiting.find? (fun x => x.group == 8 * od + om) with
    | some x =>
      (match x.src with
      | none =>
        let c := dstCad s od om
        let k := lineKey s c
        if (s.cad c).running && k != x.line && last != 2 * k + 1 then some (blackLine s c cls t, 2 * k + 1, none) else none
      | some (sl, sb) =>
        match find? s.xpt.lastRec (8 * (sl + t) + sb) with
        | some (n, r) => if x.serial ≤ n && last != 2 * n then some (fits r, 2 * n, some (sl + t, sb)) else none
        | none => none)
    | none =>
      if !eValid w then none
      else
        let (sl, sub) := eSource w
        match find? s.xpt.lastRec (8 * sl + baseOf cls sub) with
        | some (n, r) => if last != 2 * n then some (fits r, 2 * n, some (sl, baseOf cls sub)) else none
        | none => none

/-- Where a record on destination (d, m) stands against the house line of its number on the destination's cadence, with the wait of its
route (R55, R214): a black record starts on its house line. -/
def routeAt (s : State) (d m : Nat) (r : LineRec) (src : Option (Nat × Nat)) : Int :=
  match src with
  | none => 0
  | some (sl, sb) => realign s (srcCad s sl sb) (dstCad s d m) r.line (getD 0 s.xpt.entered (8 * sl + sb)) + (routeWait r.cls sl sb d m : Nat)

/-- Where a record goes from the destination multiplex: the lane, the packetiser, or an engine's input. -/
def sendRecord (d m : Nat) (r : LineRec) (ofs : Int) (s : State) : State :=
  if 1152 ≤ d then
    let e := (d - 1152) / 2
    if !s.engOn e then s
    else if d % 2 = 0 then engInA e m r ofs s else engInB e m r ofs s
  else if packetSlot s d then packetise d m r s
  else laneOut d m r s

/-- DEST_RECORD_EMIT (R389): re-embedding, timecode, the line signature where the route is valid, and on. The record is numbered by the frame its cadence
is in (DEDUCED, log 55). Member 0 of an 8K group carries all of the line's ANC (R120). -/
def execDestRecordEmit (d : Fin 1280) (m : Fin 8) (s : State) : Out :=
  .next (match destRecord s d m with
  | none => s
  | some (r0, e, src) =>
    let key := 8 * d.val + m
    let s0 := { s with xpt := { s.xpt with emitted := put s.xpt.emitted key e } }
    let c := dstCad s0 d m
    let first := r0.cls != 5 || r0.member == 0
    let (r1, s1) := if first then reembed d m r0 s0 else (r0, s0)
    let (r2, s2) := if first then insertTimecode d m (recordRoom s1 c r1.cls) r1 s1 else (r1, s1)
    let x : SigRec := ⟨d, m, (s2.cad c).frame % 2 ^ 16, r2.line, (recCrc r2.words).toNat, eForced (s2.rd R.XPT_LIVE [key])⟩
    sendRecord d m r2 (routeAt s d m r0 src) (probeDest d m r2 (when (eValid (s2.rd R.XPT_LIVE [key])) (sigMade x) s2)))

end Sys2Proof.Machine
end

