-- ==== Sys2Proof/Machine/Dispatch.lean ====
section
/-! DEFINITION. The dispatch: one arm for each row of spec/opcode_table.json. -/
namespace Sys2Proof.Machine

def exec (i : Instr) (s : State) : Host.Outcome State Fault Refusal :=
  match i with
  | .porAssert rails => Sys2Proof.Machine.execPorAssert rails s
  | .porRelease plane normal low high mv => Sys2Proof.Machine.execPorRelease plane normal low high mv s
  | .resetNDeassert plane => Sys2Proof.Machine.execResetNDeassert plane s
  | .softReset rq => Sys2Proof.Machine.execSoftReset rq s
  | .softResetEffect flash r0 r1 => Sys2Proof.Machine.execSoftResetEffect flash r0 r1 s
  | .blockReset rq v => Sys2Proof.Machine.execBlockReset rq v s
  | .registerWrite rq a be v host => Sys2Proof.Machine.execRegisterWrite rq a be v host s
  | .pairLoRead rq a => Sys2Proof.Machine.execPairLoRead rq a s
  | .pairLoWrite rq a v => Sys2Proof.Machine.execPairLoWrite rq a v s
  | .pairHiWrite rq a v => Sys2Proof.Machine.execPairHiWrite rq a v s
  | .srcLayoutWrite r i0 v => Sys2Proof.Machine.execSrcLayoutWrite r i0 v s
  | .dstLayoutWrite r i0 v => Sys2Proof.Machine.execDstLayoutWrite r i0 v s
  | .xingModeWrite r v => Sys2Proof.Machine.execXingModeWrite r v s
  | .fixedLatencyStart n h => Sys2Proof.Machine.execFixedLatencyStart n h s
  | .xingFallback n => Sys2Proof.Machine.execXingFallback n s
  | .probeArm r v => Sys2Proof.Machine.execProbeArm r v s
  | .probeCancel r v => Sys2Proof.Machine.execProbeCancel r v s
  | .probeCapture w valid sor eor cycle => Sys2Proof.Machine.execProbeCapture w valid sor eor cycle s
  | .genCfgWrite r g v => Sys2Proof.Machine.execGenCfgWrite r g v s
  | .genCfgApply g => Sys2Proof.Machine.execGenCfgApply g s
  | .genClrRepeats r g v => Sys2Proof.Machine.execGenClrRepeats r g v s
  | .busParityError b => Sys2Proof.Machine.execBusParityError b s
  | .selParityError i0 => Sys2Proof.Machine.execSelParityError i0 s
  | .cadenceLineStart c cycle => Sys2Proof.Machine.execCadenceLineStart c cycle s
  | .cadenceStart c cycle => Sys2Proof.Machine.execCadenceStart c cycle s
  | .cadCfgWrite rq c v => Sys2Proof.Machine.execCadCfgWrite rq c v s
  | .cadenceEnable rq c v => Sys2Proof.Machine.execCadenceEnable rq c v s
  | .cadenceDisable rq c v => Sys2Proof.Machine.execCadenceDisable rq c v s
  | .cadBindingWrite r dst i0 v => Sys2Proof.Machine.execCadBindingWrite r dst i0 v s
  | .switchSyncEdge c => Sys2Proof.Machine.execSwitchSyncEdge c s
  | .imageOpenWrite r => Sys2Proof.Machine.execImageOpenWrite r s
  | .imageDiscard r => Sys2Proof.Machine.execImageDiscard r s
  | .ssyncClr r c => Sys2Proof.Machine.execSsyncClr r c s
  | .clrTakes r c => Sys2Proof.Machine.execClrTakes r c s
  | .alignClr r i0 => Sys2Proof.Machine.execAlignClr r i0 s
  | .cadPosRead rq c => Sys2Proof.Machine.execCadPosRead rq c s
  | .lineRecordRx i0 m d => Sys2Proof.Machine.execLineRecordRx i0 m d s
  | .alignValidTimeout i0 => Sys2Proof.Machine.execAlignValidTimeout i0 s
  | .zlFrameReceive n start line => Sys2Proof.Machine.execZlFrameReceive n start line s
  | .zlFrameTransmit n arr => Sys2Proof.Machine.execZlFrameTransmit n arr s
  | .quadModeWrite rq q v => Sys2Proof.Machine.execQuadModeWrite rq q v s
  | .laneCtrlWrite rq n v => Sys2Proof.Machine.execLaneCtrlWrite rq n v s
  | .retrain rq n => Sys2Proof.Machine.execRetrain rq n s
  | .trainStateAdvance n code h => Sys2Proof.Machine.execTrainStateAdvance n code h s
  | .trainTimeout n => Sys2Proof.Machine.execTrainTimeout n s
  | .backoffExpiry n => Sys2Proof.Machine.execBackoffExpiry n s
  | .cdrLossOfLock n => Sys2Proof.Machine.execCdrLossOfLock n s
  | .commaLoss n => Sys2Proof.Machine.execCommaLoss n s
  | .quadPllLoss q => Sys2Proof.Machine.execQuadPllLoss q s
  | .peerWindowClose p => Sys2Proof.Machine.execPeerWindowClose p s
  | .laneErrClr rq n => Sys2Proof.Machine.execLaneErrClr rq n s
  | .prbsErrClr rq n => Sys2Proof.Machine.execPrbsErrClr rq n s
  | .prbsChkLock n bits => Sys2Proof.Machine.execPrbsChkLock n bits s
  | .prbsChkUnlock n bits => Sys2Proof.Machine.execPrbsChkUnlock n bits s
  | .eyeRun rq n v => Sys2Proof.Machine.execEyeRun rq n v s
  | .eyeDone n errs => Sys2Proof.Machine.execEyeDone n errs s
  | .eyeMarginUpdate n left right up down => Sys2Proof.Machine.execEyeMarginUpdate n left right up down s
  | .ethFrameReceive p k b pcsErr age d => Sys2Proof.Machine.execEthFrameReceive p k b pcsErr age d s
  | .pfcFrameReceive p k vec times => Sys2Proof.Machine.execPfcFrameReceive p k vec times s
  | .pfcPauseExpiry p k q => Sys2Proof.Machine.execPfcPauseExpiry p k q s
  | .ethTxFrameEnd p k => Sys2Proof.Machine.execEthTxFrameEnd p k s
  | .hostRingTailWrite rq p k v descs => Sys2Proof.Machine.execHostRingTailWrite rq p k v descs s
  | .hostRingEnable rq p k v => Sys2Proof.Machine.execHostRingEnable rq p k v s
  | .ethLinkChange p k up fecLock loc rem => Sys2Proof.Machine.execEthLinkChange p k up fecLock loc rem s
  | .flowPacketEnqueue f => Sys2Proof.Machine.execFlowPacketEnqueue f s
  | .audioPacketEnqueue f => Sys2Proof.Machine.execAudioPacketEnqueue f s
  | .extFlowMatchStart f => Sys2Proof.Machine.execExtFlowMatchStart f s
  | .larderRecordPlayout f wait => Sys2Proof.Machine.execLarderRecordPlayout f wait s
  | .flowLostEnter f => Sys2Proof.Machine.execFlowLostEnter f s
  | .pairLegTimeout f => Sys2Proof.Machine.execPairLegTimeout f s
  | .flowCountersClear rq f => Sys2Proof.Machine.execFlowCountersClear rq f s
  | .incrWrite rq d v => Sys2Proof.Machine.execIncrWrite rq d v s
  | .adjStep rq d v => Sys2Proof.Machine.execAdjStep rq d v s
  | .ptpTimeRead rq d => Sys2Proof.Machine.execPtpTimeRead rq d s
  | .txtsIdRead rq p k => Sys2Proof.Machine.execTxtsIdRead rq p k s
  | .txtsDropsClr rq p k => Sys2Proof.Machine.execTxtsDropsClr rq p k s
  | .syncInEdge k rising => Sys2Proof.Machine.execSyncInEdge k rising s
  | .refInvalid i0 x => Sys2Proof.Machine.execRefInvalid i0 x s
  | .refValidRestore x => Sys2Proof.Machine.execRefValidRestore x s
  | .wtrExpiry i0 => Sys2Proof.Machine.execWtrExpiry i0 s
  | .refSelection freq temp => Sys2Proof.Machine.execRefSelection freq temp s
  | .holdoverUpdate temp => Sys2Proof.Machine.execHoldoverUpdate temp s
  | .historyEntry temp => Sys2Proof.Machine.execHistoryEntry temp s
  | .cadLagWrite rq c v => Sys2Proof.Machine.execCadLagWrite rq c v s
  | .syncOutPulse k => Sys2Proof.Machine.execSyncOutPulse k s
  | .calSetWrite rq v => Sys2Proof.Machine.execCalSetWrite rq v s
  | .tcSkippedClr rq => Sys2Proof.Machine.execTcSkippedClr rq s
  | .destRecordEmit d m => Sys2Proof.Machine.execDestRecordEmit d m s
  | .engInputLost e k => Sys2Proof.Machine.execEngInputLost e k s
  | .sigRegionJudge e r => Sys2Proof.Machine.execSigRegionJudge e r s
  | .wbFrameComplete e ok => Sys2Proof.Machine.execWbFrameComplete e ok s
  | .fenceReadComplete e k v => Sys2Proof.Machine.execFenceReadComplete e k v s
  | .engBLateClr rq e => Sys2Proof.Machine.execEngBLateClr rq e s
  | .fsStatClear rq e => Sys2Proof.Machine.execFsStatClear rq e s
  | .flipStatClr rq e => Sys2Proof.Machine.execFlipStatClr rq e s
  | .sigMismatchClr rq e r => Sys2Proof.Machine.execSigMismatchClr rq e r s
  | .deembGroupStop i0 g => Sys2Proof.Machine.execDeembGroupStop i0 g s
  | .audioRateWrite rq v => Sys2Proof.Machine.execAudioRateWrite rq v s
  | .audioMapWrite rq which i0 v => Sys2Proof.Machine.execAudioMapWrite rq which i0 v s
  | .audDcadWrite rq b v => Sys2Proof.Machine.execAudDcadWrite rq b v s
  | .tdmCfgWrite rq t v => Sys2Proof.Machine.execTdmCfgWrite rq t v s
  | .tdmPortStart t => Sys2Proof.Machine.execTdmPortStart t s
  | .tdmPortStop t => Sys2Proof.Machine.execTdmPortStop t s
  | .tdmFrame t pins => Sys2Proof.Machine.execTdmFrame t pins s
  | .tdmFsyncError t => Sys2Proof.Machine.execTdmFsyncError t s
  | .tdmClkLoss t => Sys2Proof.Machine.execTdmClkLoss t s
  | .tdmBlockStart t => Sys2Proof.Machine.execTdmBlockStart t s
  | .tdmTsRead rq t => Sys2Proof.Machine.execTdmTsRead rq t s
  | .audPoolClr rq => Sys2Proof.Machine.execAudPoolClr rq s
  | .tdmSlipsClr rq t => Sys2Proof.Machine.execTdmSlipsClr rq t s
  | .deembSlipsClr rq i0 => Sys2Proof.Machine.execDeembSlipsClr rq i0 s
  | .reembSkippedClr rq i0 => Sys2Proof.Machine.execReembSkippedClr rq i0 s
  | .celCfgWrite rq v => Sys2Proof.Machine.execCelCfgWrite rq v s
  | .budgetWrite rq v => Sys2Proof.Machine.execBudgetWrite rq v s
  | .celTrainStart rq => Sys2Proof.Machine.execCelTrainStart rq s
  | .celTrainDone ok => Sys2Proof.Machine.execCelTrainDone ok s
  | .refreshDue b live => Sys2Proof.Machine.execRefreshDue b live s
  | .stackTempRead t => Sys2Proof.Machine.execStackTempRead t s
  | .cellarReadComplete who upsets => Sys2Proof.Machine.execCellarReadComplete who upsets s
  | .scrubPeriodEnd complete => Sys2Proof.Machine.execScrubPeriodEnd complete s
  | .celEccClr rq => Sys2Proof.Machine.execCelEccClr rq s
  | .cmdTail fn page r v => Sys2Proof.Machine.execCmdTail fn page r v s
  | .cplHead fn page v => Sys2Proof.Machine.execCplHead fn page v s
  | .evtHead fn page v => Sys2Proof.Machine.execEvtHead fn page v s
  | .protectionWrite rq k v => Sys2Proof.Machine.execProtectionWrite rq k v s
  | .flr p => Sys2Proof.Machine.execFlr p s
  | .flrDrainDone p => Sys2Proof.Machine.execFlrDrainDone p s
  | .bmeClear p => Sys2Proof.Machine.execBmeClear p s
  | .bmeSet x => Sys2Proof.Machine.execBmeSet x s
  | .bdpApertureWrite p o data whole => Sys2Proof.Machine.execBdpApertureWrite p o data whole s
  | .bdpApertureRead p o n => Sys2Proof.Machine.execBdpApertureRead p o n s
  | .bdpCtrlWrite rq c which v => Sys2Proof.Machine.execBdpCtrlWrite rq c which v s
  | .bdpStatRead rq c => Sys2Proof.Machine.execBdpStatRead rq c s
  | .bdpDeniedClr rq p => Sys2Proof.Machine.execBdpDeniedClr rq p s
  | .wrDeniedClr rq p => Sys2Proof.Machine.execWrDeniedClr rq p s
  | .mgmtCmdErrClr rq => Sys2Proof.Machine.execMgmtCmdErrClr rq s
  | .regRead off => Sys2Proof.Machine.execRegRead off s
  | .regWrite off v host => Sys2Proof.Machine.execRegWrite off v host s
  | .bdpRead n => Sys2Proof.Machine.execBdpRead n s
  | .bdpWrite data => Sys2Proof.Machine.execBdpWrite data s
  | .mgmtUnknownOpcode op => Sys2Proof.Machine.execMgmtUnknownOpcode op s
  | .nocTimeout what target addr => Sys2Proof.Machine.execNocTimeout what target addr s
  | .nocDecodeError what addr => Sys2Proof.Machine.execNocDecodeError what addr s
  | .irqHoldoffExpiry p k => Sys2Proof.Machine.execIrqHoldoffExpiry p k s
  | .cmdRingEnable rq p r v => Sys2Proof.Machine.execCmdRingEnable rq p r v s
  | .cmdRingDisable rq p r v => Sys2Proof.Machine.execCmdRingDisable rq p r v s
  | .cplRingEnable rq p v => Sys2Proof.Machine.execCplRingEnable rq p v s
  | .cplRingDisable rq p v => Sys2Proof.Machine.execCplRingDisable rq p v s
  | .evtRingEnable rq p v => Sys2Proof.Machine.execEvtRingEnable rq p v s
  | .evtRingDisable rq p v => Sys2Proof.Machine.execEvtRingDisable rq p v s
  | .ringRefusedClr rq p r => Sys2Proof.Machine.execRingRefusedClr rq p r s
  | .descriptorFetch p r n => Sys2Proof.Machine.execDescriptorFetch p r n s
  | .fetchComplete p r data => Sys2Proof.Machine.execFetchComplete p r data s
  | .nop p r => Sys2Proof.Machine.execNop p r s
  | .queryCaps p r => Sys2Proof.Machine.execQueryCaps p r s
  | .mark p r => Sys2Proof.Machine.execMark p r s
  | .markComplete p => Sys2Proof.Machine.execMarkComplete p s
  | .take p r => Sys2Proof.Machine.execTake p r s
  | .salvoOpen p r => Sys2Proof.Machine.execSalvoOpen p r s
  | .salvoCommit p r => Sys2Proof.Machine.execSalvoCommit p r s
  | .audioTake p r => Sys2Proof.Machine.execAudioTake p r s
  | .cadenceSet p r => Sys2Proof.Machine.execCadenceSet p r s
  | .realignPulses p r => Sys2Proof.Machine.execRealignPulses p r s
  | .engineSet p r => Sys2Proof.Machine.execEngineSet p r s
  | .ecbReadComplete p r ecb => Sys2Proof.Machine.execEcbReadComplete p r ecb s
  | .hostReadTimeout p r => Sys2Proof.Machine.execHostReadTimeout p r s
  | .layerFlip p r => Sys2Proof.Machine.execLayerFlip p r s
  | .fenceSet p r => Sys2Proof.Machine.execFenceSet p r s
  | .sigExpect p r => Sys2Proof.Machine.execSigExpect p r s
  | .flowAdd p r => Sys2Proof.Machine.execFlowAdd p r s
  | .flowEntryReadComplete p r e => Sys2Proof.Machine.execFlowEntryReadComplete p r e s
  | .flowDel p r => Sys2Proof.Machine.execFlowDel p r s
  | .fwUpdate p r => Sys2Proof.Machine.execFwUpdate p r s
  | .fwUpdateComplete ok kept => Sys2Proof.Machine.execFwUpdateComplete ok kept s
  | .badOpcode p r => Sys2Proof.Machine.execBadOpcode p r s
  | .completionRecordWrite p => Sys2Proof.Machine.execCompletionRecordWrite p s
  | .eventRecordWrite p => Sys2Proof.Machine.execEventRecordWrite p s
  | .lostOnly p => Sys2Proof.Machine.execLostOnly p s
  | .grantReceive bytes => Sys2Proof.Machine.execGrantReceive bytes s
  | .ackReceive bytes => Sys2Proof.Machine.execAckReceive bytes s
  | .badMsgReceive rd groups => Sys2Proof.Machine.execBadMsgReceive rd groups s
  | .join rq => Sys2Proof.Machine.execJoin rq s
  | .isolate rq => Sys2Proof.Machine.execIsolate rq s
  | .resync rq => Sys2Proof.Machine.execResync rq s
  | .relinquish rq => Sys2Proof.Machine.execRelinquish rq s
  | .heartbeatReceive m => Sys2Proof.Machine.execHeartbeatReceive m s
  | .replReceive m => Sys2Proof.Machine.execReplReceive m s
  | .replAckReceive rseq => Sys2Proof.Machine.execReplAckReceive rseq s
  | .decisionReceive d => Sys2Proof.Machine.execDecisionReceive d s
  | .sigReceive y => Sys2Proof.Machine.execSigReceive y s
  | .sigMissingTimeout d m => Sys2Proof.Machine.execSigMissingTimeout d m s
  | .copyReqReceive u => Sys2Proof.Machine.execCopyReqReceive u s
  | .copyDataReceive u data errored => Sys2Proof.Machine.execCopyDataReceive u data errored s
  | .snapshotInstall x cycle => Sys2Proof.Machine.execSnapshotInstall x cycle s
  | .selftestTick sels upsets => Sys2Proof.Machine.execSelftestTick sels upsets s
  | .leaseCntClear rq => Sys2Proof.Machine.execLeaseCntClear rq s
  | .replDroppedClr rq => Sys2Proof.Machine.execReplDroppedClr rq s
  | .sigCntClear rq => Sys2Proof.Machine.execSigCntClear rq s
  | .checkStatClear rq => Sys2Proof.Machine.execCheckStatClear rq s
  | .faultOccurrence i0 inst => Sys2Proof.Machine.execFaultOccurrence i0 inst s
  | .faultAck rq j v => Sys2Proof.Machine.execFaultAck rq j v s
  | .faultInject rq i0 v => Sys2Proof.Machine.execFaultInject rq i0 v s
  | .safeSourceWrite rq i0 v => Sys2Proof.Machine.execSafeSourceWrite rq i0 v s
  | .fltCfgWrite rq v => Sys2Proof.Machine.execFltCfgWrite rq v s
  | .fltMaskedClear rq i0 => Sys2Proof.Machine.execFltMaskedClear rq i0 s
  | .supplyExcursion i0 mv => Sys2Proof.Machine.execSupplyExcursion i0 mv s
  | .tempSensorRead t mv => Sys2Proof.Machine.execTempSensorRead t mv s
  | .corePllUnlock system => Sys2Proof.Machine.execCorePllUnlock system s
  | .tempPeakClear rq i0 => Sys2Proof.Machine.execTempPeakClear rq i0 s
  | .monitorTick td depth => Sys2Proof.Machine.execMonitorTick td depth s
  | .snapTake rq => Sys2Proof.Machine.execSnapTake rq s
  | .sampReadWrite rq v => Sys2Proof.Machine.execSampReadWrite rq v s
  | .sampDropsClr rq => Sys2Proof.Machine.execSampDropsClr rq s
  | .histCfgWrite rq u which v => Sys2Proof.Machine.execHistCfgWrite rq u which v s
  | .histClear rq u => Sys2Proof.Machine.execHistClear rq u s
  | .bootStage1Done flash r0 r1 => Sys2Proof.Machine.execBootStage1Done flash r0 r1 s
  | .slotCopyDone data => Sys2Proof.Machine.execSlotCopyDone data s
  | .fwWdogExpiry flash r0 r1 => Sys2Proof.Machine.execFwWdogExpiry flash r0 r1 s
  | .derive rq v => Sys2Proof.Machine.execDerive rq v s
  | .clear rq v => Sys2Proof.Machine.execClear rq v s
  | .advance rq v => Sys2Proof.Machine.execAdvance rq v s
  | .rbBitProgrammed ok one => Sys2Proof.Machine.execRbBitProgrammed ok one s
  | .pcieLinkUp width speed => Sys2Proof.Machine.execPcieLinkUp width speed s
  | .pcieAerError fn => Sys2Proof.Machine.execPcieAerError fn s
  | .msixVectorUnmask p x => Sys2Proof.Machine.execMsixVectorUnmask p x s
  | .railWithinTolerance i0 mv => Sys2Proof.Machine.execRailWithinTolerance i0 mv s
  | .corePllRelock system => Sys2Proof.Machine.execCorePllRelock system s
  | .refclkSdsLoss k => Sys2Proof.Machine.execRefclkSdsLoss k s
  | .refclkSdsReturn k => Sys2Proof.Machine.execRefclkSdsReturn k s
  | .quadPllRelock q => Sys2Proof.Machine.execQuadPllRelock q s
  | .fecCodewordReceive p k kind => Sys2Proof.Machine.execFecCodewordReceive p k kind s
  | .nocPortIdleEntry i0 => Sys2Proof.Machine.execNocPortIdleEntry i0 s
  | .resetNAssert => Sys2Proof.Machine.execResetNAssert s
  | .blockResetRelease => Sys2Proof.Machine.execBlockResetRelease s
  | .timeCounterTick => Sys2Proof.Machine.execTimeCounterTick s
  | .ppsInEdge => Sys2Proof.Machine.execPpsInEdge s
  | .holdoffExpiry => Sys2Proof.Machine.execHoldoffExpiry s
  | .dpllLocked => Sys2Proof.Machine.execDpllLocked s
  | .dpllLockLost => Sys2Proof.Machine.execDpllLockLost s
  | .hoValidSet => Sys2Proof.Machine.execHoValidSet s
  | .ppsOutPulse => Sys2Proof.Machine.execPpsOutPulse s
  | .midnight => Sys2Proof.Machine.execMidnight s
  | .leapApply => Sys2Proof.Machine.execLeapApply s
  | .audioSampleInstant => Sys2Proof.Machine.execAudioSampleInstant s
  | .srEntry => Sys2Proof.Machine.execSrEntry s
  | .srWake => Sys2Proof.Machine.execSrWake s
  | .srExitComplete => Sys2Proof.Machine.execSrExitComplete s
  | .perstNAssert => Sys2Proof.Machine.execPerstNAssert s
  | .perstNDeassert => Sys2Proof.Machine.execPerstNDeassert s
  | .pcieLinkDown => Sys2Proof.Machine.execPcieLinkDown s
  | .readId => Sys2Proof.Machine.execReadId s
  | .readStatus => Sys2Proof.Machine.execReadStatus s
  | .fenceSetExecute => Sys2Proof.Machine.execFenceSetExecute s
  | .helloSend => Sys2Proof.Machine.execHelloSend s
  | .healthSend => Sys2Proof.Machine.execHealthSend s
  | .leaseExpiry => Sys2Proof.Machine.execLeaseExpiry s
  | .leaseGuardStepdown => Sys2Proof.Machine.execLeaseGuardStepdown s
  | .hearsFcLapse => Sys2Proof.Machine.execHearsFcLapse s
  | .epochStepdown => Sys2Proof.Machine.execEpochStepdown s
  | .heartbeatSend => Sys2Proof.Machine.execHeartbeatSend s
  | .partnerLinkDown => Sys2Proof.Machine.execPartnerLinkDown s
  | .partnerLinkUp => Sys2Proof.Machine.execPartnerLinkUp s
  | .resyncSettleEnd => Sys2Proof.Machine.execResyncSettleEnd s
  | .recoveryEnd => Sys2Proof.Machine.execRecoveryEnd s
  | .maskWindowEnd => Sys2Proof.Machine.execMaskWindowEnd s
  | .refclkCoreLoss => Sys2Proof.Machine.execRefclkCoreLoss s
  | .bootReady => Sys2Proof.Machine.execBootReady s
  | .keyDeriveDone => Sys2Proof.Machine.execKeyDeriveDone s
  | .refclkCoreReturn => Sys2Proof.Machine.execRefclkCoreReturn s
  | .refclkPcieLoss => Sys2Proof.Machine.execRefclkPcieLoss s
  | .refclkPcieReturn => Sys2Proof.Machine.execRefclkPcieReturn s

end Sys2Proof.Machine
end

