-- ==== Sys2Proof/Machine/CfgSpace.lean ====
section
/-! DEFINITION. What the host finds outside the registers: the configuration space (R298, R443) and the MSI-X table of BAR4 (R299). No
row of the command table reads them; they are views of the state. -/
namespace Sys2Proof.Machine

/-- Vendor and device ID of a function (R298). -/
def cfgIds (fn : Nat) : Nat := 0x1F3B + (if fn = 0 then 0x1152 else 0x1153) * 2 ^ 16

/-- Class code and revision ID (R298): the revision is that of the silicon. -/
def cfgClass (s : State) : Nat := s.g F.HIF_ID_REV [] + 0x048000 * 2 ^ 8

/-- SR-IOV (R298): TotalVFs, First VF Offset, VF Stride. -/
def sriov : Nat × Nat × Nat := (7, 1, 1)

/-- The routing ID of the function of partition p, from that of function 0 (R298, R299): the requester ID of what the device masters for p. -/
def requesterId (pf p : Nat) : Nat := if p = 0 then pf else pf + sriov.2.1 + (p - 1) * sriov.2.2

/-- A function answers configuration requests from the end of stage 1 on (R429, R443), a VF while VF Enable is set (R309). -/
def cfgAnswers (s : State) (fn : Nat) : Bool :=
  !blkHeld s .hif && !s.cmd.perst && (fn == 0 || (s.cmd.vfEnable && decide (fn ≤ sriov.1)))

/-- The dword at a configuration offset of a function (R298, R443), where the manual gives one. -/
def cfgWord (s : State) (fn off : Nat) : Option Word :=
  if !cfgAnswers s fn then none
  else match off with
    | 0x000 => some (BitVec.ofNat 32 (cfgIds fn))
    | 0x008 => some (BitVec.ofNat 32 (cfgClass s))
    | 0x02C => some s.cmd.subsys
    | 0x404 => if fn = 0 then some (BitVec.ofNat 32 (0x0001 + 1 * 2 ^ 16 + 0x10 * 2 ^ 20)) else none
    | 0x408 => if fn = 0 then some (viewReg .mgmt R.BOOT_STAT [] s) else none
    | 0x40C => if fn = 0 then
        some (BitVec.ofNat 32 ((viewReg .mgmt R.BOOT_SLOT_STAT [0] s).toNat % 2 ^ 16 + (viewReg .mgmt R.BOOT_SLOT_STAT [1] s).toNat % 2 ^ 16 * 2 ^ 16))
      else none
    | _ => none

/-- The capability ID in [15:0] of the dword at 0x400 of function 0 (R443); its other bits are PCIe's. -/
def cfgVsecId : Nat := 0x000B

/-- The dword at an offset of BAR4 of function p (R299, R319): the entry of vector v at 16 v, address, data and mask bit, and the Pending Bit
Array at 0x2000; the rest reads 0 (DESIGN CHOICE, log 118). -/
def bar4Word (s : State) (p off : Nat) : Word :=
  if off < 0x200 then
    let v := off / 16
    let (a, d) := getD (0, 0) s.cmd.msix (32 * p + v)
    match off / 4 % 4 with
    | 0 => a.setWidth 32
    | 1 => (a >>> 32).setWidth 32
    | 2 => d
    | _ => if s.cmd.unmasked.contains (p, v) then 0 else 1
  else if off / 4 = 0x800 then BitVec.ofNat 32 ((List.range 32).foldl (fun a v => a + b2n (s.cmd.pba.contains (p, v)) * 2 ^ v) 0)
  else 0

end Sys2Proof.Machine
end

