-- ==== Sys2Proof/Safety.lean ====
section
/-! DEFINITION. What the statements about this block speak of: the canonical form of its state, the parts of a state, which
parts each command may touch, and when an access reaches a block of registers. A run is safe where no step faults or refuses. -/
namespace Sys2Proof.Machine

/-- The state is in canonical form: the register map and the memories list their addresses strictly rising, and the memories
list no byte that an unlisted address reads as. -/
def State.wf (s : State) : Bool := rising s.regs && Memory.wf s.cel.mem && Memory.wf s.eng.lut

/-- A step that neither faults nor is refused. -/
def goesOn (o : Host.Outcome State Fault Refusal) : Prop := ∃ t, o = .next t

/-- The ports on the way of a register access are awake (R317): its master's and that of register space. An access whose ports are
idle wakes them first, which a statement of its own says. -/
abbrev BusAwake (rq : Req) (s : State) : Prop :=
  bitOf (s.g F.NOC_IDLE_IDLE []) 8 = false ∧
    bitOf (s.g F.NOC_IDLE_IDLE []) (match rq with
      | .part _ => 0
      | .mgmt => 1) = false

/-- The ports on the way of a bulk data access of channel c are awake (R317): the engine's and that of the cellar or of the on-chip
tables. -/
abbrev BulkAwake (c : Nat) (s : State) : Prop :=
  bitOf (s.g F.NOC_IDLE_IDLE []) 3 = false ∧
    bitOf (s.g F.NOC_IDLE_IDLE []) (if s.on F.HIF_BDP_CTRL_SPACE [c] then 7 else 6) = false

/-- A requester with the rights of the physical function reaches the registers of a block (R302, R303). -/
abbrev Reaches (rq : Req) (b : Blk) (s : State) : Prop :=
  (rq = .mgmt ∨ rq = .part 0) ∧ blkHeld s b = false ∧ BusAwake rq s

/-- A requester reaches the page of partition q in a block (R302, R320, R361): the physical function, the management port and q
itself do. -/
abbrev ReachesPage (rq : Req) (b : Blk) (q : Fin 8) (s : State) : Prop :=
  (rq = .mgmt ∨ rq = .part 0 ∨ rq = .part q) ∧ blkHeld s b = false ∧ BusAwake rq s

/-- A requester's access reaches register r at index i, where the dword address a lies (R3, R301 to R303, R428): it has the rights, its
ports are awake, neither block nor unit is held in reset, the page exists, and no earlier access of it waits (R316). -/
abbrev ReachesReg (rq : Req) (a : Nat) (read : Bool) (r : Reg) (i : List Nat) (s : State) : Prop :=
  findReg a = some (r, i) ∧
    (match pageAt a with
    | some (b, q) => (rq = .mgmt ∨ rq = .part 0 ∨ ∃ p : Fin 8, rq = .part p ∧ p.val = q) ∧ blkHeld s b = false
    | none => (rq = .mgmt ∨ rq = .part 0) ∧ ∀ b, blkAt a = some b → blkHeld s b = false) ∧
    regHeld s r = false ∧ pageExists s r i = true ∧ BusAwake rq s ∧ behind s rq (bdpChan a read) = false

/-- The requester of a register access (R302, R317): of every command that reads or writes a register, but a write whose byte enables
are not all set, which reaches none (R3). -/
def requester (c : Instr) : Option Req :=
  match c with
  | .registerWrite rq _ be .. => if be = 0xF then some rq else none
  | .softReset rq | .blockReset rq .. | .pairLoRead rq .. | .pairLoWrite rq .. | .pairHiWrite rq ..
  | .srcLayoutWrite rq .. | .dstLayoutWrite rq .. | .xingModeWrite rq .. | .probeArm rq .. | .probeCancel rq ..
  | .genCfgWrite rq .. | .genClrRepeats rq .. | .cadCfgWrite rq .. | .cadenceEnable rq .. | .cadenceDisable rq ..
  | .cadBindingWrite rq .. | .imageOpenWrite rq | .imageDiscard rq | .ssyncClr rq .. | .clrTakes rq .. | .alignClr rq ..
  | .cadPosRead rq .. | .quadModeWrite rq .. | .laneCtrlWrite rq .. | .retrain rq .. | .laneErrClr rq .. | .prbsErrClr rq ..
  | .eyeRun rq .. | .hostRingTailWrite rq .. | .hostRingEnable rq .. | .flowCountersClear rq .. | .incrWrite rq ..
  | .adjStep rq .. | .ptpTimeRead rq .. | .txtsIdRead rq .. | .txtsDropsClr rq .. | .cadLagWrite rq .. | .calSetWrite rq ..
  | .tcSkippedClr rq | .engBLateClr rq .. | .fsStatClear rq .. | .flipStatClr rq .. | .sigMismatchClr rq ..
  | .audioRateWrite rq .. | .audioMapWrite rq .. | .audDcadWrite rq .. | .tdmCfgWrite rq .. | .tdmTsRead rq ..
  | .audPoolClr rq | .tdmSlipsClr rq .. | .deembSlipsClr rq .. | .reembSkippedClr rq .. | .celCfgWrite rq ..
  | .budgetWrite rq .. | .celTrainStart rq | .celEccClr rq | .protectionWrite rq .. | .bdpCtrlWrite rq ..
  | .bdpStatRead rq .. | .bdpDeniedClr rq .. | .wrDeniedClr rq .. | .mgmtCmdErrClr rq | .cmdRingEnable rq ..
  | .cmdRingDisable rq .. | .cplRingEnable rq .. | .cplRingDisable rq .. | .evtRingEnable rq .. | .evtRingDisable rq ..
  | .ringRefusedClr rq .. | .join rq | .isolate rq | .resync rq | .relinquish rq | .leaseCntClear rq | .replDroppedClr rq
  | .sigCntClear rq | .checkStatClear rq | .faultAck rq .. | .faultInject rq .. | .safeSourceWrite rq ..
  | .fltCfgWrite rq .. | .fltMaskedClear rq .. | .tempPeakClear rq .. | .snapTake rq | .sampReadWrite rq ..
  | .sampDropsClr rq | .histCfgWrite rq .. | .histClear rq .. | .derive rq .. | .clear rq .. | .advance rq .. => some rq
  | _ => none

/-- Event e counts its occurrences (R415): its counter is in EDGE mode and does not wrap at one more. -/
abbrev Counts (e : Nat) (s : State) : Prop := s.on F.PMU_CNT_CFG_MODE [e] = false ∧ s.cnt e + 1 < 2 ^ 48

/-- Descriptor d is the next of ring r of partition p, and no barrier holds it (R328, R330). -/
abbrev Presented (s : State) (p r : Fin 8) (d : Desc) : Prop :=
  headDesc s p r = some d ∧ (dBarrier (ringVer s p r) d && earlierWaits s p d.bell) = false

/-- The header of a descriptor passes the checks that come before its opcode's own (R332 to R334): version, partition, sequence
and reserved bits. -/
abbrev HeaderOk (s : State) (p r : Fin 8) (d : Desc) : Prop :=
  dBits d 3 0 = ringVer s p r ∧ dBits d 14 12 = d.part ∧ headerBad (ringVer s p r) d = false ∧
    (s.on F.CMD_RING_CFG_SEQ_CHECK [p, r] = true → dSeq (ringVer s p r) d = s.g F.CMD_RING_SEQ_EXPECT [p, r])

/-- The state in which the opcode's own checks judge a descriptor: it is off its ring's queue, the expected sequence has moved. -/
def judgedIn (s : State) (p r : Fin 8) (d : Desc) : State := (seqCheck (ringVer s p r) d (popDesc p r s)).2

/-- The state in which an accepted descriptor is carried out: it holds a tracker entry. -/
def acceptedIn (s : State) (p r : Fin 8) (d : Desc) : State := (accept (ringVer s p r) d (judgedIn s p r d)).2

/-- The tracker entry an accepted descriptor takes. -/
def itsTok (s : State) (p r : Fin 8) (d : Desc) : Tok := mkTok (judgedIn s p r d) (ringVer s p r) d

/-- No tracker entry in use has the number that the next one takes; every step keeps it so. -/
abbrev FreshTok (s : State) : Prop := ∀ x ∈ s.cmd.live, x.id < s.cmd.nextId

/-- The commands that present a descriptor, with its opcode (R335). -/
def presenting (p r : Fin 8) : List (Nat × Instr) :=
  [(0x00, .nop p r), (0x01, .queryCaps p r), (0x02, .mark p r), (0x10, .take p r), (0x11, .salvoOpen p r), (0x12, .salvoCommit p r),
   (0x13, .audioTake p r), (0x14, .cadenceSet p r), (0x15, .realignPulses p r), (0x20, .engineSet p r), (0x21, .layerFlip p r),
   (0x22, .fenceSet p r), (0x23, .sigExpect p r), (0x30, .flowAdd p r), (0x31, .flowDel p r), (0x40, .fwUpdate p r)]

/-- Parts of the state, as a frame names them: the structures of State, the registers of each block, the read latches and held
writes, time, the counters, output, the free values taken, and inside those structures what deserves a frame of its own: not
becoming ACTIVE, not entering or leaving ISOLATED or SYNCING, the lease, the contents of the cellar, of the LUT pool and of the flow table, the root secret, POR, house time.
With the queue they are all of State. -/
inductive Part where
  | cmd | flt | xpt | ptp | red | flw | aud | zl | eng | cel | ref | sys | latches | held | ticks
  | active | lease | mem | lut | table | root | por | house | pmu | out | free
  | enterIso | leaveIso | enterSync | leaveSync | reg (b : Blk)
deriving DecidableEq, Repr

/-- What it means that a part is the same in a later state. -/
def Part.same (p : Part) (s t : State) : Prop :=
  match p with
  | .cmd => t.cmd = s.cmd
  | .flt => t.flt = s.flt
  | .xpt => t.xpt = s.xpt
  | .ptp => t.ptp = s.ptp
  | .red => t.red = s.red
  | .flw => t.flw = s.flw
  | .aud => t.aud = s.aud
  | .zl => t.zl = s.zl
  | .eng => t.eng = s.eng
  | .cel => t.cel = s.cel
  | .ref => t.ref = s.ref
  | .sys => t.sys = s.sys
  | .latches => t.latches = s.latches
  | .held => t.held = s.held
  | .ticks => t.ticks = s.ticks
  | .active => t.red.plane = .active → s.red.plane = .active
  | .enterIso => t.red.plane = .isolated → s.red.plane = .isolated
  | .leaveIso => s.red.plane = .isolated → t.red.plane = .isolated
  | .enterSync => t.red.plane = .syncing → s.red.plane = .syncing
  | .leaveSync => s.red.plane = .syncing → t.red.plane = .syncing
  | .lease => t.red.tExp = s.red.tExp
  | .mem => t.cel.mem = s.cel.mem
  | .lut => t.eng.lut = s.eng.lut
  | .table => t.flw.tbl = s.flw.tbl
  | .root => t.sys.root = s.sys.root
  | .por => t.sys.por = s.sys.por
  | .house => t.ref.h = s.ref.h
  | .pmu => t.pmu = s.pmu
  | .out => t.out = s.out
  | .free => t.free = s.free
  | .reg b => ∀ a, blkAt a = some b → find? t.regs a = find? s.regs a

/-- The commands that write a register named by its address (R6, R314, R322), and those under which the stack becomes ready, at
which the writes are made that waited behind a bulk access to it (R285, R286, R314). -/
def writesRegister (c : Instr) : Bool :=
  match c with
  | .registerWrite .. | .pairLoWrite .. | .pairHiWrite .. | .bdpCtrlWrite .. | .regWrite .. | .celTrainDone ..
  | .srExitComplete => true
  | _ => false

/-- The commands under which a reset takes effect (R9, R421, R426). -/
def bringsReset (c : Instr) : Bool :=
  match c with
  | .porAssert .. | .tempSensorRead .. | .resetNAssert | .softResetEffect .. => true
  | _ => false

/-- The commands that may store a byte in the cellar: writes of the bulk data port, units copied from the twin, packets for the
larder, writebacks and fields that a line stores or a stopped engine puts out, the requests a stack serves when it becomes ready,
and a loss of power. -/
def storesCellar (c : Instr) : Bool :=
  writesRegister c ||
  match c with
  | .bdpApertureWrite .. | .bdpWrite .. | .copyDataReceive .. | .ethFrameReceive .. | .lineRecordRx .. | .destRecordEmit ..
  | .cadenceLineStart .. | .cadenceStart .. | .cadCfgWrite .. | .cadenceEnable .. | .cadenceDisable .. | .sigRegionJudge ..
  | .wbFrameComplete .. | .snapshotInstall .. | .porAssert .. | .tempSensorRead .. => true
  | _ => false

/-- The commands that may change a byte of the LUT pool. -/
def storesLut (c : Instr) : Bool :=
  match c with
  | .bdpApertureWrite .. | .bdpWrite .. | .copyDataReceive .. | .selftestTick .. | .porAssert .. | .tempSensorRead ..
  | .celTrainDone .. | .srExitComplete => true
  | _ => false

/-- The commands that may change the flow table. -/
def changesFlows (c : Instr) : Bool :=
  match c with
  | .flowEntryReadComplete .. | .flowDel .. | .replReceive .. | .snapshotInstall .. | .resetNAssert | .porAssert ..
  | .tempSensorRead .. => true
  | _ => false

/-- The parts a fault may bring about a change of (R397 to R409): the collector itself, events and interrupts, forced signals,
lanes and engines that a latch resets, the cellar controller, with FATAL the lease, and the registers that show them. -/
def collector : List Part :=
  [.cmd, .flt, .xpt, .red, .zl, .eng, .cel, .lease, .pmu, .out, .free, .reg .cmd, .reg .xpt, .reg .eth, .reg .cel,
   .reg .zl, .reg .red, .reg .flt, .reg .pmu]

/-- The registers of every block. -/
def registers : List Part :=
  [.reg .hif, .reg .cmd, .reg .xpt, .reg .ref, .reg .ptp, .reg .eth, .reg .flw, .reg .aud, .reg .eng, .reg .cel,
   .reg .zl, .reg .red, .reg .flt, .reg .pmu, .reg .key, .reg .boot, .reg .noc, .reg .sys]

/-- The parts a command may change; it leaves every other one as it is. -/
def mayTouch (c : Instr) : List Part :=
  match c with
  | .porAssert .. =>
    registers ++ [.cmd, .flt, .xpt, .ptp, .red, .flw, .aud, .zl, .eng, .cel, .ref, .sys, .latches, .held, .lease,
      .mem, .lut, .table, .root, .por, .house, .enterIso, .leaveSync, .pmu]
  | .porRelease .. => collector ++ [.ref, .sys, .root, .por, .reg .key, .reg .boot, .reg .sys]
  | .resetNDeassert .. => collector ++ [.ref, .sys, .reg .boot, .reg .sys]
  | .softReset .. =>
    [.cmd, .red, .sys, .lease, .pmu, .out, .free, .reg .hif, .reg .cmd, .reg .xpt, .reg .red, .reg .pmu,
      .reg .noc]
  | .softResetEffect .. => collector ++ registers ++ [.aud, .sys, .latches, .held, .enterIso, .leaveSync]
  | .blockReset .. | .blockResetRelease => registers ++ [.cel, .sys, .latches, .held, .pmu]
  | .registerWrite .. | .pairLoWrite .. | .pairHiWrite .. | .bdpCtrlWrite .. | .regWrite .. =>
    collector ++ registers ++ [.ptp, .flw, .aud, .ref, .sys, .latches, .held, .mem, .enterIso, .leaveIso,
      .enterSync, .leaveSync]
  | .pairLoRead .. | .bdpStatRead .. => [.ptp, .cel, .latches, .pmu, .out, .reg .ptp, .reg .pmu, .reg .noc]
  | .srcLayoutWrite .. | .dstLayoutWrite .. | .genClrRepeats .. | .cadBindingWrite .. | .imageOpenWrite ..
  | .imageDiscard .. | .ssyncClr .. | .clrTakes .. | .alignClr .. => [.pmu, .reg .hif, .reg .xpt, .reg .pmu, .reg .noc]
  | .xingModeWrite .. | .probeArm .. | .probeCancel .. => [.xpt, .pmu, .reg .hif, .reg .xpt, .reg .pmu, .reg .noc]
  | .fixedLatencyStart .. => [.xpt, .reg .xpt]
  | .xingFallback .. | .busParityError .. | .selParityError .. | .zlFrameReceive .. | .cdrLossOfLock ..
  | .commaLoss .. | .quadPllLoss .. | .peerWindowClose .. | .eyeMarginUpdate .. | .ethLinkChange ..
  | .stackTempRead .. | .cellarReadComplete .. | .scrubPeriodEnd .. | .nop .. | .queryCaps .. | .mark ..
  | .markComplete .. | .take .. | .salvoOpen .. | .cadenceSet .. | .realignPulses .. | .hostReadTimeout ..
  | .layerFlip .. | .fenceSet .. | .badOpcode .. | .decisionReceive .. | .sigReceive .. | .faultOccurrence ..
  | .monitorTick .. | .pcieAerError .. | .fecCodewordReceive .. | .leaseExpiry => collector
  | .probeCapture .. => [.pmu, .reg .xpt, .reg .pmu]
  | .genCfgWrite .. | .quadModeWrite .. | .laneCtrlWrite .. | .retrain .. | .budgetWrite .. | .bdpApertureRead ..
  | .bdpRead .. | .cplRingEnable .. | .cplRingDisable .. | .faultInject .. => collector ++ [.reg .hif, .reg .noc]
  | .genCfgApply .. => [.xpt]
  | .cadenceLineStart .. | .cadenceStart .. =>
    collector ++ [.flw, .aud, .ref, .mem, .house, .reg .ref, .reg .flw, .reg .aud, .reg .eng, .reg .noc]
  | .cadCfgWrite .. | .cadenceEnable .. | .cadenceDisable .. =>
    collector ++ [.flw, .aud, .ref, .mem, .reg .hif, .reg .flw, .reg .aud, .reg .eng, .reg .noc]
  | .switchSyncEdge .. => collector ++ [.aud]
  | .cadPosRead .. | .ptpTimeRead .. | .tdmTsRead .. => [.latches, .pmu, .out, .reg .pmu, .reg .noc]
  | .lineRecordRx .. => collector ++ [.flw, .aud, .ref, .mem, .reg .aud, .reg .eng]
  | .alignValidTimeout .. => [.reg .xpt]
  | .zlFrameTransmit .. => [.red, .zl, .pmu, .out, .free, .reg .zl, .reg .pmu]
  | .trainStateAdvance .. => [.xpt, .zl, .pmu, .reg .xpt, .reg .zl, .reg .red, .reg .pmu]
  | .trainTimeout .. | .prbsChkLock .. | .prbsChkUnlock .. => [.zl, .pmu, .reg .zl, .reg .pmu]
  | .backoffExpiry .. => [.zl, .reg .zl]
  | .laneErrClr .. | .prbsErrClr .. | .eyeRun .. => [.pmu, .reg .hif, .reg .zl, .reg .pmu, .reg .noc]
  | .eyeDone .. | .quadPllRelock .. => [.reg .zl]
  | .ethFrameReceive .. =>
    [.cmd, .red, .flw, .cel, .mem, .pmu, .out, .reg .cmd, .reg .eth, .reg .flw, .reg .cel, .reg .pmu]
  | .pfcFrameReceive .. | .pfcPauseExpiry .. => [.cmd, .flw, .pmu, .out, .reg .cmd, .reg .eth, .reg .pmu]
  | .ethTxFrameEnd .. => collector ++ [.ptp, .flw, .reg .ptp]
  | .hostRingTailWrite .. => [.cmd, .flw, .pmu, .out, .reg .hif, .reg .cmd, .reg .eth, .reg .pmu, .reg .noc]
  | .hostRingEnable .. => [.flw, .pmu, .reg .hif, .reg .eth, .reg .pmu, .reg .noc]
  | .flowPacketEnqueue .. | .audioPacketEnqueue .. =>
    [.cmd, .flw, .pmu, .free, .reg .cmd, .reg .eth, .reg .flw, .reg .pmu]
  | .extFlowMatchStart .. => [.flw]
  | .larderRecordPlayout .. | .flowLostEnter .. => collector ++ [.flw, .reg .flw]
  | .pairLegTimeout .. => collector ++ [.reg .flw]
  | .flowCountersClear .. => [.pmu, .reg .hif, .reg .flw, .reg .pmu, .reg .noc]
  | .incrWrite .. => [.ptp, .pmu, .reg .hif, .reg .ptp, .reg .pmu, .reg .noc]
  | .adjStep .. => [.ptp, .ref, .pmu, .reg .hif, .reg .ref, .reg .pmu, .reg .noc]
  | .txtsIdRead .. => [.ptp, .latches, .pmu, .out, .reg .ptp, .reg .pmu, .reg .noc]
  | .txtsDropsClr .. => [.pmu, .reg .hif, .reg .ptp, .reg .pmu, .reg .noc]
  | .syncInEdge .. | .refValidRestore .. | .midnight => [.ref, .pmu, .reg .ref, .reg .pmu]
  | .refInvalid .. | .dpllLocked | .dpllLockLost => collector ++ [.ref, .reg .ref]
  | .wtrExpiry .. | .holdoverUpdate .. | .historyEntry .. => [.ref, .reg .ref]
  | .refSelection .. | .holdoffExpiry => collector ++ [.aud, .ref, .house, .reg .ref]
  | .cadLagWrite .. | .calSetWrite .. => [.ref, .pmu, .reg .hif, .reg .ref, .reg .pmu, .reg .noc]
  | .syncOutPulse .. | .ppsOutPulse => [.ref, .out]
  | .tcSkippedClr .. => [.pmu, .reg .hif, .reg .ref, .reg .pmu, .reg .noc]
  | .destRecordEmit .. => collector ++ [.flw, .aud, .mem, .reg .ref, .reg .aud, .reg .eng]
  | .engInputLost .. | .fenceReadComplete .. | .ecbReadComplete .. | .fenceSetExecute => collector ++ [.reg .eng]
  | .sigRegionJudge .. | .wbFrameComplete .. => collector ++ [.mem, .reg .eng]
  | .engBLateClr .. | .fsStatClear .. | .flipStatClr .. | .sigMismatchClr .. =>
    [.pmu, .reg .hif, .reg .eng, .reg .pmu, .reg .noc]
  | .deembGroupStop .. | .tdmBlockStart .. => [.aud, .pmu, .reg .aud, .reg .pmu]
  | .audioRateWrite .. | .audioMapWrite .. => [.aud, .pmu, .reg .hif, .reg .aud, .reg .pmu, .reg .noc]
  | .audDcadWrite .. | .protectionWrite .. => [.cmd, .pmu, .reg .hif, .reg .cmd, .reg .aud, .reg .pmu, .reg .noc]
  | .tdmCfgWrite .. | .audPoolClr .. | .tdmSlipsClr .. | .deembSlipsClr .. | .reembSkippedClr .. =>
    [.pmu, .reg .hif, .reg .aud, .reg .pmu, .reg .noc]
  | .tdmPortStart .. | .tdmPortStop .. => [.aud, .reg .aud]
  | .tdmFrame .. | .tdmFsyncError .. | .tdmClkLoss .. | .salvoCommit .. | .audioTake .. =>
    collector ++ [.aud, .reg .aud]
  | .celCfgWrite .. | .celTrainStart .. => [.cel, .pmu, .reg .hif, .reg .cel, .reg .pmu, .reg .noc]
  | .celTrainDone .. | .srExitComplete =>
    collector ++ registers ++ [.ptp, .flw, .aud, .ref, .sys, .latches, .held, .mem, .lut, .enterIso, .leaveIso,
      .enterSync, .leaveSync]
  | .refreshDue .. => [.cel, .pmu, .reg .pmu]
  | .celEccClr .. => [.pmu, .reg .hif, .reg .cel, .reg .pmu, .reg .noc]
  | .cmdTail .. => [.cmd, .pmu, .reg .hif, .reg .cmd, .reg .pmu]
  | .cplHead .. | .evtHead .. => [.pmu, .reg .hif, .reg .cmd, .reg .pmu]
  | .flr .. | .perstNAssert => collector ++ [.latches, .held, .reg .hif]
  | .flrDrainDone .. => [.reg .hif]
  | .bmeClear .. => [.cmd, .reg .hif]
  | .bmeSet .. => [.cmd, .flw, .pmu, .out, .reg .hif, .reg .cmd, .reg .eth, .reg .pmu]
  | .bdpApertureWrite .. =>
    [.red, .eng, .cel, .mem, .lut, .pmu, .reg .hif, .reg .xpt, .reg .eng, .reg .cel, .reg .pmu, .reg .noc]
  | .bdpDeniedClr .. | .wrDeniedClr .. | .mgmtCmdErrClr .. | .snapTake .. | .sampReadWrite .. | .sampDropsClr ..
  | .histCfgWrite .. | .histClear .. => [.pmu, .reg .hif, .reg .pmu, .reg .noc]
  | .regRead .. => [.ptp, .latches, .pmu, .out, .reg .hif, .reg .ptp, .reg .pmu, .reg .noc]
  | .bdpWrite .. =>
    [.cmd, .red, .eng, .cel, .mem, .lut, .pmu, .reg .hif, .reg .xpt, .reg .eng, .reg .cel, .reg .pmu, .reg .noc]
  | .mgmtUnknownOpcode .. => [.pmu, .reg .hif, .reg .pmu]
  | .nocTimeout .. | .nocDecodeError .. => collector ++ [.reg .hif, .reg .eng, .reg .noc]
  | .irqHoldoffExpiry .. | .msixVectorUnmask .. => [.cmd, .pmu, .out, .reg .pmu]
  | .cmdRingEnable .. | .cmdRingDisable .. | .evtRingEnable .. | .evtRingDisable .. =>
    [.cmd, .pmu, .reg .hif, .reg .cmd, .reg .pmu, .reg .noc]
  | .ringRefusedClr .. => [.pmu, .reg .hif, .reg .cmd, .reg .pmu, .reg .noc]
  | .descriptorFetch .. => [.cmd, .pmu, .out, .reg .pmu, .reg .noc]
  | .fetchComplete .. => [.cmd, .pmu, .reg .cmd, .reg .pmu]
  | .engineSet .. | .flowAdd .. | .completionRecordWrite .. | .copyReqReceive .. => collector ++ [.reg .noc]
  | .sigExpect .. => collector ++ [.reg .eng, .reg .noc]
  | .flowEntryReadComplete .. | .flowDel .. => collector ++ [.flw, .table, .reg .flw]
  | .fwUpdate .. | .corePllUnlock .. | .corePllRelock .. | .refclkSdsLoss .. | .refclkSdsReturn .. | .refclkCoreLoss
  | .refclkCoreReturn | .refclkPcieLoss | .refclkPcieReturn => collector ++ [.sys]
  | .fwUpdateComplete .. | .slotCopyDone .. | .fwWdogExpiry .. => collector ++ [.sys, .reg .boot]
  | .eventRecordWrite .. | .lostOnly .. => [.cmd, .pmu, .out, .reg .cmd, .reg .pmu, .reg .noc]
  | .grantReceive .. | .ackReceive .. =>
    [.cmd, .red, .active, .lease, .pmu, .out, .free, .reg .cmd, .reg .xpt, .reg .red, .reg .pmu]
  | .badMsgReceive .. => [.pmu, .reg .red, .reg .pmu]
  | .join .. =>
    [.cmd, .red, .leaveIso, .enterSync, .leaveSync, .pmu, .out, .reg .hif, .reg .cmd, .reg .xpt, .reg .red,
      .reg .pmu, .reg .noc]
  | .isolate .. =>
    [.cmd, .red, .lease, .enterIso, .leaveSync, .pmu, .out, .free, .reg .hif, .reg .cmd, .reg .xpt, .reg .red,
      .reg .pmu, .reg .noc]
  | .resync .. =>
    [.cmd, .red, .enterSync, .leaveSync, .pmu, .out, .reg .hif, .reg .cmd, .reg .xpt, .reg .red, .reg .pmu,
      .reg .noc]
  | .relinquish .. =>
    [.cmd, .red, .lease, .pmu, .out, .free, .reg .hif, .reg .cmd, .reg .xpt, .reg .red, .reg .pmu, .reg .noc]
  | .heartbeatReceive .. => collector ++ [.ref, .leaveSync, .reg .sys]
  | .replReceive .. => collector ++ [.flw, .aud, .table, .enterSync, .leaveSync, .reg .flw, .reg .aud, .reg .eng]
  | .replAckReceive .. => [.reg .red]
  | .sigMissingTimeout .. => [.red, .pmu, .reg .red, .reg .pmu]
  | .copyDataReceive .. => [.red, .eng, .cel, .mem, .lut, .pmu, .out, .reg .cel, .reg .red, .reg .pmu]
  | .snapshotInstall .. =>
    collector ++ [.flw, .aud, .ref, .mem, .table, .house, .reg .ref, .reg .flw, .reg .aud, .reg .eng]
  | .selftestTick .. => collector ++ [.lut]
  | .leaseCntClear .. | .replDroppedClr .. | .sigCntClear .. | .checkStatClear .. =>
    [.pmu, .reg .hif, .reg .red, .reg .pmu, .reg .noc]
  | .faultAck .. =>
    [.cmd, .flt, .flw, .pmu, .out, .reg .hif, .reg .cmd, .reg .eth, .reg .zl, .reg .flt, .reg .pmu, .reg .noc]
  | .safeSourceWrite .. => [.flt, .pmu, .reg .hif, .reg .flt, .reg .pmu, .reg .noc]
  | .fltCfgWrite .. | .fltMaskedClear .. => [.pmu, .reg .hif, .reg .flt, .reg .pmu, .reg .noc]
  | .supplyExcursion .. | .railWithinTolerance .. => collector ++ [.sys, .reg .sys]
  | .tempSensorRead .. =>
    collector ++ registers ++ [.ptp, .flw, .aud, .ref, .sys, .latches, .held, .mem, .lut, .table, .root, .por,
      .house, .enterIso, .leaveSync]
  | .tempPeakClear .. => [.sys, .pmu, .reg .hif, .reg .pmu, .reg .noc, .reg .sys]
  | .bootStage1Done .. | .bootReady => [.sys, .reg .boot]
  | .derive .. | .clear .. => [.sys, .pmu, .reg .hif, .reg .pmu, .reg .key, .reg .noc]
  | .advance .. => [.sys, .pmu, .reg .hif, .reg .pmu, .reg .boot, .reg .noc]
  | .rbBitProgrammed .. => [.sys, .pmu, .reg .pmu, .reg .key, .reg .boot]
  | .pcieLinkUp .. | .pcieLinkDown => collector ++ [.reg .hif]
  | .nocPortIdleEntry .. => [.reg .noc]
  | .resetNAssert =>
    registers ++ [.cmd, .flt, .xpt, .ptp, .red, .flw, .aud, .zl, .eng, .cel, .ref, .sys, .latches, .held, .lease,
      .table, .por, .house, .enterIso, .leaveSync, .pmu]
  | .timeCounterTick => [.ptp, .ref, .ticks, .house]
  | .ppsInEdge => [.pmu, .reg .ptp, .reg .pmu]
  | .hoValidSet => [.reg .ref]
  | .leapApply => [.pmu, .reg .ref, .reg .pmu]
  | .audioSampleInstant => collector ++ [.flw, .aud, .reg .flw, .reg .aud]
  | .srEntry => [.cel, .pmu, .reg .cel, .reg .pmu]
  | .srWake => [.cel, .reg .cel]
  | .perstNDeassert => [.cmd]
  | .readId | .readStatus => [.pmu, .out, .reg .pmu]
  | .helloSend | .healthSend => [.red, .pmu, .out, .free, .reg .pmu]
  | .leaseGuardStepdown | .epochStepdown =>
    [.cmd, .red, .lease, .pmu, .out, .free, .reg .cmd, .reg .xpt, .reg .red, .reg .pmu]
  | .hearsFcLapse | .recoveryEnd => [.red]
  | .heartbeatSend => [.red, .out]
  | .partnerLinkDown => collector ++ [.enterSync, .reg .sys]
  | .partnerLinkUp => collector ++ [.leaveSync]
  | .resyncSettleEnd => [.cmd, .red, .leaveSync, .pmu, .reg .cmd, .reg .xpt, .reg .red, .reg .pmu]
  | .maskWindowEnd => [.flt]
  | .keyDeriveDone => [.sys, .pmu, .reg .pmu, .reg .key]

end Sys2Proof.Machine
end

