-- ==== Sys2Proof/Certificates/Slice0/Obligations.lean ====
section
/-! DEFINITION. The statements about the block. -/
open Sys2Proof Sys2Proof.Machine

/-- The reset commands put the device into the state their reset names. POR_ASSERT asserts POR: no register differs from its
reset value, the cellar is empty, the plane state is ISOLATED, the rails named are out. POR_RELEASE, with POR asserted, every
rail within tolerance and no sensor hot, ends POR and holds the root secret as sensed; with RESET_N low the fuse status reads
sensed, the floor is the number of anti-rollback bits and the plane strap is sampled. RESET_N_ASSERT outside POR leaves the
device ISOLATED without a lease, with the cellar and the root secret as they were and RESET_N counted as the last reset.
RESET_N_DEASSERT ends RESET_N; while POR lasts it samples the plane strap. SOFT_RESET by a requester that reaches SYS makes the
soft reset due and the device not ACTIVE. SOFT_RESET_EFFECT, when one is due, leaves no soft reset due, no update in progress
and the device not ACTIVE. BLOCK_RESET by a requester that reaches SYS gives every block named an end 1 us later.
BLOCK_RESET_RELEASE removes the ends that have passed. -/
def Obligations.ResetsTakeEffect : Prop :=
  (∀ (rails : List (Fin 6)) (s : State), ∃ t, exec (.porAssert rails) s = .next t ∧ t.sys.por = true ∧ t.regs = [] ∧
    t.cel.mem = [] ∧ t.red.plane = .isolated ∧ t.pending = s.pending ∧ t.ticks = s.ticks ∧ ∀ i ∈ rails, i.val ∈ t.sys.railOut) ∧
  (∀ (plane : Bool) (normal low high : BitVec 4096) (mv : BitVec 96) (s : State),
    s.sys.por = true → s.sys.railOut = [] → s.sys.hot = false →
    ∃ t, exec (.porRelease plane normal low high mv) s = .next t ∧ t.sys.por = false ∧ t.sys.root = leBytes 32 normal.toNat ∧
      (s.sys.rstLow = true → t.g F.KEY_FUSE_STATUS_SENSED [] = 1 ∧
        t.g F.BOOT_ROLLBACK_FLOOR [] = popCount 64 (normal.toNat >>> 512) ∧ t.g F.SYS_STRAP_PLANE_ID [] = b2n plane)) ∧
  (∀ s : State, s.sys.por = false → s.sys.rstLow = false →
    ∃ t, exec .resetNAssert s = .next t ∧ t.sys.rstLow = true ∧ t.red.plane = .isolated ∧ t.red.tExp = none ∧
      t.cel.mem = s.cel.mem ∧ t.sys.root = s.sys.root ∧ t.g F.SYS_RESET_STAT_LAST [] = 1) ∧
  (∀ (plane : Bool) (s : State), s.sys.rstLow = true →
    ∃ t, exec (.resetNDeassert plane) s = .next t ∧ t.sys.rstLow = false ∧ t.sys.por = s.sys.por ∧
      (s.sys.por = true → t.g F.SYS_STRAP_PLANE_ID [] = b2n plane)) ∧
  (∀ (rq : Req) (s : State), Reaches rq .sys s →
    ∃ t, exec (.softReset rq) s = .next t ∧ t.sys.softDue = true ∧ t.red.plane ≠ .active) ∧
  (∀ (flash : Bool) (r0 r1 : BitVec 128) (s : State), s.sys.softDue = true →
    ∃ t, exec (.softResetEffect flash r0 r1) s = .next t ∧ t.sys.softDue = false ∧ t.sys.fw = none ∧ t.red.plane ≠ .active) ∧
  (∀ (rq : Req) (v : Word) (s : State), Reaches rq .sys s →
    ∃ t, exec (.blockReset rq v) s = .next t ∧
      ∀ b ∈ blkBits, v.getLsbD b.1 = true → find? t.sys.blkEnds b.1 = some (s.ticks + 500)) ∧
  (∀ s : State, ∃ t, exec .blockResetRelease s = .next t ∧
    ∀ b ∈ blkBits, (b.1, s.ticks) ∈ s.sys.blkEnds → find? t.sys.blkEnds b.1 = none)

/-- Supply, temperature and clock commands set what SYS shows of rails, sensors and clocks. SUPPLY_EXCURSION lists its rail
among the rails out of tolerance and RAIL_WITHIN_TOLERANCE removes exactly it. TEMP_SENSOR_READ with the hottest reading at 120
degrees or more asserts POR, which then waits for the device to cool; below 120 degrees outside reset it gives every sensor a
PEAK, ends the wait at 100 degrees or below, and with the hottest at 98 degrees or below shows that reading in SYS_TEMP.DIE and
VALID 1. TEMP_PEAK_CLEAR by a requester that reaches SYS leaves PEAK 0 until the next reading and nothing else of SYS_TEMP_SNS
changes. A clock or PLL that stops clears its bit of SYS_CLK_STAT[31:24] and one that starts sets it, the others staying: bit 7
the core PLL, 6 the system PLL, 5 REFCLK_CORE, 4 REFCLK_PCIE, 3 to 0 REFCLK_SDS. -/
def Obligations.SuppliesAndSensorsAreKept : Prop :=
  (∀ (i : Fin 6) (mv : BitVec 16) (s : State), ∃ t, exec (.supplyExcursion i mv) s = .next t ∧ i.val ∈ t.sys.railOut) ∧
  (∀ (i : Fin 6) (mv : BitVec 16) (s : State), ∃ t, exec (.railWithinTolerance i mv) s = .next t ∧
    t.sys.railOut = s.sys.railOut.filter (· != i.val)) ∧
  (∀ (r : BitVec 128) (mv : BitVec 96) (s : State), 12000 ≤ (hottest r).1 →
    ∃ t, exec (.tempSensorRead r mv) s = .next t ∧ t.sys.por = true ∧ t.sys.hot = true) ∧
  (∀ (r : BitVec 128) (mv : BitVec 96) (s : State), (hottest r).1 < 12000 → s.sys.por = false → s.sys.rstLow = false →
    ∃ t, exec (.tempSensorRead r mv) s = .next t ∧ (∀ i : Fin 8, i.val ∈ t.sys.peaked) ∧
      ((hottest r).1 ≤ 10000 → t.sys.hot = false) ∧
      ((hottest r).1 ≤ 9800 → t.g F.SYS_TEMP_DIE [] = ofSigned 16 (hottest r).1 ∧ t.g F.SYS_TEMP_VALID [] = 1)) ∧
  (∀ (rq : Req) (i : Fin 8) (s : State), Reaches rq .sys s →
    ∃ t, exec (.tempPeakClear rq i) s = .next t ∧ t.g F.SYS_TEMP_SNS_PEAK [i] = 0 ∧ ¬ i.val ∈ t.sys.peaked ∧
      t.g F.SYS_TEMP_SNS_TEMP [i] = s.g F.SYS_TEMP_SNS_TEMP [i]) ∧
  (∀ (system : Bool) (s : State), ∃ t, exec (.corePllUnlock system) s = .next t ∧
    t.sys.clk = s.sys.clk &&& (if system then 0xBF else 0x7F)) ∧
  (∀ (system : Bool) (s : State), ∃ t, exec (.corePllRelock system) s = .next t ∧
    t.sys.clk = s.sys.clk ||| (if system then 0x40 else 0x80)) ∧
  (∀ s : State, ∃ t, exec .refclkCoreLoss s = .next t ∧ t.sys.clk = s.sys.clk &&& 0xDF) ∧
  (∀ s : State, ∃ t, exec .refclkCoreReturn s = .next t ∧ t.sys.clk = s.sys.clk ||| 0x20) ∧
  (∀ (k : Fin 4) (s : State), ∃ t, exec (.refclkSdsLoss k) s = .next t ∧ t.sys.clk = s.sys.clk &&& ~~~(1#8 <<< k.val)) ∧
  (∀ (k : Fin 4) (s : State), ∃ t, exec (.refclkSdsReturn k) s = .next t ∧ t.sys.clk = s.sys.clk ||| (1#8 <<< k.val)) ∧
  (∀ s : State, ∃ t, exec .refclkPcieLoss s = .next t ∧ t.sys.clk = s.sys.clk &&& 0xEF) ∧
  (∀ s : State, ∃ t, exec .refclkPcieReturn s = .next t ∧ t.sys.clk = s.sys.clk ||| 0x10)

/-- The key register derives and clears under its conditions, and anti-rollback bits advance one at a time. With the root secret
not marginal, no lease held, no derivation running, CLEAR at 0, a length up to 32 and USE 1 or 2, DERIVE by a requester that
reaches KEY makes the derivation run on the first LABEL_LEN bytes of KEY_LABEL with that USE. KEY_DERIVE_DONE with a derivation
running puts its HKDF output into KEY_REG with LOADED 1, its USE and BUSY 0. CLEAR, on the same conditions with DERIVE at 0,
zeroes KEY_REG and clears LOADED and USE. While a lease is held DERIVE and CLEAR start nothing, leave KEY_REG and set
REF_HOLDER. ADVANCE, with a target above the floor, at most 64 and at most the running version's index, no update and no advance
running, makes the advance run to TARGET. RB_BIT_PROGRAMMED with an advance running and the bit good raises the floor by 1 while
a bit is left. -/
def Obligations.KeysAndRollback : Prop :=
  (∀ (rq : Req) (v : Word) (s : State), Reaches rq .key s → s.on F.KEY_FUSE_STATUS_ROOT_MARGINAL [] = false → s.holder = false →
    s.on F.KEY_STAT_BUSY [] = false → F.KEY_CTRL_CLEAR.of v = 0 → F.KEY_CTRL_LABEL_LEN.of v ≤ 32 →
    (F.KEY_CTRL_USE.of v = 1 ∨ F.KEY_CTRL_USE.of v = 2) →
    ∃ t, exec (.derive rq v) s = .next t ∧ t.on F.KEY_STAT_BUSY [] = true ∧
      t.sys.derive_ = some (((List.range 8).flatMap (fun i => leBytes 4 (s.rd R.KEY_LABEL [i]).toNat)).take
        (F.KEY_CTRL_LABEL_LEN.of v), F.KEY_CTRL_USE.of v)) ∧
  (∀ (s : State) (label : List Byte) (use : Nat), s.sys.derive_ = some (label, use) →
    ∃ t, exec .keyDeriveDone s = .next t ∧ t.sys.derive_ = none ∧ t.g F.KEY_STAT_LOADED [] = 1 ∧ t.g F.KEY_STAT_USE [] = use % 4 ∧
      t.g F.KEY_STAT_BUSY [] = 0 ∧ ∀ i : Fin 8, t.rd R.KEY_REG [i] = BitVec.ofNat 32 (ofLE (((hkdf
        ((List.range 4).flatMap (fun k => leBytes 4 (s.rd R.KEY_FUSE [18 + k]).toNat)) s.sys.root label).drop (4 * i)).take 4))) ∧
  (∀ (rq : Req) (v : Word) (s : State), Reaches rq .key s → s.on F.KEY_FUSE_STATUS_ROOT_MARGINAL [] = false → s.holder = false →
    s.on F.KEY_STAT_BUSY [] = false → F.KEY_CTRL_DERIVE.of v = 0 →
    ∃ t, exec (.clear rq v) s = .next t ∧ (∀ i : Fin 8, t.rd R.KEY_REG [i] = 0) ∧ t.g F.KEY_STAT_LOADED [] = 0 ∧
      t.g F.KEY_STAT_USE [] = 0) ∧
  (∀ (rq : Req) (v : Word) (s : State), Reaches rq .key s → s.on F.KEY_FUSE_STATUS_ROOT_MARGINAL [] = false → s.holder = true →
    (∃ t, exec (.derive rq v) s = .next t ∧ t.sys = s.sys ∧ t.g F.KEY_STAT_REF_HOLDER [] = 1 ∧
      ∀ i : Fin 8, t.rd R.KEY_REG [i] = s.rd R.KEY_REG [i]) ∧
    (∃ t, exec (.clear rq v) s = .next t ∧ t.sys = s.sys ∧ t.g F.KEY_STAT_REF_HOLDER [] = 1 ∧
      ∀ i : Fin 8, t.rd R.KEY_REG [i] = s.rd R.KEY_REG [i])) ∧
  (∀ (rq : Req) (v : Word) (s : State), Reaches rq .boot s → F.BOOT_ROLLBACK_TARGET.of v ≤ 64 →
    F.BOOT_ROLLBACK_TARGET.of v ≤ s.g F.BOOT_VERSION_VERSION [] / 2 ^ 24 → s.g F.BOOT_ROLLBACK_FLOOR [] < F.BOOT_ROLLBACK_TARGET.of v →
    s.sys.fw = none → s.on F.BOOT_ROLLBACK_BUSY [] = false →
    ∃ t, exec (.advance rq v) s = .next t ∧ t.on F.BOOT_ROLLBACK_BUSY [] = true ∧ t.sys.rbTo = some (F.BOOT_ROLLBACK_TARGET.of v) ∧
      t.g F.BOOT_ROLLBACK_FLOOR [] = s.g F.BOOT_ROLLBACK_FLOOR []) ∧
  (∀ (one : Bool) (s : State) (n : Nat), s.sys.rbTo = some n → s.g F.BOOT_ROLLBACK_FLOOR [] < 64 → rbNext s < 64 →
    ∃ t, exec (.rbBitProgrammed true one) s = .next t ∧ t.g F.BOOT_ROLLBACK_FLOOR [] = s.g F.BOOT_ROLLBACK_FLOOR [] + 1 ∧
      t.sys.rbTo = (if n ≤ s.g F.BOOT_ROLLBACK_FLOOR [] + 1 then none else some n))

/-- The boot commands move the boot from stage 1 to a running device, and a watchdog expiry starts stage 2 again.
BOOT_STAGE1_DONE in stage 1 outside reset takes HIF, KEY, BOOT and SYS out of reset; where the flash answers and neither the key
hash nor the anti-rollback bits read marginal, stage 2 then has the slots to try in the order of their records. SLOT_COPY_DONE
in stage 2 with a good image of the slot being tried runs it (STAGE 3, FW_RUNNING 1, SLOT_RUN the slot); with a bad one, or none
where the flash failed, the slot is not tried again. BOOT_READY, with the firmware running, the cellar trained and outside
reset, sets READY and takes every block out of reset. FW_WDOG_EXPIRY with the firmware running leaves FW_RUNNING 0 and no update
in progress. FW_UPDATE_COMPLETE with an update in progress ends it: written and read back, the slot not running shows the
image's version and the sequence after the other slot's, with its record present; failed, it keeps its version. While the
image's stack answers no requests a good end waits and wakes it. -/
def Obligations.BootStagesFollow : Prop :=
  (∀ (flash : Bool) (r0 r1 : BitVec 128) (s : State), s.g F.BOOT_STAT_STAGE [] = 1 → s.sys.por = false → s.sys.rstLow = false →
    ∃ t, exec (.bootStage1Done flash r0 r1) s = .next t ∧
      (∀ b ∈ [Blk.hif, Blk.key, Blk.boot, Blk.sys], ¬ b ∈ t.sys.held) ∧ (∀ b ∈ t.sys.held, b ∈ s.sys.held) ∧
      (flash = true → s.on F.KEY_FUSE_STATUS_PKH_MARGINAL [] = false → s.on F.KEY_FUSE_STATUS_RB_MARGINAL [] = false →
        t.g F.BOOT_STAT_STAGE [] = 2 ∧ t.sys.toTry = slotOrder (slotRecord r0) (slotRecord r1))) ∧
  (∀ (data : Option (List Byte)) (s : State) (k : Fin 2) (rest : List Nat), s.g F.BOOT_STAT_STAGE [] = 2 → s.sys.toTry = k.val :: rest →
    imageReason s (data.getD []) = 0 →
    ∃ t, exec (.slotCopyDone data) s = .next t ∧ t.g F.BOOT_STAT_STAGE [] = 3 ∧ t.g F.BOOT_STAT_FW_RUNNING [] = 1 ∧
      t.g F.BOOT_STAT_SLOT_RUN [] = k.val) ∧
  (∀ (data : Option (List Byte)) (s : State) (k : Fin 2) (rest : List Nat), s.g F.BOOT_STAT_STAGE [] = 2 → s.sys.toTry = k.val :: rest →
    imageReason s (data.getD []) ≠ 0 →
    ∃ t, exec (.slotCopyDone data) s = .next t ∧ t.sys.toTry = rest) ∧
  (∀ s : State, s.on F.BOOT_STAT_FW_RUNNING [] = true → s.on F.BOOT_STAT_READY [] = false → s.cel.training = false →
    s.sys.por = false → s.sys.rstLow = false →
    ∃ t, exec .bootReady s = .next t ∧ t.on F.BOOT_STAT_READY [] = true ∧ t.sys.held = []) ∧
  (∀ (flash : Bool) (r0 r1 : BitVec 128) (s : State), s.on F.BOOT_STAT_FW_RUNNING [] = true →
    ∃ t, exec (.fwWdogExpiry flash r0 r1) s = .next t ∧ t.on F.BOOT_STAT_FW_RUNNING [] = false ∧ t.sys.fw = none) ∧
  (∀ (ok kept : Bool) (s : State) (x : FwUpd), s.sys.fw = some x → (ok = true → celWaits s = false) →
    let k := 1 - s.g F.BOOT_STAT_SLOT_RUN []
    ∃ t, exec (.fwUpdateComplete ok kept) s = .next t ∧ t.sys.fw = none ∧
      (ok = true → t.rd R.BOOT_SLOT_VER [k] = BitVec.ofNat 32 x.version ∧ t.g F.BOOT_SLOT_STAT_RECORD [k] = 1 ∧
        t.rd R.BOOT_SLOT_SEQ [k] = BitVec.ofNat 32 (s.g F.BOOT_SLOT_SEQ_UPDATE_SEQ [1 - k] + 1)) ∧
      (ok = false → t.rd R.BOOT_SLOT_VER [k] = s.rd R.BOOT_SLOT_VER [k] ∧
        (kept = true → t.rd R.BOOT_SLOT_SEQ [k] = s.rd R.BOOT_SLOT_SEQ [k]) ∧
        (kept = false → t.g F.BOOT_SLOT_STAT_RECORD [k] = 0))) ∧
  (∀ (kept : Bool) (s : State), s.sys.fw.isSome = true → celWaits s = true → exec (.fwUpdateComplete true kept) s = .next (srWake s))

/-- Register writes and reads of BAR0: byte enables, access codes, pairs held and latched, writes a VF may not make.
REGISTER_WRITE whose byte enables are not all set changes nothing. In each clause no access of the requester waits behind
another (R316). With all set, by a requester that reaches FLT, a write of FLT_DEP[b] puts the low 18 bits into DEP, and no other
register word changes. A VF's write at 0x200000 or above, with HIF out of reset, writes nothing but its own WR_DENIED and
counts. PAIR_LO_READ of RED_REPL_TX_LO with nothing latched answers that word and latches RED_REPL_TX_HI for the requester.
PAIR_LO_WRITE of XPT_GEN_SLATE_LO[g] is held for the requester and writes no register; PAIR_HI_WRITE of XPT_GEN_SLATE_HI[g] then
applies both halves and uses the held half up. -/
def Obligations.RegisterAccessesByTheirCodes : Prop :=
  (∀ (rq : Req) (a : BitVec 24) (be : BitVec 4) (v : Word) (host : List (BitVec 128 × List Byte)) (s : State), be ≠ 0xF →
    exec (.registerWrite rq a be v host) s = .next s) ∧
  (∀ (rq : Req) (b : Fin 18) (v : Word) (host : List (BitVec 128 × List Byte)) (s : State), Reaches rq .flt s → behind s rq none = false →
    ∃ t, exec (.registerWrite rq (BitVec.ofNat 24 (0x540040 + b.val)) 0xF v host) s = .next t ∧
      t.g F.FLT_DEP_DEP [b] = v.toNat % 2 ^ 18 ∧ ∀ (r : Reg) (i : List Nat), r.addr i ≠ R.FLT_DEP.addr [b] → t.rd r i = s.rd r i) ∧
  (∀ (p : Fin 8) (a : BitVec 24) (v : Word) (host : List (BitVec 128 × List Byte)) (s : State), p ≠ 0 → 0x200000 ≤ 4 * a.toNat →
    blkHeld s .hif = false → BusAwake (.part p) s → behind s (.part p) none = false →
    exec (.registerWrite (.part p) a 0xF v host) s = .next ((s.bump F.HIF_PART_STAT_WR_DENIED [p] 1).count p 1)) ∧
  (∀ (rq : Req) (s : State), blkHeld s .red = false → BusAwake rq s → behind s rq none = false → latched? s rq (R.RED_REPL_TX_LO.addr []) = none →
    ∃ t, exec (.pairLoRead rq (BitVec.ofNat 24 (R.RED_REPL_TX_LO.addr [] / 4))) s = .next t ∧
      t.out = s.out ++ [.regRead rq (R.RED_REPL_TX_LO.addr []) (s.rd R.RED_REPL_TX_LO [])] ∧
      latched? t rq (R.RED_REPL_TX_HI.addr []) = some (s.rd R.RED_REPL_TX_HI []) ∧ t.regs = s.regs) ∧
  (∀ (rq : Req) (g : Fin 64) (v : Word) (s : State), Reaches rq .xpt s → behind s rq none = false →
    ∃ t, exec (.pairLoWrite rq (BitVec.ofNat 24 (R.XPT_GEN_SLATE_LO.addr [g] / 4)) v) s = .next t ∧ t.regs = s.regs ∧
      heldLow? t rq (R.XPT_GEN_SLATE_LO.addr [g]) = some v) ∧
  (∀ (rq : Req) (g : Fin 64) (l v : Word) (s : State), Reaches rq .xpt s → behind s rq none = false →
    heldLow? s rq (R.XPT_GEN_SLATE_LO.addr [g]) = some l →
    ∃ t, exec (.pairHiWrite rq (BitVec.ofNat 24 (R.XPT_GEN_SLATE_HI.addr [g] / 4)) v) s = .next t ∧
      t.g F.XPT_GEN_SLATE_LO_ADDR_LO [g] = l.toNat / 2 ^ 12 ∧ t.g F.XPT_GEN_SLATE_HI_ADDR_HI [g] = v.toNat % 4 ∧
      heldLow? t rq (R.XPT_GEN_SLATE_LO.addr [g]) = none)

/-- A write of the cellar is read back byte for byte and leaves every other byte, whatever the grain. For every class of
request, every address and every list of bytes that lies in the 16 GiB: after a write that the stack serves the bytes of the
range read as written, every other byte of the cellar reads as before, and the memory keeps its canonical form. A write made
while the stack answers requests is served at once; one made before waits last in the queue of the stack, the memory as it was,
and is served from there. The statement rests on the map of addresses to the stack being one to one for the grain in force. -/
def Obligations.CellarReadsBackItsWrites : Prop :=
  ∀ (k a : Nat) (bs : List Byte) (s : State), inCellar a bs.length = true →
    ((celPut k a bs s).celData a bs.length = bs ∧
      (∀ b, b < celBytes → (b < a ∨ a + bs.length ≤ b) → (celPut k a bs s).celByte b = s.celByte b) ∧
      (Memory.wf s.cel.mem = true → Memory.wf (celPut k a bs s).cel.mem = true)) ∧
    (celWaits s = false → (celWrite k a bs s).celData a bs.length = bs ∧
      (∀ b, b < celBytes → (b < a ∨ a + bs.length ≤ b) → (celWrite k a bs s).celByte b = s.celByte b) ∧
      (Memory.wf s.cel.mem = true → Memory.wf (celWrite k a bs s).cel.mem = true)) ∧
    (celWaits s = true → bs ≠ [] → (celWrite k a bs s).cel.mem = s.cel.mem ∧
      (celWrite k a bs s).cel.wait = s.cel.wait ++ [(true, .write k a bs)]) ∧
    serveReq true (.write k a bs) s = celPut k a bs s

/-- The bulk data port writes and reads the cellar through a channel's window, and its control and status are registers of the
channel. BDP_APERTURE_WRITE of up to 512 B inside the aperture, with HIF out of reset, the channel enabled for cellar writes,
every byte enable set, every dword inside the window, the stack answering requests and no earlier access of the channel waiting:
the bytes of the cellar at the window read as the dwords written, least significant byte first, and every other byte as before.
BDP_APERTURE_READ with the channel enabled for cellar reads, on the same conditions with no word uncorrectable, returns those
bytes; one of more than 512 B returns zeros and sets DENY; in internal space channel 0 reads the LUT pool, and writes a set that
no engine names. An access of a channel with one waiting waits behind it. BDP_CTRL_WRITE to dword 0 by a requester that reaches
the page sets EN, DIR and SPACE from their bits. BDP_STAT_READ, of a channel's status with nothing latched, answers the word
HIF_BDP_STAT holds. BDP_DENIED_CLR sets DENIED to 0. -/
def Obligations.BulkDataPortMovesData : Prop :=
  (∀ (p : Fin 8) (o : Fin 1024) (data : List Word) (s : State), apertureFits o data.length = true → data.length ≤ 128 →
    blkHeld s .hif = false → s.on F.HIF_BDP_CTRL_EN [p] = true → s.on F.HIF_BDP_CTRL_DIR [p] = false →
    s.on F.HIF_BDP_CTRL_SPACE [p] = false → BulkAwake p s → behind s (.part p) (some p) = false →
    s.on F.CEL_STAT_TRAIN_FAIL [] = false → celWaits s = false →
    (∀ j, j < data.length → bdpOut s p (bdpAddr s p (4 * o) + 4 * j) = false) →
    ∃ t, exec (.bdpApertureWrite p o data true) s = .next t ∧
      t.celData (bdpAddr s p (4 * o)) (4 * data.length) = data.flatMap (fun w => leBytes 4 w.toNat) ∧
      ∀ b, b < celBytes → (b < bdpAddr s p (4 * o) ∨ bdpAddr s p (4 * o) + 4 * data.length ≤ b) → t.celByte b = s.celByte b) ∧
  (∀ (p : Fin 8) (o : Fin 1024) (n : Fin 1025) (s : State), apertureFits o n = true → n.val ≤ 128 → blkHeld s .hif = false →
    s.on F.HIF_BDP_CTRL_EN [p] = true → s.on F.HIF_BDP_CTRL_DIR [p] = true → s.on F.HIF_BDP_CTRL_SPACE [p] = false →
    BulkAwake p s → behind s (.part p) (some p) = false → s.on F.CEL_STAT_TRAIN_FAIL [] = false → celWaits s = false →
    (∀ j, j < n.val → bdpOut s p (bdpAddr s p (4 * o) + 4 * j) = false) →
    (∀ w ∈ wordsOf (bdpAddr s p (4 * o)) (4 * n), celUe s w = false) →
    ∃ t, exec (.bdpApertureRead p o n) s = .next t ∧ t.out.getLast? = some (.bdpRead p ((List.range n).map (fun j =>
      BitVec.ofNat 32 (ofLE (s.celData (bdpAddr s p (4 * o) + 4 * j) 4)))))) ∧
  (∀ (p : Fin 8) (o : Fin 1024) (n : Fin 1025) (s : State), apertureFits o n = true → 128 < n.val → blkHeld s .hif = false →
    BulkAwake p s → behind s (.part p) (some p) = false →
    ∃ t, exec (.bdpApertureRead p o n) s = .next t ∧ t.out = s.out ++ [.bdpRead p (List.replicate n 0)] ∧
      t.g F.HIF_BDP_STAT_DENY [p] = 1 ∧ t.cel = s.cel) ∧
  (∀ (o : Fin 1024) (n : Fin 1025) (w : Word) (s : State), apertureFits o n = true → n.val ≤ 128 → blkHeld s .hif = false →
    s.on F.HIF_BDP_CTRL_EN [0] = true → s.on F.HIF_BDP_CTRL_SPACE [0] = true → BulkAwake 0 s → behind s (.part 0) (some 0) = false →
    0x20000000 ≤ bdpAddr s 0 (4 * o) → bdpAddr s 0 (4 * o) + 4 * n ≤ 0x21400000 →
    (s.on F.HIF_BDP_CTRL_DIR [0] = true → ∃ t, exec (.bdpApertureRead 0 o n) s = .next t ∧
      t.out = s.out ++ [.bdpRead 0 ((List.range n).map (fun j => BitVec.ofNat 32 (ofLE (lutData s (bdpAddr s 0 (4 * o) - 0x20000000 + 4 * j) 4))))]) ∧
    (s.on F.HIF_BDP_CTRL_DIR [0] = false → (∀ e : Fin 64, s.engOn e = false) → s.eng.pend = [] → ∃ t, exec (.bdpApertureWrite 0 o [w] true) s = .next t ∧
      lutData t (bdpAddr s 0 (4 * o) - 0x20000000) 4 = leBytes 4 w.toNat ∧ t.cel = s.cel)) ∧
  (∀ (p : Fin 8) (o : Fin 1024) (data : List Word) (whole : Bool) (n : Fin 1025) (s : State), blkHeld s .hif = false → BulkAwake p s →
    behind s (.part p) (some p) = true →
    (apertureFits o data.length = true → data.length ≤ 128 →
      exec (.bdpApertureWrite p o data whole) s = .next (celHoldReq (.bdpWrite p (4 * o) data whole) s)) ∧
    (apertureFits o n = true → exec (.bdpApertureRead p o n) s = .next (celHoldReq (.bdpRead p (4 * o) n) s))) ∧
  (∀ (rq : Req) (c : Fin 8) (v : Word) (s : State), ReachesPage rq .hif c s → behind s rq (some c) = false →
    ∃ t, exec (.bdpCtrlWrite rq (c.castLE (by decide)) 0 v) s = .next t ∧ t.g F.HIF_BDP_CTRL_EN [c] = F.HIF_BDP_CTRL_EN.of v ∧
      t.g F.HIF_BDP_CTRL_DIR [c] = F.HIF_BDP_CTRL_DIR.of v ∧ t.g F.HIF_BDP_CTRL_SPACE [c] = F.HIF_BDP_CTRL_SPACE.of v) ∧
  (∀ (rq : Req) (c : Fin 9) (s : State), blkHeld s .hif = false → BusAwake rq s → behind s rq (some c) = false →
    latched? s rq (R.HIF_BDP_STAT.addr [c]) = none →
    ∃ t, exec (.bdpStatRead rq c) s = .next t ∧ t.regs = s.regs ∧
      t.out = s.out ++ [.regRead rq (R.HIF_BDP_STAT.addr [c]) (s.rd R.HIF_BDP_STAT [c])]) ∧
  (∀ (rq : Req) (c : Fin 9) (s : State), (rq = .mgmt ∨ rq = .part 0 ∨ ∃ p : Fin 8, rq = .part p ∧ p.val = c.val) → blkHeld s .hif = false →
    BusAwake rq s → ∃ t, exec (.bdpDeniedClr rq c) s = .next t ∧ t.g F.HIF_BDP_STAT_DENIED [c] = 0)

/-- The management port answers its commands and counts those it refuses. With HIF out of reset: READ_ID answers 0xA5 and
HIF_ID; READ_STATUS answers one byte of the link, firmware, recovery and error states; REG_READ of an offset below 64 MiB
answers 0xA5 and four bytes, those of the register at the offset (of one whose read does no more) and zeros where none is, 0x5A
where it would wait behind an access of the port, and beyond 64 MiB 0xE1 with CMD_ERR counted; REG_WRITE of FLT_DEP[b], with FLT
out of reset, writes DEP; BDP_READ of 1 to 128 dwords that need not wait answers 0xA5 and as many, through channel 8 enabled for
cellar reads the bytes of the window, 0x5A where it would wait, neither reading nor moving on, and any other length 0xE1;
BDP_WRITE of 1 to 128 dwords moves the port's offset on by their bytes modulo the window, and through channel 8 enabled for
cellar writes stores them; an unknown opcode counts in CMD_ERR and answers nothing. MGMT_CMD_ERR_CLR by a requester that reaches
HIF sets CMD_ERR to 0 and writes no other register. -/
def Obligations.ManagementPortAnswers : Prop :=
  (∀ s : State, blkHeld s .hif = false → ∃ t, exec .readId s = .next t ∧
    t.out = s.out ++ [.mgmt 0xA5 (leBytes 4 (s.rd R.HIF_ID []).toNat)] ∧ t.cmd = s.cmd) ∧
  (∀ s : State, blkHeld s .hif = false → ∃ t, exec .readStatus s = .next t ∧
    t.out = s.out ++ [.mgmt (s.g F.HIF_LINK_UP [] + 2 * s.g F.BOOT_STAT_FW_RUNNING [] +
      4 * b2n (s.g F.BOOT_STAT_RECOV [] != 0) + 8 * b2n (s.g F.HIF_MGMT_STAT_CMD_ERR [] != 0)) []]) ∧
  (∀ (off : Word) (s : State), blkHeld s .hif = false → off.toNat < 2 ^ 26 →
    BusAwake .mgmt s → behind s .mgmt (bdpChan (off.toNat / 4 * 4) true) = false →
    (∃ t w, exec (.regRead off) s = .next t ∧ t.out = s.out ++ [.mgmt 0xA5 (leBytes 4 (w : Word).toNat)]) ∧
    (findReg (off.toNat / 4 * 4) = none → ∃ t, exec (.regRead off) s = .next t ∧ t.out = s.out ++ [.mgmt 0xA5 [0, 0, 0, 0]]) ∧
    (∀ (r : Reg) (i : List Nat), findReg (off.toNat / 4 * 4) = some (r, i) → regHeld s r = false → highOf r = none →
      latched? s .mgmt (r.addr i) = none →
      (¬ r.base ∈ [R.PTP_TIME_NS.base, R.PTP_TXTS_ID.base, R.XPT_CAD_POS.base, R.AUD_TDM_TS_NS.base, R.PMU_SNAP_CTRL.base]) →
      ∃ t, exec (.regRead off) s = .next t ∧ t.regs = (s.count 27 1).regs ∧
        t.out = s.out ++ [.mgmt 0xA5 (leBytes 4 (viewReg .mgmt r i (s.count 27 1)).toNat)])) ∧
  (∀ (off : Word) (s : State), blkHeld s .hif = false → off.toNat < 2 ^ 26 → BusAwake .mgmt s →
    behind s .mgmt (bdpChan (off.toNat / 4 * 4) true) = true →
    ∃ t, exec (.regRead off) s = .next t ∧ t.out = s.out ++ [.mgmt 0x5A []] ∧ t.cel = s.cel) ∧
  (∀ (off : Word) (s : State), blkHeld s .hif = false → 2 ^ 26 ≤ off.toNat →
    ∃ t, exec (.regRead off) s = .next t ∧ t.out = s.out ++ [.mgmt 0xE1 []] ∧
      t.g F.HIF_MGMT_STAT_CMD_ERR [] = satAdd 65535 (s.g F.HIF_MGMT_STAT_CMD_ERR []) 1) ∧
  (∀ (b : Fin 18) (v : Word) (host : List (BitVec 128 × List Byte)) (s : State), blkHeld s .hif = false → blkHeld s .flt = false →
    BusAwake .mgmt s → behind s .mgmt none = false →
    ∃ t, exec (.regWrite (BitVec.ofNat 32 (R.FLT_DEP.addr [b])) v host) s = .next t ∧ t.g F.FLT_DEP_DEP [b] = v.toNat % 2 ^ 18) ∧
  (∀ (n : BitVec 16) (s : State), blkHeld s .hif = false → 1 ≤ n.toNat → n.toNat ≤ 128 → BulkAwake 8 s → behind s .mgmt (some 8) = false →
    celWaits s = false →
    (∃ t ws, exec (.bdpRead n) s = .next t ∧ (ws : List Word).length = n.toNat ∧
      t.out.getLast? = some (.mgmt 0xA5 (ws.flatMap (fun w => leBytes 4 w.toNat)))) ∧
    (s.on F.HIF_BDP_CTRL_EN [8] = true → s.on F.HIF_BDP_CTRL_DIR [8] = true → s.on F.HIF_BDP_CTRL_SPACE [8] = false →
      s.on F.CEL_STAT_TRAIN_FAIL [] = false → (∀ j, j < n.toNat → bdpOut s 8 (bdpAddr s 8 s.cmd.mgmtOfs + 4 * j) = false) →
      (∀ w ∈ wordsOf (bdpAddr s 8 s.cmd.mgmtOfs) (4 * n.toNat), celUe s w = false) →
      ∃ t, exec (.bdpRead n) s = .next t ∧
        t.out.getLast? = some (.mgmt 0xA5 (s.celData (bdpAddr s 8 s.cmd.mgmtOfs) (4 * n.toNat))))) ∧
  (∀ (n : BitVec 16) (s : State), blkHeld s .hif = false → 1 ≤ n.toNat → n.toNat ≤ 128 → BulkAwake 8 s → behind s .mgmt (some 8) = true →
    ∃ t, exec (.bdpRead n) s = .next t ∧ t.out = s.out ++ [.mgmt 0x5A []] ∧ t.cmd.mgmtOfs = s.cmd.mgmtOfs ∧ t.cel.wait = s.cel.wait) ∧
  (∀ (n : BitVec 16) (s : State), blkHeld s .hif = false → (n.toNat = 0 ∨ 128 < n.toNat) →
    ∃ t, exec (.bdpRead n) s = .next t ∧ t.out = s.out ++ [.mgmt 0xE1 []]) ∧
  (∀ (data : List Word) (s : State), blkHeld s .hif = false → 1 ≤ data.length → data.length ≤ 128 →
    (∃ t, exec (.bdpWrite data) s = .next t ∧ t.cmd.mgmtOfs = (s.cmd.mgmtOfs + 4 * data.length) % 4096) ∧
    (BulkAwake 8 s → behind s .mgmt (some 8) = false → celWaits s = false → s.on F.HIF_BDP_CTRL_EN [8] = true →
      s.on F.HIF_BDP_CTRL_DIR [8] = false → s.on F.HIF_BDP_CTRL_SPACE [8] = false → s.on F.CEL_STAT_TRAIN_FAIL [] = false →
      (∀ j, j < data.length → bdpOut s 8 (bdpAddr s 8 s.cmd.mgmtOfs + 4 * j) = false) →
      ∃ t, exec (.bdpWrite data) s = .next t ∧
        t.celData (bdpAddr s 8 s.cmd.mgmtOfs) (4 * data.length) = data.flatMap (fun w => leBytes 4 w.toNat))) ∧
  (∀ (op : BitVec 8) (s : State), blkHeld s .hif = false → ¬ op ∈ mgmtOpcodes →
    ∃ t, exec (.mgmtUnknownOpcode op) s = .next t ∧ t.out = s.out ∧
      t.g F.HIF_MGMT_STAT_CMD_ERR [] = satAdd 65535 (s.g F.HIF_MGMT_STAT_CMD_ERR []) 1) ∧
  (∀ (rq : Req) (s : State), Reaches rq .hif s →
    exec (.mgmtCmdErrClr rq) s = .next (s.p F.HIF_MGMT_STAT_CMD_ERR [] 0))

/-- An occurrence is masked, repeats a latched source or latches it, and an injected one ignores masking. Outside POR and
RESET_N, an occurrence of a source configured below FATAL, in a block whose masking window is open, counts in MASKED and does
nothing else. One of a source latched at FATAL or escalated counts in REPEATS and does nothing else. One of a source not latched
and not masked, configured NOTICE or DEGRADED without a block reset, outside the recovery window, latches it at that class with
its INSTANCE and leaves the plane state as it was; the first-fault record then holds it where it held nothing. In POR or RESET_N
nothing latches. FAULT_INJECT by a requester that reaches FLT, of a source not latched, with a CLASS written of NOTICE or
DEGRADED and no block reset, latches it as INJECTED whatever windows are open. -/
def Obligations.FaultsLatchRepeatAndMask : Prop :=
  (∀ (i : Fin 333) (inst : Fin 65536) (s : State), s.sys.por = false → s.sys.rstLow = false → masked s (srcBlock i) = true →
    s.g F.FLT_SRC_CFG_CLASS [i] ≠ 3 →
    exec (.faultOccurrence i inst) s = .next ((s.bump F.FLT_SRC_CNT_MASKED [i] 1).count (458 + 5 * srcBlock i + 3) 1)) ∧
  (∀ (i : Fin 333) (inst : Fin 65536) (s : State), s.sys.por = false → s.sys.rstLow = false →
    (masked s (srcBlock i) = false ∨ s.g F.FLT_SRC_CFG_CLASS [i] = 3) → latched s i = true →
    (s.on F.FLT_SRC_STAT_ESCALATED [i] = true ∨ latchClass s i = 3) →
    exec (.faultOccurrence i inst) s = .next ((s.bump F.FLT_SRC_CNT_REPEATS [i] 1).count (458 + 5 * srcBlock i + 1) 1)) ∧
  (∀ (i : Fin 333) (inst : Fin 65536) (s : State), s.sys.por = false → s.sys.rstLow = false → masked s (srcBlock i) = false →
    latched s i = false → s.g F.FLT_SRC_CFG_CLASS [i] ≤ 1 → s.on F.FLT_SRC_CFG_RESET_BLK [i] = false → inRecovery s = false →
    ∃ t, exec (.faultOccurrence i inst) s = .next t ∧ latched t i = true ∧ latchClass t i = s.g F.FLT_SRC_CFG_CLASS [i] ∧
      t.g F.FLT_SRC_STAT_INSTANCE [i] = inst ∧ t.on F.FLT_SRC_STAT_ESCALATED [i] = false ∧ t.red = s.red ∧
      (s.on F.FLT_FIRST_VALID [] = false → t.g F.FLT_FIRST_INDEX [] = i ∧ t.g F.FLT_FIRST_INSTANCE [] = inst) ∧
      (s.on F.FLT_FIRST_VALID [] = true → t.rd R.FLT_FIRST [] = s.rd R.FLT_FIRST [])) ∧
  (∀ (i : Fin 333) (inst : Fin 65536) (s : State), (s.sys.por = true ∨ s.sys.rstLow = true) →
    exec (.faultOccurrence i inst) s = .next s) ∧
  (∀ (rq : Req) (i : Fin 333) (v : Word) (s : State), Reaches rq .flt s → latched s i = false → F.FLT_SRC_CFG_CLASS.of v ≤ 1 →
    F.FLT_SRC_CFG_RESET_BLK.of v = 0 → inRecovery s = false →
    ∃ t, exec (.faultInject rq i v) s = .next t ∧ latched t i = true ∧ latchClass t i = F.FLT_SRC_CFG_CLASS.of v ∧
      t.on F.FLT_SRC_STAT_INJECTED [i] = true ∧ t.g F.FLT_SRC_STAT_INSTANCE [i] = 0 ∧ t.red = s.red)

/-- Acknowledging a source, ending windows, and the writes of safety sources and of FLT_CFG. FAULT_ACK by a requester that
reaches FLT, outside a FATAL reaction: each source of the word whose bit is written 1, latched and whose level condition has
ended, is latched no more; one whose condition is true stays as it was. MASK_WINDOW_END removes the windows that have ended and
no other, and masks no block that was not masked before. SAFE_SOURCE_WRITE sets FLT_SAFE for KIND 0, and for KIND 1 where it
names a signal of the same class, else sets SAFE_ERR alone. FLT_CFG_WRITE sets FLT_CFG for a MASK_WIN of 10 to 1,000 and else
sets CFG_ERR alone. FLT_MASKED_CLEAR sets MASKED to 0. -/
def Obligations.FaultsAcknowledgeAndConfigure : Prop :=
  (∀ (rq : Req) (j : Fin 11) (v : Word) (s : State), Reaches rq .flt s → s.flt.fatal = false →
    ∃ t, exec (.faultAck rq j v) s = .next t ∧ ∀ b : Fin 32, v.getLsbD b = true → 32 * j.val + b.val < 333 →
      (latched s (32 * j + b) = true → s.on F.FLT_SRC_STAT_COND [32 * j + b] = false → latched t (32 * j + b) = false) ∧
      (s.on F.FLT_SRC_STAT_COND [32 * j + b] = true → latched t (32 * j + b) = latched s (32 * j + b))) ∧
  (∀ s : State, ∃ t, exec .maskWindowEnd s = .next t ∧ (∀ w ∈ t.flt.windows, s.ticks < w.2 ∧ w ∈ s.flt.windows) ∧
    (∀ b, masked t b = masked s b) ∧ t.regs = s.regs) ∧
  (∀ (rq : Req) (i : Fin 10240) (v : Word) (s : State), Reaches rq .flt s →
    (F.FLT_SAFE_KIND.of v = 0 ∨ (F.FLT_SAFE_KIND.of v = 1 ∧ safeNamed s (i / 8) (i % 8) v.toNat = true)) →
    ∃ t, exec (.safeSourceWrite rq i v) s = .next t ∧ t.g F.FLT_SAFE_KIND [i] = F.FLT_SAFE_KIND.of v ∧
      t.g F.FLT_SAFE_SRC_SLOT [i] = F.FLT_SAFE_SRC_SLOT.of v ∧ t.g F.FLT_SAFE_SRC_BASE [i] = F.FLT_SAFE_SRC_BASE.of v) ∧
  (∀ (rq : Req) (i : Fin 10240) (v : Word) (s : State), Reaches rq .flt s →
    (2 ≤ F.FLT_SAFE_KIND.of v ∨ (F.FLT_SAFE_KIND.of v = 1 ∧ safeNamed s (i / 8) (i % 8) v.toNat = false)) →
    exec (.safeSourceWrite rq i v) s = .next (s.p F.FLT_STAT_SAFE_ERR [] 1)) ∧
  (∀ (rq : Req) (v : Word) (s : State), Reaches rq .flt s → 10 ≤ F.FLT_CFG_MASK_WIN.of v → F.FLT_CFG_MASK_WIN.of v ≤ 1000 →
    ∃ t, exec (.fltCfgWrite rq v) s = .next t ∧ t.g F.FLT_CFG_MASK_WIN [] = F.FLT_CFG_MASK_WIN.of v ∧
      t.g F.FLT_CFG_FAULT_N_CLASS [] = F.FLT_CFG_FAULT_N_CLASS.of v) ∧
  (∀ (rq : Req) (v : Word) (s : State), Reaches rq .flt s → (F.FLT_CFG_MASK_WIN.of v < 10 ∨ 1000 < F.FLT_CFG_MASK_WIN.of v) →
    exec (.fltCfgWrite rq v) s = .next (s.p F.FLT_STAT_CFG_ERR [] 1)) ∧
  (∀ (rq : Req) (i : Fin 333) (s : State), Reaches rq .flt s →
    exec (.fltMaskedClear rq i) s = .next (s.p F.FLT_SRC_CNT_MASKED [i] 0))

/-- Protection writes, function resets and Bus Master Enable. PROTECTION_WRITE by a requester that reaches the register's block,
of a value that changes the register, writes it and raises PROT_SEQ by 1; one that changes nothing has no effect. FLR of a
function drops the read latches and held writes of its requester (of all of them for function 0), and for a VF restores its bulk
data port control and shows FLR_BUSY while host accesses are outstanding. FLR_DRAIN_DONE with no fence read of the function
outstanding clears FLR_BUSY alone. BME_CLEAR clears BME and drops the fetches in flight of the function. BME_SET sets BME, takes
the function's sizes and leaves no message owed to it; that of function 0 then lets the host rings go on. PERST_N_ASSERT drops
the latches and held writes of every function. PERST_N_DEASSERT ends PERST_N with the subsystem IDs as written. WR_DENIED_CLR by
a requester that reaches the page clears WR_DENIED alone. -/
def Obligations.ProtectionAndFunctionResets : Prop :=
  (∀ (rq : Req) (k : ProtReg) (v : Word) (s : State), Reaches rq (protTarget k).1.blk s →
    writtenWord (protTarget k).1 (protTarget k).2 v (s.rd (protTarget k).1 (protTarget k).2) ≠ s.rd (protTarget k).1 (protTarget k).2 →
    ∃ t, exec (.protectionWrite rq k v) s = .next t ∧
      t.rd (protTarget k).1 (protTarget k).2 =
        writtenWord (protTarget k).1 (protTarget k).2 v (s.rd (protTarget k).1 (protTarget k).2) ∧
      t.g F.HIF_PROT_STAT_PROT_SEQ [] = (s.g F.HIF_PROT_STAT_PROT_SEQ [] + 1) % 2 ^ 32) ∧
  (∀ (rq : Req) (k : ProtReg) (v : Word) (s : State), Reaches rq (protTarget k).1.blk s →
    writtenWord (protTarget k).1 (protTarget k).2 v (s.rd (protTarget k).1 (protTarget k).2) = s.rd (protTarget k).1 (protTarget k).2 →
    exec (.protectionWrite rq k v) s = .next s) ∧
  (∀ (p : Fin 8) (s : State), ∃ t, exec (.flr p) s = .next t ∧
    (∀ e ∈ t.latches, ∀ q : Fin 8, (p = 0 ∨ q = p) → e.1.1 ≠ .part q) ∧
    (∀ e ∈ t.held, ∀ q : Fin 8, (p = 0 ∨ q = p) → e.1.1 ≠ .part q) ∧
    (p ≠ 0 → t.g F.HIF_PART_STAT_FLR_BUSY [p] = b2n (hostBusy s p) ∧ t.rd R.HIF_BDP_CTRL [p] = 0)) ∧
  (∀ (p : Fin 8) (s : State), exec (.flrDrainDone p) s = .next (if fenceBusy s p = true then s else s.p F.HIF_PART_STAT_FLR_BUSY [p] 0)) ∧
  (∀ (p : Fin 8) (s : State), ∃ t, exec (.bmeClear p) s = .next t ∧ t.on F.HIF_PART_STAT_BME [p] = false ∧
    t.cmd.flight = s.cmd.flight.filter (fun x => x.part != p.val) ∧ t.out = s.out) ∧
  (∀ (p : Fin 8) (mps : Fin 3) (mrrs : Fin 6) (s : State), ∃ u, exec (.bmeSet ⟨p, mps, mrrs⟩) s = .next (if p = 0 then hostRings u else u) ∧
    u.on F.HIF_PART_STAT_BME [p] = true ∧ readMax u p = 128 * 2 ^ mrrs.val ∧ getD 0 u.cmd.mps p = mps.val ∧ (∀ x ∈ u.cmd.msiOwed, x.1 ≠ p.val) ∧
    (p ≠ 0 → u.cmd.vfEnable = true) ∧ u.flw = s.flw) ∧
  (∀ s : State, ∃ t, exec .perstNAssert s = .next t ∧ (∀ e ∈ t.latches, ∀ q : Fin 8, e.1.1 ≠ .part q) ∧
    ∀ e ∈ t.held, ∀ q : Fin 8, e.1.1 ≠ .part q) ∧
  (∀ s : State, exec .perstNDeassert s = .next { s with cmd := { s.cmd with perst := false, subsys := s.rd R.HIF_SUBSYS [] } }) ∧
  (∀ (rq : Req) (p : Fin 8) (s : State), ReachesPage rq .hif p s →
    exec (.wrDeniedClr rq p) s = .next (s.p F.HIF_PART_STAT_WR_DENIED [p] 0))

/-- The PCIe link, the interrupt messages and the errors of the interconnect. PCIE_LINK_DOWN of a link that is up clears
HIF_LINK, counts and raises the level source HIF_LINK_DOWN; of a link that is down it does nothing. PCIE_LINK_UP outside
PERST_N, of a width up to x8 and a speed up to Gen5, shows the link up with them and ends that level, else it does nothing.
PCIE_AER_ERROR counts and is an occurrence of HIF_PCIE_ERR for its function. IRQ_HOLDOFF_EXPIRY of a hold-off that has run out
and owes nothing removes it; where it owes a message for an enabled cause, on an unmasked vector with BME set, that message is
sent. MSIX_VECTOR_UNMASK takes the vector's address and data and unmasks it; of a pending one with BME set it sends the message
and clears the pending bit. NOC_TIMEOUT and NOC_DECODE_ERROR count and are an occurrence of NOC_ERR for the master, the error's
record being latched where none stands; a read so ended returns ones to its master, a fence read is outstanding no more, a write
has no further effect. NOC_PORT_IDLE_ENTRY sets its port's bit in NOC_IDLE and no other. -/
def Obligations.PcieLinkAndInterrupts : Prop :=
  (∀ s : State, s.on F.HIF_LINK_UP [] = true →
    exec .pcieLinkDown s = .next (level 1 0 true ((s.wr R.HIF_LINK [] 0).count 31 1))) ∧
  (∀ s : State, s.on F.HIF_LINK_UP [] = false → exec .pcieLinkDown s = .next s) ∧
  (∀ (width speed : Nat) (s : State), s.cmd.perst = false → width ∈ [1, 2, 4, 8] → 1 ≤ speed → speed ≤ 5 →
    ∃ t, exec (.pcieLinkUp width speed) s = .next t ∧ t.on F.HIF_LINK_UP [] = true ∧ t.g F.HIF_LINK_WIDTH [] = width ∧
      t.g F.HIF_LINK_SPEED [] = speed ∧ t.on F.FLT_SRC_STAT_COND [1] = false) ∧
  (∀ (width speed : Nat) (s : State), (s.cmd.perst = true ∨ ¬ width ∈ [1, 2, 4, 8] ∨ speed = 0 ∨ 5 < speed) →
    exec (.pcieLinkUp width speed) s = .next s) ∧
  (∀ (fn : Fin 8) (s : State), exec (.pcieAerError fn) s = .next (occur 0 fn (s.count 29 1))) ∧
  (∀ (p : Fin 8) (k : Fin 4) (x : Holdoff) (s : State),
    s.cmd.holdoffs.find? (fun y => y.part == p.val && y.cause == k.val) = some x → x.until_ ≤ s.ticks → x.owed = false →
    exec (.irqHoldoffExpiry p k) s = .next { s with cmd := { s.cmd with
      holdoffs := s.cmd.holdoffs.filter (fun y => !(y.part == p.val && y.cause == k.val)) } }) ∧
  (∀ (p : Fin 8) (k : Fin 4) (x : Holdoff) (v : Nat) (s : State),
    s.cmd.holdoffs.find? (fun y => y.part == p.val && y.cause == k.val) = some x → x.until_ ≤ s.ticks → x.owed = true →
    causeVector s p k = some v → (p.val, v) ∈ s.cmd.unmasked → s.on F.HIF_PART_STAT_BME [p] = true →
    ∃ t, exec (.irqHoldoffExpiry p k) s = .next t ∧
      t.out = s.out ++ [.msix p v (getD (0, 0) s.cmd.msix (32 * p + v)).1 (getD (0, 0) s.cmd.msix (32 * p + v)).2]) ∧
  (∀ (p : Fin 8) (v : Fin 32) (a : BitVec 64) (d : Word) (s : State),
    ((p.val, v.val) ∈ s.cmd.pba → s.on F.HIF_PART_STAT_BME [p] = true → ∃ t, exec (.msixVectorUnmask p ⟨v, a, d⟩) s = .next t ∧
      t.out = s.out ++ [.msix p v a d] ∧ ¬ (p.val, v.val) ∈ t.cmd.pba ∧ (p.val, v.val) ∈ t.cmd.unmasked) ∧
    (¬ (p.val, v.val) ∈ s.cmd.pba → ∃ t, exec (.msixVectorUnmask p ⟨v, a, d⟩) s = .next t ∧ t.out = s.out ∧ t.cmd.pba = s.cmd.pba ∧
      (p.val, v.val) ∈ t.cmd.unmasked ∧ getD (0, 0) t.cmd.msix (32 * p + v) = (a, d))) ∧
  (∀ (what : NocReq) (tg : Fin 5) (a : BitVec 40) (s : State), ∃ u,
    exec (.nocTimeout what tg a) s = .next (nocEnd what a.toNat (occur 327 (nocMaster what) u)) ∧
    u.on F.NOC_ERR_VALID [] = true ∧ (s.on F.NOC_ERR_VALID [] = true → u.rd R.NOC_ERR [] = s.rd R.NOC_ERR []) ∧
    (s.on F.NOC_ERR_VALID [] = false → u.g F.NOC_ERR_KIND [] = 1 ∧ u.g F.NOC_ERR_MASTER [] = nocMaster what ∧ u.g F.NOC_ERR_TARGET [] = tg ∧
      u.rd R.NOC_ERR_ADDR_LO [] = BitVec.ofNat 32 a.toNat ∧ u.g F.NOC_ERR_ADDR_HI_ADDR_HI [] = a.toNat / 2 ^ 32)) ∧
  (∀ (what : NocReq) (a : BitVec 40) (s : State), ∃ u,
    exec (.nocDecodeError what a) s = .next (nocEnd what a.toNat (occur 327 (nocMaster what) u)) ∧
    u.on F.NOC_ERR_VALID [] = true ∧ (s.on F.NOC_ERR_VALID [] = true → u.rd R.NOC_ERR [] = s.rd R.NOC_ERR []) ∧
    (s.on F.NOC_ERR_VALID [] = false → u.g F.NOC_ERR_KIND [] = 0 ∧ u.g F.NOC_ERR_MASTER [] = nocMaster what ∧
      u.rd R.NOC_ERR_ADDR_LO [] = BitVec.ofNat 32 a.toNat ∧ u.g F.NOC_ERR_ADDR_HI_ADDR_HI [] = a.toNat / 2 ^ 32)) ∧
  (∀ (p : Fin 8) (c : Fin 9) (o n : Nat) (m : Fin 6) (tg : Fin 5) (a : BitVec 40) (s : State),
    (∃ t, exec (.nocTimeout (.regRead (.part p)) tg a) s = .next t ∧ t.out.getLast? = some (.regRead (.part p) (a.toNat % 2 ^ 26) 0xFFFFFFFF)) ∧
    (∃ t, exec (.nocDecodeError (.regRead .mgmt) a) s = .next t ∧ t.out.getLast? = some (.mgmt 0xA5 [0xFF, 0xFF, 0xFF, 0xFF])) ∧
    (c ≠ 8 → ∃ t, exec (.nocTimeout (.bulkRead c o n) tg a) s = .next t ∧ t.out.getLast? = some (.bdpRead c (List.replicate n 0xFFFFFFFF))) ∧
    (∃ u, exec (.nocTimeout (.plain m) tg a) s = .next (occur 327 m u))) ∧
  (∀ (e : Fin 64) (k : Fin 4) (tg : Fin 5) (a : BitVec 40) (s : State), s.eng.oldReads = [] → (e.val, k.val) ∈ s.eng.engReads →
    ∃ t, exec (.nocTimeout (.fence e k) tg a) s = .next t ∧ ¬ (e.val, k.val) ∈ t.eng.engReads) ∧
  (∀ (i : Fin 11) (s : State), ∃ t, exec (.nocPortIdleEntry i) s = .next t ∧
    t.g F.NOC_IDLE_IDLE [] = s.g F.NOC_IDLE_IDLE [] ||| 2 ^ i.val)

/-- The cellar controller's set-up, training, self-refresh, refresh and reads. CEL_CFG_WRITE by a requester that reaches CEL: a
new GRAIN of 8 or less is taken while the cellar is idle, and is refused with CFG_ERR, the old one standing, while it is not.
CEL_TRAIN_START starts training while idle and else sets TRAIN_REFUSED alone. CEL_TRAIN_DONE in training ends it: with every
channel good the state is ready, else the stack failed and CEL_TRAIN_FAIL becomes true; then the requests that waited are
served. SR_ENTRY on its conditions enters self-refresh, counted in ENTRIES. SR_WAKE from self-refresh outside training begins
the exit, and SR_EXIT_COMPLETE ends it: every bank with a refresh owed or due is refreshed, then the requests that waited are
served. REFRESH_DUE behind live requests with under 4 owed owes one more, else issues all and closes the row. STACK_TEMP_READ
sets TEMP_HIGH and the level source above 85 degrees. CELLAR_READ_COMPLETE of a line reader on a ready cellar makes its line's
bytes arrive unless a word of it is uncorrectable; of the scrubber it writes back the word at its position where a single bit is
wrong (taking INJ), leaves two, and moves on; on a stack not ready nothing is read. SCRUB_PERIOD_END, once PERIOD hours have
passed and saying what the scrubber's place shows, counts a complete pass, else is an occurrence of CEL_SCRUB_LATE, and the next
period begins; else it does nothing. CEL_ECC_CLR clears both error counts. -/
def Obligations.CellarControllerStates : Prop :=
  (∀ (rq : Req) (v : Word) (s : State), Reaches rq .cel s → F.CEL_CFG_GRAIN.of v ≠ s.g F.CEL_CFG_GRAIN [] → F.CEL_CFG_GRAIN.of v ≤ 8 →
    ∃ t, exec (.celCfgWrite rq v) s = .next t ∧
      (celIdle s = true → t.g F.CEL_CFG_GRAIN [] = F.CEL_CFG_GRAIN.of v) ∧
      (celIdle s = false → t.g F.CEL_CFG_GRAIN [] = s.g F.CEL_CFG_GRAIN [] ∧ t.g F.CEL_STAT_CFG_ERR [] = 1)) ∧
  (∀ (rq : Req) (s : State), Reaches rq .cel s → celIdle s = true →
    ∃ t, exec (.celTrainStart rq) s = .next t ∧ t.cel.training = true ∧ t.g F.CEL_STAT_STATE [] = 3) ∧
  (∀ (rq : Req) (s : State), Reaches rq .cel s → celIdle s = false →
    exec (.celTrainStart rq) s = .next (s.p F.CEL_STAT_TRAIN_REFUSED [] 1)) ∧
  (∀ s : State, s.cel.training = true → s.g F.CEL_STAT_STATE [] = 3 → s.cel.wait = [] →
    ∃ t, exec (.celTrainDone 0xFFFF) s = .next t ∧ t.cel.training = false ∧ t.g F.CEL_STAT_STATE [] = 1 ∧
      t.g F.CEL_STAT_TRAIN_FAIL [] = 0 ∧ t.g F.CEL_TRAIN_CH_OK [] = 0xFFFF) ∧
  (∀ (ok : BitVec 16) (s : State), s.cel.training = true → s.g F.CEL_STAT_STATE [] = 3 →
    ∃ u, exec (.celTrainDone ok) s = .next (celServe (level 169 0 (ok != 0xFFFF) u)) ∧ u.cel.training = false ∧ u.cel.wait = s.cel.wait ∧
      u.g F.CEL_STAT_STATE [] = (if ok = 0xFFFF then 1 else 0) ∧ u.g F.CEL_STAT_TRAIN_FAIL [] = (if ok = 0xFFFF then 0 else 1) ∧
      u.g F.CEL_TRAIN_CH_OK [] = ok.toNat) ∧
  (∀ s : State, s.on F.CEL_CFG_SR_EN [] = true → s.g F.CEL_SR_CFG_SR_IDLE [] ≠ 0 → s.g F.CEL_LOAD_LOAD [] = 0 →
    s.g F.CEL_STAT_STATE [] = 1 → s.cel.lastReq + 500 * s.g F.CEL_SR_CFG_SR_IDLE [] ≤ s.ticks →
    ∃ t, exec .srEntry s = .next t ∧ t.g F.CEL_STAT_STATE [] = 2 ∧ t.cel.rows = [] ∧ t.cel.mem = s.cel.mem ∧
      t.g F.CEL_SR_STAT_ENTRIES [] = satAdd 65535 (s.g F.CEL_SR_STAT_ENTRIES []) 1) ∧
  (∀ s : State, s.g F.CEL_STAT_STATE [] = 2 → s.cel.training = false →
    ∃ t, exec .srWake s = .next t ∧ t.g F.CEL_STAT_STATE [] = 3 ∧ t.cel.exiting = true ∧ t.cel.wakeAt = s.ticks) ∧
  (∀ s : State, s.cel.exiting = true →
    ∃ u, exec .srExitComplete s = .next (celServe u) ∧ u.cel.wait = s.cel.wait ∧ u.g F.CEL_STAT_STATE [] = 1 ∧ u.cel.exiting = false ∧
      u.g F.CEL_SR_STAT_LAST_EXIT [] = min 65535 (2 * (s.ticks - s.cel.wakeAt)) ∧
      (∀ b < 1024, 0 < getD 0 s.cel.debt b ∨ getD 0 s.cel.refAt b + refreshTicks s ≤ s.ticks →
        getD 0 u.cel.refAt b = s.ticks ∧ getD 0 u.cel.debt b = 0) ∧
      (s.cel.wait = [] → celServe u = u)) ∧
  (∀ (b : Fin 1024) (live : Bool) (s : State), s.g F.CEL_STAT_STATE [] = 1 → getD 0 s.cel.refAt b + refreshTicks s ≤ s.ticks →
    ∃ t, exec (.refreshDue b live) s = .next t ∧ getD 0 t.cel.refAt b = s.ticks ∧
      getD 0 t.cel.debt b = (if live = true ∧ getD 0 s.cel.debt b < 4 then getD 0 s.cel.debt b + 1 else 0) ∧
      (¬ (live = true ∧ getD 0 s.cel.debt b < 4) → find? t.cel.rows b = none)) ∧
  (∀ (x : Int) (s : State), exec (.stackTempRead x) s =
    .next (level 173 0 (decide (8500 < x)) (s.p F.CEL_STAT_TEMP_HIGH [] (if 8500 < x then 1 else 0)))) ∧
  (∀ (who : CelReader) (us : List (Nat × Nat)) (a n : Nat) (s : State), (∀ x, who ≠ .scrub x) → s.cel.training = false →
    s.g F.CEL_STAT_STATE [] = 1 → lineAt s who = some (a, n) → inCellar a n = true →
    ∃ t, exec (.cellarReadComplete who us) s = .next t ∧ t.cel.mem = s.cel.mem ∧
      ((∀ w ∈ wordsOf a n, celFlips (upsetWords us s) w < 2) → (who, s.celData a n) ∈ t.cel.lines) ∧
      ((∃ w ∈ wordsOf a n, 2 ≤ celFlips (upsetWords us s) w) → ∀ d, ¬ (who, d) ∈ t.cel.lines)) ∧
  (∀ (a : Nat) (us : List (Nat × Nat)) (s : State), s.cel.training = false → s.g F.CEL_STAT_STATE [] = 1 →
    s.on F.CEL_CFG_SCRUB_EN [] = true → a / 32 * 32 = s.cel.scrubPos → inCellar s.cel.scrubPos 32 = true →
    ∃ t, exec (.cellarReadComplete (.scrub a) us) s = .next t ∧ t.cel.mem = s.cel.mem ∧ t.cel.lines = s.cel.lines ∧
      t.cel.scrubPos = s.cel.scrubPos + 32 ∧
      (celFlips (upsetWords us s) s.cel.scrubPos = 1 →
        celFlips t s.cel.scrubPos = s.g F.CEL_ECC_CTRL_INJ [] ∧ t.g F.CEL_ECC_CTRL_INJ [] = 0) ∧
      (celFlips (upsetWords us s) s.cel.scrubPos = 2 → celFlips t s.cel.scrubPos = 2)) ∧
  (∀ (who : CelReader) (us : List (Nat × Nat)) (s : State), s.cel.training = true ∨ s.g F.CEL_STAT_STATE [] ≠ 1 →
    exec (.cellarReadComplete who us) s = .next (upsetWords us s)) ∧
  (∀ s : State, s.on F.CEL_CFG_SCRUB_EN [] = true → s.cel.scrubAt + s.g F.CEL_SCRUB_PERIOD [] * 1800000000000 ≤ s.ticks →
    ∃ u : State, u = { s with cel := { s.cel with
        scrubAt := s.cel.scrubAt + s.g F.CEL_SCRUB_PERIOD [] * 1800000000000
        scrubPos := 0 } } ∧
      exec (.scrubPeriodEnd (decide (2 ^ 34 ≤ s.cel.scrubPos))) s = .next (if 2 ^ 34 ≤ s.cel.scrubPos then (u.bump F.CEL_SCRUB_PASSES [] 1).count 397 1
        else occur 174 0 ((u.p F.CEL_SCRUB_LATE [] 1).count 398 1))) ∧
  (∀ (c : Bool) (s : State), (s.on F.CEL_CFG_SCRUB_EN [] = false ∨ s.ticks < s.cel.scrubAt + s.g F.CEL_SCRUB_PERIOD [] * 1800000000000 ∨
      c ≠ decide (2 ^ 34 ≤ s.cel.scrubPos)) → exec (.scrubPeriodEnd c) s = .next s) ∧
  (∀ (rq : Req) (s : State), Reaches rq .cel s →
    ∃ t, exec (.celEccClr rq) s = .next t ∧ t.g F.CEL_ECC_CE_COUNT [] = 0 ∧ t.g F.CEL_ECC_UE_COUNT [] = 0 ∧ t.cel = s.cel)

/-- The monitor clock, snapshots, the sampling buffer's pointers and the histogram units. MONITOR_TICK outside POR and RESET_N
without a depth sample starts a new tick with nothing seen, ends any snapshot in progress, and adds the command processor's
slots: RETIRED, WASTED and BACK_STARVED as they fell and the rest of 8 FRONT_STARVED; with a depth sample each of the four
classes of the cellar gives its sample to the units attached. SNAP_TAKE by a requester that reaches PMU makes a snapshot begin.
SAMP_READ_WRITE, with the unit out of reset, sets READ, and arms the event again where fewer than NOTIFY entries are left.
SAMP_DROPS_CLR sets DROPS to 0. HIST_CFG_WRITE of a unit not enabled sets its configuration; of an enabled unit, a change of
SEL, INDEX or WIDTH, of LOW or of WINDOW is refused with CFG_ERR alone. HIST_CLEAR empties the bins and SAMPLES, resets MIN and
MAX and clears DONE and OVF, enabled or not. -/
def Obligations.MonitorsTickCopyAndClear : Prop :=
  (∀ (td : List (Nat × Nat × Nat × Nat)) (s : State), s.sys.por = false → s.sys.rstLow = false →
    ∃ t, exec (.monitorTick td none) s = .next t ∧ t.pmu.seen = [] ∧ t.on F.PMU_SNAP_CTRL_BUSY [] = false ∧
      ∀ r w b : Nat, td.find? (fun x => x.1 == 0) = some (0, r, w, b) → r + w + b ≤ 8 →
        getD 0 t.pmu.td 0 = (getD 0 s.pmu.td 0 + r) % 2 ^ 48 ∧ getD 0 t.pmu.td 1 = (getD 0 s.pmu.td 1 + w) % 2 ^ 48 ∧
        getD 0 t.pmu.td 2 = (getD 0 s.pmu.td 2 + b) % 2 ^ 48 ∧
        getD 0 t.pmu.td 3 = (getD 0 s.pmu.td 3 + (8 - (r + w + b))) % 2 ^ 48) ∧
  (∀ (td : List (Nat × Nat × Nat × Nat)) (a b c d : Nat) (s : State), s.sys.por = false → s.sys.rstLow = false →
    exec (.monitorTick td (some (a, b, c, d))) s = .next (snapDone (histSample 5 3 d (histSample 5 2 c (histSample 5 1 b
      (histSample 5 0 a (tickSlots td (tickLevels s)))))))) ∧
  (∀ (rq : Req) (s : State), Reaches rq .pmu s → exec (.snapTake rq) s = .next (s.p F.PMU_SNAP_CTRL_BUSY [] 1)) ∧
  (∀ (rq : Req) (v : Word) (s : State), Reaches rq .pmu s → s.on F.SYS_BLK_RESET_PMU [] = false →
    ∃ t, exec (.sampReadWrite rq v) s = .next t ∧ t.g F.PMU_SAMP_PTR_READ [] = F.PMU_SAMP_PTR_READ.of v ∧
      t.g F.PMU_SAMP_PTR_WRITE [] = s.g F.PMU_SAMP_PTR_WRITE [] ∧
      t.pmu.notified = (s.pmu.notified && decide (s.g F.PMU_SAMP_CFG_NOTIFY [] ≤ sampUnread t))) ∧
  (∀ (rq : Req) (s : State), Reaches rq .pmu s → s.on F.SYS_BLK_RESET_PMU [] = false →
    ∃ t, exec (.sampDropsClr rq) s = .next t ∧ t.g F.PMU_SAMP_STAT_DROPS [] = 0 ∧
      t.g F.PMU_SAMP_STAT_OVF [] = s.g F.PMU_SAMP_STAT_OVF []) ∧
  (∀ (rq : Req) (u : Fin 32) (v : Word) (s : State), Reaches rq .pmu s → s.on F.SYS_BLK_RESET_PMU [] = false →
    s.on F.PMU_HIST_CFG_EN [u] = false → F.PMU_HIST_CFG_CLEAR.of v = 0 →
    (∃ t, exec (.histCfgWrite rq u 0 v) s = .next t ∧ t.g F.PMU_HIST_CFG_EN [u] = F.PMU_HIST_CFG_EN.of v ∧
      t.g F.PMU_HIST_CFG_SEL [u] = F.PMU_HIST_CFG_SEL.of v ∧ t.g F.PMU_HIST_CFG_INDEX [u] = F.PMU_HIST_CFG_INDEX.of v ∧
      t.g F.PMU_HIST_CFG_WIDTH [u] = F.PMU_HIST_CFG_WIDTH.of v) ∧
    (∃ t, exec (.histCfgWrite rq u 1 v) s = .next t ∧ t.rd R.PMU_HIST_LOW [u] = v) ∧
    (∃ t, exec (.histCfgWrite rq u 2 v) s = .next t ∧ t.g F.PMU_HIST_STAT_WINDOW [u] = F.PMU_HIST_STAT_WINDOW.of v)) ∧
  (∀ (rq : Req) (u : Fin 32) (v : Word) (s : State), Reaches rq .pmu s → s.on F.SYS_BLK_RESET_PMU [] = false →
    s.on F.PMU_HIST_CFG_EN [u] = true →
    (F.PMU_HIST_CFG_SEL.of v ≠ s.g F.PMU_HIST_CFG_SEL [u] →
      exec (.histCfgWrite rq u 0 v) s = .next (s.p F.PMU_HIST_STAT_CFG_ERR [u] 1)) ∧
    exec (.histCfgWrite rq u 1 v) s = .next (s.p F.PMU_HIST_STAT_CFG_ERR [u] 1) ∧
    (F.PMU_HIST_STAT_WINDOW.of v ≠ s.g F.PMU_HIST_STAT_WINDOW [u] →
      exec (.histCfgWrite rq u 2 v) s = .next (s.p F.PMU_HIST_STAT_CFG_ERR [u] 1))) ∧
  (∀ (rq : Req) (u : Fin 32) (s : State), Reaches rq .pmu s → s.on F.SYS_BLK_RESET_PMU [] = false →
    ∃ t, exec (.histClear rq u) s = .next t ∧ (∀ b : Fin 64, t.rd R.PMU_HIST_BIN [u, b] = 0) ∧ t.rd R.PMU_HIST_SAMPLES [u] = 0 ∧
      t.rd R.PMU_HIST_MIN [u] = 0x7FFFFFFF ∧ t.rd R.PMU_HIST_MAX [u] = 0x80000000 ∧ t.g F.PMU_HIST_STAT_DONE [u] = 0 ∧
      t.g F.PMU_HIST_STAT_OVF [u] = 0 ∧ t.g F.PMU_HIST_CFG_SEL [u] = s.g F.PMU_HIST_CFG_SEL [u])

/-- Doorbells, and enabling and disabling the command, completion and event rings. CMD_TAIL in the function's own page, with CMD
out of reset, of an enabled ring and a value below its size sets TAIL and announces what is new; of a ring not enabled it sets
DB_ERR and counts. CPL_HEAD and EVT_HEAD set the head for a value below an enabled ring's size and count else. A doorbell in
another function's page writes nothing but WR_DENIED of the function that rang. CMD_RING_ENABLE by a requester that reaches the
page, of a ring not enabled, with a SIZE up to 11 and a VERSION the device has, enables it with its pointers and expected
sequence at 0; with a SIZE above 11 it stays disabled with CFG_ERR. CMD_RING_DISABLE disables it, stops its fetches and forgets
what was announced. CPL_RING_ENABLE and EVT_RING_ENABLE of a ring not enabled enable it with its pointers at reset.
CPL_RING_DISABLE of an enabled ring clears EN and discards the records due; EVT_RING_DISABLE drops its waiting events.
RING_REFUSED_CLR sets REFUSED to 0. -/
def Obligations.RingsEnableAndDoorbells : Prop :=
  (∀ (p r : Fin 8) (v : Word) (s : State), blkHeld s .cmd = false → s.on F.CMD_RING_CFG_EN [p, r] = true →
    v.toNat % 2 ^ 15 < ringEntries (s.g F.CMD_RING_CFG_SIZE [p, r]) →
    ∃ t, exec (.cmdTail p p r v) s = .next t ∧ t.g F.CMD_RING_PTR_TAIL [p, r] = v.toNat % 2 ^ 15 ∧
      t.cmd.bells = s.cmd.bells + 1 ∧
      t.cmd.ann = s.cmd.ann ++ (if s.g F.CMD_RING_PTR_TAIL [p, r] = v.toNat % 2 ^ 15 then []
        else [⟨p, r, v.toNat % 2 ^ 15, s.cmd.bells + 1, s.ticks, s.ptp.tc0.ns⟩])) ∧
  (∀ (p r : Fin 8) (v : Word) (s : State), blkHeld s .cmd = false → s.on F.CMD_RING_CFG_EN [p, r] = false →
    exec (.cmdTail p p r v) s = .next ((s.p F.CMD_RING_STAT_DB_ERR [p, r] 1).count (8 + p) 1)) ∧
  (∀ (fn page r : Fin 8) (v : Word) (s : State), fn ≠ page → blkHeld s .hif = false →
    exec (.cmdTail fn page r v) s = .next ((s.bump F.HIF_PART_STAT_WR_DENIED [fn] 1).count fn 1)) ∧
  (∀ (p : Fin 8) (v : Word) (s : State), blkHeld s .cmd = false →
    exec (.cplHead p p v) s = .next (if s.on F.CMD_CPL_CFG_EN [p] = true ∧ v.toNat % 2 ^ 15 < ringEntries (s.g F.CMD_CPL_CFG_SIZE [p])
      then s.p F.CMD_CPL_PTR_HOST_HEAD [p] (v.toNat % 2 ^ 15) else s.count (8 + p) 1) ∧
    exec (.evtHead p p v) s = .next (if s.on F.CMD_EVT_CFG_EN [p] = true ∧ v.toNat % 2 ^ 15 < ringEntries (s.g F.CMD_EVT_CFG_SIZE [p])
      then s.p F.CMD_EVT_PTR_HOST_HEAD [p] (v.toNat % 2 ^ 15) else s.count (8 + p) 1)) ∧
  (∀ (rq : Req) (p r : Fin 8) (v : Word) (s : State), ReachesPage rq .cmd p s → s.on F.CMD_RING_CFG_EN [p, r] = false →
    ∃ t, exec (.cmdRingEnable rq p r v) s = .next t ∧
      (F.CMD_RING_CFG_SIZE.of v ≤ 11 → 1 ≤ F.CMD_RING_CFG_VERSION.of v →
        bitOf (s.g F.CMD_CAPS_VERSIONS []) (F.CMD_RING_CFG_VERSION.of v - 1) = true →
        t.on F.CMD_RING_CFG_EN [p, r] = true ∧ t.g F.CMD_RING_CFG_SIZE [p, r] = F.CMD_RING_CFG_SIZE.of v ∧
        t.g F.CMD_RING_CFG_VERSION [p, r] = F.CMD_RING_CFG_VERSION.of v ∧ t.rd R.CMD_RING_PTR [p, r] = 0 ∧
        t.rd R.CMD_RING_SEQ [p, r] = 0) ∧
      (11 < F.CMD_RING_CFG_SIZE.of v → t.on F.CMD_RING_CFG_EN [p, r] = false ∧ t.g F.CMD_RING_STAT_CFG_ERR [p, r] = 1)) ∧
  (∀ (rq : Req) (p r : Fin 8) (v : Word) (s : State), ReachesPage rq .cmd p s → s.on F.CMD_RING_CFG_EN [p, r] = true →
    ∃ t, exec (.cmdRingDisable rq p r v) s = .next t ∧ t.on F.CMD_RING_CFG_EN [p, r] = false ∧
      (∀ x ∈ t.cmd.flight, ¬ (x.part = p.val ∧ x.ring = r.val)) ∧ (∀ x ∈ t.cmd.ann, ¬ (x.part = p.val ∧ x.ring = r.val)) ∧
      t.cmd.fetched = s.cmd.fetched) ∧
  (∀ (rq : Req) (p : Fin 8) (v : Word) (s : State), ReachesPage rq .cmd p s → s.on F.CMD_CPL_CFG_EN [p] = false →
    F.CMD_CPL_CFG_SIZE.of v ≤ 11 →
    ∃ t, exec (.cplRingEnable rq p v) s = .next t ∧ t.on F.CMD_CPL_CFG_EN [p] = true ∧
      t.g F.CMD_CPL_CFG_SIZE [p] = F.CMD_CPL_CFG_SIZE.of v ∧ t.rd R.CMD_CPL_PTR [p] = 0x80000000) ∧
  (∀ (rq : Req) (p : Fin 8) (v : Word) (s : State), ReachesPage rq .cmd p s → s.on F.CMD_CPL_CFG_EN [p] = true →
    ∃ u, exec (.cplRingDisable rq p v) s = .next (discardDue p u) ∧ u.on F.CMD_CPL_CFG_EN [p] = false ∧ u.cmd = s.cmd) ∧
  (∀ (rq : Req) (p : Fin 8) (v : Word) (s : State), ReachesPage rq .cmd p s → s.on F.CMD_EVT_CFG_EN [p] = false →
    F.CMD_EVT_CFG_SIZE.of v ≤ 11 →
    ∃ t, exec (.evtRingEnable rq p v) s = .next t ∧ t.on F.CMD_EVT_CFG_EN [p] = true ∧
      t.g F.CMD_EVT_CFG_SIZE [p] = F.CMD_EVT_CFG_SIZE.of v ∧ t.g F.CMD_EVT_CFG_CAD [p] = F.CMD_EVT_CFG_CAD.of v ∧
      t.rd R.CMD_EVT_PTR [p] = 0x80000000 ∧ t.g F.CMD_EVT_STAT_LOST_TOTAL [p] = 0) ∧
  (∀ (rq : Req) (p : Fin 8) (v : Word) (s : State), ReachesPage rq .cmd p s → s.on F.CMD_EVT_CFG_EN [p] = true →
    ∃ t, exec (.evtRingDisable rq p v) s = .next t ∧ t.on F.CMD_EVT_CFG_EN [p] = false ∧
      t.cmd.evq = s.cmd.evq.filter (fun e => e.part != p.val)) ∧
  (∀ (rq : Req) (p r : Fin 8) (s : State), ReachesPage rq .cmd p s →
    ∃ t, exec (.ringRefusedClr rq p r) s = .next t ∧ t.g F.CMD_RING_STAT_REFUSED [p, r] = 0 ∧ t.cmd = s.cmd)

/-- Descriptors are fetched in ring order, and completion and event records are written in two posted writes. DESCRIPTOR_FETCH
of a number of entries the ring may fetch, when the ring is next in turn, reads them from host memory and passes the turn on;
the ring in turn can fetch, is of the highest PRIO that can in its partition, and there is one whenever any ring can.
FETCH_COMPLETE of the ring's oldest fetch, with as many entries, puts their descriptors at the end of those fetched and ends
that fetch. COMPLETION_RECORD_WRITE, with a record due that the host has room for and BME set, writes it as 28 bytes and then
the 4 with PHASE, advances WRITE and takes it from those due. EVENT_RECORD_WRITE of a waiting event with room does the same on
the event ring, and LOST_ONLY with lost events pending, its mask bit set, none waiting and room writes a record of code 0 and
sets PENDING to 0. -/
def Obligations.RingsFetchAndWriteRecords : Prop :=
  (∀ (p r : Nat) (s : State), nextFetch s = some (p, r) → p < 8 ∧ r < 8 ∧ 0 < (fetchable s p r).2 ∧
    ∀ q ∈ allParts, 0 < (fetchable s p q).2 → s.g F.CMD_RING_CFG_PRIO [p, q] ≤ s.g F.CMD_RING_CFG_PRIO [p, r]) ∧
  (∀ (p r : Fin 8) (s : State), 0 < (fetchable s p r).2 → (nextFetch s).isSome = true) ∧
  (∀ (p r : Fin 8) (n : Nat) (s : State), 1 ≤ n → n ≤ (fetchable s p r).2 → nextFetch s = some (p.val, r.val) →
    ∃ t, exec (.descriptorFetch p r n) s = .next t ∧ t.cmd.flight = s.cmd.flight ++ [⟨p, r, (fetchable s p r).1, n⟩] ∧
      t.out = s.out ++ [.hostRead p (s.g F.CMD_RING_BASE_HI_ADDR_HI [p, r] * 2 ^ 32 +
        s.g F.CMD_RING_BASE_LO_ADDR_LO [p, r] * 2 ^ 12 + 64 * (fetchable s p r).1) (64 * n)] ∧ t.cmd.rrPart = (p + 1) % 8 ∧
      getD 0 t.cmd.rrRing p = (r + 1) % 8 ∧
      (bitOf (s.g F.NOC_IDLE_IDLE []) 2 = false → bitOf (s.g F.NOC_IDLE_IDLE []) 9 = false → t.regs = s.regs)) ∧
  (∀ (p r : Fin 8) (data : List (BitVec 512)) (x : Flight) (s : State),
    s.cmd.flight.find? (fun y => y.part == p.val && y.ring == r.val) = some x → data.length = x.count →
    ∃ t, exec (.fetchComplete p r data) s = .next t ∧ t.cmd.fetched.map (·.bits) = s.cmd.fetched.map (·.bits) ++ data ∧
      t.cmd.flight = eraseFirst (fun y => y.part == p.val && y.ring == r.val) s.cmd.flight) ∧
  (∀ (p : Fin 8) (x : Due) (s : State), s.cmd.due.find? (fun y => y.tok.part == p.val) = some x →
    s.on F.HIF_PART_STAT_BME [p] = true → s.on F.CMD_CPL_CFG_EN [p] = true →
    (s.g F.CMD_CPL_PTR_WRITE [p] + 1) % ringEntries (s.g F.CMD_CPL_CFG_SIZE [p]) ≠ s.g F.CMD_CPL_PTR_HOST_HEAD [p] →
    x.tok.period = false → s.on F.PMU_SAMP_CFG_LAT_EN [] = false →
    ∃ t v rest, exec (.completionRecordWrite p) s = .next t ∧
      t.out = s.out ++ [.hostWrite p (s.g F.CMD_CPL_BASE_HI_ADDR_HI [p] * 2 ^ 32 + s.g F.CMD_CPL_BASE_LO_ADDR_LO [p] * 2 ^ 12 +
          32 * s.g F.CMD_CPL_PTR_WRITE [p]) 28 (v % 2 ^ 224),
        .hostWrite p (s.g F.CMD_CPL_BASE_HI_ADDR_HI [p] * 2 ^ 32 + s.g F.CMD_CPL_BASE_LO_ADDR_LO [p] * 2 ^ 12 +
          32 * s.g F.CMD_CPL_PTR_WRITE [p] + 28) 4 (v / 2 ^ 224)] ++ rest ∧
      t.g F.CMD_CPL_PTR_WRITE [p] = (s.g F.CMD_CPL_PTR_WRITE [p] + 1) % ringEntries (s.g F.CMD_CPL_CFG_SIZE [p]) % 2 ^ 15 ∧
      t.cmd.due = eraseFirst (fun y => y.tok.part == p.val) s.cmd.due) ∧
  (∀ (p : Fin 8) (x : Due) (s : State), s.cmd.due.find? (fun y => y.tok.part == p.val) = some x →
    s.on F.HIF_PART_STAT_BME [p] = true → s.on F.CMD_CPL_CFG_EN [p] = true →
    (s.g F.CMD_CPL_PTR_WRITE [p] + 1) % ringEntries (s.g F.CMD_CPL_CFG_SIZE [p]) ≠ s.g F.CMD_CPL_PTR_HOST_HEAD [p] →
    ∃ u v, exec (.completionRecordWrite p) s = .next (raiseIrq p 0 ((sample x.tok x.code false u).count (32 + 8 * p.val + 5) 1)) ∧
      u.out = s.out ++ [.hostWrite p (s.g F.CMD_CPL_BASE_HI_ADDR_HI [p] * 2 ^ 32 + s.g F.CMD_CPL_BASE_LO_ADDR_LO [p] * 2 ^ 12 +
          32 * s.g F.CMD_CPL_PTR_WRITE [p]) 28 (v % 2 ^ 224),
        .hostWrite p (s.g F.CMD_CPL_BASE_HI_ADDR_HI [p] * 2 ^ 32 + s.g F.CMD_CPL_BASE_LO_ADDR_LO [p] * 2 ^ 12 +
          32 * s.g F.CMD_CPL_PTR_WRITE [p] + 28) 4 (v / 2 ^ 224)] ∧
      u.g F.CMD_CPL_PTR_WRITE [p] = (s.g F.CMD_CPL_PTR_WRITE [p] + 1) % ringEntries (s.g F.CMD_CPL_CFG_SIZE [p]) % 2 ^ 15 ∧
      u.cmd.due = eraseFirst (fun y => y.tok.part == p.val) s.cmd.due) ∧
  (∀ (p : Fin 8) (e : Evt) (s : State), s.cmd.evq.find? (fun y => y.part == p.val) = some e → evtSlotFree s p = true →
    ∃ t, exec (.eventRecordWrite p) s = .next t ∧ t.cmd.evq = eraseFirst (fun y => y.part == p.val) s.cmd.evq ∧
      t.g F.CMD_EVT_PTR_WRITE [p] = (s.g F.CMD_EVT_PTR_WRITE [p] + 1) % ringEntries (s.g F.CMD_EVT_CFG_SIZE [p]) % 2 ^ 15 ∧
      t.g F.CMD_EVT_STAT_PENDING [p] = 0 ∧ s.out.length + 2 ≤ t.out.length) ∧
  (∀ (p : Fin 8) (s : State), 0 < s.g F.CMD_EVT_STAT_PENDING [p] → bitOf (s.g F.CMD_EVT_MASK_MASK [p]) 0 = true → (∀ e ∈ s.cmd.evq, e.part ≠ p.val) → evtSlotFree s p = true →
    ∃ t, exec (.lostOnly p) s = .next t ∧ t.cmd.evq = s.cmd.evq ∧ t.g F.CMD_EVT_STAT_PENDING [p] = 0 ∧
      t.g F.CMD_EVT_PTR_WRITE [p] = (s.g F.CMD_EVT_PTR_WRITE [p] + 1) % ringEntries (s.g F.CMD_EVT_CFG_SIZE [p]) % 2 ^ 15 ∧
      s.out.length + 2 ≤ t.out.length)

/-- A layout write is accepted only where every used sub-slot belongs to a whole group of one class; else the layout stays and
ERR is set. For both directions and every lane-facing or packet slot, by a requester that reaches XPT, with no valid entry of
either bank in the way: a word in which every sub-slot whose code is not 0 belongs to a complete group whose sub-slots all carry
that code is written whole and no other register changes; any other word leaves the layout register as it was and sets
XPT_LAYOUT_STAT.ERR, with the direction and the slot. -/
def Obligations.LayoutWritesNeedWholeGroups : Prop :=
  (∀ (rq : Req) (i : Fin 1280) (v : Word) (s : State), Reaches rq .xpt s → i.val < 1152 →
    (∀ e ∈ liveEntries s ++ loftEntries s, eValid e.2 = true → (eSource e.2).1 ≠ i.val) →
    (layoutComplete v = true → exec (.srcLayoutWrite rq i v) s = .next (s.wr R.XPT_SRC_LAYOUT [i] v)) ∧
    (layoutComplete v = false → ∃ t, exec (.srcLayoutWrite rq i v) s = .next t ∧
      t.rd R.XPT_SRC_LAYOUT [i] = s.rd R.XPT_SRC_LAYOUT [i] ∧ t.g F.XPT_LAYOUT_STAT_ERR [] = 1 ∧
      t.g F.XPT_LAYOUT_STAT_LAST_DIR [] = 0 ∧ t.g F.XPT_LAYOUT_STAT_LAST_INDEX [] = i)) ∧
  (∀ (rq : Req) (i : Fin 1280) (v : Word) (s : State), Reaches rq .xpt s → i.val < 1152 →
    (∀ e ∈ liveEntries s ++ loftEntries s, eValid e.2 = true → e.1 / 8 ≠ i.val) →
    (layoutComplete v = true → exec (.dstLayoutWrite rq i v) s = .next (s.wr R.XPT_DST_LAYOUT [i] v)) ∧
    (layoutComplete v = false → ∃ t, exec (.dstLayoutWrite rq i v) s = .next t ∧
      t.rd R.XPT_DST_LAYOUT [i] = s.rd R.XPT_DST_LAYOUT [i] ∧ t.g F.XPT_LAYOUT_STAT_ERR [] = 1 ∧
      t.g F.XPT_LAYOUT_STAT_LAST_DIR [] = 1 ∧ t.g F.XPT_LAYOUT_STAT_LAST_INDEX [] = i)) ∧
  (∀ v : Word, layoutComplete v = true ↔ ∀ k : Fin 8, layoutSub v k ≠ 0 → ∃ m, legalBase (layoutSub v k) m = true ∧
    k.val ∈ groupSubs (layoutSub v k) m ∧ ∀ j ∈ groupSubs (layoutSub v k) m, layoutSub v j = layoutSub v k)

/-- Crossing modes, the probe, parity errors, and what occupies a slot. XING_MODE_WRITE by a requester that reaches XPT sets
MODE; with MODE 1 FIXED_ACTIVE follows whether the references are common, lanes that fell back are re-armed and, where they are
common, exactly the lanes in UP are due to start; with MODE 0 no lane is fixed or due. FIXED_LATENCY_START of a lane due and in
UP holds it at the measured h. XING_FALLBACK of a lane in fixed-latency operation makes it elastic, sets FALLBACK for the device
and the lane and raises source 85 with the lane. PROBE_ARM of an idle probe out of reset arms it at the point written with DONE
0; PROBE_CANCEL leaves it not armed; PROBE_CAPTURE by an armed probe, of a word of the record that passes its point and that
TRIG accepts, records the word and its tags, clears ARM and sets DONE; before a record passes, or for a word that is not valid,
it does nothing. BUS_PARITY_ERROR sets PAR_ERR of its bus and raises its source; SEL_PARITY_ERROR raises source 84 with the
entry. A layout write of a slot that a valid entry of either bank uses leaves the layout and sets BUSY. -/
def Obligations.CrossingsProbeAndParity : Prop :=
  (∀ (rq : Req) (v : Word) (s : State), Reaches rq .xpt s →
    ∃ t, exec (.xingModeWrite rq v) s = .next t ∧ t.g F.XPT_XING_CFG_MODE [] = F.XPT_XING_CFG_MODE.of v ∧
      (F.XPT_XING_CFG_MODE.of v = 1 → t.on F.XPT_XING_STAT_FIXED_ACTIVE [] = Sys2Proof.Config.refsCommon ∧ t.xpt.fellBack = [] ∧
        (Sys2Proof.Config.refsCommon = true → ∀ n : Fin 576, n.val ∈ t.xpt.fixedDue ↔ laneUp s n = true)) ∧
      (F.XPT_XING_CFG_MODE.of v = 0 → t.on F.XPT_XING_STAT_FIXED_ACTIVE [] = false ∧ t.xpt.fixed = [] ∧ t.xpt.fixedDue = [])) ∧
  (∀ (n : Fin 576) (h : Fin 16) (s : State), n.val ∈ s.xpt.fixedDue → laneUp s n = true → s.on F.XPT_XING_STAT_FIXED_ACTIVE [] = true →
    ∃ t, exec (.fixedLatencyStart n h) s = .next t ∧ t.g F.XPT_RX_HOLD_HELD [n] = 1 ∧ t.g F.XPT_RX_HOLD_HOLD [n] = h ∧
      n.val ∈ t.xpt.fixed ∧ ¬ n.val ∈ t.xpt.fixedDue) ∧
  (∀ (n : Fin 576) (s : State), n.val ∈ s.xpt.fixed →
    ∃ u, exec (.xingFallback n) s = .next (occur 85 n u) ∧ ¬ n.val ∈ u.xpt.fixed ∧ n.val ∈ u.xpt.fellBack ∧
      u.on F.XPT_XING_STAT_FALLBACK [] = true ∧ u.on F.ZL_LANE_STAT_XING_FALLBACK [n] = true) ∧
  (∀ (rq : Req) (v : Word) (s : State), Reaches rq .xpt s → s.on F.SYS_BLK_RESET_XPT [] = false → s.on F.XPT_PROBE_CTRL_ARM [] = false →
    ∃ t, exec (.probeArm rq v) s = .next t ∧ t.on F.XPT_PROBE_CTRL_ARM [] = true ∧ t.on F.XPT_PROBE_CTRL_DONE [] = false ∧
      t.g F.XPT_PROBE_CTRL_MODE [] = F.XPT_PROBE_CTRL_MODE.of v ∧ t.g F.XPT_PROBE_CTRL_TRIG [] = F.XPT_PROBE_CTRL_TRIG.of v ∧
      t.g F.XPT_PROBE_CTRL_BUS [] = F.XPT_PROBE_CTRL_BUS.of v ∧ t.g F.XPT_PROBE_CTRL_SUBPHASE [] = F.XPT_PROBE_CTRL_SUBPHASE.of v) ∧
  (∀ (rq : Req) (v : Word) (s : State), Reaches rq .xpt s → s.on F.SYS_BLK_RESET_XPT [] = false →
    ∃ t, exec (.probeCancel rq v) s = .next t ∧ t.on F.XPT_PROBE_CTRL_ARM [] = false ∧ t.g F.XPT_PROBE_CTRL_DONE [] = s.g F.XPT_PROBE_CTRL_DONE [] ∧
      (s.on F.XPT_PROBE_CTRL_ARM [] = true → t.g F.XPT_PROBE_CTRL_BUS [] = s.g F.XPT_PROBE_CTRL_BUS [])) ∧
  (∀ (k cycle : Nat) (r : LineRec) (w : BusWord) (s : State), s.xpt.probe = some r → r.words[k]? = some w →
    s.on F.XPT_PROBE_CTRL_ARM [] = true → (s.on F.XPT_PROBE_CTRL_TRIG [] = true → k = 0) →
    ∃ t, exec (.probeCapture w true (k == 0) (k + 1 == r.words.length) cycle) s = .next t ∧ (∀ i : Fin 4, t.rd R.XPT_PROBE_WORD [i] = w.extractLsb' (32 * i) 32) ∧
      t.g F.XPT_PROBE_TAG_CYCLE [] = cycle % 2 ^ 16 ∧ t.g F.XPT_PROBE_TAG_SOR [] = b2n (k == 0) ∧ t.g F.XPT_PROBE_TAG_EOR [] = b2n (k + 1 == r.words.length) ∧
      t.g F.XPT_PROBE_TAG_VALID [] = 1 ∧ t.on F.XPT_PROBE_CTRL_ARM [] = false ∧ t.on F.XPT_PROBE_CTRL_DONE [] = true) ∧
  (∀ (w : BusWord) (valid sor eor : Bool) (cycle : Nat) (s : State), s.xpt.probe = none ∨ valid = false →
    exec (.probeCapture w valid sor eor cycle) s = .next s) ∧
  (∀ (b : Fin 80) (s : State), ∃ u, exec (.busParityError b) s = .next (occur (4 + b) 0 u) ∧ u.on F.XPT_BUS_STAT_PAR_ERR [b] = true) ∧
  (∀ (i : Fin 10240) (s : State), exec (.selParityError i) s = .next (occur 84 i (s.count 176 1))) ∧
  (∀ (rq : Req) (i : Fin 1280) (v : Word) (s : State), Reaches rq .xpt s → i.val < 1152 →
    ((∃ e ∈ liveEntries s ++ loftEntries s, eValid e.2 = true ∧ (eSource e.2).1 = i.val) →
      ∃ t, exec (.srcLayoutWrite rq i v) s = .next t ∧ t.rd R.XPT_SRC_LAYOUT [i] = s.rd R.XPT_SRC_LAYOUT [i] ∧
        t.g F.XPT_LAYOUT_STAT_BUSY [] = 1) ∧
    ((∃ e ∈ liveEntries s ++ loftEntries s, eValid e.2 = true ∧ e.1 / 8 = i.val) →
      ∃ t, exec (.dstLayoutWrite rq i v) s = .next t ∧ t.rd R.XPT_DST_LAYOUT [i] = s.rd R.XPT_DST_LAYOUT [i] ∧
        t.g F.XPT_LAYOUT_STAT_BUSY [] = 1))

/-- Generator configurations are judged, wait for their frame start and take effect there. GEN_CFG_WRITE by a requester that
reaches XPT, of a generator that follows its own configuration, with a configuration that is not refused and whose charge is
admitted: it is written, charged and waits. Where it takes no budget before or after, XPT_GEN_CFG reads as written from then on
and the change waits, on a running cadence for a frame start at least 10 us ahead. One that is refused sets CFG_ERR alone; one
whose charge is not admitted sets ADMIT_ERR and leaves the configuration. A write to a generator that follows another changes
nothing. GEN_CFG_APPLY of a waiting change, at line 1 of its running cadence, in a frame that began at or after the instant it
waits for, makes the generator run XPT_GEN_CFG and the slate address as they stand, and the change waits no more; anywhere else
it changes nothing. GEN_CLR_REPEATS sets REPEATS to 0. The charge of a generator is that of its picture where it is enabled with
SLATE, else 0. -/
def Obligations.GeneratorsFollowTheirConfiguration : Prop :=
  (∀ (rq : Req) (g : Fin 64) (v : Word) (s : State), Reaches rq .xpt s → genLead s g = g.val → genRefused s g v = false →
    genCharge s (s.rd R.XPT_GEN_CFG [g]) = 0 → genCharge s v = 0 → withinBudget s (s.g F.CEL_LOAD_LOAD []) = true →
    ∃ t, exec (.genCfgWrite rq g v) s = .next t ∧ t.g F.XPT_GEN_CFG_ENABLE [g] = F.XPT_GEN_CFG_ENABLE.of v ∧
      t.g F.XPT_GEN_CFG_CLASS [g] = F.XPT_GEN_CFG_CLASS.of v ∧ t.g F.XPT_GEN_CFG_CADENCE [g] = F.XPT_GEN_CFG_CADENCE.of v ∧
      t.g F.XPT_GEN_CFG_PATTERN [g] = F.XPT_GEN_CFG_PATTERN.of v ∧ t.g F.XPT_GEN_CFG_COLOUR [g] = F.XPT_GEN_CFG_COLOUR.of v ∧
      find? t.xpt.genWait g = some ⟨if (s.cad (F.XPT_GEN_CFG_CADENCE.of v)).running
        then some (s.ticks + 5000) else none⟩ ∧ t.xpt.genOn = s.xpt.genOn) ∧
  (∀ (rq : Req) (g : Fin 64) (v : Word) (s : State), Reaches rq .xpt s → genLead s g = g.val → genRefused s g v = true →
    exec (.genCfgWrite rq g v) s = .next (s.p F.XPT_GEN_STAT_CFG_ERR [g] 1)) ∧
  (∀ (rq : Req) (g : Fin 64) (v : Word) (s : State), Reaches rq .xpt s → genLead s g = g.val → genRefused s g v = false →
    admits s (genCharge s (s.rd R.XPT_GEN_CFG [g])) (genCharge s v) = true →
    exec (.genCfgWrite rq g v) s =
      .next (genWaits g (charge (genCharge s (s.rd R.XPT_GEN_CFG [g])) (genCharge s v) (s.write R.XPT_GEN_CFG [g] v)))) ∧
  (∀ (rq : Req) (g : Fin 64) (v : Word) (s : State), Reaches rq .xpt s → genLead s g = g.val → genRefused s g v = false →
    admits s (genCharge s (s.rd R.XPT_GEN_CFG [g])) (genCharge s v) = false →
    ∃ t, exec (.genCfgWrite rq g v) s = .next t ∧ t.on F.XPT_GEN_STAT_ADMIT_ERR [g] = true ∧
      t.rd R.XPT_GEN_CFG [g] = s.rd R.XPT_GEN_CFG [g] ∧ t.xpt = s.xpt) ∧
  (∀ (rq : Req) (g : Fin 64) (v : Word) (s : State), Reaches rq .xpt s → genLead s g ≠ g.val →
    exec (.genCfgWrite rq g v) s = .next s) ∧
  (∀ (g : Fin 64) (w : GenWait) (s : State), find? s.xpt.genWait g = some w →
    (s.cad (s.g F.XPT_GEN_CFG_CADENCE [g])).running = true → (s.cad (s.g F.XPT_GEN_CFG_CADENCE [g])).line = 1 →
    (∀ n, w.after = some n → n ≤ (s.cad (s.g F.XPT_GEN_CFG_CADENCE [g])).frameTick) →
    ∃ t, exec (.genCfgApply g) s = .next t ∧ find? t.xpt.genWait g = none ∧ t.regs = s.regs ∧
      find? t.xpt.genOn g = some ⟨s.rd R.XPT_GEN_CFG [g],
        s.g F.XPT_GEN_SLATE_HI_ADDR_HI [g] * 2 ^ 32 + s.g F.XPT_GEN_SLATE_LO_ADDR_LO [g] * 2 ^ 12⟩) ∧
  (∀ (g : Fin 64) (s : State), (find? s.xpt.genWait g = none ∨ (s.cad (s.g F.XPT_GEN_CFG_CADENCE [g])).running = false ∨
      (s.cad (s.g F.XPT_GEN_CFG_CADENCE [g])).line ≠ 1 ∨
      ∃ n, find? s.xpt.genWait g = some ⟨some n⟩ ∧ (s.cad (s.g F.XPT_GEN_CFG_CADENCE [g])).frameTick < n) →
    exec (.genCfgApply g) s = .next s) ∧
  (∀ (rq : Req) (g : Fin 64) (v : Word) (s : State), Reaches rq .xpt s → F.XPT_GEN_STAT_CLR_REPEATS.of v = 1 →
    ∃ t, exec (.genClrRepeats rq g v) s = .next t ∧ t.g F.XPT_GEN_STAT_REPEATS [g] = 0 ∧ t.xpt = s.xpt)

/-- Stuffing and scrambling of a ZL frame are undone by the receiver, and stuffed data never holds a run longer than 24. For
every sequence of bits: descrambling what was scrambled gives it back; removing stuffed bits from what was stuffed gives it back
with no violation; the line is longer by exactly the stuffed bits; and a stuffed line holds no run of 25 identical bits. That
the generator's output is its last stage is the model's reading (log 48); the statement holds for either. -/
def Obligations.LinkCodingRoundTrips : Prop :=
  (∀ bits : List Bool, scramble (scramble bits) = bits) ∧
  (∀ bits : List Bool, destuff (stuff bits).1 = (bits, 0)) ∧
  (∀ bits : List Bool, (stuff bits).1.length = bits.length + (stuff bits).2) ∧
  (∀ (bits : List Bool) (v : Bool), ¬ List.replicate 25 v <:+: (stuff bits).1)

/-- The training states of a lane, what fails one, and how peer windows report it. LANE_CTRL_WRITE by a requester that reaches
ZL without TEST or a manual code sets the enables, and of a lane in state 0 with RX_EN starts training at 1; of a lane not in UP
without RX_EN leaves it in state 0. RETRAIN of an enabled lane sends it to state 1. TRAIN_STATE_ADVANCE moves an enabled lane on
where its state's condition holds: 1 to 2 at once with a manual code, after 1,024 us with the code the sweep keeps; 2 to 3 after
10 us on ZL; 3 to 4 after 4 frames; 4 to 5 after 8; 5 to UP after 4 agreeing headers, with its version shown and, on a lane of
the weave, its hold fixed. TRAIN_TIMEOUT of a state whose limit has passed goes where the limit leads, with ATTEMPTS counted and
LAST_FAIL. BACKOFF_EXPIRY after 1 ms in state 7 starts at 1. CDR_LOSS_OF_LOCK and COMMA_LOSS send a lane in UP to 2 and 3.
QUAD_PLL_LOSS clears PLL_LOCK and sends its lanes in UP to 2; QUAD_PLL_RELOCK sets it where a lane of the quad is enabled and
the reference clock that REFCLK selects is there, and else changes nothing. A lane that leaves UP has UP 0, no version, no
record waiting for its bus, its hold not fixed, the alignment of its 16 signals invalid, and its failure judged by its peer.
PEER_WINDOW_CLOSE of a window that has ended reports each failure it held. -/
def Obligations.LanesTrainAndFail : Prop :=
  (∀ (rq : Req) (n : Fin 584) (v : Word) (s : State), Reaches rq .zl s → F.ZL_LANE_CTRL_TEST.of v = 0 → F.ZL_LANE_CTRL_CTLE_MANUAL.of v = 0 →
    (F.ZL_LANE_CTRL_RX_EN.of v = 1 → s.g F.ZL_LANE_STAT_TRAIN_STATE [n] = 0 →
      ∃ t, exec (.laneCtrlWrite rq n v) s = .next t ∧ t.g F.ZL_LANE_STAT_TRAIN_STATE [n] = 1 ∧ t.on F.ZL_LANE_CTRL_RX_EN [n] = true ∧
        t.g F.ZL_LANE_CTRL_TX_EN [n] = F.ZL_LANE_CTRL_TX_EN.of v ∧ (t.lane n).since = s.ticks) ∧
    (F.ZL_LANE_CTRL_RX_EN.of v = 0 → laneUp s n = false →
      ∃ t, exec (.laneCtrlWrite rq n v) s = .next t ∧ t.g F.ZL_LANE_STAT_TRAIN_STATE [n] = 0 ∧ t.on F.ZL_LANE_CTRL_RX_EN [n] = false)) ∧
  (∀ (rq : Req) (n : Fin 584) (s : State), Reaches rq .zl s → s.on F.ZL_LANE_CTRL_RX_EN [n] = true →
    exec (.retrain rq n) s = .next (leaveUp occur n 1 s)) ∧
  (∀ (n : Fin 584) (code h : Fin 16) (s : State), s.on F.ZL_LANE_CTRL_RX_EN [n] = true →
    ∃ t, exec (.trainStateAdvance n code h) s = .next t ∧
      (s.g F.ZL_LANE_STAT_TRAIN_STATE [n] = 1 → s.on F.ZL_LANE_CTRL_CTLE_MANUAL [n] = true →
        t.g F.ZL_LANE_STAT_TRAIN_STATE [n] = 2 ∧ t.g F.ZL_LANE_STAT_CTLE_USED [n] = s.g F.ZL_LANE_CTRL_CTLE_CODE [n]) ∧
      (s.g F.ZL_LANE_STAT_TRAIN_STATE [n] = 1 → s.on F.ZL_LANE_CTRL_CTLE_MANUAL [n] = false → usTicks 1024 ≤ s.ticks - (s.lane n).since →
        t.g F.ZL_LANE_STAT_TRAIN_STATE [n] = 2 ∧ t.g F.ZL_LANE_STAT_CTLE_USED [n] = code) ∧
      (s.g F.ZL_LANE_STAT_TRAIN_STATE [n] = 2 → runsZl s n = true → usTicks 10 ≤ s.ticks - (s.lane n).since →
        t.g F.ZL_LANE_STAT_TRAIN_STATE [n] = 3) ∧
      (s.g F.ZL_LANE_STAT_TRAIN_STATE [n] = 3 → 4 ≤ (s.lane n).passes → t.g F.ZL_LANE_STAT_TRAIN_STATE [n] = 4) ∧
      (s.g F.ZL_LANE_STAT_TRAIN_STATE [n] = 4 → 8 ≤ (s.lane n).passes → t.g F.ZL_LANE_STAT_TRAIN_STATE [n] = 5) ∧
      (s.g F.ZL_LANE_STAT_TRAIN_STATE [n] = 5 → runsZl s n = true → 4 ≤ (s.lane n).useEq →
        t.g F.ZL_LANE_STAT_TRAIN_STATE [n] = 6 ∧ laneUp t n = true ∧ t.g F.ZL_LANE_STAT_VER [n] = (s.lane n).use % 4 ∧
        (n.val < 576 → t.on F.XPT_RX_HOLD_HELD [n] = true ∧ t.g F.XPT_RX_HOLD_HOLD [n] = h))) ∧
  (∀ (n : Fin 584) (lim upTo : Nat) (s : State), trainLimit (s.g F.ZL_LANE_STAT_TRAIN_STATE [n]) = some (lim, upTo) →
    lim ≤ s.ticks - (s.lane n).since →
    ∃ t, exec (.trainTimeout n) s = .next t ∧ t.g F.ZL_LANE_STAT_TRAIN_STATE [n] = upTo ∧
      t.g F.ZL_LANE_TRAIN_LAST_FAIL [n] = s.g F.ZL_LANE_STAT_TRAIN_STATE [n]) ∧
  (∀ (n : Fin 584) (s : State), s.g F.ZL_LANE_STAT_TRAIN_STATE [n] = 7 → usTicks 1000 ≤ s.ticks - (s.lane n).since →
    ∃ t, exec (.backoffExpiry n) s = .next t ∧ t.g F.ZL_LANE_STAT_TRAIN_STATE [n] = 1) ∧
  (∀ (n : Fin 584) (s : State), laneUp s n = true → exec (.cdrLossOfLock n) s = .next (leaveUp occur n 2 (s.count 419 1)) ∧
    (runsZl s n = true → exec (.commaLoss n) s = .next (leaveUp occur n 3 (s.count 420 1)))) ∧
  (∀ (q : Fin 146) (s : State), s.on F.ZL_QUAD_STAT_PLL_LOCK [q] = true →
    ∃ u, exec (.quadPllLoss q) s = .next (each [4 * q.val, 4 * q + 1, 4 * q + 2, 4 * q + 3]
        (fun n t => if laneUp t n then leaveUp occur n 2 t else t) u) ∧ u.on F.ZL_QUAD_STAT_PLL_LOCK [q] = false) ∧
  (∀ (q : Fin 146) (s : State),
    (quadOn s q = true → s.sys.clk.getLsbD (s.g F.ZL_QUAD_CFG_REFCLK [q]) = true → ∃ t, exec (.quadPllRelock q) s = .next t ∧ t.on F.ZL_QUAD_STAT_PLL_LOCK [q] = true ∧ t.zl = s.zl) ∧
    (quadOn s q = false ∨ s.sys.clk.getLsbD (s.g F.ZL_QUAD_CFG_REFCLK [q]) = false → exec (.quadPllRelock q) s = .next s)) ∧
  (∀ (n st : Nat) (s : State), n < 584 → st < 8 → st ≠ 6 → laneUp s n = true →
    ∃ u, leaveUp occur n st s = laneFailure occur n u ∧ u.g F.ZL_LANE_STAT_TRAIN_STATE [n] = st ∧ laneUp u n = false ∧
      u.g F.ZL_LANE_STAT_FCRC_FAIL [n] = 1 ∧ u.g F.ZL_LANE_STAT_VER [n] = 0 ∧ (∀ x ∈ u.zl.ready, x.1 / 16 ≠ n) ∧ (u.lane n).since = s.ticks ∧
      (n < 576 → u.on F.XPT_RX_HOLD_HELD [n] = false ∧ ∀ k : Fin 16, u.on F.XPT_ALIGN_STAT_VALID [16 * n + k] = false)) ∧
  (∀ (p : Fin 127) (w : Nat × Nat × List Nat) (s : State), s.zl.windows.find? (fun x => x.1 == p.val) = some w → w.2.1 ≤ s.ticks →
    exec (.peerWindowClose p) s = .next (each w.2.2 (fun n t => occur (175 + n / 64) n (t.count 425 1))
      { s with zl := { s.zl with windows := s.zl.windows.filter (fun x => x.1 != p.val) } }))

/-- The test pattern checker, eye measurements, and what frames and records of a lane carry. LANE_ERR_CLR zeroes the lane's four
error registers and ATTEMPTS; PRBS_ERR_CLR its pattern errors. PRBS_CHK_LOCK gives an enabled checker its bits, PRBS_CHK_UNLOCK
a locked one: LOCK and the errors counted are what the bits make of them; a fresh checker locks, without an error, on the
generator's own bits after its register and 64 more. EYE_RUN out of unit reset starts a measurement with DONE 0; EYE_DONE of one
running shows its errors with DONE 1; EYE_MARGIN_UPDATE of a lane not measuring and not in UP shows the four margins.
ZL_FRAME_RECEIVE in states 3 to 6 receives the frame that arrives, or in a near-end loopback the lane's own; in state 3 it
counts a whole frame and starts anew on one that is not, and keeps its blocks for the next frame check. ZL_FRAME_TRANSMIT of an
enabled lane builds 255 blocks under a header with its plane state and epoch, stuffed and scrambled, and sends them unless TEST
has the pins carry something else: TEST 4 sends 32,768 bits of pattern. LINE_RECORD_RX brings the next record of a signal, where
there is one, to its bus: of a lane in UP the one that has waited longest, of a packet slot the one played out. -/
def Obligations.LanesTestFramesAndEyes : Prop :=
  (∀ (rq : Req) (n : Fin 584) (s : State), Reaches rq .zl s →
    (∃ t, exec (.laneErrClr rq n) s = .next t ∧ (∀ r ∈ [R.ZL_LANE_ERR0, R.ZL_LANE_ERR1, R.ZL_LANE_ERR2, R.ZL_LANE_ERR3], t.rd r [n] = 0) ∧
      t.g F.ZL_LANE_TRAIN_ATTEMPTS [n] = 0) ∧
    exec (.prbsErrClr rq n) s = .next (s.wr R.ZL_LANE_PRBS_ERR [n] 0)) ∧
  (∀ (n : Fin 584) (bits : List Bool) (y : PrbsChk) (lock : Bool) (errs : Nat) (s : State), s.on F.ZL_LANE_PRBS_CHK_EN [n] = true →
    prbsRun (prbsForm (s.g F.ZL_LANE_PRBS_POLY [n])) (s.on F.ZL_LANE_PRBS_INV [n]) bits
      ((s.lane n).chk, s.on F.ZL_LANE_PRBS_CHK_LOCK [n], 0) = (y, lock, errs) →
    ∃ t, exec (.prbsChkLock n bits) s = .next t ∧ t.on F.ZL_LANE_PRBS_CHK_LOCK [n] = lock ∧ (t.lane n).chk = y ∧
      t.g F.ZL_LANE_PRBS_ERR_ERRORS [n] = satAdd (2 ^ 32 - 1) (s.g F.ZL_LANE_PRBS_ERR_ERRORS [n]) errs ∧
      (s.on F.ZL_LANE_PRBS_CHK_LOCK [n] = true → exec (.prbsChkUnlock n bits) s = .next t)) ∧
  (∀ (poly reg : Nat) (inv : Bool), 0 < reg → reg < 2 ^ (prbsForm poly).1 →
    (prbsRun (prbsForm poly) inv (prbsBits (prbsForm poly) inv ((prbsForm poly).1 + 64) reg).1 ({}, false, 0)).2 = (true, 0)) ∧
  (∀ (rq : Req) (n : Fin 584) (v : Word) (s : State), Reaches rq .zl s → s.on F.SYS_BLK_RESET_ZL [] = false →
    ∃ t, exec (.eyeRun rq n v) s = .next t ∧ t.on F.ZL_LANE_EYE_CTRL_RUN [n] = true ∧ t.on F.ZL_LANE_EYE_CTRL_DONE [n] = false) ∧
  (∀ (n : Fin 584) (errs : Nat) (s : State), s.on F.ZL_LANE_EYE_CTRL_RUN [n] = true →
    ∃ t, exec (.eyeDone n errs) s = .next t ∧ t.g F.ZL_LANE_EYE_RES_ERRORS [n] = min errs (2 ^ 32 - 1) ∧
      t.on F.ZL_LANE_EYE_CTRL_DONE [n] = true ∧ t.on F.ZL_LANE_EYE_CTRL_RUN [n] = false) ∧
  (∀ (n : Fin 584) (l r u d : BitVec 8) (s : State), s.on F.ZL_LANE_EYE_CTRL_RUN [n] = false → laneUp s n = false →
    exec (.eyeMarginUpdate n l r u d) s = .next (s.wr R.ZL_LANE_EYE_MARGIN [n] (l ++ r ++ u ++ d))) ∧
  (∀ (n : Fin 584) (start : Nat) (bits : List Bool) (s : State), runsZl s n = true → s.g F.ZL_LANE_STAT_TRAIN_STATE [n] = 3 →
    ¬ Blk.zl ∈ s.sys.held → s.g F.ZL_LANE_CTRL_TEST [n] ≠ 1 → s.g F.ZL_LANE_CTRL_TEST [n] ≠ 2 →
    ∃ t, exec (.zlFrameReceive n start (stuff bits).1) s = .next t ∧
      (t.lane n).passes = (if bits.length = 64 + 255 * 128 then (s.lane n).passes + 1 else 0) ∧
      (t.lane n).prevBlocks = zlBlocks 255 ((scramble bits).drop 64)) ∧
  (∀ (n : Fin 584) (start : Nat) (line l : List Bool) (s : State), runsZl s n = true → 3 ≤ s.g F.ZL_LANE_STAT_TRAIN_STATE [n] →
    s.g F.ZL_LANE_STAT_TRAIN_STATE [n] ≤ 6 → ¬ Blk.zl ∈ s.sys.held →
    (if s.g F.ZL_LANE_CTRL_TEST [n] = 1 ∨ s.g F.ZL_LANE_CTRL_TEST [n] = 2 then (s.lane n).loop else some line) = some l →
    ∃ u, exec (.zlFrameReceive n start line) s = .next (zlReceive n start l u) ∧ u.regs = s.regs ∧ (u.lane n).loop = none ∧
      u.out = s.out ++ (if s.g F.ZL_LANE_CTRL_TEST [n] = 3 ∧ s.on F.ZL_LANE_CTRL_TX_EN [n] = true then [.laneBits n line] else [])) ∧
  (∀ (n : Fin 584) (arr : List Nat) (s : State), runsZl s n = true → s.on F.ZL_LANE_CTRL_TX_EN [n] = true → ¬ Blk.zl ∈ s.sys.held →
    ∃ (t : State) (h : BitVec 64) (blocks : List BusWord) (line bits : List Bool), exec (.zlFrameTransmit n arr) s = .next t ∧
      line = (stuff (scramble (msbBits 64 h.toNat ++ blocks.flatMap (fun b => msbBits 128 b.toNat)))).1 ∧ bits.length = 32768 ∧
      t.out = s.out ++ (if s.g F.ZL_LANE_CTRL_TEST [n] = 1 ∨ s.g F.ZL_LANE_CTRL_TEST [n] = 3 then []
        else if s.g F.ZL_LANE_CTRL_TEST [n] = 4 then [.laneBits n bits] else [.zl n h blocks line]) ∧
      (t.lane n).loop = (if s.g F.ZL_LANE_CTRL_TEST [n] = 1 ∨ s.g F.ZL_LANE_CTRL_TEST [n] = 2 then some line else none) ∧
      blocks.length = 255 ∧ h.toNat / 2 ^ 58 % 4 = s.marked ∧ h.toNat / 2 ^ 26 % 2 ^ 32 = s.g F.RED_EPOCH_EPOCH []) ∧
  (∀ (i : Fin 1280) (m : Fin 8) (d : Int) (r : LineRec) (t s : State),
    (nextRecord s i m = (some r, t) → exec (.lineRecordRx i m d) s =
      .next (zlMeasure i m (reduceAlign t (srcCad t i m) (entryAt t i m d)) (enterBus i m r (entryAt t i m d) t))) ∧
    ((nextRecord s i m).1 = none → exec (.lineRecordRx i m d) s = .next s)) ∧
  (∀ (i : Fin 1280) (m : Fin 8) (d : Int) (r : LineRec) (s : State), i.val < 1152 → packetSlot s i = true →
    find? s.flw.ready (8 * i + m) = some r →
    ∃ u, exec (.lineRecordRx i m d) s = .next (zlMeasure i m (reduceAlign u (srcCad u i m) d) (enterBus i m r d u)) ∧
      u.flw.ready = drop1 s.flw.ready (8 * i + m) ∧ u.regs = s.regs ∧ u.xpt = s.xpt) ∧
  (∀ (i : Fin 1280) (m : Fin 8) (d : Int) (r : LineRec) (s : State), i.val < 1152 → packetSlot s i = false → laneUp s (i / 2) = true →
    s.zl.ready.find? (fun x => x.1 == 8 * i.val + m) = some (8 * i.val + m, r) →
    ∃ u, exec (.lineRecordRx i m d) s = .next (zlMeasure i m (reduceAlign u (srcCad u i m) d) (enterBus i m r d u)) ∧
      u.zl.ready = eraseFirst (fun x => x.1 == 8 * i.val + m) s.zl.ready ∧ u.regs = s.regs ∧ u.xpt = s.xpt)

/-- What a sub-port does with a frame received or sent, with pauses, links and its host rings. ETH_FRAME_RECEIVE at an open sub-
port counts a frame that R138 discards under its statistic, and one that matches a flow goes to it after the statistics of a
good frame; one for the host, with its ring enabled, BME set, an entry free and room in it, is written to host memory in writes
of up to Max Payload Size, then its descriptor, the dword with DONE last, and RX_HEAD moves on. A statistic counts modulo 2 to
the 64 and no other statistic of a sub-port changes. PFC_FRAME_RECEIVE pauses each queue whose priority the vector names for its
time, and ends a pause whose time is 0; without PFC_EN it pauses nothing. PFC_PAUSE_EXPIRY ends a pause that has run out.
ETH_TX_FRAME_END sends the frame on the wire. HOST_RING_TAIL_WRITE sets both tails. HOST_RING_ENABLE takes size, head and tail
where an enable rises. ETH_LINK_CHANGE shows what the PCS reports, LINK_CHANGED where the link changed, and raises source 92
where it fell with RX_EN. FEC_LOCK reads 1 where no FEC is used. FEC_CODEWORD_RECEIVE counts its kind and raises source 93 for
one not correctable; without FEC there are no codewords. -/
def Obligations.EthernetFramesAreJudgedAndCounted : Prop :=
  (∀ (p : Fin 16) (k : Fin 4) (b : List Byte) (bad : Bool) (age i : Nat) (d : BitVec 256) (s : State), rxOpen s p k = true →
    badFrame s p k b bad = some i →
    exec (.ethFrameReceive p k b bad age d) s = .next (ethStat p k i 1 (ethStat p k 1 b.length s))) ∧
  (∀ (p : Fin 16) (k : Fin 4) (b : List Byte) (age f : Nat) (d : BitVec 256) (s : State), rxOpen s p k = true →
    badFrame s p k b false = none → nb b 12 2 ≠ 0x8808 → flowOf s p k b = some f →
    exec (.ethFrameReceive p k b false age d) s = .next (flowReceive p k f b (goodStats p k b s))) ∧
  (∀ (p : Fin 16) (k : Fin 4) (b : List Byte) (age r : Nat) (d : BitVec 256) (s : State), rxOpen s p k = true →
    badFrame s p k b false = none → nb b 12 2 ≠ 0x8808 → flowOf s p k b = none → hostReason s p k b = some r →
    s.on F.ETH_HRING_CFG_RX_EN [p, k] = true → s.on F.HIF_PART_STAT_BME [0] = true →
    s.g F.ETH_HRING_HEAD_RX_HEAD [p, k] ≠ s.g F.ETH_HRING_TAIL_RX_TAIL [p, k] → b.length ≤ bitsOf d.toNat 77 64 →
    ∃ t up rest, exec (.ethFrameReceive p k b false age d) s = .next t ∧
      t.out = (dmaWrite 0 (bitsOf d.toNat 63 0) b s).out ++ [.hostWrite 0 ((s.port p k).rxBase + 32 * s.g F.ETH_HRING_HEAD_RX_HEAD [p, k] + 16) 16 up,
        .hostWrite 0 ((s.port p k).rxBase + 32 * s.g F.ETH_HRING_HEAD_RX_HEAD [p, k] + 12) 4
          (b.length + r * 2 ^ 14 + b2n (r == 2 && ptpEvent b) * 2 ^ 17 + 2 ^ 31)] ++ rest ∧
      t.g F.ETH_HRING_HEAD_RX_HEAD [p, k] = (s.g F.ETH_HRING_HEAD_RX_HEAD [p, k] + 1) % hringEntries (s.port p k).rxSize % 2 ^ 16) ∧
  (∀ (q a : Nat) (b : List Byte) (s : State), b ≠ [] → b.length ≤ 128 * 2 ^ getD 0 s.cmd.mps q →
    dmaWrite q a b s = s.emit (.hostWrite q a b.length (ofLE b))) ∧
  (∀ (q a : Nat) (b : List Byte) (s : State), ∃ ws : List (Nat × List Byte), (dmaWrite q a b s).out = s.out ++ ws.map (fun w =>
      .hostWrite q w.1 w.2.length (ofLE w.2)) ∧ ws.flatMap (·.2) = b ∧ ∀ w ∈ ws, w.2.length ≤ 128 * 2 ^ getD 0 s.cmd.mps q) ∧
  (∀ (p : Fin 16) (k : Fin 4) (i : Fin 64) (n : Nat) (s : State),
    (ethStat p k i n s).rd R.ETH_STAT_LO [p, k, i] = BitVec.ofNat 32 ((s.rd R.ETH_STAT_LO [p, k, i]).toNat +
      2 ^ 32 * (s.rd R.ETH_STAT_HI [p, k, i]).toNat + n) ∧
    (ethStat p k i n s).rd R.ETH_STAT_HI [p, k, i] = BitVec.ofNat 32 (((s.rd R.ETH_STAT_LO [p, k, i]).toNat +
      2 ^ 32 * (s.rd R.ETH_STAT_HI [p, k, i]).toNat + n) / 2 ^ 32) ∧
    ∀ (q : Fin 16) (l : Fin 4) (j : Fin 64), (p, k, i) ≠ (q, l, j) →
      (ethStat p k i n s).rd R.ETH_STAT_LO [q, l, j] = s.rd R.ETH_STAT_LO [q, l, j] ∧
      (ethStat p k i n s).rd R.ETH_STAT_HI [q, l, j] = s.rd R.ETH_STAT_HI [q, l, j]) ∧
  (∀ (p : Fin 16) (k : Fin 4) (vec : BitVec 8) (times : BitVec 128) (s : State), rxOpen s p k = true →
    ∃ t, exec (.pfcFrameReceive p k vec times) s = .next t ∧
      (s.on F.ETH_TXQ_CFG_PFC_EN [p, k] = false → t.flw = s.flw) ∧
      (s.on F.ETH_TXQ_CFG_PFC_EN [p, k] = true → ∀ (q v : Fin 8), bitsOf (s.rd R.ETH_TXQ_CFG [p, k]).toNat (3 * q + 2) (3 * q) = v.val →
        (vec.getLsbD v = true → find? (t.port p k).paused q = if bitsOf times.toNat (16 * v + 15) (16 * v) = 0 then none
          else some (s.ticks * 200 + bitsOf times.toNat (16 * v + 15) (16 * v) * (if s.g F.ZL_QUAD_CFG_MODE [p] = 1 then 512 else 2048))) ∧
        (vec.getLsbD v = false → find? (t.port p k).paused q = find? (s.port p k).paused q))) ∧
  (∀ (p : Fin 16) (k : Fin 4) (q : Fin 8) (e : Nat) (s : State), find? (s.port p k).paused q = some e → e ≤ s.ticks * 200 →
    ∃ t, exec (.pfcPauseExpiry p k q) s = .next t ∧ find? (t.port p k).paused q = none ∧
      bitOf (t.g F.ETH_TXQ_STAT_PAUSED [p, k]) q = false) ∧
  (∀ (p : Fin 16) (k : Fin 4) (fr : TxFrame) (dom sec ns : Nat) (s : State), (s.port p k).wire = some (fr, dom, sec, ns) →
    exec (.ethTxFrameEnd p k) s = .next (txGo p k (frameSent p k fr dom sec ns (s.setPort p k { s.port p k with wire := none }))) ∧
    (fr.host = none → ∃ t rest, exec (.ethTxFrameEnd p k) s = .next t ∧ t.out = s.out ++ [.eth p k fr.bytes] ++ rest)) ∧
  (∀ (rq : Req) (p : Fin 16) (k : Fin 4) (v : Word) (descs : List (BitVec 128 × List Byte)) (s : State), subExists s p k = true →
    Reaches rq .eth s → ∃ t, exec (.hostRingTailWrite rq p k v descs) s = .next t ∧
      t.g F.ETH_HRING_TAIL_TX_TAIL [p, k] = F.ETH_HRING_TAIL_TX_TAIL.of v ∧ t.g F.ETH_HRING_TAIL_RX_TAIL [p, k] = F.ETH_HRING_TAIL_RX_TAIL.of v) ∧
  (∀ (rq : Req) (p : Fin 16) (k : Fin 4) (v : Word) (s : State), subExists s p k = true → Reaches rq .eth s →
    s.on F.ETH_HRING_CFG_TX_EN [p, k] = false → F.ETH_HRING_CFG_TX_EN.of v = 1 →
    ∃ t, exec (.hostRingEnable rq p k v) s = .next t ∧ t.on F.ETH_HRING_CFG_TX_EN [p, k] = true ∧
      t.g F.ETH_HRING_HEAD_TX_HEAD [p, k] = 0 ∧ t.g F.ETH_HRING_TAIL_TX_TAIL [p, k] = 0 ∧
      (t.port p k).txSize = F.ETH_HRING_CFG_TX_SIZE.of v ∧ (t.port p k).hostWait = []) ∧
  (∀ (p : Fin 16) (k : Fin 4) (up fec loc rem : Bool) (s : State), subExists s p k = true → ¬ Blk.eth ∈ s.sys.held →
    ((up = true ∨ s.on F.ETH_LINK_STAT_LINK_UP [p, k] = false) → ∃ t, exec (.ethLinkChange p k up fec loc rem) s = .next t ∧
      t.on F.ETH_LINK_STAT_LINK_UP [p, k] = up ∧ t.on F.ETH_LINK_STAT_FEC_LOCK [p, k] = fec ∧
      F.ETH_LINK_STAT_FEC_LOCK.of (linkStatView t p k) = b2n (fec || (s.g F.ZL_QUAD_CFG_MODE [p] == 2 && s.g F.ETH_MAC_CFG_FEC [p, k] == 2)) ∧
      t.on F.ETH_LINK_STAT_LOCAL_FAULT [p, k] = loc ∧ t.on F.ETH_LINK_STAT_REMOTE_FAULT [p, k] = rem ∧
      (s.on F.ETH_LINK_STAT_LINK_UP [p, k] ≠ up → t.on F.ETH_LINK_STAT_LINK_CHANGED [p, k] = true)) ∧
    (s.on F.ETH_LINK_STAT_LINK_UP [p, k] = true → s.on F.ETH_MAC_CFG_RX_EN [p, k] = true →
      ∃ u, exec (.ethLinkChange p k false fec loc rem) s = .next (occur 92 (4 * p + k) u) ∧
        u.on F.ETH_LINK_STAT_LINK_UP [p, k] = false ∧ u.on F.ETH_LINK_STAT_LINK_CHANGED [p, k] = true)) ∧
  (∀ (p : Fin 16) (k : Fin 4) (s : State), subExists s p k = true → ¬ Blk.eth ∈ s.sys.held →
    (noFec s p k = false → exec (.fecCodewordReceive p k 0) s = .next (ethStat p k 21 1 s) ∧
      exec (.fecCodewordReceive p k 1) s = .next (occur 93 (4 * p + k) (ethStat p k 22 1 s))) ∧
    (noFec s p k = true → exec (.fecCodewordReceive p k 0) s = .next s ∧ exec (.fecCodewordReceive p k 1) s = .next s) ∧
    exec (.fecCodewordReceive p k 2) s = .next (ethStat p k 23 1 s))

/-- Flows send their packets in order, play the larder line by line, and enter LOST. FLOW_PACKET_ENQUEUE of a video or ancillary
entry, one line period after the last word its oldest packet carries left and not ahead of its time in the schedule, sends that
packet: it is taken from the entry. AUDIO_PACKET_ENQUEUE does the same for an audio entry at once; neither sends anything where
no packet waits. A packet sent, while flows leave and its queue has room, puts its frame into the entry's queue or on the wire.
EXT_FLOW_MATCH_START, at its tick, lets a valid entry match. LARDER_RECORD_PLAYOUT of an entry that gives its signal's records
their times, at the play time of its next record, moves on to the record after it, and outside LOST the record of that raster
line is ready for the signal. FLOW_LOST_ENTER of a valid receive entry after 16 empty lines enters LOST: its grid and the lines
written are gone, and source 94 is raised with the entry. PAIR_LEG_TIMEOUT of a leg in use after 16 picture lines without a
packet clears its LEG_OK, and raises source 95 where the other leg still delivers. FLOW_COUNTERS_CLEAR by a requester that
reaches FLW zeroes the three counter registers of the entry. -/
def Obligations.PacketFlowsSendAndPlay : Prop :=
  (∀ (f : Fin 16384) (e : BitVec 512) (x : FlowTx) (ending : Bool) (pk : FlowPkt) (rest : List FlowPkt) (s : State),
    (txFlows s).find? (fun y => y.1 == f.val && !y.2.2.1.pkts.isEmpty) = some (f.val, e, x, ending) → x.pkts = pk :: rest →
    fKind e ≠ 1 → linesPassed s (fCad s e) 1 (s.ticks - pk.left) = true → pk.due ≤ s.ticks * 81000 →
    ∃ t, exec (.flowPacketEnqueue f) s = .next t ∧ t = sendPacket f e pk (upTx f ending (fun y => { y with pkts := rest }) s) ∧
      (ending = false → (t.ftx f).pkts = rest)) ∧
  (∀ (f : Fin 16384) (e : BitVec 512) (x : FlowTx) (ending : Bool) (pk : FlowPkt) (rest : List FlowPkt) (s : State),
    (txFlows s).find? (fun y => y.1 == f.val && !y.2.2.1.pkts.isEmpty) = some (f.val, e, x, ending) → x.pkts = pk :: rest →
    fKind e = 1 →
    ∃ t, exec (.audioPacketEnqueue f) s = .next t ∧ t = sendPacket f e pk (upTx f ending (fun y => { y with pkts := rest }) s) ∧
      (ending = false → (t.ftx f).pkts = rest)) ∧
  (∀ (f : Fin 16384) (s : State), (∀ x ∈ txFlows s, x.1 = f.val → x.2.2.1.pkts = []) →
    exec (.flowPacketEnqueue f) s = .next s ∧ exec (.audioPacketEnqueue f) s = .next s) ∧
  (∀ (f : Nat) (e : BitVec 512) (pk : FlowPkt) (s : State), flowsLeave s = true → pk.rtp.length ≤ 60000 →
    queueBytes (s.port (fPort e) (fSub e)) (fQueue e) = 0 →
    ∃ fr : TxFrame, fr.flow = some f ∧ fr.queue = fQueue e ∧
      (fr ∈ getD [] ((sendPacket f e pk s).port (fPort e) (fSub e)).queues (fQueue e) ∨
        ∃ dom sec ns, ((sendPacket f e pk s).port (fPort e) (fSub e)).wire = some (fr, dom, sec, ns))) ∧
  (∀ (f : Fin 16384) (n : Nat) (s : State), (s.frx f).from_ = some n → fValid (s.flow f) = true → n ≤ s.ticks →
    ∃ t, exec (.extFlowMatchStart f) s = .next t ∧ (t.frx f).from_ = none ∧ t.flw.tbl = s.flw.tbl) ∧
  (∀ (f : Fin 16384) (wait : Fin 128) (g : Nat) (s : State), leads s f = true → (s.frx f).g0 = some g →
    g + (s.frx f).next * lineU s (fCad s (s.flow f)) + fDelay (s.flow f) * 40500 ≤ s.domU (fDomain (s.flow f)) →
    ∃ t, exec (.larderRecordPlayout f wait) s = .next t ∧ (t.frx f).next = (s.frx f).next + 1 ∧
      (isLost s f = false → ∃ r, find? t.flw.ready (8 * fSlot (s.flow f) + fBase (s.flow f)) = some r ∧
        r.line = (s.frx f).next % s.raster (fCad s (s.flow f)) + 1)) ∧
  (∀ (f : Fin 16384) (s : State), fValid (s.flow f) = true → fTx (s.flow f) = false →
    (fPair (s.flow f) && fSecondary (s.flow f)) = false → isLost s f = false → 16 ≤ (s.frx f).empty →
    ∃ u, exec (.flowLostEnter f) s = .next (occur 94 f u) ∧ isLost u f = true ∧ (u.frx f).g0 = none ∧ (u.frx f).lines = []) ∧
  (∀ (f : Fin 16384) (s : State), fPair (s.flow f) = true → s.on F.FLW_STAT_LEG_OK [f] = true →
    (let lead := s.flow (flowLead s f)
     let c := fCad s lead
     fKind (s.flow f) = 1 ∨ ((s.cad c).running = true ∧
       linesPassed s c (linesBack (fFmt s lead) (s.raster c) (s.raster c) 16 (s.cad c).line) (s.ticks - (s.fleg f).lastPkt) = true)) →
    ∃ u, exec (.pairLegTimeout f) s = .next (if u.on F.FLW_STAT_LEG_OK [fMate (s.flow f)] then occur 95 f u else u) ∧
      u.on F.FLW_STAT_LEG_OK [f] = false ∧ u.flw = s.flw) ∧
  (∀ (rq : Req) (f : Fin 16384) (s : State), Reaches rq .flw s →
    ∃ t, exec (.flowCountersClear rq f) s = .next t ∧ t.rd R.FLW_CNT0 [f] = 0 ∧ t.rd R.FLW_CNT1 [f] = 0 ∧ t.rd R.FLW_CNT2 [f] = 0 ∧
      t.flw = s.flw)

/-- An increment is taken for the next counter cycle where it lies within 1,000 ppm of 2 ns, else it stays and INCR_ERR is set.
INCR_WRITE by a requester that reaches PTP, of domain d: a pair within 1,000 ppm of 2 ns (2 to the 49 units of 2 to the -48 ns)
is the increment from then on, so that the next cycle of the time counter clock outside reset advances the counter by it; one
further away leaves the increment, its register and both counters and sets PTP_DOM_STAT.INCR_ERR. -/
def Obligations.IncrementsAreTakenWithin1000Ppm : Prop :=
  ∀ (rq : Req) (d : Fin 2) (v : BitVec 64) (s : State), Reaches rq .ptp s →
    (((v.toNat : Int) - 2 ^ 49).natAbs * 10 ^ 6 ≤ 1000 * 2 ^ 49 →
      ∃ t, exec (.incrWrite rq d v) s = .next t ∧ (t.tc d).incr = v.toNat ∧
        t.g F.PTP_INCR_HI_INCR_HI [d] * 2 ^ 32 + t.g F.PTP_INCR_LO_INCR_LO [d] = v.toNat ∧
        (s.sys.por = false → s.sys.rstLow = false → ∃ u, exec .timeCounterTick t = .next u ∧
          (((u.tc d).sec * 10 ^ 9 + (u.tc d).ns) * 2 ^ 48 + (u.tc d).frac) =
            (((s.tc d).sec * 10 ^ 9 + (s.tc d).ns) * 2 ^ 48 + (s.tc d).frac + v.toNat) % (2 ^ 48 * 10 ^ 9 * 2 ^ 48))) ∧
    (1000 * 2 ^ 49 < ((v.toNat : Int) - 2 ^ 49).natAbs * 10 ^ 6 →
      ∃ t, exec (.incrWrite rq d v) s = .next t ∧ t.ptp = s.ptp ∧ t.on F.PTP_DOM_STAT_INCR_ERR [d] = true ∧
        t.rd R.PTP_INCR_LO [d] = s.rd R.PTP_INCR_LO [d] ∧ t.rd R.PTP_INCR_HI [d] = s.rd R.PTP_INCR_HI [d])

/-- The time counters advance by their increments and step by their offsets; reads and PPS_IN take their time. TIME_COUNTER_TICK
outside POR and RESET_N advances each counter by its increment, modulo 2 to the 48 seconds, in canonical form, and house time H
by 2 ns times 1 plus the output frequency, with the same wrap; in reset it advances the clock alone. ADJ_STEP by a requester
that reaches PTP adds its signed nanoseconds to the domain's counter alone. PTP_TIME_READ, with PTP out of reset, answers the
nanoseconds and latches the seconds with the status word for the requester. PPS_IN_EDGE latches the nanoseconds of both counters
with NEW 1. TXTS_ID_READ of a queue with entries takes the oldest off, answers its identity with VALID and latches its time; of
an empty one it answers 0 and changes nothing else. TXTS_DROPS_CLR sets DROPS to 0. -/
def Obligations.CountersStepAndAreRead : Prop :=
  (∀ s : State, ∃ t, exec .timeCounterTick s = .next t ∧ t.ticks = s.ticks + 1 ∧ t.regs = s.regs ∧
    (s.sys.por = false → s.sys.rstLow = false →
      (t.ref.h : Int) = ((s.ref.h : Int) + 2 * 2 ^ 48 * (10 ^ 11 + outFreq s)) % (2 ^ 48 * 10 ^ 9 * hUnit : Nat) ∧
      ∀ d : Fin 2, (((t.tc d).sec * 10 ^ 9 + (t.tc d).ns) * 2 ^ 48 + (t.tc d).frac) =
          (((s.tc d).sec * 10 ^ 9 + (s.tc d).ns) * 2 ^ 48 + (s.tc d).frac + (s.tc d).incr) % (2 ^ 48 * 10 ^ 9 * 2 ^ 48) ∧
        (t.tc d).sec < 2 ^ 48 ∧ (t.tc d).ns < 10 ^ 9 ∧ (t.tc d).frac < 2 ^ 48 ∧ (t.tc d).incr = (s.tc d).incr) ∧
    ((s.sys.por = true ∨ s.sys.rstLow = true) → t = { s with ticks := s.ticks + 1 })) ∧
  (∀ (rq : Req) (d : Fin 2) (v : BitVec 64) (s : State), Reaches rq .ptp s →
    ∃ t, exec (.adjStep rq d v) s = .next t ∧
      (((t.tc d).sec * 10 ^ 9 + (t.tc d).ns : Nat) : Int) =
        (((s.tc d).sec * 10 ^ 9 + (s.tc d).ns : Nat) + v.toInt) % (2 ^ 48 * 10 ^ 9) ∧
      (t.tc d).frac = (s.tc d).frac ∧ (t.tc d).incr = (s.tc d).incr ∧ ∀ e : Fin 2, e ≠ d → t.tc e = s.tc e) ∧
  (∀ (rq : Req) (d : Fin 2) (s : State), blkHeld s .ptp = false →
    ∃ t, exec (.ptpTimeRead rq d) s = .next t ∧ t.regs = s.regs ∧
      t.out = s.out ++ [.regRead rq (R.PTP_TIME_NS.addr [d]) (BitVec.ofNat 32 (s.tc d).ns)] ∧
      latched? t rq (R.PTP_TIME_SEC_LO.addr [d]) = some (BitVec.ofNat 32 (s.tc d).sec) ∧
      latched? t rq (R.PTP_TIME_SEC_HI.addr [d]) = some (BitVec.ofNat 32 (b2n (!s.on F.PTP_DOM_CFG_VALID [d]) * 2 ^ 31 +
        s.g F.REF_DPLL_STAT_STATE [] * 2 ^ 29 + (s.tc d).sec / 2 ^ 32))) ∧
  (∀ s : State, ∃ t, exec .ppsInEdge s = .next t ∧ ∀ d : Fin 2, t.g F.PTP_PPS_CAP_NS [d] = (s.tc d).ns % 2 ^ 30 ∧
    t.on F.PTP_PPS_CAP_NEW [d] = true) ∧
  (∀ (rq : Req) (p : Fin 16) (k : Fin 4) (x : TxTs) (rest : List TxTs) (s : State), blkHeld s .ptp = false →
    getD [] s.ptp.txts (4 * p.val + k) = x :: rest →
    ∃ t, exec (.txtsIdRead rq p k) s = .next t ∧ getD [] t.ptp.txts (4 * p.val + k) = rest ∧
      t.g F.PTP_TXTS_STAT_COUNT [p, k] = rest.length % 2 ^ 5 ∧
      t.out = s.out ++ [.regRead rq (R.PTP_TXTS_ID.addr [p, k]) (BitVec.ofNat 32 (2 ^ 31 + x.id))] ∧
      latched? t rq (R.PTP_TXTS_NS.addr [p, k]) = some (BitVec.ofNat 32 x.ns) ∧
      latched? t rq (R.PTP_TXTS_SEC_LO.addr [p, k]) = some (BitVec.ofNat 32 x.sec) ∧
      latched? t rq (R.PTP_TXTS_SEC_HI.addr [p, k]) = some (BitVec.ofNat 32 (x.dom * 2 ^ 16 + x.sec / 2 ^ 32))) ∧
  (∀ (rq : Req) (p : Fin 16) (k : Fin 4) (s : State), blkHeld s .ptp = false → getD [] s.ptp.txts (4 * p.val + k) = [] →
    exec (.txtsIdRead rq p k) s = .next { s with out := s.out ++ [.regRead rq (R.PTP_TXTS_ID.addr [p, k]) 0] }) ∧
  (∀ (rq : Req) (p : Fin 16) (k : Fin 4) (s : State), Reaches rq .ptp s →
    ∃ t, exec (.txtsDropsClr rq p k) s = .next t ∧ t.g F.PTP_TXTS_STAT_DROPS [p, k] = 0 ∧ t.ptp = s.ptp)

/-- Validity, hold-off and wait to restore of references, selection, the DPLL's states, holdover and its history. SYNC_IN_EDGE
of an enabled input, of its polarity, with REF out of reset, measures the phase error of the instant it stands for, by its type.
REF_INVALID of a valid reference whose cause holds (its conditions, its frequency, its edges) clears VALID and SELECTABLE; of
the tracked one it starts the hold-off with the DPLL frozen, else it marks it failed and raises source 90. REF_VALID_RESTORE,
with its conditions true and its frequency in range, sets VALID: the reference in hold-off is kept, a failed one waits to
restore, any other is selectable. HOLDOFF_EXPIRY marks the tracked reference failed, thaws the DPLL and selects. WTR_EXPIRY
makes a valid reference selectable again. REF_SELECTION at its time sets the next one 1 ms on; where the DPLL is neither
tracking nor frozen it takes up the choice among the references with their QLs shown. DPLL_LOCKED after 10 good seconds and
DPLL_LOCK_LOST after a bad one move between states 1 and 2 with SWITCHED, else do nothing; a second is good within 10 ppb and
bad beyond 100. HOLDOVER_UPDATE sets the frequency of the holdover model within its range, the next 1 s on. HISTORY_ENTRY after
its interval records an entry and moves NEXT on. HO_VALID_SET sets HO_VALID once AVG_S locked seconds are in. -/
def Obligations.ReferencesAreWatchedAndTracked : Prop :=
  (∀ (k : Fin 4) (up : Bool) (s : State), s.on F.REF_IN_CFG_ENABLE [2 + k.val] = true → s.g F.REF_IN_SRC_POL [2 + k.val] = b2n (!up) →
    ¬ Blk.ref ∈ s.sys.held →
    ∃ t, exec (.syncInEdge k up) s = .next t ∧ find? t.ref.err (2 + k.val) = some (if s.g F.REF_IN_SRC_TYPE [2 + k.val] = 3 then 0 else
      intoHalf ((syncBase s (s.g F.REF_IN_SRC_TYPE [2 + k.val]) (s.g F.REF_IN_SRC_CAD [2 + k.val]) : Int) - refOffset s (2 + k.val) - s.ref.h)
        (syncPeriod s (s.g F.REF_IN_SRC_TYPE [2 + k.val]) (s.g F.REF_IN_SRC_CAD [2 + k.val])).1
        (syncPeriod s (s.g F.REF_IN_SRC_TYPE [2 + k.val]) (s.g F.REF_IN_SRC_CAD [2 + k.val])).2) ∧ t.ref.h = s.ref.h) ∧
  (∀ (i : Fin 15) (cause : Fin 3) (freq : Int) (s : State), refValid s i = true → (cause = 0 → refCond s i = false) →
    (cause = 1 → freqIn s i freq = false) →
    (cause = 2 → 2 ≤ i.val ∧ i.val ≤ 5) →
    (s.ref.current = some i.val ∧ dpllTracks s = true → ∃ t, exec (.refInvalid i ⟨cause, freq⟩) s = .next t ∧ refValid t i = false ∧
      t.on F.REF_IN_STAT_SELECTABLE [i] = false ∧ t.on F.REF_IN_STAT_HOLDOFF_RUN [i] = true ∧ frozen t = true ∧
      t.ref.holdEnd = some (s.ticks + msTicks (10 * s.g F.REF_IN_CFG_HOLDOFF [i]))) ∧
    (¬ (s.ref.current = some i.val ∧ dpllTracks s = true) → ∃ u, exec (.refInvalid i ⟨cause, freq⟩) s = .next (occur 90 i u) ∧
      refValid u i = false ∧ u.on F.REF_IN_STAT_SELECTABLE [i] = false ∧ u.on F.REF_IN_STAT_FAILED [i] = true ∧ i.val ∈ u.ref.failed)) ∧
  (∀ (i : Fin 15) (freq : Int) (s : State), refValid s i = false → refCond s i = true → freqIn s i freq = true →
    ∃ t, exec (.refValidRestore ⟨i, freq⟩) s = .next t ∧ refValid t i = true ∧
      (s.ref.current = some i.val ∧ frozen s = true → frozen t = false ∧ t.ref.holdEnd = none ∧ t.on F.REF_IN_STAT_SELECTABLE [i] = true) ∧
      (¬ (s.ref.current = some i.val ∧ frozen s = true) → i.val ∈ s.ref.failed →
        find? t.ref.wtr i = some (s.ticks + msTicks (1000 * s.g F.REF_IN_CFG_WTR [i])) ∧ t.on F.REF_IN_STAT_WTR_RUN [i] = true) ∧
      (¬ (s.ref.current = some i.val ∧ frozen s = true) → ¬ i.val ∈ s.ref.failed → t.on F.REF_IN_STAT_SELECTABLE [i] = true)) ∧
  (∀ (i n : Nat) (s : State), i < 15 → s.ref.holdEnd = some n → s.ref.current = some i → n ≤ s.ticks →
    ∃ u, exec .holdoffExpiry s = .next (selectRef (occur 90 i u)) ∧ frozen u = false ∧ u.on F.REF_IN_STAT_HOLDOFF_RUN [i] = false ∧
      u.on F.REF_IN_STAT_FAILED [i] = true ∧ u.ref.holdEnd = none) ∧
  (∀ (i : Fin 15) (n : Nat) (s : State), find? s.ref.wtr i = some n → n ≤ s.ticks →
    ∃ t, exec (.wtrExpiry i) s = .next t ∧ t.on F.REF_IN_STAT_SELECTABLE [i] = refValid s i ∧ t.on F.REF_IN_STAT_WTR_RUN [i] = false ∧
      find? t.ref.wtr i = none ∧ ¬ i.val ∈ t.ref.failed) ∧
  (∀ (freq temp : Int) (s : State), s.ref.selAt ≤ s.ticks → ¬ Blk.ref ∈ s.sys.held →
    ∃ t, exec (.refSelection freq temp) s = .next t ∧ t.ref.selAt = s.ticks + msTicks 1 ∧
      (frozen s = false → dpllTracks s = false → t.ref.current = refChoice (each (List.range 15) (fun i u =>
        u.p F.REF_IN_STAT_QL [i] (if u.on F.REF_IN_CFG_ENABLE [i] then refQl u i else 15)) s))) ∧
  (∀ (freq temp : Int) (s : State), s.ticks < s.ref.selAt ∨ Blk.ref ∈ s.sys.held → exec (.refSelection freq temp) s = .next s) ∧
  (∀ (x : Int) (s : State), s.ref.lockN = 999 →
    (lockSample x s).ref.lockGood = (if (s.ref.lockSum + x).natAbs ≤ 1000000 then s.ref.lockGood + 1 else 0) ∧
    (lockSample x s).ref.lockBad = decide (10000000 < (s.ref.lockSum + x).natAbs)) ∧
  (∀ s : State, frozen s = false →
    (s.ref.lockGood < 10 → exec .dpllLocked s = .next s) ∧ (s.ref.lockBad = false → exec .dpllLockLost s = .next s) ∧
    (dpllState s = 1 → 10 ≤ s.ref.lockGood → ∃ t, exec .dpllLocked s = .next t ∧ dpllState t = 2 ∧ t.on F.REF_DPLL_STAT_SWITCHED [] = true) ∧
    (dpllState s = 2 → s.ref.lockBad = true → ∃ t, exec .dpllLockLost s = .next t ∧ dpllState t = 1 ∧ t.on F.REF_DPLL_STAT_SWITCHED [] = true)) ∧
  (∀ (temp : Int) (s : State), dpllState s = 3 → s.ref.hoNext ≤ s.ticks →
    ∃ t, exec (.holdoverUpdate temp) s = .next t ∧ t.ref.hoNext = s.ticks + msTicks 1000 ∧
      outFreq t = max (-11000000) (min 11000000 (holdoverFreq s temp))) ∧
  (∀ (temp : Int) (s : State), ¬ Blk.ref ∈ s.sys.held → s.ref.histAt < s.ticks → msTicks (1000 * s.g F.REF_HO_CFG_HIST_INT []) ≤ s.ticks - s.ref.histAt →
    ∃ t, exec (.historyEntry temp) s = .next t ∧ t.g F.REF_HO_STAT_NEXT [] = (s.g F.REF_HO_STAT_NEXT [] + 1) % 64 ∧
      t.g F.REF_HO_STAT_COUNT [] = min 64 (s.g F.REF_HO_STAT_COUNT [] + 1) ∧
      t.g F.REF_HIST_TEMP_TEMP [s.g F.REF_HO_STAT_NEXT []] = ofSigned 16 temp ∧
      t.g F.REF_HIST_TEMP_LOCKED_ALL [s.g F.REF_HO_STAT_NEXT []] = b2n s.ref.histLocked ∧ t.ref.histAt = s.ticks) ∧
  (∀ s : State, s.g F.REF_HO_CFG_AVG_S [] ≤ s.ref.lockSecs → 0 < s.ref.lockSecs →
    exec .hoValidSet s = .next (s.p F.REF_DPLL_STAT_HO_VALID [] 1))

/-- Leap seconds apply, pulse outputs follow house time, and LAG and the calendar are checked. CAL_SET_WRITE by a requester that
reaches REF, of a real date, sets the date and clears CAL_RANGE; of any other it leaves the date and sets DATE_ERR. LEAP_APPLY
at the end of the UTC day raises UTC_OFFSET by 1 for a positive leap pending, and at its last second lowers it for a negative
one; PENDING is then 0. SYNC_OUT_PULSE of an enabled pin whose next instant has come sends the pin's pulse once, and
PPS_OUT_PULSE likewise. CAD_LAG_WRITE of a cadence not enabled and of less than a frame sets LAG; any other sets CFG_ERR alone.
TC_SKIPPED_CLR sets SKIPPED to 0. -/
def Obligations.CalendarPulsesAndLag : Prop :=
  (∀ (rq : Req) (v : Word) (s : State), Reaches rq .ref s →
    (realDate (F.REF_CAL_SET_YEAR.of v) (F.REF_CAL_SET_MONTH.of v) (F.REF_CAL_SET_DAY.of v) = true →
      ∃ t, exec (.calSetWrite rq v) s = .next t ∧ t.g F.REF_CAL_DATE_YEAR [] = F.REF_CAL_SET_YEAR.of v ∧
        t.g F.REF_CAL_DATE_MONTH [] = F.REF_CAL_SET_MONTH.of v ∧ t.g F.REF_CAL_DATE_DAY [] = F.REF_CAL_SET_DAY.of v ∧
        t.on F.REF_CAL_STAT_CAL_RANGE [] = false ∧ t.ref.calDay = localDay s) ∧
    (realDate (F.REF_CAL_SET_YEAR.of v) (F.REF_CAL_SET_MONTH.of v) (F.REF_CAL_SET_DAY.of v) = false →
      ∃ t, exec (.calSetWrite rq v) s = .next t ∧ t.rd R.REF_CAL_DATE [] = s.rd R.REF_CAL_DATE [] ∧
        t.on F.REF_CAL_STAT_DATE_ERR [] = true ∧ t.ref = s.ref)) ∧
  (∀ s : State,
    (s.g F.REF_LEAP_PENDING [] = 1 → utcSeconds s % 86400 = 0 → ∃ t, exec .leapApply s = .next t ∧ t.g F.REF_LEAP_PENDING [] = 0 ∧
      t.g F.REF_LEAP_UTC_OFFSET [] = ofSigned 16 (toSigned 16 (s.g F.REF_LEAP_UTC_OFFSET []) + 1)) ∧
    (s.g F.REF_LEAP_PENDING [] = 2 → utcSeconds s % 86400 = 86399 → ∃ t, exec .leapApply s = .next t ∧ t.g F.REF_LEAP_PENDING [] = 0 ∧
      t.g F.REF_LEAP_UTC_OFFSET [] = ofSigned 16 (toSigned 16 (s.g F.REF_LEAP_UTC_OFFSET []) - 1))) ∧
  (∀ (k : Fin 4) (s : State), s.on F.REF_SYNC_OUT_ENABLE [k] = true → ¬ Blk.ref ∈ s.sys.held →
    getD 0 s.ref.pulses k < pulseBefore s k →
    ∃ t, exec (.syncOutPulse k) s = .next t ∧ getD 0 t.ref.pulses k = pulseBefore s k ∧
      t.out = s.out ++ [.syncOut k (s.g F.REF_SYNC_OUT_TYPE [k]) (s.on F.REF_SYNC_OUT_POL [k]) (s.g F.REF_SYNC_OUT_WIDTH [k])] ∧
      exec (.syncOutPulse k) t = .next t) ∧
  (∀ s : State, s.on F.REF_PPS_OUT_ENABLE [] = true → ¬ Blk.ref ∈ s.sys.held → getD 0 s.ref.pulses 4 < pulseBefore s 4 →
    ∃ t, exec .ppsOutPulse s = .next t ∧ getD 0 t.ref.pulses 4 = pulseBefore s 4 ∧
      t.out = s.out ++ [.ppsOut (s.g F.REF_PPS_OUT_WIDTH [])] ∧ exec .ppsOutPulse t = .next t) ∧
  (∀ (rq : Req) (c : Fin 8) (v : Word) (s : State), Reaches rq .ref s →
    (cadOn s c = false → v.toNat * (rateOf (s.g F.XPT_CAD_CFG_RATE [c])).1 < (rateOf (s.g F.XPT_CAD_CFG_RATE [c])).2 * 10 ^ 9 →
      ∃ t, exec (.cadLagWrite rq c v) s = .next t ∧ t.g F.REF_CAD_LAG_LAG [c] = F.REF_CAD_LAG_LAG.of v) ∧
    ((cadOn s c = true ∨ (rateOf (s.g F.XPT_CAD_CFG_RATE [c])).2 * 10 ^ 9 ≤ v.toNat * (rateOf (s.g F.XPT_CAD_CFG_RATE [c])).1) →
      exec (.cadLagWrite rq c v) s = .next (s.p F.REF_DPLL_STAT_CFG_ERR [] 1))) ∧
  (∀ (rq : Req) (s : State), Reaches rq .ref s → exec (.tcSkippedClr rq) s = .next (s.p F.REF_TC_STAT_SKIPPED [] 0))

/-- Writes of a cadence's set-up, its start and stop, its lines, bindings and position. CAD_CFG_WRITE by a requester that
reaches XPT, refused under R68 or R81, sets CFG_ERR alone; accepted with ENABLE, FORMAT and RATE as they are it sets SWITCH_LINE
and DEADLINE. CADENCE_ENABLE of a cadence not enabled, accepted with its format and rate, sets ENABLE and its start at a frame
start at least 1 ms ahead. CADENCE_DISABLE of a running one clears ENABLE and makes the stop due at its next line; of one that
has not begun it ends at once. CADENCE_START, at the frame start set, begins frame 0 at line 1 and carries out that line.
CADENCE_LINE_START of a running cadence whose next line has begun judges the commits of the line that ends, puts it on the new
line and carries it out; with no commit left to judge nothing else changes before; of another cadence it does nothing.
CAD_BINDING_WRITE of a word that gives each group one cadence binds; one that splits a group sets CAD_ERR, and one that moves a
signal with a pending take sets CAD_BUSY, the binding as it was. CAD_POS_READ answers the position and latches the frame.
SSYNC_CLR, CLR_TAKES and ALIGN_CLR clear their counters, and ALIGN_VALID_TIMEOUT after two frames without a sample clears VALID.
-/
def Obligations.CadencesAreSetUpAndRun : Prop :=
  (∀ (rq : Req) (c : Fin 8) (v : Word) (s : State), Reaches rq .xpt s →
    cadCfgRefused s c (writtenWord R.XPT_CAD_CFG [c] v (s.rd R.XPT_CAD_CFG [c])) = true →
    exec (.cadCfgWrite rq c v) s = .next (s.p F.XPT_CAD_STAT_CFG_ERR [c] 1)) ∧
  (∀ (rq : Req) (c : Fin 8) (v : Word) (s : State), Reaches rq .xpt s →
    cadCfgRefused s c (writtenWord R.XPT_CAD_CFG [c] v (s.rd R.XPT_CAD_CFG [c])) = false →
    F.XPT_CAD_CFG_ENABLE.of v = s.g F.XPT_CAD_CFG_ENABLE [c] → F.XPT_CAD_CFG_FORMAT.of v = s.g F.XPT_CAD_CFG_FORMAT [c] →
    F.XPT_CAD_CFG_RATE.of v = s.g F.XPT_CAD_CFG_RATE [c] →
    ∃ t, exec (.cadCfgWrite rq c v) s = .next t ∧ t.g F.XPT_CAD_CFG_SWITCH_LINE [c] = F.XPT_CAD_CFG_SWITCH_LINE.of v ∧
      t.g F.XPT_CAD_CFG_DEADLINE [c] = F.XPT_CAD_CFG_DEADLINE.of v ∧ t.xpt = s.xpt) ∧
  (∀ (rq : Req) (c : Fin 8) (v : Word) (s : State), Reaches rq .xpt s → cadOn s c = false →
    cadCfgRefused s c (writtenWord R.XPT_CAD_CFG [c] (v ||| 0x80000000#32) (s.rd R.XPT_CAD_CFG [c])) = false →
    F.XPT_CAD_CFG_FORMAT.of v = s.g F.XPT_CAD_CFG_FORMAT [c] → F.XPT_CAD_CFG_RATE.of v = s.g F.XPT_CAD_CFG_RATE [c] →
    ∃ t, exec (.cadenceEnable rq c v) s = .next t ∧ cadOn t c = true ∧ (t.cad c).startN = some (frameAfter s c 1000000) ∧
      (t.cad c).running = (s.cad c).running) ∧
  (∀ (rq : Req) (c : Fin 8) (v : Word) (s : State), Reaches rq .xpt s → cadOn s c = true →
    cadCfgRefused s c (writtenWord R.XPT_CAD_CFG [c] (v &&& 0x7FFFFFFF#32) (s.rd R.XPT_CAD_CFG [c])) = false →
    ((s.cad c).running = true → ∃ t, exec (.cadenceDisable rq c v) s = .next t ∧ cadOn t c = false ∧ (t.cad c).stopDue = true ∧
      (t.cad c).startN = none ∧ (t.cad c).running = true) ∧
    ((s.cad c).running = false → ∃ u, exec (.cadenceDisable rq c v) s = .next (endCadence c u) ∧ cadOn u c = false ∧
      (u.cad c).startN = none)) ∧
  (∀ (c : Fin 8) (cycle n : Nat) (s : State), (s.cad c).startN = some n → (s.cad c).running = false → cadOn s c = true → n ≤ gridNow s c →
    exec (.cadenceStart c cycle) s = .next (atLine c cycle
      (s.setCad c { running := true, line := 1, n := n, lastSwitch := (s.cad c).lastSwitch, frameH := s.ref.h, frameTick := s.ticks,
                    first := true }))) ∧
  (∀ (c : Fin 8) (cycle f l n : Nat) (skipped : Bool) (s : State), (s.cad c).running = true → nextLine s c = some (f, l, n, skipped) →
    let j := judgeLine c s
    ∃ u, exec (.cadenceLineStart c cycle) s = .next (atLine c cycle (if skipped then moveSkipped c (j.cad c).frame (j.cad c).line u else u)) ∧
      (u.cad c).frame = f ∧ (u.cad c).line = l ∧ (u.cad c).n = n ∧ (u.cad c).cut = false ∧ (u.cad c).running = (j.cad c).running ∧
      u.regs = j.regs ∧ u.xpt.takes = j.xpt.takes ∧ ∀ d : Fin 8, d ≠ c → u.cad d = j.cad d) ∧
  (∀ (c : Fin 8) (cycle : Nat) (s : State), (s.cad c).running = false ∨ nextLine s c = none →
    exec (.cadenceLineStart c cycle) s = .next s) ∧
  (∀ (c : Fin 8) (cycle f l n : Nat) (skipped : Bool) (s : State), (s.cad c).running = true →
    nextLine s c = some (f, l, n, skipped) → s.xpt.judging = [] → s.xpt.salvoEnds = [] →
    ∃ u, exec (.cadenceLineStart c cycle) s = .next (atLine c cycle (if skipped then moveSkipped c (s.cad c).frame (s.cad c).line u else u)) ∧
      (u.cad c).frame = f ∧ (u.cad c).line = l ∧ (u.cad c).n = n ∧ (u.cad c).cut = false ∧ (u.cad c).running = true ∧
      u.regs = s.regs ∧ u.xpt.takes = s.xpt.takes ∧ ∀ d : Fin 8, d ≠ c → u.cad d = s.cad d) ∧
  (∀ (rq : Req) (i : Fin 1280) (v : Word) (s : State), Reaches rq .xpt s → i.val < 1152 →
    (bindingWhole (s.rd R.XPT_SRC_LAYOUT [i]) v = true →
      ∃ t, exec (.cadBindingWrite rq false i v) s = .next t ∧ ∀ k : Fin 8, srcCad t i k = bitsOf v.toNat (3 * k + 2) (3 * k)) ∧
    (bindingWhole (s.rd R.XPT_SRC_LAYOUT [i]) v = false →
      exec (.cadBindingWrite rq false i v) s = .next (s.p F.XPT_BANK_STAT_CAD_ERR [] 1)) ∧
    (bindingWhole (s.rd R.XPT_DST_LAYOUT [i]) v = true → s.xpt.takes = [] →
      ∃ t, exec (.cadBindingWrite rq true i v) s = .next t ∧ ∀ k : Fin 8, dstCad t i k = bitsOf v.toNat (3 * k + 2) (3 * k)) ∧
    (∀ x ∈ s.xpt.takes, x.d = i.val → dstSub s x.d x.m ≠ 5 → bitsOf v.toNat (3 * x.m + 2) (3 * x.m) ≠ dstCad s i x.m →
      ∃ t, exec (.cadBindingWrite rq true i v) s = .next t ∧ t.rd R.XPT_DST_CAD [i] = s.rd R.XPT_DST_CAD [i] ∧
        t.on F.XPT_BANK_STAT_CAD_BUSY [] = true)) ∧
  (∀ (rq : Req) (c : Fin 8) (s : State), blkHeld s .xpt = false →
    ∃ t, exec (.cadPosRead rq c) s = .next t ∧ t.regs = s.regs ∧
      t.out = s.out ++ [.regRead rq (R.XPT_CAD_POS.addr [c]) (cadPosView s c)] ∧
      latched? t rq (R.XPT_CAD_FRAME.addr [c]) = some (BitVec.ofNat 32 (s.cad c).frame)) ∧
  (∀ (rq : Req) (c : Fin 8) (i : Fin 10240) (s : State), Reaches rq .xpt s →
    exec (.ssyncClr rq c) s = .next (s.wr R.XPT_CAD_SSYNC [c] 0) ∧
    (∃ t, exec (.clrTakes rq c) s = .next t ∧ t.rd R.XPT_CAD_TAKES [c] = 0 ∧ t.xpt = s.xpt) ∧
    exec (.alignClr rq i) s = .next (s.p F.XPT_ALIGN_STAT_DIRTY [i] 0)) ∧
  (∀ (i : Fin 10240) (s : State), 3 ≤ framesSince s i → exec (.alignValidTimeout i) s = .next (s.p F.XPT_ALIGN_STAT_VALID [i] 0))

/-- Staging a take, committing it, SWITCH_SYNC edges, route-map images, and what a destination then sends. Staging a take of a
destination signal with none pending puts the route's entries into the loft bank, leaves the live bank and adds the take to
those pending. Committing a salvo's take while no source is latched reloads the live entries of its signal from the loft bank,
FORCED aside, and leaves the take to be judged at the end of the line. SWITCH_SYNC_EDGE of a running cadence with SSYNC_EN,
inside the window of a frame whose point is not resolved, resolves that point on the next line; outside it, or of a frame
already resolved, the edge is counted. IMAGE_OPEN_WRITE by a requester that reaches XPT opens the image where the device takes
its host's takes and nothing is pending, else sets OPEN_REFUSED alone. IMAGE_DISCARD of an open image closes it with the loft
bank equal to the live bank, FORCED aside. DEST_RECORD_EMIT of a signal with a record to send re-embeds audio and inserts
timecode in it, but for members 1 to 3 of an 8K group, takes its signature where its route is valid and sends it on; without
that work it sends the record as it is, and does not send it again. -/
def Obligations.TakesStageAndCommit : Prop :=
  (∀ (id d m sl sb : Nat) (st : Stamp) (late : Bool) (s : State), d < 1280 → m < 8 → takeOf s d m = none →
    ∀ e ∈ routeEntries (dstSub s d m) d m sl sb, (∀ e' ∈ routeEntries (dstSub s d m) d m sl sb, e'.1 < 10240) →
      ((stageTake id d m (some (sl, sb)) st late none s).rd R.XPT_LOFT [e.1] = e.2 &&& 0xBFFFFFFF#32 ∧
       (stageTake id d m (some (sl, sb)) st late none s).rd R.XPT_LIVE [e.1] = s.rd R.XPT_LIVE [e.1] ∧
       (stageTake id d m (some (sl, sb)) st late none s).xpt.takes = s.xpt.takes ++ [⟨id, d, m, some (sl, sb), st, late, none⟩])) ∧
  (∀ (cycle : Nat) (ln mi : Bool) (now : Stamp) (x : PendTake) (s : State), x.salvo.isSome = true → now.cad < 8 → s.flt.forceAll = false →
    latchedSources s = [] → (∀ i ∈ keyEntries s (8 * x.d + x.m), i < 10240) →
    (∀ i ∈ keyEntries s (8 * x.d + x.m), (commitTake cycle ln mi now x s).rd R.XPT_LIVE [i] =
      (s.rd R.XPT_LOFT [i] &&& 0xBFFFFFFF#32) ||| (s.rd R.XPT_LIVE [i] &&& 0x40000000#32)) ∧
    (commitTake cycle ln mi now x s).xpt.takes = s.xpt.takes.filter (fun y => !(y.d == x.d && y.m == x.m)) ∧
    (commitTake cycle ln mi now x s).xpt.judging.map (fun j => (j.tok, j.d, j.m, j.src, j.stamp)) =
      s.xpt.judging.map (fun j => (j.tok, j.d, j.m, j.src, j.stamp)) ++ [(x.tok, x.d, x.m, x.src, now)]) ∧
  (∀ (c : Fin 8) (s : State), (s.cad c).running = true → s.on F.XPT_CAD_CTRL_SSYNC_EN [c] = true → s.isActive = true →
    ((-32 ≤ (windowFrame s c).2 ∧ (windowFrame s c).2 ≤ 32 ∧ (∀ x ∈ (s.cad c).points, x.1 ≠ (windowFrame s c).1) ∧
        (s.cad c).edgeFrame = none ∧ (s.cad c).line ≠ s.raster c) →
      ∃ t, exec (.switchSyncEdge c) s = .next t ∧ (t.cad c).lastSwitch = (s.cad c).line + 1 ∧
        ((windowFrame s c).1, (s.cad c).frame, (s.cad c).line + 1) ∈ (t.cad c).points ∧
        t.g F.XPT_CAD_SSYNC_LAST_OFFSET [c] = ofSigned 7 (windowFrame s c).2 ∧
        (∀ x ∈ t.xpt.takes, ¬ (x.stamp.cad = c.val ∧ x.stamp.sw = true ∧ x.stamp.line = 0 ∧ x.stamp.frame = (windowFrame s c).1))) ∧
    (((windowFrame s c).2 < -32 ∨ 32 < (windowFrame s c).2) →
      exec (.switchSyncEdge c) s = .next ((s.bump F.XPT_CAD_SSYNC_OUTSIDE [c] 1).count (109 + 8 * c) 1))) ∧
  (∀ (c : Fin 8) (s : State), (s.cad c).running = true → s.on F.XPT_CAD_CTRL_SSYNC_EN [c] = true →
    let f := (windowFrame s c).1
    let taken := -32 ≤ (windowFrame s c).2 ∧ (windowFrame s c).2 ≤ 32 ∧ (∀ x ∈ (s.cad c).points, x.1 ≠ f) ∧
      ∀ e, (s.cad c).edgeFrame = some e → linePos (s.raster c) (s.cad c).frame e 1 ≤ linePos (s.raster c) (s.cad c).frame (s.cad c).frame (s.cad c).line
    let af := if (s.cad c).line = s.raster c then ((s.cad c).frame + 1) % 2 ^ 32 else (s.cad c).frame
    let al := if (s.cad c).line = s.raster c then 1 else (s.cad c).line + 1
    (taken → exec (.switchSyncEdge c) s = .next (((announcePoint c f af al (resolvePoint c f af al s)).p F.XPT_CAD_SSYNC_LAST_OFFSET [c]
      (ofSigned 7 (windowFrame s c).2)).count (108 + 8 * c) 1)) ∧
    (¬ taken → exec (.switchSyncEdge c) s = .next ((s.bump F.XPT_CAD_SSYNC_OUTSIDE [c] 1).count (109 + 8 * c) 1))) ∧
  (∀ (c : Fin 8) (s : State), (s.cad c).running = false ∨ s.on F.XPT_CAD_CTRL_SSYNC_EN [c] = false →
    exec (.switchSyncEdge c) s = .next s) ∧
  (∀ (rq : Req) (s : State), Reaches rq .xpt s →
    exec (.imageOpenWrite rq) s = .next (if s.takesHost = true ∧ s.xpt.takes = [] ∧ s.xpt.salvos = []
      then s.p F.XPT_BANK_CTRL_IMAGE_OPEN [] 1 else s.p F.XPT_BANK_STAT_OPEN_REFUSED [] 1)) ∧
  (∀ (rq : Req) (s : State), Reaches rq .xpt s →
    ∃ t, exec (.imageDiscard rq) s = .next t ∧ t.on F.XPT_BANK_CTRL_IMAGE_OPEN [] = false ∧
      (s.on F.XPT_BANK_CTRL_IMAGE_OPEN [] = true → ∀ i : Fin 10240, t.rd R.XPT_LOFT [i] = s.rd R.XPT_LIVE [i] &&& 0xBFFFFFFF#32 ∧
        t.rd R.XPT_LIVE [i] = s.rd R.XPT_LIVE [i])) ∧
  (∀ (d : Fin 1280) (m : Fin 8) (s : State), destRecord s d m = none → exec (.destRecordEmit d m) s = .next s) ∧
  (∀ (d : Fin 1280) (m : Fin 8) (r : LineRec) (e : Nat) (src : Option (Nat × Nat)) (s : State), destRecord s d m = some (r, e, src) →
    let s0 := { s with xpt := { s.xpt with emitted := put s.xpt.emitted (8 * d + m) e } }
    let b := reembed d m r s0
    let x := if r.cls = 5 ∧ r.member ≠ 0 then (r, s0) else insertTimecode d m (recordRoom b.2 (dstCad s0 d m) b.1.cls) b.1 b.2
    ∃ g : SigRec, exec (.destRecordEmit d m) s = .next (sendRecord d m x.1 (routeAt s d m r src) (probeDest d m x.1 (when (eValid (x.2.rd R.XPT_LIVE [8 * d + m])) (sigMade g) x.2)))) ∧
  (∀ (d : Fin 1280) (m : Fin 8) (r : LineRec) (e : Nat) (src : Option (Nat × Nat)) (s : State), destRecord s d m = some (r, e, src) →
    s.on F.AUD_REEMB_EN [8 * d.val + m] = false → bitOf (s.g F.REF_TC_DST_EN [d]) m = false → s.isActive = false → comparesSigs s = false →
    exec (.destRecordEmit d m) s = .next (sendRecord d m r (routeAt s d m r src)
      (probeDest d m r { s with xpt := { s.xpt with emitted := put s.xpt.emitted (8 * d + m) e } })) ∧
    (d.val < 1152 → packetSlot s d = false → runsZl s (d / 2) = true → s.on F.ZL_LANE_CTRL_TX_EN [d / 2] = true →
      ∃ t, exec (.destRecordEmit d m) s = .next t ∧
        (t.lane (d / 2)).txWait.map (·.word) = (s.lane (d / 2)).txWait.map (·.word) ++ r.words ∧
        exec (.destRecordEmit d m) t = .next t))

/-- The checks a presented descriptor meets first, with the refusal each gives. For every command that presents a descriptor of
one of the sixteen opcodes: the descriptor with another format version is refused BAD_VERSION; else with a partition field that
is not its own, PART_TAG; else, where the sequence check lets it pass, with a reserved header bit that is not 0, BAD_FIELD.
CADENCE_SET, REALIGN_PULSES and FW_UPDATE of a partition that is not 0 with good fields are refused NOT_PRIVILEGED, and a TAKE,
SALVO_OPEN, LAYER_FLIP or FLOW_DEL with good fields on a device in STANDBY or SYNCING is refused NOT_ACTIVE. BAD_OPCODE refuses
a descriptor of none of the sixteen codes: it takes no tracker entry, its record with code 0x11 falls due where the completion
ring is enabled, and it leaves its ring's queue. A descriptor behind a barrier that does not open is left where it is and
counted. -/
def Obligations.DescriptorsAreJudgedInOrder : Prop :=
  (∀ (p r : Fin 8) (x : Nat × Instr) (d : Desc) (s : State), x ∈ presenting p r → Presented s p r d → dOpcode d = x.1 →
    (dBits d 3 0 ≠ ringVer s p r → exec x.2 s = .next (refuse (ringVer s p r) d 0x10 0 (popDesc p r s))) ∧
    (dBits d 3 0 = ringVer s p r → dBits d 14 12 ≠ d.part →
      exec x.2 s = .next (refuse (ringVer s p r) d 0x12 0 (popDesc p r s))) ∧
    (dBits d 3 0 = ringVer s p r → dBits d 14 12 = d.part →
      (s.on F.CMD_RING_CFG_SEQ_CHECK [p, r] = true → dSeq (ringVer s p r) d = s.g F.CMD_RING_SEQ_EXPECT [p, r]) →
      headerBad (ringVer s p r) d = true → exec x.2 s = .next (refuse (ringVer s p r) d 0x14 0 (judgedIn s p r d)))) ∧
  (∀ (p r : Fin 8) (d : Desc) (s : State), Presented s p r d → HeaderOk s p r d → d.part ≠ 0 →
    (dOpcode d = 0x14 → cbBad [0, 1] false (ringVer s p r) d = false → body (ringVer s p r) d 383 86 = 0 →
      exec (.cadenceSet p r) s = .next (refuse (ringVer s p r) d 0x15 0 (judgedIn s p r d))) ∧
    (dOpcode d = 0x15 → cbBad [0, 1] false (ringVer s p r) d = false → body (ringVer s p r) d 383 67 = 0 →
      exec (.realignPulses p r) s = .next (refuse (ringVer s p r) d 0x15 0 (judgedIn s p r d))) ∧
    (dOpcode d = 0x40 → body (ringVer s p r) d 63 22 = 0 → body (ringVer s p r) d 383 96 = 0 →
      exec (.fwUpdate p r) s = .next (refuse (ringVer s p r) d 0x15 0 (judgedIn s p r d)))) ∧
  (∀ (p r : Fin 8) (d : Desc) (s : State), Presented s p r d → HeaderOk s p r d → (s.red.plane = .standby ∨ s.red.plane = .syncing) →
    (dOpcode d = 0x10 → takeBad (ringVer s p r) d = false →
      exec (.take p r) s = .next (refuse (ringVer s p r) d 0x16 0 (judgedIn s p r d))) ∧
    (dOpcode d = 0x11 → body (ringVer s p r) d 383 6 = 0 →
      exec (.salvoOpen p r) s = .next (refuse (ringVer s p r) d 0x16 0 (judgedIn s p r d))) ∧
    (dOpcode d = 0x21 → layerFlipBad (ringVer s p r) d = false →
      exec (.layerFlip p r) s = .next (refuse (ringVer s p r) d 0x16 0 (judgedIn s p r d))) ∧
    (dOpcode d = 0x31 → body (ringVer s p r) d 383 14 = 0 →
      exec (.flowDel p r) s = .next (refuse (ringVer s p r) d 0x16 0 (judgedIn s p r d)))) ∧
  (∀ (p r : Fin 8) (d : Desc) (s : State), Presented s p r d → dOpcode d ∉ knownOpcodes → dBits d 3 0 = ringVer s p r →
    s.on F.CMD_CPL_CFG_EN [p] = true →
    ∃ t, exec (.badOpcode p r) s = .next t ∧ t.cmd.live = s.cmd.live ∧ t.cmd.fetched = (popDesc p r s).cmd.fetched ∧
      t.cmd.due = insertDue ⟨mkTok (popDesc p r s) (ringVer s p r) d, 0x11, 0, 0, 0, 0, 0, s.ticks⟩ s.cmd.due ∧ t.xpt = s.xpt ∧ t.eng = s.eng) ∧
  (∀ (p r : Fin 8) (x : Nat × Instr) (d : Desc) (s : State), x ∈ presenting p r → headDesc s p r = some d → dOpcode d = x.1 →
    (dBarrier (ringVer s p r) d && earlierWaits s p d.bell) = true → exec x.2 s = .next (s.count 100 1))

/-- What NOP, QUERY_CAPS, MARK, FENCE_SET, ENGINE_SET and FLOW_ADD do once their fields are good. A presented descriptor with a
good header and good fields is accepted. With the completion ring enabled and NO_CPL at 0, NOP leaves a record due with code
COMMITTED, RESULT 0 and no stamp, and no tracker entry; QUERY_CAPS writes the 64 B capability block to the address in its body
and leaves a record with RESULT 3. MARK takes a tracker entry and waits, with its value, WAIT_TWIN and the last RSEQ forwarded.
MARK_COMPLETE ends the first MARK of its partition whose conditions are met: it waits no longer, and its record carries the
value and, in bit 32, NO_TWIN where it waited for a twin in vain. FENCE_SET of an engine that the partition holds, or by
partition 0, waits with its engine, fence, FORCE and value and a tracker entry. ENGINE_SET and FLOW_ADD on a device that is
ACTIVE or ISOLATED issue a read of 256 B or 64 B at the address in their body, in requests of up to Max Read Request Size; the
ring waits for it and nothing is accepted yet. HOST_READ_TIMEOUT ends a waiting read: the descriptor is refused HOST_READ, a
fault occurrence of source 2 with its partition. -/
def Obligations.QueriesMarksAndReadsAreAnswered : Prop :=
  (∀ (p r : Fin 8) (d : Desc) (s : State), Presented s p r d → HeaderOk s p r d → FreshTok s → s.on F.CMD_CPL_CFG_EN [p] = true → dNoCpl d = false →
    (dOpcode d = 0x00 → body (ringVer s p r) d 383 0 = 0 →
      ∃ t, exec (.nop p r) s = .next t ∧ t.cmd.due = insertDue ⟨itsTok s p r d, 0, 0, 0, 0, 0, 0, s.ticks⟩ s.cmd.due ∧ t.cmd.live = s.cmd.live ∧
        t.cmd.fetched = (popDesc p r s).cmd.fetched ∧ t.out = s.out ∧ t.xpt = s.xpt ∧ t.eng = s.eng ∧ t.red = s.red) ∧
    (dOpcode d = 0x01 → body (ringVer s p r) d 383 64 = 0 → body (ringVer s p r) d 5 0 = 0 →
      ∃ t, exec (.queryCaps p r) s = .next t ∧ t.cmd.due = insertDue ⟨itsTok s p r d, 0, 0, 3, 0, 0, 0, s.ticks⟩ s.cmd.due ∧ t.cmd.live = s.cmd.live ∧
        t.out = s.out ++ [.hostWrite p (body (ringVer s p r) d 63 0) 64 (capsBlock s p)])) ∧
  (∀ (p r : Fin 8) (d : Desc) (s : State), Presented s p r d → HeaderOk s p r d → dOpcode d = 0x02 → body (ringVer s p r) d 383 33 = 0 →
    ∃ t, exec (.mark p r) s = .next t ∧ t.cmd.live = s.cmd.live ++ [itsTok s p r d] ∧ t.cmd.due = s.cmd.due ∧
      t.cmd.marks = s.cmd.marks ++ [⟨s.cmd.nextId, body (ringVer s p r) d 31 0, body (ringVer s p r) d 32 32 == 1, d.bell,
        s.g F.RED_REPL_TX_HI_TX [] * 2 ^ 32 + s.g F.RED_REPL_TX_LO_TX []⟩]) ∧
  (∀ (p : Fin 8) (m : PendMark) (k : Tok) (s : State), s.cmd.marks.find? (markReady s p) = some m → tokOf s m.tok = some k →
    k.repl = false → k.dead = false → k.credit = true → k.noCpl = false → s.on F.CMD_CPL_CFG_EN [k.part] = true →
    ∃ t, exec (.markComplete p) s = .next t ∧ t.cmd.marks = s.cmd.marks.filter (fun x => x.tok != m.tok) ∧
      t.cmd.live = s.cmd.live.filter (fun x => x.id != m.tok) ∧
      t.cmd.due = insertDue ⟨k, 0, 0, m.value + b2n (m.waitTwin && (s.red.plane != .active || !s.on F.RED_PARTNER_STAT_UP [])) * 2 ^ 32, 0, 0, 0,
        s.ticks⟩ s.cmd.due) ∧
  (∀ (p r : Fin 8) (d : Desc) (s : State), Presented s p r d → HeaderOk s p r d → dOpcode d = 0x22 →
    body (ringVer s p r) d 63 9 = 0 → body (ringVer s p r) d 383 128 = 0 →
    (d.part = 0 ∨ gIn d.prot F.HIF_ENG_ALLOC_PART [body (ringVer s p r) d 5 0] = d.part) →
    ∃ t, exec (.fenceSet p r) s = .next t ∧ t.cmd.live = s.cmd.live ++ [itsTok s p r d] ∧
      t.cmd.fences = s.cmd.fences ++ [⟨s.cmd.nextId, body (ringVer s p r) d 5 0, body (ringVer s p r) d 7 6,
        body (ringVer s p r) d 8 8 == 1, body (ringVer s p r) d 127 64⟩] ∧ t.cmd.due = s.cmd.due) ∧
  (∀ (p r : Fin 8) (d : Desc) (s : State), Presented s p r d → HeaderOk s p r d → (s.red.plane = .active ∨ s.red.plane = .isolated) →
    (dOpcode d = 0x20 → engineSetBad (ringVer s p r) d = false →
      ∃ t, exec (.engineSet p r) s = .next t ∧ t.cmd.reads = s.cmd.reads ++ [⟨d, body (ringVer s p r) d 191 128⟩] ∧
        t.out = (dmaRead p (body (ringVer s p r) d 191 128) 256 s).out ∧ t.cmd.live = s.cmd.live ∧ headDesc t p r = none) ∧
    (dOpcode d = 0x30 → flowAddBad (ringVer s p r) d = false →
      ∃ t, exec (.flowAdd p r) s = .next t ∧ t.cmd.reads = s.cmd.reads ++ [⟨d, body (ringVer s p r) d 127 64⟩] ∧
        t.out = s.out ++ [.hostRead p (body (ringVer s p r) d 127 64) 64] ∧ t.cmd.live = s.cmd.live ∧ headDesc t p r = none)) ∧
  (∀ (q a n : Nat) (s : State), 0 < n → n ≤ readMax s q → dmaRead q a n s = s.emit (.hostRead q a n)) ∧
  (∀ (p r : Fin 8) (x : PendRead) (s : State), s.cmd.reads.find? (fun y => y.desc.part == p.val && y.desc.ring == r.val) = some x →
    ∃ u, exec (.hostReadTimeout p r) s = .next (recordDue (mkTok s (ringVer s p r) x.desc) 0x17 0 0 none (occur 2 x.desc.part u)) ∧
      u.cmd.reads = s.cmd.reads.filter (fun y => !(y.desc.part == p.val && y.desc.ring == r.val)) ∧ u.cmd.live = s.cmd.live ∧
      u.cmd.due = s.cmd.due ∧ u.g F.CMD_RING_STAT_REFUSED [p, r] = satAdd 65535 (s.g F.CMD_RING_STAT_REFUSED [p, r]) 1)

/-- What an accepted take, salvo, audio take, cadence change or realignment leaves pending. On a device that takes its host's
takes, a presented descriptor with a good header and fields, that its own checks pass, is accepted with a tracker entry. TAKE
with NEXT or AT of a signal with no pending take becomes pending with its stamp, the live bank as it was; in mode SALVO it
becomes a member and its tracker entry gives up its credit. A later TAKE of a signal whose pending take is no salvo member
replaces it, and the replaced take's record SUPERSEDED falls due with its stamp. SALVO_OPEN opens its ID on its cadence and
completes. SALVO_COMMIT of an open salvo gives the salvo and every member its commit point and closes it; with ABORT it ends the
salvo and every member, members that gave up their credit leaving no record, and its own record has code ABORTED; with IMAGE it
closes the image into a salvo of the changed signals. AUDIO_TAKE over channels with none pending becomes pending and writes its
loft entries, the live entries as they were. CADENCE_SET and REALIGN_PULSES of partition 0 become pending with their stamp. -/
def Obligations.TakesSalvosAndAudioTakesAreAccepted : Prop :=
  (∀ (p r : Fin 8) (d : Desc) (st : Stamp) (late : Bool) (s : State), Presented s p r d → HeaderOk s p r d → dOpcode d = 0x10 →
    takeBad (ringVer s p r) d = false → s.takesHost = true → takeOwn (ringVer s p r) d (judgedIn s p r d) = none →
    (takeCheck (judgedIn s p r d) (ringVer s p r) d (takeDst (ringVer s p r) d).1 (takeDst (ringVer s p r) d).2 (takeSrc (ringVer s p r) d) = .ok (some (st, late)) →
      (takeOf s (takeDst (ringVer s p r) d).1 (takeDst (ringVer s p r) d).2 = none →
        ∃ t, exec (.take p r) s = .next t ∧ t.cmd.live = s.cmd.live ++ [itsTok s p r d] ∧
          t.xpt.takes = s.xpt.takes ++ [⟨s.cmd.nextId, (takeDst (ringVer s p r) d).1, (takeDst (ringVer s p r) d).2, takeSrc (ringVer s p r) d, st, late, none⟩] ∧
          ∀ i : Fin 10240, t.rd R.XPT_LIVE [i] = s.rd R.XPT_LIVE [i]) ∧
      (∀ (old : PendTake) (k : Tok), takeOf s (takeDst (ringVer s p r) d).1 (takeDst (ringVer s p r) d).2 = some old → old.salvo = none →
        tokOf s old.tok = some k → k.repl = false → k.dead = false → k.credit = true → s.on F.CMD_CPL_CFG_EN [k.part] = true → k.part < 8 →
        ∃ t, exec (.take p r) s = .next t ∧
          t.xpt.takes = s.xpt.takes.filter (fun x => !(x.d == old.d && x.m == old.m)) ++
            [⟨s.cmd.nextId, old.d, old.m, takeSrc (ringVer s p r) d, st, late, none⟩] ∧
          t.cmd.due = insertDue ⟨k, 1, b2n old.late, old.d + old.m * 2 ^ 11, old.stamp.frame, old.stamp.line, old.stamp.cad, s.ticks⟩ s.cmd.due)) ∧
    (takeCheck (judgedIn s p r d) (ringVer s p r) d (takeDst (ringVer s p r) d).1 (takeDst (ringVer s p r) d).2 (takeSrc (ringVer s p r) d) = .ok none →
      takeOf s (takeDst (ringVer s p r) d).1 (takeDst (ringVer s p r) d).2 = none → FreshTok s →
      ∃ t, exec (.take p r) s = .next t ∧ t.cmd.live = s.cmd.live ++ [{ itsTok s p r d with credit := false }] ∧
        t.xpt.takes = s.xpt.takes ++ [⟨s.cmd.nextId, (takeDst (ringVer s p r) d).1, (takeDst (ringVer s p r) d).2, takeSrc (ringVer s p r) d,
          ⟨dstCad s (takeDst (ringVer s p r) d).1 (takeDst (ringVer s p r) d).2, 0, 0, false⟩, false, some ⟨d.part, cbSalvo (ringVer s p r) d⟩⟩])) ∧
  (∀ (p r : Fin 8) (d : Desc) (s : State), Presented s p r d → HeaderOk s p r d → dOpcode d = 0x11 → body (ringVer s p r) d 383 6 = 0 →
    s.takesHost = true → salvoOpenOwn (ringVer s p r) d (judgedIn s p r d) = none → FreshTok s → s.on F.CMD_CPL_CFG_EN [p] = true → dNoCpl d = false →
    ∃ t, exec (.salvoOpen p r) s = .next t ∧ t.cmd.due = insertDue ⟨itsTok s p r d, 0, 0, 0, 0, 0, 0, s.ticks⟩ s.cmd.due ∧ t.cmd.live = s.cmd.live ∧
      t.xpt.salvos = s.xpt.salvos ++ [⟨⟨p, body (ringVer s p r) d 2 0⟩, body (ringVer s p r) d 5 3, none, false⟩]) ∧
  (∀ (p r : Fin 8) (d : Desc) (st : Stamp) (late : Bool) (s : State), Presented s p r d → HeaderOk s p r d → dOpcode d = 0x12 →
    salvoCommitBadIn s (ringVer s p r) d = false → s.takesHost = true → salvoCommitOwn (ringVer s p r) d (judgedIn s p r d) = none →
    (∀ x : Salvo, scImage (ringVer s p r) d = false → scAbort (ringVer s p r) d = false → salvoOf s ⟨d.part, cbSalvo (ringVer s p r) d⟩ = some x →
      stampOf (judgedIn s p r d) (ringVer s p r) d x.cad false = .ok (st, late) →
      ∃ t, exec (.salvoCommit p r) s = .next t ∧ t.cmd.live = s.cmd.live ++ [itsTok s p r d] ∧
        t.xpt = (commitSalvo ⟨d.part, cbSalvo (ringVer s p r) d⟩ s.cmd.nextId st late s).xpt ∧
        (∀ x ∈ t.xpt.takes, x.salvo = some ⟨d.part, cbSalvo (ringVer s p r) d⟩ → x.stamp = st ∧ x.late = late) ∧
        (∀ x ∈ t.aud.pend, x.salvo = some ⟨d.part, cbSalvo (ringVer s p r) d⟩ → x.stamp = st ∧ x.late = late) ∧
        (∀ x ∈ t.xpt.salvos, x.key = ⟨d.part, cbSalvo (ringVer s p r) d⟩ → x.commit = some (s.cmd.nextId, st) ∧ x.late = late)) ∧
    (scImage (ringVer s p r) d = false → scAbort (ringVer s p r) d = true → FreshTok s → s.on F.CMD_CPL_CFG_EN [p] = true →
      s.on F.PMU_SAMP_CFG_LAT_EN [] = false →
      (∀ x ∈ s.xpt.takes, x.salvo = some ⟨d.part, cbSalvo (ringVer s p r) d⟩ → ∃ k, tokOf s x.tok = some k ∧ k.credit = false ∧ k.repl = false ∧ k.period = false) →
      (∀ x ∈ s.aud.pend, x.salvo = some ⟨d.part, cbSalvo (ringVer s p r) d⟩ → ∃ k, tokOf s x.tok = some k ∧ k.credit = false ∧ k.repl = false ∧ k.period = false) →
      ∃ t, exec (.salvoCommit p r) s = .next t ∧ t.cmd.due = insertDue ⟨itsTok s p r d, 3, 0, 0x7FF * 2 ^ 28, 0, 0, 0, s.ticks⟩ s.cmd.due ∧
        salvoOf t ⟨d.part, cbSalvo (ringVer s p r) d⟩ = none ∧
        (∀ x ∈ t.xpt.takes, x ∈ s.xpt.takes ∧ x.salvo ≠ some ⟨d.part, cbSalvo (ringVer s p r) d⟩) ∧
        (∀ x ∈ t.aud.pend, x ∈ s.aud.pend ∧ x.salvo ≠ some ⟨d.part, cbSalvo (ringVer s p r) d⟩)) ∧
    (scImage (ringVer s p r) d = true → scAbort (ringVer s p r) d = false →
      stampOf (judgedIn s p r d) (ringVer s p r) d (body (ringVer s p r) d 68 66) false = .ok (st, late) →
      ∃ t, exec (.salvoCommit p r) s = .next t ∧ t.on F.XPT_BANK_CTRL_IMAGE_OPEN [] = false ∧ t.cmd.live = s.cmd.live ++ [itsTok s p r d] ∧
        t.xpt.takes = s.xpt.takes ++ (imageGroups s).map (fun g => ⟨noTok, g / 8, g % 8, loftSource s g, st, late, some ⟨d.part, 8⟩⟩) ∧
        t.xpt.salvos = s.xpt.salvos ++ [⟨⟨d.part, 8⟩, body (ringVer s p r) d 68 66, some (s.cmd.nextId, st), late⟩])) ∧
  (∀ (p r : Fin 8) (d : Desc) (st : Stamp) (late : Bool) (s : State), Presented s p r d → HeaderOk s p r d → dOpcode d = 0x13 →
    cbBad [0, 1, 2] true (ringVer s p r) d = false → body (ringVer s p r) d 383 112 = 0 → s.takesHost = true →
    audOwn (ringVer s p r) d (judgedIn s p r d) = none → audCheck (judgedIn s p r d) (ringVer s p r) d = .ok (some (st, late)) →
    (∀ x ∈ s.aud.pend, runsMeet x.n x.c (atN (ringVer s p r) d) (atC (ringVer s p r) d) = false) →
    ∃ t, exec (.audioTake p r) s = .next t ∧ t.cmd.live = s.cmd.live ++ [itsTok s p r d] ∧
      t.aud.pend = s.aud.pend ++ [⟨s.cmd.nextId, atN (ringVer s p r) d, atC (ringVer s p r) d, atSrc (ringVer s p r) d, atFade (ringVer s p r) d, st, late, none⟩] ∧
      (∀ j < atC (ringVer s p r) d, t.rd R.AUD_LOFT [atN (ringVer s p r) d + j] =
        audEntry (atSrc (ringVer s p r) d) j (s.rd R.AUD_LOFT [atN (ringVer s p r) d + j])) ∧
      ∀ i : Fin 32768, t.rd R.AUD_LIVE [i] = s.rd R.AUD_LIVE [i]) ∧
  (∀ (r : Fin 8) (d : Desc) (st : Stamp) (late : Bool) (s : State), Presented s 0 r d → HeaderOk s 0 r d → s.takesHost = true →
    stampOf (judgedIn s 0 r d) (ringVer s 0 r) d (csCad (ringVer s 0 r) d) true = .ok (st, late) → cbBad [0, 1] false (ringVer s 0 r) d = false →
    (dOpcode d = 0x14 → body (ringVer s 0 r) d 383 86 = 0 → cadSetOwn (ringVer s 0 r) d (judgedIn s 0 r d) = none →
      ∃ t, exec (.cadenceSet 0 r) s = .next t ∧ t.cmd.live = s.cmd.live ++ [itsTok s 0 r d] ∧
        t.xpt.cadOps = s.xpt.cadOps ++ [⟨s.cmd.nextId, st, late, false, csFormat (ringVer s 0 r) d, csRate (ringVer s 0 r) d, csLine (ringVer s 0 r) d⟩]) ∧
    (dOpcode d = 0x15 → body (ringVer s 0 r) d 383 67 = 0 → realignOwn (ringVer s 0 r) d (judgedIn s 0 r d) = none →
      ∃ t, exec (.realignPulses 0 r) s = .next t ∧ t.cmd.live = s.cmd.live ++ [itsTok s 0 r d] ∧
        t.xpt.cadOps = s.xpt.cadOps ++ [⟨s.cmd.nextId, st, late, true, 0, 0, 0⟩]))

/-- An ECB that arrives, layer flips and signature expectations accepted, and a fence set carried out. ECB_READ_COMPLETE of a
ring's waiting ENGINE_SET whose ECB passes the checks accepts it: with none pending on its engine, the ECB becomes pending with
its stamp and charge, the engine is charged the larger of the old and the new, the ECB in effect stays, and the ring waits for
no read. LAYER_FLIP that its checks pass and whose layer has no pending flip stands alone, closed, for the frame it is stamped
for; with a group ID not in use and without CLOSE it opens the group; with an open group's ID and CLOSE it joins it and gives it
its frame. With ABORT and group 0 it completes ABORTED and stages nothing. SIG_EXPECT that its checks pass and that stands alone
is staged for the frame it is stamped for; the groups of its cadence whose fence line has come are then judged, so that where no
other closed group awaits its judgement it stands as staged before its engine's fence line, and is judged to proceed from it on.
FENCE_SET_EXECUTE carries out the oldest FENCE_SET: the fence takes the value where FORCE is set or the value is not behind the
old one, else it stays, and the record's RESULT is the value that then stands. -/
def Obligations.EnginesFlipsAndFencesAreSetUp : Prop :=
  (∀ (p r : Fin 8) (ecb : BitVec 2048) (x : PendRead) (st : Stamp) (late : Bool) (s : State), readOf s p r 0x20 = some x → s.takesHost = true →
    engineCheck (dropRead p r s) (ringVer s p r) x.desc (toWords 64 ecb.toNat) = .ok (st, late) →
    (∀ y ∈ s.eng.pend, y.eng ≠ edEngine (ringVer s p r) x.desc) →
    ∃ t, exec (.ecbReadComplete p r ecb) s = .next t ∧ readOf t p r 0x20 = none ∧
      t.cmd.live = s.cmd.live ++ [mkTok s (ringVer s p r) x.desc] ∧
      t.eng.pend = s.eng.pend ++ [⟨s.cmd.nextId, edEngine (ringVer s p r) x.desc, st, late, toWords 64 ecb.toNat, ecbCharge s (toWords 64 ecb.toNat)⟩] ∧
      t.g F.ENG_CHARGE_CHARGE [edEngine (ringVer s p r) x.desc] =
        max (curCharge s (edEngine (ringVer s p r) x.desc)) (ecbCharge s (toWords 64 ecb.toNat)) % 2 ^ 16 ∧
      t.ecb (edEngine (ringVer s p r) x.desc) = s.ecb (edEngine (ringVer s p r) x.desc)) ∧
  (∀ (p r : Fin 8) (d : Desc) (s : State), Presented s p r d → HeaderOk s p r d → dOpcode d = 0x21 → layerFlipBad (ringVer s p r) d = false →
    s.takesHost = true →
    let v := ringVer s p r
    let m := lfMember v d s.cmd.nextId
    let own := flipOwn (lfGroup v d) (lfClose v d) (lfAbort v d) false ((m.buf.isSome && decide (m.item < 2)) || (m.en.isSome && m.item == 0)) v d
      (judgedIn s p r d)
    own = none →
    (lfAbort v d = false → (∀ g ∈ s.eng.groups, ∀ x ∈ g.members, ¬ (x.sig = false ∧ x.eng = m.eng ∧ x.item = m.item)) →
      (∀ (f : Nat) (late : Bool), lfGroup v d = 0 → flipStamp (judgedIn s p r d) v d (s.engCad m.eng) (groupLead s d.part 0 m.eng false) = some (f, late) →
        ∃ t, exec (.layerFlip p r) s = .next t ∧ t.cmd.live = s.cmd.live ++ [itsTok s p r d] ∧
          ⟨d.part, 0, s.engCad m.eng, f, true, late, 0, none, [m]⟩ ∈ t.eng.groups) ∧
      (lfGroup v d ≠ 0 → lfClose v d = false → groupOf s d.part (lfGroup v d) = none →
        ∃ t, exec (.layerFlip p r) s = .next t ∧ t.cmd.live = s.cmd.live ++ [itsTok s p r d] ∧
          ⟨d.part, lfGroup v d, s.engCad m.eng, 0, false, false, 0, none, [m]⟩ ∈ t.eng.groups) ∧
      (∀ (f : Nat) (late : Bool) (g : FlipGroup), lfGroup v d ≠ 0 → lfClose v d = true → groupOf s d.part (lfGroup v d) = some g →
        flipStamp (judgedIn s p r d) v d (s.engCad m.eng) (groupLead s d.part (lfGroup v d) m.eng false) = some (f, late) →
        ∃ t, exec (.layerFlip p r) s = .next t ∧
          { g with members := g.members ++ [m], closed := true, frame := f, late := late } ∈ t.eng.groups)) ∧
    (lfAbort v d = true → lfGroup v d = 0 → FreshTok s → s.on F.CMD_CPL_CFG_EN [p] = true →
      ∃ t, exec (.layerFlip p r) s = .next t ∧ t.cmd.due = insertDue ⟨itsTok s p r d, 3, 0, 0, 0, 0, 0, s.ticks⟩ s.cmd.due ∧ t.eng = s.eng)) ∧
  (∀ (p r : Fin 8) (d : Desc) (f : Nat) (late : Bool) (s : State), Presented s p r d → HeaderOk s p r d → dOpcode d = 0x23 →
    sigExpectBad (ringVer s p r) d = false → s.takesHost = true → seGroup (ringVer s p r) d = 0 → seAbort (ringVer s p r) d = false →
    flipOwn 0 (seClose (ringVer s p r) d) false true false (ringVer s p r) d (judgedIn s p r d) = none →
    flipStamp (judgedIn s p r d) (ringVer s p r) d (s.engCad (edEngine (ringVer s p r) d)) 0 = some (f, late) →
    let e := edEngine (ringVer s p r) d
    let c := s.engCad e
    let m := seMember (ringVer s p r) d s.cmd.nextId
    let now := fenceBegun s c f (fenceLead s e)
    ∃ u t, exec (.sigExpect p r) s = .next t ∧ t = fenceLines c u ∧ u.cmd.live = s.cmd.live ++ [itsTok s p r d] ∧
      ⟨d.part, 0, c, f, true, late, 0, none, [m]⟩ ∈ u.eng.groups ∧
      ((∀ g ∈ s.eng.groups, g.cad = c → g.closed = true → g.verdict ≠ none) →
        t.cmd.live = s.cmd.live ++ [itsTok s p r d] ∧
        ⟨d.part, 0, c, f, true, late, 0, if now = true then some true else none,
          [if now = true then { m with seen := some true } else m]⟩ ∈ t.eng.groups)) ∧
  (∀ (x : PendFence) (rest : List PendFence) (k : Tok) (s : State), s.cmd.fences = x :: rest → x.engine < 64 → x.fence < 4 → x.value < 2 ^ 64 →
    tokOf s x.tok = some k → k.repl = false → k.dead = false → k.credit = true → k.noCpl = false → k.part < 8 →
    s.on F.CMD_CPL_CFG_EN [k.part] = true →
    ∃ t, exec .fenceSetExecute s = .next t ∧ t.cmd.fences = rest ∧
      fenceVal t x.engine x.fence = (if x.force = true ∨ reached x.value (fenceVal s x.engine x.fence) = true then x.value
        else fenceVal s x.engine x.fence) ∧
      t.cmd.due = insertDue ⟨k, 0, 0, fenceVal t x.engine x.fence, 0, 0, 0, s.ticks⟩ s.cmd.due)

/-- Lost inputs, judged regions, writeback frames, fence reads and the engines' clears. ENG_INPUT_LOST of a used channel of a
running engine, not yet lost, with no record begun for 4 line periods, marks the channel lost, sets A_LOST and is an occurrence
of source 165. SIG_REGION_JUDGE of a region in use whose last line has passed, once in a frame, composes what the engine still
holds and judges it: a region whose lines all came shows its CRC-32C and frame; a region that passes its mode's test has MATCH 1
and RUN 0; one that fails has MATCH 0, MISMATCH one higher and RUN one higher up to 255, and where the run reaches its limit it
is an occurrence of the engine's signature source. WB_FRAME_COMPLETE of a frame in progress, what the engine still holds
composed, moves LAST to the next entry of the ring, sets VALID, shows the frame and ends the frame in progress; a frame the
cellar did not take is skipped and ends too. FENCE_READ_COMPLETE of an outstanding read of a fence in host memory shows the
value as seen, ends the read, and gives every member that waits for it whether the fence has reached its target; an error gives
them that it has not. A group still waiting for another sample then stands with what it has; one whose members are all sampled
proceeds if all have reached their targets, and else is deferred by one frame, unless its deferrals reach its limit. A read no
member waits for any more changes no group. A read of a fence in the cellar waits while the stack is not ready. ENG_B_LATE_CLR,
FS_STAT_CLEAR, FLIP_STAT_CLR and SIG_MISMATCH_CLR clear their counters. -/
def Obligations.EnginesReportWhatTheyMiss : Prop :=
  (∀ (e : Fin 64) (k : Fin 4) (s : State), s.engOn e = true → k.val ∈ channels (s.ecb e) → (s.fsc e k).lost = false →
    linesPassed s (s.engCad e) 4 (s.ticks - (s.fsc e k).lastBegin) = true →
    ∃ u, exec (.engInputLost e k) s = .next (occur 165 e u) ∧ u.fsc e k = { s.fsc e k with lost := true } ∧ u.on F.ENG_STAT_A_LOST [e] = true ∧
      ∀ j : Fin 4, j ≠ k → u.fsc e j = s.fsc e j) ∧
  (∀ (e : Fin 64) (r : Fin 4) (s : State), s.engOn e = true → s.eb e (32 + 3 * r) 31 30 ≠ 0 → regionEnd s e r < (s.cad (s.engCad e)).line →
    (getD {} s.eng.sig (4 * e + r) : SigAcc).judged ≠ some (s.cad (s.engCad e)).frame →
    let w := engFlushAll e s
    let a : SigAcc := getD {} w.eng.sig (4 * e + r)
    let y0 := w.eb e (34 + 3 * r) 28 16
    let h := w.eb e (34 + 3 * r) 12 0
    let whole := (List.range h).all (fun i => (find? a.lines (y0 + i)).isSome)
    let crc := crc32c ((List.range h).flatMap (fun i => getD [] a.lines (y0 + i)))
    let passes := whole && (if w.eb e (32 + 3 * r) 31 30 = 1 then crc == w.rd R.ENG_ECB [e, 44 + r]
      else if w.eb e (32 + 3 * r) 31 30 = 2 then a.prev.isNone || a.prev == some crc else !(a.prev == some crc))
    ∃ u, exec (.sigRegionJudge e r) s = .next (if passes = false ∧ a.run + 1 = w.eb e (32 + 3 * r) 27 20 then occur (101 + e) r u else u) ∧
      (whole = true → u.rd R.ENG_SIG_CRC [e, r] = crc ∧ u.rd R.ENG_SIG_FRAME [e, r] = BitVec.ofNat 32 (w.cad (w.engCad e)).frame) ∧
      (whole = false → u.rd R.ENG_SIG_CRC [e, r] = w.rd R.ENG_SIG_CRC [e, r]) ∧
      (passes = true → u.g F.ENG_SIG_STAT_MATCH [e, r] = 1 ∧ u.g F.ENG_SIG_STAT_RUN [e, r] = 0 ∧
        u.g F.ENG_SIG_STAT_MISMATCH [e, r] = w.g F.ENG_SIG_STAT_MISMATCH [e, r]) ∧
      (passes = false → u.g F.ENG_SIG_STAT_MATCH [e, r] = 0 ∧ u.g F.ENG_SIG_STAT_RUN [e, r] = min 255 (a.run + 1) ∧
        u.g F.ENG_SIG_STAT_MISMATCH [e, r] = satAdd 65535 (w.g F.ENG_SIG_STAT_MISMATCH [e, r]) 1) ∧
      (getD {} u.eng.sig (4 * e + r)).judged = some (w.cad (w.engCad e)).frame) ∧
  (∀ (e : Fin 64) (fr : Nat) (s : State), find? s.eng.wb e = some fr →
    (∃ t, exec (.wbFrameComplete e true) s = .next t ∧ find? t.eng.wb e = none ∧ t.rd R.ENG_WB_FRAME [e] = BitVec.ofNat 32 fr ∧
      t.g F.ENG_WB_STAT_LAST [e] = ((engFlushAll e s).g F.ENG_WB_STAT_LAST [e] + 1) % max 1 (s.eb e 49 6 0) ∧ t.on F.ENG_WB_STAT_VALID [e] = true) ∧
    (∃ t, exec (.wbFrameComplete e false) s = .next t ∧ find? t.eng.wb e = none ∧
      t = { occur 168 e ((s.bump F.ENG_WB_STAT_SKIPS [e] 1).count 373 1) with eng := t.eng })) ∧
  (∀ (e : Fin 64) (k : Fin 4) (v : Option (BitVec 64)) (s : State), s.eb e (20 + k) 31 30 ≠ 2 →
    let key := (e.val, k.val)
    (key ∈ s.eng.engReads → key ∉ s.eng.oldReads → ∃ t, exec (.fenceReadComplete e k v) s = .next t ∧ key ∉ t.eng.engReads ∧
      (∀ x, v = some x → t.g F.ENG_FENCE_SEEN_LO_SEEN_LO [e, k] + 2 ^ 32 * t.g F.ENG_FENCE_SEEN_HI_SEEN_HI [e, k] = x.toNat) ∧
      (∀ g ∈ s.eng.groups, ∀ m ∈ g.members, ∀ target, m.reading = true → m.eng = e.val → m.fence = some (k.val, target) →
        let got := fun (x : FlipM) => match x.fence with
          | some (j, y) => if x.reading = true ∧ x.eng = e.val ∧ j = k.val then
              { x with reading := false, seen := some (match v with
                | some n => reached n.toNat y
                | none => false) } else x
          | none => x
        let g1 := { g with members := g.members.map got }
        let ready := g.closed = true ∧ g.verdict = none ∧ ∀ x ∈ g1.members, x.seen ≠ none ∧ x.reading = false
        (got m).seen = some (match v with
          | some n => reached n.toNat target
          | none => false) ∧
        (¬ ready → g1 ∈ t.eng.groups) ∧
        (ready → (∀ x ∈ g1.members, x.seen = some true) → { g1 with verdict := some true } ∈ t.eng.groups) ∧
        (ready → (∃ x ∈ g1.members, x.seen = some false) → maxDefer s g1 = 0 ∨ g.defers + 1 < maxDefer s g1 →
          { g1 with defers := g.defers + 1, frame := (g.frame + 1) % 2 ^ 32, verdict := none,
                    members := g1.members.map (fun x => { x with seen := none, reading := false }) } ∈ t.eng.groups))) ∧
    (key ∈ s.eng.oldReads → ∃ t, exec (.fenceReadComplete e k v) s = .next t ∧ t.eng.groups = s.eng.groups ∧
      t.eng.engReads = s.eng.engReads ∧ t.eng.oldReads = eraseFirst (· == key) s.eng.oldReads)) ∧
  (∀ (e : Fin 64) (k : Fin 4) (v : Option (BitVec 64)) (s : State), s.eb e (20 + k) 31 30 = 2 → celWaits s = true →
    (e.val, k.val) ∈ s.eng.engReads → s.cel.lost.contains (e.val, k.val) = false → exec (.fenceReadComplete e k v) s = .next (srWake s)) ∧
  (∀ (rq : Req) (e : Fin 64) (r : Fin 4) (s : State), Reaches rq .eng s →
    (∃ t, exec (.engBLateClr rq e) s = .next t ∧ t.g F.ENG_STAT_B_LATE [e] = 0 ∧ t.engOn e = s.engOn e ∧ t.eng = s.eng) ∧
    exec (.fsStatClear rq e) s = .next ((s.wr R.ENG_FS_STAT [e] 0).wr R.ENG_FS_STAT2 [e] 0) ∧
    (∃ t, exec (.flipStatClr rq e) s = .next t ∧ t.g F.ENG_FLIP_STAT_DEFERRED [e] = 0 ∧ t.g F.ENG_FLIP_STAT_TIMEOUTS [e] = 0 ∧ t.eng = s.eng) ∧
    exec (.sigMismatchClr rq e r) s = .next (s.p F.ENG_SIG_STAT_MISMATCH [e, r] 0))

/-- A flow entry that arrives, a flow deleted, and a firmware update accepted. FLOW_ENTRY_READ_COMPLETE of a ring's waiting
FLOW_ADD whose entry passes the checks on a device that takes its host's changes writes the entry into the table as it came and
then completes the descriptor with the larder blocks in use as RESULT; every other entry is as it was, but that the mate of a
paired entry takes PAIR and the new entry's number. A transmit entry added so has VALID at 1 and its counters at 0. An entry
that fails a check, or that arrives in another state of the plane, leaves the table as it was. FLOW_DEL of a valid entry of the
partition's range leaves it absent and, where it was no primary of a pair, every entry but it and its mate as it was; a transmit
entry deleted goes on to the end of its frame. FW_UPDATE of partition 0 that its checks pass, its header read without an error,
becomes the update in progress, with the image's address, length and version; no slot changes yet. While the cellar's stack is
not ready it stays at the head of its ring, and wakes the stack. -/
def Obligations.FlowsAndUpdatesAreTakenUp : Prop :=
  (∀ (p r : Fin 8) (e : BitVec 512) (x : PendRead) (s : State), readOf s p r 0x30 = some x →
    let f := faFlow (ringVer s p r) x.desc
    (s.takesHost = true → flowCheck (dropRead p r s) false x.desc f e = none →
      (∃ u, exec (.flowEntryReadComplete p r e) s =
          .next (finish s.cmd.nextId 0 0 (u.g F.FLW_LARDER_USED []) none (forward (ringVer s p r) x.desc none false (toWords 16 e.toNat) u)) ∧
        u.flow f = e ∧ u.g F.FLW_LARDER_USED [] = larderUsed u % 2 ^ 15 ∧
        (∀ g, g ≠ f → (fPair e = true → g ≠ fMate e) → u.flow g = s.flow g) ∧
        (fPair e = true → fPair (u.flow (fMate e)) = true ∧ fMate (u.flow (fMate e)) = f) ∧
        (fTx e = true → u.on F.FLW_STAT_VALID [f] = true ∧ u.rd R.FLW_CNT0 [f] = 0 ∧ u.rd R.FLW_CNT1 [f] = 0 ∧ u.rd R.FLW_CNT2 [f] = 0)) ∧
      (∃ t, exec (.flowEntryReadComplete p r e) s = .next t ∧ t.flow f = e)) ∧
    (∀ c, (s.takesHost = false ∨ flowCheck (dropRead p r s) false x.desc f e = some c) →
      ∃ t, exec (.flowEntryReadComplete p r e) s = .next t ∧ t.flw.tbl = s.flw.tbl)) ∧
  (∀ (p r : Fin 8) (d : Desc) (s : State), Presented s p r d → HeaderOk s p r d → dOpcode d = 0x31 → body (ringVer s p r) d 383 14 = 0 →
    s.takesHost = true → inFlowRange d (faFlow (ringVer s p r) d) = true → fValid (s.flow (faFlow (ringVer s p r) d)) = true →
    let f := faFlow (ringVer s p r) d
    ∃ t, exec (.flowDel p r) s = .next t ∧ t.flow f = 0 ∧
      (∀ g, g ≠ f → (fPair (s.flow f) = true → g ≠ fMate (s.flow f)) → t.flow g = s.flow g) ∧
      (fPair (s.flow f) = true → fSecondary (s.flow f) = false → t.flow (fMate (s.flow f)) = 0) ∧
      (fTx (s.flow f) = true → fPair (s.flow f) = false → t.flw.dying = s.flw.dying ++ [(f, s.flow f, s.ftx f)])) ∧
  (∀ (r : Fin 8) (d : Desc) (s : State), Presented s 0 r d → HeaderOk s 0 r d → dOpcode d = 0x40 →
    body (ringVer s 0 r) d 63 22 = 0 → body (ringVer s 0 r) d 383 96 = 0 → fwEarly (ringVer s 0 r) d (judgedIn s 0 r d) = none →
    (celWaits s = true → exec (.fwUpdate 0 r) s = .next (srWake s)) ∧
    (celWaits s = false → (∀ w ∈ wordsOf (fwAddr (ringVer s 0 r) d) 512, celFlips s w = 0) → fwOwn (ringVer s 0 r) d (judgedIn s 0 r d) = none →
    ∃ t, exec (.fwUpdate 0 r) s = .next t ∧
      t.sys.fw = some ⟨s.cmd.nextId, fwAddr (ringVer s 0 r) d, fwLen (ringVer s 0 r) d, hdr (s.celData (fwAddr (ringVer s 0 r) d) 512) 0xC 4⟩ ∧
      ∀ k : Fin 2, t.rd R.BOOT_SLOT_VER [k] = s.rd R.BOOT_SLOT_VER [k] ∧ t.rd R.BOOT_SLOT_SEQ [k] = s.rd R.BOOT_SLOT_SEQ [k]))

/-- A sample instant of the matrix, its maps, its rate, its blocks' set-up, a group's stop, and the clears. AUDIO_SAMPLE_INSTANT
that house time has reached first ends the fades that are over and starts those of the takes at their commit sample; then each
destination channel takes the sample that its source channel had at the instant before, none where it is unrouted, and in a fade
the faded sample; every fade moves on by one, and the samples of the one and two instants before are kept. DEEMB_GROUP_STOP of a
group at work whose source has gone clears the group and its PRESENT bit; RUNNING shows whether another runs. AUDIO_RATE_WRITE
of another rate while a take pends or anything that the rate bears on is enabled sets CFG_ERR and counts; else it takes the
rate. AUDIO_MAP_WRITE writes a de-embedder, a re-embedder or a TDM map that its rules accept, and else sets MAP_ERR alone.
AUD_DCAD_WRITE of a block with no pending take, that puts no re-embedder on another cadence, writes it, a change of partition as
a protection write; with a pending take it sets MAP_BUSY and leaves the block. The clears of the pool, of de-embedder slips and
of skipped samples clear their counters. -/
def Obligations.AudioMatrixMovesAndIsMapped : Prop :=
  (∀ s : State, s.aud.inst < instNow s → Blk.aud ∉ s.sys.held →
    let u := commitSamples (endFades (fun f => decide (f.n ≤ f.k)) { s with aud := { s.aud with inst := s.aud.inst + 1 } })
    ∃ t, exec .audioSampleInstant s = .next t ∧ t.aud.inst = s.aud.inst + 1 ∧ t.aud.dst1 = s.aud.dst ∧ t.aud.dst2 = s.aud.dst1 ∧
      t.aud.fades = u.aud.fades.map (fun f => { f with k := f.k + 1 }) ∧
      (s.aud.commits = [] → u.aud.fades = s.aud.fades.filter (fun f => decide (f.k < f.n))) ∧
      (u.wf = true → (∀ e ∈ u.regs, e.1 % 4 = 0) → ∀ ch : Fin 32768,
        let new : AudWord := if eValid (u.rd R.AUD_LIVE [ch]) then getD {} s.aud.src ((u.rd R.AUD_LIVE [ch]).toNat % 2 ^ 15) else {}
        (u.rd R.AUD_LIVE [ch] = 0 → getD {} t.aud.dst ch = {}) ∧
        (u.rd R.AUD_LIVE [ch] ≠ 0 → getD {} t.aud.dst ch = (match u.aud.fades.find? (fun f => f.ch == ch.val) with
          | some f => fadeWord f (match f.old with | some m => getD {} s.aud.src m | none => {}) new
          | none => new)))) ∧
  (∀ (i : Fin 10240) (g : Fin 8) (s : State), ((s.deg i g).run = true ∨ (s.deg i g).q ≠ [] ∨ bitOf (s.g F.AUD_DEEMB_STAT_PRESENT [i]) g = true) →
    (linesPassed s (srcCad s (i / 8) (i % 8)) (s.raster (srcCad s (i / 8) (i % 8))) (s.ticks - (s.deg i g).seen) = true ∨
      (i.val < 9728 ∧ s.on F.XPT_ALIGN_STAT_VALID [i] = false)) →
    ∃ t, exec (.deembGroupStop i g) s = .next t ∧ t.deg i g = {} ∧ bitOf (t.g F.AUD_DEEMB_STAT_PRESENT [i]) g = false ∧ (∀ h : Fin 8, h ≠ g → t.deg i h = s.deg i h) ∧
      t.on F.AUD_DEEMB_STAT_RUNNING [i] = (List.range 8).any (fun h => h != g.val && (s.deg i h).run)) ∧
  (∀ (rq : Req) (v : Word) (s : State), Reaches rq .aud s → F.AUD_CFG_RATE.of v ≠ s.g F.AUD_CFG_RATE [] →
    let busy := s.aud.pend ≠ [] ∨ (∃ x ∈ s.flw.tbl, fValid x.2 = true ∧ fKind x.2 = 1) ∨ (∃ t : Fin 16, s.on F.AUD_TDM_CFG_EN [t] = true) ∨
      (∃ x ∈ listed s R.AUD_DEEMB 10240, F.AUD_DEEMB_EN.of x.2 = 1 ∧ follower (srcSub s) x.1 = false) ∨
      (∃ x ∈ listed s R.AUD_REEMB 9216, F.AUD_REEMB_EN.of x.2 = 1 ∧ follower (dstSub s) x.1 = false)
    (busy → exec (.audioRateWrite rq v) s = .next ((s.p F.AUD_STAT_CFG_ERR [] 1).count 359 1)) ∧
    (¬ busy →
      ∃ t, exec (.audioRateWrite rq v) s = .next t ∧ t.g F.AUD_CFG_RATE [] = F.AUD_CFG_RATE.of v ∧
        t.aud.inst = ceilDiv (s.ref.h * audRate t) (10 ^ 9 * hUnit) - 1)) ∧
  (∀ (rq : Req) (i : Fin 10240) (v : Word) (s : State), Reaches rq .aud s →
    (let w := writtenWord R.AUD_DEEMB [i] v (s.rd R.AUD_DEEMB [i])
     let n := F.AUD_DEEMB_GROUPS.of w
     let ok := F.AUD_DEEMB_EN.of w = 0 ∨ (1 ≤ n ∧ n ≤ 8 ∧ (follower (srcSub s) i = true ∨ runFree s 0 i (F.AUD_DEEMB_CHAN_BASE.of w) (4 * n) = true))
     (ok → ∃ t, exec (.audioMapWrite rq 0 i v) s = .next t ∧ t.rd R.AUD_DEEMB [i] = w) ∧
       (¬ ok → exec (.audioMapWrite rq 0 i v) s = .next (s.p F.AUD_STAT_MAP_ERR [] 1))) ∧
    (let w := writtenWord R.AUD_REEMB [i] v (s.rd R.AUD_REEMB [i])
     let n := F.AUD_REEMB_GROUPS.of w
     let ok := F.AUD_REEMB_EN.of w = 0 ∨ (1 ≤ n ∧ n ≤ 8 ∧
       (follower (dstSub s) i = true ∨ (F.AUD_REEMB_CHAN_BASE.of w + 4 * n ≤ audChans s ∧ reembedCads s i w = true)))
     i.val < 9216 → (ok → ∃ t, exec (.audioMapWrite rq 1 i v) s = .next t ∧ t.rd R.AUD_REEMB [i] = w) ∧
       (¬ ok → exec (.audioMapWrite rq 1 i v) s = .next (s.p F.AUD_STAT_MAP_ERR [] 1))) ∧
    (let w := writtenWord R.AUD_TDM_MAP [i] v (s.rd R.AUD_TDM_MAP [i])
     let n := s.g F.AUD_TDM_CFG_SLOTS [i] + 1
     let ok := (F.AUD_TDM_MAP_IN_EN.of w = 0 ∨ runFree s 1 i (F.AUD_TDM_MAP_IN_BASE.of w) n = true) ∧
       (F.AUD_TDM_MAP_OUT_EN.of w = 0 ∨ F.AUD_TDM_MAP_OUT_BASE.of w + n ≤ audChans s)
     i.val < 16 → (ok → exec (.audioMapWrite rq 2 i v) s = .next (s.wr R.AUD_TDM_MAP [i] w)) ∧
       (¬ ok → exec (.audioMapWrite rq 2 i v) s = .next (s.p F.AUD_STAT_MAP_ERR [] 1)))) ∧
  (∀ (rq : Req) (b : Fin 1024) (v : Word) (s : State), Reaches rq .aud s →
    let old := s.rd R.AUD_DCAD [b]
    let new := writtenWord R.AUD_DCAD [b] v old
    let err := (listed s R.AUD_REEMB 9216).any (fun x => runsMeet (F.AUD_REEMB_CHAN_BASE.of x.2) (4 * F.AUD_REEMB_GROUPS.of x.2) (32 * b) 32 &&
      !reembedCads (s.wr R.AUD_DCAD [b] new) x.1 x.2)
    new ≠ old →
    ((∀ x ∈ s.aud.pend, runsMeet x.n x.c (32 * b) 32 = false) → err = false →
      exec (.audDcadWrite rq b v) s = .next (if F.AUD_DCAD_PART.of new = F.AUD_DCAD_PART.of old then s.wr R.AUD_DCAD [b] new
        else protDone [F.AUD_DCAD_PART.of old, F.AUD_DCAD_PART.of new] (s.wr R.AUD_DCAD [b] new))) ∧
    ((∃ x ∈ s.aud.pend, runsMeet x.n x.c (32 * b) 32 = true) →
      ∃ t, exec (.audDcadWrite rq b v) s = .next t ∧ t.on F.AUD_STAT_MAP_BUSY [] = true ∧ t.rd R.AUD_DCAD [b] = old)) ∧
  (∀ (rq : Req) (i : Fin 10240) (k : Fin 9216) (s : State), Reaches rq .aud s →
    exec (.audPoolClr rq) s = .next ((s.p F.AUD_POOL_PEAK [] 0).p F.AUD_STAT_CUTS [] 0) ∧
    (∃ t, exec (.deembSlipsClr rq i) s = .next t ∧ t.g F.AUD_DEEMB_STAT_SLIPS [i] = 0 ∧ t.aud = s.aud) ∧
    exec (.reembSkippedClr rq k) s = .next (s.p F.AUD_REEMB_STAT_SKIPPED [k] 0))

/-- TDM ports: set-up, start and stop, frames, errors of the frame sync and clock, block times. TDM_CFG_WRITE of a set-up whose
frame fits, that leaves an enabled port's fields but EN and ACTIVE_ONLY as they are, is taken, and else sets CFG_ERR alone.
TDM_PORT_START of an enabled port that does not run, external or at a block boundary, runs it; TDM_PORT_STOP of a running port
disabled stops it and its driving. TDM_FRAME of a running internal port at a new instant sends, where it drives, its FSYNC and
the samples that its channels had two instants before, and its input, sampled at the edge set up, enters the matrix two instants
on. An external port begins a frame where it samples FSYNC active: frames are counted up to 5, the fifth in a row at its place
(four spacings) setting CLK_OK; running, its input joins the queue where that has room, and it sends what its output queue hands
over, before that runs the matrix's samples. A frame's slots stand in its cycles as the set-up says, most significant bit first,
and are read back from them; the other cycles are 0. TDM_FSYNC_ERROR of an external port clears CLK_OK, sets FS_ERR, takes the
samples out of the frame it broke, and is an occurrence of source 98 where it runs. TDM_CLK_LOSS clears CLK_OK, an occurrence
where a running external port had it. TDM_BLOCK_START shows the time and number of the block begun. TDM_TS_READ answers the
nanoseconds and latches the rest. TDM_SLIPS_CLR clears SLIPS. -/
def Obligations.TdmPortsRunFrames : Prop :=
  (∀ (rq : Req) (t : Fin 16) (v : Word) (s : State), Reaches rq .aud s →
    let old := s.rd R.AUD_TDM_CFG [t]
    let new := writtenWord R.AUD_TDM_CFG [t] v old
    let bits := 64 * 2 ^ F.AUD_TDM_CFG_FRAME_BITS.of new
    let fits := F.AUD_TDM_CFG_WIDTH.of new ≤ 2 ∧ F.AUD_TDM_CFG_FRAME_BITS.of new ≤ 4 ∧
      (F.AUD_TDM_CFG_SLOTS.of new + 1) * (16 + 8 * F.AUD_TDM_CFG_WIDTH.of new) ≤ bits ∧ F.AUD_TDM_CFG_OFFSET.of new < bits ∧
      bits * audRate s ≤ 49152000
    let ok := fits ∧ (F.AUD_TDM_CFG_EN.of old = 1 → old &&& 0x5FFFFFFF#32 = new &&& 0x5FFFFFFF#32)
    (ok → exec (.tdmCfgWrite rq t v) s = .next (s.wr R.AUD_TDM_CFG [t] new)) ∧
    (¬ ok → exec (.tdmCfgWrite rq t v) s = .next (s.p F.AUD_TDM_STAT_CFG_ERR [t] 1))) ∧
  (∀ (t : Fin 16) (s : State),
    (s.on F.AUD_TDM_CFG_EN [t] = true → tdmRuns s t = false → (tdmExt s t = true ∨ s.aud.inst % 48 = 0) →
      ∃ u, exec (.tdmPortStart t) s = .next u ∧ tdmRuns u t = true ∧ u.tdm t = { good := (s.tdm t).good }) ∧
    (s.on F.AUD_TDM_CFG_EN [t] = false → tdmRuns s t = true →
      ∃ u, exec (.tdmPortStop t) s = .next u ∧ tdmRuns u t = false ∧ u.on F.AUD_TDM_STAT_DRIVING [t] = false)) ∧
  (∀ (t : Fin 16) (fs : Bool × Bool) (din : List (Bool × Bool)) (s : State),
    let x := s.tdm t
    let n := 64 * 2 ^ s.g F.AUD_TDM_CFG_FRAME_BITS [t]
    let fall := s.on F.AUD_TDM_CFG_EDGE [t]
    let drive := (if s.on F.AUD_TDM_CFG_ACTIVE_ONLY [t] then s.isActive else true) && !fatalHeld s
    let slots := tdmRead s t (din.map (fun y => if fall then y.2 else y.1))
    let active := (if fall then fs.2 else fs.1) != s.on F.AUD_TDM_CFG_FS_POL [t]
    let fsync := (List.range n).map (fun c =>
      decide (c < (if s.on F.AUD_TDM_CFG_FS_FORM [t] then n / 2 else 1)) != s.on F.AUD_TDM_CFG_FS_POL [t])
    let dout := fun (sent : List Nat) => (List.range n).map (fun c => (tdmWire s t sent).getD c false || x.outTail.getD c false)
    (tdmRuns s t = true → tdmExt s t = false → x.at_ ≠ some s.aud.inst →
      ∃ u, exec (.tdmFrame t ⟨fs, din⟩) s = .next u ∧ u.on F.AUD_TDM_STAT_DRIVING [t] = drive ∧
        u.out = (if drive then s.out ++ [.tdm t true fall fsync (dout (tdmOut s t s.aud.dst2))] else s.out) ∧
        (u.tdm t).inWait = x.inWait ++ [(s.aud.inst + 2, x.frames, slots)] ∧ (u.tdm t).at_ = some s.aud.inst ∧
        (u.tdm t).outTail = (tdmWire s t (tdmOut s t s.aud.dst2)).drop n) ∧
    (tdmExt s t = true → active = false → exec (.tdmFrame t ⟨fs, din⟩) s = .next s) ∧
    (tdmExt s t = true → active = true → ∃ u, exec (.tdmFrame t ⟨fs, din⟩) s = .next u ∧ (u.tdm t).good = min 5 (x.good + 1) ∧
      (4 ≤ x.good → u.on F.AUD_TDM_STAT_CLK_OK [t] = true) ∧
      (tdmRuns s t = false → u.out = s.out ∧ (u.tdm t).inQ = x.inQ) ∧
      (tdmRuns s t = true → (u.tdm t).frames = x.frames + 1 ∧
        (u.tdm t).inQ = (if x.inQ.length < 4 then x.inQ ++ [(x.frames, slots)] else x.inQ) ∧
        (u.tdm t).outQ = (if x.outRun = true then x.outQ.drop 1 else x.outQ) ∧
        (x.inQ.length < 4 → x.outRun = false ∨ x.outQ ≠ [] →
          let sent := if x.outRun = true then x.outQ.headD [] else tdmOut s t s.aud.dst2
          u.out = (if drive then s.out ++ [.tdm t false fall [] (dout sent)] else s.out))))) ∧
  (∀ (t : Fin 16) (slots : List Nat) (s : State),
    let w := 16 + 8 * s.g F.AUD_TDM_CFG_WIDTH [t]
    let n := 64 * 2 ^ s.g F.AUD_TDM_CFG_FRAME_BITS [t]
    let start := fun (j : Nat) => (s.g F.AUD_TDM_CFG_OFFSET [t] + j * w) % n
    slots.length = s.g F.AUD_TDM_CFG_SLOTS [t] + 1 → slots.length * w ≤ n →
    (∀ j < slots.length, ∀ i < w, (tdmWire s t slots).getD (start j + i) false = bitOf (slots.getD j 0) (w - 1 - i)) ∧
    (∀ c, (∀ j < slots.length, ∀ i < w, c ≠ start j + i) → (tdmWire s t slots).getD c false = false) ∧
    ((∀ v ∈ slots, v < 2 ^ w) → tdmRead s t (tdmWire s t slots) = slots.map (slotIn (s.g F.AUD_TDM_CFG_WIDTH [t])))) ∧
  (∀ (t : Fin 16) (s : State), tdmExt s t = true →
    ∃ u, exec (.tdmFsyncError t) s = .next (if tdmRuns s t then occur 98 t u else u) ∧ (u.tdm t).good = 0 ∧
      u.on F.AUD_TDM_STAT_CLK_OK [t] = false ∧ u.on F.AUD_TDM_STAT_FS_ERR [t] = true ∧ (u.tdm t).inQ.length = (s.tdm t).inQ.length ∧
      ((s.tdm t).frames ≠ 0 → ∀ f, (f ∈ (u.tdm t).inQ ∨ f ∈ (u.tdm t).inWait.map (·.2) ∨ f = (u.tdm t).inLast) →
        f.1 + 1 = (s.tdm t).frames → f.2 = [])) ∧
  (∀ (t : Fin 16) (s : State),
    ∃ u, exec (.tdmClkLoss t) s = .next (if s.on F.AUD_TDM_STAT_CLK_OK [t] && tdmRuns s t && tdmExt s t then occur 98 t u else u) ∧
      (u.tdm t).good = 0 ∧ u.on F.AUD_TDM_STAT_CLK_OK [t] = false ∧ tdmRuns u t = tdmRuns s t) ∧
  (∀ (t : Fin 16) (sec ns : Nat) (s : State), (s.tdm t).block = some (sec, ns) → sec < 2 ^ 48 → ns < 10 ^ 9 →
    ∃ u, exec (.tdmBlockStart t) s = .next u ∧ u.g F.AUD_TDM_TS_NS_NS [t] = ns ∧
      u.g F.AUD_TDM_TS_SEC_LO_SEC_LO [t] + 2 ^ 32 * u.g F.AUD_TDM_TS_SEC_HI_SEC_HI [t] = sec ∧
      u.g F.AUD_TDM_TS_BLOCK_BLOCK [t] = (s.tdm t).blocks % 2 ^ 32 ∧ (u.tdm t).block = none ∧ (u.tdm t).blocks = (s.tdm t).blocks + 1) ∧
  (∀ (rq : Req) (t : Fin 16) (s : State), blkHeld s .aud = false → BusAwake rq s →
    ∃ u, exec (.tdmTsRead rq t) s = .next u ∧ u.regs = s.regs ∧
      u.out = s.out ++ [.regRead rq (R.AUD_TDM_TS_NS.addr [t]) (s.rd R.AUD_TDM_TS_NS [t])] ∧
      latched? u rq (R.AUD_TDM_TS_SEC_LO.addr [t]) = some (s.rd R.AUD_TDM_TS_SEC_LO [t]) ∧
      latched? u rq (R.AUD_TDM_TS_SEC_HI.addr [t]) = some (s.rd R.AUD_TDM_TS_SEC_HI [t]) ∧
      latched? u rq (R.AUD_TDM_TS_BLOCK.addr [t]) = some (s.rd R.AUD_TDM_TS_BLOCK [t])) ∧
  (∀ (rq : Req) (t : Fin 16) (s : State), Reaches rq .aud s →
    ∃ u, exec (.tdmSlipsClr rq t) s = .next u ∧ u.g F.AUD_TDM_STAT_SLIPS [t] = 0 ∧ u.aud = s.aud)

/-- A GRANT is accepted only if every check passes; the first failure discards it and is counted. With a lease key loaded: a
message whose framing, VERSION or TAG is wrong is discarded and counted in BAD_MSG; a GRANT for another plane in WRONG_PLANE; a
GRANT whose NONCE is of none of the HELLOs held, whose TERM is outside 5 to 500, or whose EPOCH is 0, below RED_SEEN, or below
RED_EPOCH while the device holds a lease, in STALE; and, with e the expiry that R367 gives and g the guard, a GRANT to a device
that is neither STANDBY nor ACTIVE, with ID_CLASH at 1, with a FATAL reaction held, or with e no more than g in the future, in
REFUSED. Any other GRANT is accepted: RED_EPOCH is its EPOCH, t_exp is e, the device is ACTIVE, and it is a holder. e is t_h +
TERM, and for a GRANT of the device's own epoch the larger of that and the t_exp held. A device is a holder exactly while the
present is before its t_exp. -/
def Obligations.GrantsAreJudgedInOrder : Prop :=
  (∀ (bytes key : List Byte) (s : State), leaseKey s = some key →
    (leaseParse key bytes = none →
      exec (.grantReceive bytes) s = .next ((s.bump F.RED_LEASE_CNT_BAD_MSG [] 1).count 440 1)) ∧
    (∀ m : LeaseMsg, leaseParse key bytes = some m → m.type = 0x81 →
      let own := s.g F.RED_EPOCH_EPOCH []
      let u : State := { s with red := { s.red with heard := some s.ticks } }
      let stale : Prop := (∀ h ∈ s.red.hellos, h.1 ≠ m.nonce) ∨ m.term < 5 ∨ 500 < m.term ∨ m.epoch = 0 ∨
        m.epoch < s.g F.RED_SEEN_SEEN [] ∨ (s.holder = true ∧ m.epoch < own)
      (m.plane ≠ s.planeId → exec (.grantReceive bytes) s = .next ((s.bump F.RED_LEASE_CNT_WRONG_PLANE [] 1).count 435 1)) ∧
      (m.plane = s.planeId → stale →
        exec (.grantReceive bytes) s = .next (seeEpoch 0 m.epoch ((u.bump F.RED_LEASE_CNT_STALE [] 1).count 435 1))) ∧
      (∀ th : Nat, m.plane = s.planeId → ¬ stale → s.red.hellos.find? (fun h => h.1 == m.nonce) = some (m.nonce, th) →
        let e := if m.epoch = own then max (th + msTicks m.term) (s.red.tExp.getD 0) else th + msTicks m.term
        let g := min (msTicks 10) (msTicks m.term / 2)
        let passes : Prop := (s.red.plane = .standby ∨ s.red.plane = .active) ∧ s.on F.SYS_STRAP_ID_CLASH [] = false ∧
          s.flt.fatal = false ∧ s.ticks + g < e
        (¬ passes → exec (.grantReceive bytes) s = .next (seeEpoch 0 m.epoch ((u.bump F.RED_LEASE_CNT_REFUSED [] 1).count 435 1))) ∧
        (passes → ∃ t, exec (.grantReceive bytes) s = .next t ∧ t.red.plane = .active ∧ t.red.tExp = some e ∧ t.holder = true ∧
          t.g F.RED_EPOCH_EPOCH [] = m.epoch ∧ t.g F.RED_LEASE_TERM_TERM [] = m.term ∧ t.red.heard = some s.ticks)))) ∧
  (∀ s : State, s.holder = true ↔ ∃ e, s.red.tExp = some e ∧ s.ticks < e)

/-- ACKs, HELLOs and HEALTH messages, and what the lease timer brings about. BAD_MSG_RECEIVE of code groups that no message can
be read from is counted, with a lease key or without; a message read from them is counted where its framing, or under a lease
key its VERSION or TAG, is wrong, and else changes nothing. Without a key a framed GRANT or ACK changes nothing. With a lease
key loaded, an ACK for this plane is heard, its epoch is seen, and one that names the other plane as holder takes an ACTIVE
device to STANDBY: it gives up its lease and sends a RELINQUISH; any other ACK changes nothing more. HELLO_SEND, while the port
runs and a HELLO is due, sends one with a fresh NONCE, in the code groups that follow the running disparity, and holds that and
its time among the last four; one not due sends nothing. HEALTH_SEND, 1 s after the last or when bytes 8 to 11 of the report
have changed, sends the report. LEASE_EXPIRY at t_exp leaves the device without a lease and not ACTIVE. LEASE_GUARD_STEPDOWN of
an ACTIVE holder that hears the frame controller at t_exp less the guard, and EPOCH_STEPDOWN of an ACTIVE device whose RED_SEEN
is above RED_EPOCH or that owes a step-down, take it to STANDBY and give up the lease. The device hears the frame controller for
its hearing interval after a message; HEARS_FC_LAPSE forgets one heard more than 2 s ago (this model's choice, log 123).
RECOVERY_END at the end of the recovery window closes it. -/
def Obligations.LeaseMessagesAreSentAndHeard : Prop :=
  (∀ (rd : Bool) (groups : List (BitVec 10)) (s : State),
    let bad := (s.bump F.RED_LEASE_CNT_BAD_MSG [] 1).count 440 1
    (lineRead rd groups = none → exec (.badMsgReceive rd groups) s = .next bad) ∧
    (∀ bytes : List Byte, lineRead rd groups = some bytes →
      (∀ key : List Byte, leaseKey s = some key → (leaseParse key bytes = none → exec (.badMsgReceive rd groups) s = .next bad) ∧
        (leaseParse key bytes ≠ none → exec (.badMsgReceive rd groups) s = .next s)) ∧
      (leaseKey s = none → (framed bytes = false → exec (.badMsgReceive rd groups) s = .next bad) ∧
        (framed bytes = true → exec (.badMsgReceive rd groups) s = .next s ∧ exec (.grantReceive bytes) s = .next s ∧
          exec (.ackReceive bytes) s = .next s)))) ∧
  (∀ (bytes key : List Byte) (m : LeaseMsg) (s : State), leaseKey s = some key → leaseParse key bytes = some m → m.type = 0x82 →
    m.plane = s.planeId →
    let u : State := { s with red := { s.red with heard := some s.ticks } }
    (¬ (m.state < 2 ∧ m.state ≠ s.planeId) ∨ s.red.plane ≠ .active → exec (.ackReceive bytes) s = .next (seeEpoch 1 m.epoch (u.count 437 1))) ∧
    (m.state < 2 → m.state ≠ s.planeId → s.red.plane = .active →
      ∃ t b line, exec (.ackReceive bytes) s = .next t ∧ t.red.plane = .standby ∧ t.red.tExp = none ∧ t.red.heard = some s.ticks ∧
        t.out = s.out ++ [.lease b line] ∧ b.take 2 = [2, 1] ∧ line = (codeGroups s.red.txRd (messageChars b)).1)) ∧
  (∀ (key : List Byte) (s : State), leaseKey s = some key → s.on F.RED_LEASE_CFG_EN [] = true →
    let n := (s.freeNat 64).1
    let sent := fun (body : List Byte) => Output.lease (body ++ hmac key body) (codeGroups s.red.txRd (messageChars (body ++ hmac key body))).1
    ((∀ t0, s.red.helloAt = some t0 → t0 + helloInterval s ≤ s.ticks) →
      ∃ t, exec .helloSend s = .next t ∧ t.red.hellos = lastN 4 (s.red.hellos ++ [(n, s.ticks)]) ∧ t.red.helloAt = some s.ticks ∧
        t.out = s.out ++ [sent (leaseBody s 1 n [])] ∧
        t.red.txRd = (codeGroups s.red.txRd (messageChars (leaseBody s 1 n [] ++ hmac key (leaseBody s 1 n [])))).2) ∧
    (∀ t0, s.red.helloAt = some t0 → s.ticks < t0 + helloInterval s → exec .helloSend s = .next s) ∧
    ((∀ t0, s.red.healthAt = some t0 → t0 + msTicks 1000 ≤ s.ticks) ∨ ((healthReport s).drop 8).take 4 ≠ s.red.healthSent →
      ∃ t, exec .healthSend s = .next t ∧ t.red.healthAt = some s.ticks ∧ t.red.healthSent = ((healthReport s).drop 8).take 4 ∧
        t.out = s.out ++ [sent (leaseBody s 3 n (healthReport s))])) ∧
  (∀ (t0 : Nat) (s : State), s.red.tExp = some t0 →
    (t0 ≤ s.ticks → ∃ t, exec .leaseExpiry s = .next t ∧ t.red.tExp = none ∧ t.red.plane ≠ .active) ∧
    (s.ticks < t0 → s.red.plane = .active → hearsFc s = true → t0 ≤ s.ticks + leaseGuard (s.g F.RED_LEASE_TERM_TERM []) →
      ∃ t, exec .leaseGuardStepdown s = .next t ∧ t.red.plane = .standby ∧ t.red.tExp = none)) ∧
  (∀ s : State, s.red.plane = .active → (s.g F.RED_EPOCH_EPOCH [] < s.g F.RED_SEEN_SEEN [] ∨ s.red.owed = true) →
    ∃ t, exec .epochStepdown s = .next t ∧ t.red.plane = .standby ∧ t.red.tExp = none ∧ t.red.owed = false ∧
      t.g F.RED_EPOCH_EPOCH [] = s.g F.RED_EPOCH_EPOCH []) ∧
  (∀ s : State, hearsFc s = true ↔ ∃ t0, s.red.heard = some t0 ∧
    s.ticks ≤ t0 + (if s.holder = true then msTicks (s.g F.RED_LEASE_TERM_TERM []) / 2 else 2 * msTicks (s.g F.RED_LEASE_CFG_HELLO_MS []))) ∧
  (∀ s : State, (s.red.heard = none → exec .hearsFcLapse s = .next s) ∧
    ∀ t0, s.red.heard = some t0 →
      exec .hearsFcLapse s = .next (if t0 + msTicks 2000 < s.ticks then { s with red := { s.red with heard := none } } else s)) ∧
  (∀ s : State, s.red.recov ≤ s.ticks → exec .recoveryEnd s = .next { s with red := { s.red with recov := 0 } })

/-- The code groups in which a lease message leaves are read back as that message, at either running disparity. For every
message and either running disparity before it: its characters (the opening K27.7, its bytes, the closing K29.7, and the idle
ordered set after them) make as many code groups, each with four, five or six ones; the groups up to K29.7 are read back as
exactly the message; and short of K29.7 no message is read. The tables of the code are presumed (log 94). -/
def Obligations.LeaseMessagesReadBackFromTheLine : Prop :=
  ∀ (rd : Bool) (bytes : List Byte),
    let line := (codeGroups rd (messageChars bytes)).1
    line.length = bytes.length + 4 ∧ (∀ g ∈ line, 4 ≤ oneBits 10 g.toNat ∧ oneBits 10 g.toNat ≤ 6) ∧
    lineRead rd (line.take (bytes.length + 2)) = some bytes ∧ ∀ n ≤ bytes.length + 1, lineRead rd (line.take n) = none

/-- JOIN, ISOLATE, RESYNC and RELINQUISH, the partner link's rise and fall, heartbeats, and the end of a resync. By a requester
that reaches RED: under an identity clash, JOIN, ISOLATE and RESYNC leave a device that is not ACTIVE as it is (log 95). Else
JOIN takes an ISOLATED device to STANDBY, or with the partner link up and the twin ACTIVE to SYNCING with a resync begun;
ISOLATE takes every device to ISOLATED without a resync and without a lease where it was ACTIVE; RESYNC takes a STANDBY device
to SYNCING while the link is down, and begins a resync from a twin that is ACTIVE or STANDBY; RELINQUISH takes an ACTIVE device
to STANDBY and gives up the lease. PARTNER_LINK_DOWN of a link that no longer holds stops a resync, ends a clash and leaves no
device in STANDBY; with the link down already it ends a clash once no heartbeat can be heard. PARTNER_LINK_UP of a link that
holds sets UP; a SYNCING device then resyncs from an ACTIVE or STANDBY twin and goes to STANDBY beside an ISOLATED one.
HEARTBEAT_SEND, 10 us after the last, sends state, epoch and RED_REPL_TX. HEARTBEAT_RECEIVE without clash, conflict, echo or a
twin leaving ACTIVE shows the twin's state, plane and epoch and changes no plane state; one from a twin of the same plane takes
the device out of ACTIVE. RESYNC_SETTLE_END after SETTLE ends the resync in STANDBY. -/
def Obligations.PlaneStatesFollowHostAndPartner : Prop :=
  (∀ (rq : Req) (s : State), Reaches rq .red s → s.on F.SYS_STRAP_ID_CLASH [] = true → s.red.plane ≠ .active →
    exec (.join rq) s = .next s ∧ exec (.isolate rq) s = .next s ∧ exec (.resync rq) s = .next s) ∧
  (∀ (rq : Req) (s : State), Reaches rq .red s → s.on F.SYS_STRAP_ID_CLASH [] = false ∨ s.red.plane = .active →
    (s.red.plane = .isolated → (s.on F.RED_PARTNER_STAT_UP [] = true ∧ s.g F.RED_PARTNER_STAT_TWIN_STATE [] = 3 → s.red.sync = none →
      ∃ t, exec (.join rq) s = .next t ∧ t.red.plane = .syncing ∧ t.red.sync = some {} ∧ t.out = s.out ++ [.copyReq (some 0)]) ∧
      (¬ (s.on F.RED_PARTNER_STAT_UP [] = true ∧ s.g F.RED_PARTNER_STAT_TWIN_STATE [] = 3) →
        ∃ t, exec (.join rq) s = .next t ∧ t.red.plane = .standby ∧ t.red.sync = s.red.sync ∧ t.out = s.out)) ∧
    (∃ t, exec (.isolate rq) s = .next t ∧ t.red.plane = .isolated ∧ t.red.sync = none ∧
      (s.red.plane = .active → t.red.tExp = none) ∧ (s.red.plane ≠ .active → t.red.tExp = s.red.tExp)) ∧
    (s.red.plane = .standby → (s.on F.RED_PARTNER_STAT_UP [] = false →
        ∃ t, exec (.resync rq) s = .next t ∧ t.red.plane = .syncing ∧ t.red.sync = s.red.sync) ∧
      (s.on F.RED_PARTNER_STAT_UP [] = true → 2 ≤ s.g F.RED_PARTNER_STAT_TWIN_STATE [] → s.red.sync = none →
        ∃ t, exec (.resync rq) s = .next t ∧ t.red.plane = .syncing ∧ t.red.sync = some {})) ∧
    (s.red.plane = .active → ∃ t, exec (.relinquish rq) s = .next t ∧ t.red.plane = .standby ∧ t.red.tExp = none)) ∧
  (∀ s : State, s.on F.RED_PARTNER_STAT_UP [] = true → linkHolds s = false →
    ∃ t, exec .partnerLinkDown s = .next t ∧ t.red.sync = none ∧ t.red.plane ≠ .standby ∧ t.on F.SYS_STRAP_ID_CLASH [] = false) ∧
  (∀ s : State, s.on F.RED_PARTNER_STAT_UP [] = false → s.on F.SYS_STRAP_ID_CLASH [] = true → partnerSilent s = true →
    ∃ t, exec .partnerLinkDown s = .next t ∧ t.on F.SYS_STRAP_ID_CLASH [] = false ∧ t.red = s.red) ∧
  (∀ s : State, s.on F.RED_PARTNER_STAT_UP [] = false → linkHolds s = true →
    (∃ t, exec .partnerLinkUp s = .next t ∧ t.on F.RED_PARTNER_STAT_UP [] = true ∧ (s.red.plane ≠ .syncing → t.red = s.red)) ∧
    (s.red.plane = .syncing → s.red.sync = none → s.g F.RED_PARTNER_STAT_TWIN_STATE [] ≠ 1 →
      ∃ t, exec .partnerLinkUp s = .next t ∧ (2 ≤ s.g F.RED_PARTNER_STAT_TWIN_STATE [] → t.red.plane = .syncing ∧ t.red.sync = some {}) ∧
        (s.g F.RED_PARTNER_STAT_TWIN_STATE [] = 0 → s.on F.SYS_STRAP_ID_CLASH [] = false → t.red.plane = .standby ∧ t.red.sync = none))) ∧
  (∀ s : State, s.g F.RED_PARTNER_STAT_LANES [] ≠ 0 → (∀ t0, s.red.hbSent = some t0 → t0 + usTicks 10 ≤ s.ticks) →
    ∃ t m, exec .heartbeatSend s = .next t ∧ t.out = s.out ++ [.heartbeat m] ∧ t.red.hbSent = some s.ticks ∧
      m.plane = (s.planeId == 1) ∧ m.state.val = s.marked ∧ m.epoch = s.rd R.RED_EPOCH [] ∧ m.tx = replTx s ∧ m.h = s.ref.h) ∧
  (∀ (m : Heartbeat) (s : State), s.g F.RED_PARTNER_STAT_LANES [] ≠ 0 →
    (b2n m.plane ≠ s.planeId → m.echo = none → (s.g F.RED_PARTNER_STAT_TWIN_STATE [] ≠ 3 ∨ m.state = 3) → s.red.plane ≠ .syncing →
      ¬ (s.red.plane = .active ∧ m.state = 3 ∧ m.epoch = s.rd R.RED_EPOCH []) → s.red.sync = none →
      ∃ t, exec (.heartbeatReceive m) s = .next t ∧ t.red.plane = s.red.plane ∧ t.g F.RED_PARTNER_STAT_TWIN_STATE [] = m.state.val ∧
        t.g F.RED_PARTNER_STAT_TWIN_PLANE [] = b2n m.plane ∧ t.rd R.RED_TWIN_EPOCH [] = m.epoch ∧ t.red.hbAt = some s.ticks ∧
        t.g F.RED_SEEN_SEEN [] = max (s.g F.RED_SEEN_SEEN []) m.epoch.toNat) ∧
    (b2n m.plane = s.planeId → ∃ t, exec (.heartbeatReceive m) s = .next t ∧ t.red.plane ≠ .active)) ∧
  (∀ (y : Sync) (s : State), s.red.plane = .syncing → s.red.sync = some y → y.phase = 3 → y.settle ≤ s.ticks → s.on F.SYS_STRAP_ID_CLASH [] = false →
    ∃ t, exec .resyncSettleEnd s = .next t ∧ t.red.plane = .standby ∧ t.red.sync = none ∧ t.g F.RED_SYNC_STAT_PHASE [] = 0)

/-- Replicated descriptors, their acknowledgement, decisions, and the units and snapshot of a resync. With a partner lane in UP:
REPL_RECEIVE by a STANDBY device of the next RSEQ of its epoch acknowledges it, with RED_REPL_RX at it and its TAG shown; a TAKE
so received whose route fits, with a point not begun on an enabled cadence and none pending for its signal, becomes pending with
that point. A STANDBY device that finds a gap while the link is down goes to SYNCING; an ACTIVE or ISOLATED device only notes
the RSEQ. REPL_ACK_RECEIVE raises RED_REPL_ACK to the RSEQ it carries, never lowers it. DECISION_RECEIVE is held by a device
that follows its twin, in place of an earlier one on its matter, and ignored by one that takes its own host's takes; a switch
point that differs from the one resolved here sets SSYNC_DIFF, an occurrence of source 86. COPY_REQ_RECEIVE of a unit of the LUT
pool sends its 4 KiB, of the cellar what a read of it gives once the stack is ready; for the snapshot it sends it at once while
no cadence runs, and else notes that it is asked for. COPY_DATA_RECEIVE of the unit asked for stores it, in the cellar once the
stack is ready, and asks for the next, for the snapshot after the last; a unit with errored words is asked for again once.
SNAPSHOT_INSTALL in phase SNAPSHOT begins SETTLE. REPL_DROPPED_CLR clears DROPPED. -/
def Obligations.ReplicationAndCopiesAreApplied : Prop :=
  (∀ (m : ReplMsg) (s : State), s.g F.RED_PARTNER_STAT_LANES [] ≠ 0 → m.part < 8 → m.rseq < 2 ^ 64 →
    (s.red.plane = .standby → replWant s m.epoch = some m.rseq →
      ∃ t, exec (.replReceive m) s = .next t ∧ t.out.getLast? = some (.replAck m.rseq) ∧
        t.g F.RED_REPL_RX_HI_RX [] * 2 ^ 32 + t.g F.RED_REPL_RX_LO_RX [] = m.rseq ∧
        t.g F.RED_REPL_TAG_HI_TAG_HI [m.part] * 2 ^ 32 + t.g F.RED_REPL_TAG_LO_TAG_LO [m.part] = dTag m.ver (replDesc m) % 2 ^ 64) ∧
    (∀ st : Stamp, s.red.plane = .standby → replWant s m.epoch = some m.rseq → dOpcode (replDesc m) = 0x10 → cbMode m.ver (replDesc m) ≠ 2 →
      m.stamp = some st → cadOn s st.cad = true → (localStamp s st).2 = false →
      replRouteBad s (takeDst m.ver (replDesc m)).1 (takeDst m.ver (replDesc m)).2 (takeSrc m.ver (replDesc m)) = false →
      takeOf s (takeDst m.ver (replDesc m)).1 (takeDst m.ver (replDesc m)).2 = none →
      ∃ t, exec (.replReceive m) s = .next t ∧ t.xpt.takes = s.xpt.takes ++
        [⟨s.cmd.nextId, (takeDst m.ver (replDesc m)).1, (takeDst m.ver (replDesc m)).2, takeSrc m.ver (replDesc m), (localStamp s st).1, m.late, none⟩]) ∧
    (∀ n, s.red.plane = .standby → replWant s m.epoch = some n → n ≠ m.rseq → s.on F.RED_PARTNER_STAT_UP [] = false → s.on F.SYS_STRAP_ID_CLASH [] = false →
      ∃ t, exec (.replReceive m) s = .next t ∧ t.red.plane = .syncing ∧ t.on F.RED_REPL_STAT_GAP [] = true) ∧
    (s.takesHost = true → exec (.replReceive m) s = .next { s with red := { s.red with rx := some (m.epoch, m.rseq) } })) ∧
  (∀ (n : Nat) (s : State), s.g F.RED_PARTNER_STAT_LANES [] ≠ 0 → n < 2 ^ 64 →
    ∃ t, exec (.replAckReceive n) s = .next t ∧ replAckd t = max (replAckd s) n ∧ t.red = s.red ∧ t.cmd = s.cmd) ∧
  (∀ (x : Decision) (s : State), s.g F.RED_PARTNER_STAT_LANES [] ≠ 0 →
    (s.takesHost = true → exec (.decisionReceive x) s = .next s) ∧
    (s.takesHost = false → (∀ c f af al, x ≠ .switchPoint c f af al) →
      ∃ t, exec (.decisionReceive x) s = .next t ∧ x ∈ t.eng.decisions ∧ t.regs = s.regs ∧
        (∀ y ∈ t.eng.decisions, y = x ∨ (y ∈ s.eng.decisions ∧ sameMatter x y = false)) ∧
        (∀ y ∈ s.eng.decisions, sameMatter x y = false → (matterOf s y).1 ≠ (matterOf s x).1 ∨ (matterOf s y).2 = (matterOf s x).2 →
          y ∈ t.eng.decisions)) ∧
    (∀ (c : Fin 8) (f af al : Nat), s.takesHost = false → x = .switchPoint c f af al →
      let d := (s.cad c).points.any (fun p => p.1 == f && p.2 != (af, al))
      ∃ u, exec (.decisionReceive x) s = .next (if d then occur 86 c u else u) ∧ x ∈ u.eng.decisions ∧
        (d = true → u.on F.XPT_CAD_STAT_SSYNC_DIFF [c] = true) ∧ (d = false → u.regs = s.regs))) ∧
  (∀ (u : Nat) (data : List Byte) (s : State), s.g F.RED_PARTNER_STAT_LANES [] ≠ 0 →
    (u < lutPages → exec (.copyReqReceive (some u)) s = .next (s.tell (.copyData u (lutData s (4096 * u) 4096) []))) ∧
    (lutPages ≤ u → u < syncUnits →
      let w := wakePort 6 (wakePort 4 s)
      let r := celRead 2 (4096 * (u - lutPages)) 4096 w
      exec (.copyReqReceive (some u)) s = .next (if celWaits w = true then celHoldReq (.copy u) w
        else if w.on F.CEL_STAT_TRAIN_FAIL [] = true then w.tell (.copyData u (List.replicate 4096 0) (List.range 128))
        else r.2.2.tell (.copyData u r.1 (r.2.1.map (fun x => (x - 4096 * (u - lutPages)) / 32))))) ∧
    (syncUnits ≤ u → exec (.copyReqReceive (some u)) s = .next s) ∧
    (exec (.copyReqReceive none) s = .next (if (firstCadence s).isSome then { s with red := { s.red with snapAsked := true } }
      else s.tell (.snapshot (snapOf s)))) ∧
    ((∀ y : Sync, s.red.sync = some y → y.phase ≠ 0 ∨ y.next ≠ u) → ∀ bad, exec (.copyDataReceive u data bad) s = .next s) ∧
    (∀ y : Sync, s.red.sync = some y → y.phase = 0 → y.next = u →
      (u < lutPages → data.length = 4096 → u ∉ y.wrote →
        ∃ t, exec (.copyDataReceive u data []) s = .next t ∧ lutData t (4096 * u) 4096 = data ∧
          t.red.sync = some { y with next := u + 1, again := none } ∧ t.out = s.out ++ [.copyReq (some (u + 1))]) ∧
      (∀ bad, (bad = [] ∨ y.again = some u) → lutPages ≤ u → u + 1 < syncUnits → u ∉ y.wrote →
        let a := 4096 * (u - lutPages)
        ∃ t, exec (.copyDataReceive u data bad) s = .next t ∧
          t.red.sync = some { y with next := u + 1, again := none } ∧ t.out = s.out ++ [.copyReq (some (u + 1))] ∧
          (celWaits s = true → t.cel.wait = s.cel.wait ++ [(true, .unit u (data.take 4096) bad)] ∧ t.cel.mem = s.cel.mem) ∧
          (celWaits s = false → t.cel.mem = (celPut 2 a (data.take 4096) s).cel.mem ∧
            (∀ i ∈ bad, i < 128 → find? t.cel.flips (celLoc s.grain (a + 32 * i) / 32) = some 2) ∧
            t.g F.RED_SYNC_STAT_ERRORED [] = (if ∃ i ∈ bad, i < 128 then satAdd 65535 (s.g F.RED_SYNC_STAT_ERRORED []) 1
              else s.g F.RED_SYNC_STAT_ERRORED []))) ∧
      (u + 1 = syncUnits → u ∈ y.wrote →
        ∃ t, exec (.copyDataReceive u data []) s = .next t ∧ t.red.sync = some { y with next := u + 1, again := none, phase := 1 } ∧
          t.out = s.out ++ [.copyReq none] ∧ t.g F.RED_SYNC_STAT_PHASE [] = 1) ∧
      (∀ bad, bad ≠ [] → y.again ≠ some u → ∃ t, exec (.copyDataReceive u data bad) s = .next t ∧
        t.red.sync = some { y with again := some u } ∧ t.out = s.out ++ [.copyReq (some u)] ∧ t.eng = s.eng ∧ t.cel = s.cel))) ∧
  (∀ (x : Snap) (cycle : Nat) (y : Sync) (s : State), s.g F.RED_PARTNER_STAT_LANES [] ≠ 0 → s.red.sync = some y → y.phase = 1 →
    (∃ t, exec (.snapshotInstall x cycle) s = .next t ∧ t.g F.RED_SYNC_STAT_PHASE [] = 3) ∧
    ((∀ m ∈ y.queue, m.rseq ≤ x.rseq) → ∃ t n, exec (.snapshotInstall x cycle) s = .next t ∧ s.ticks ≤ n ∧
      t.red.sync = some { y with phase := 3, queue := [], caught := s.ticks, settle := n } ∧ t.g F.RED_REPL_RX_LO_RX [] = x.rseq % 2 ^ 32)) ∧
  (∀ (x : Snap) (cycle : Nat) (s : State), (∀ y : Sync, s.red.sync = some y → y.phase ≠ 1) → exec (.snapshotInstall x cycle) s = .next s) ∧
  (∀ (rq : Req) (s : State), Reaches rq .red s →
    ∃ t, exec (.replDroppedClr rq) s = .next t ∧ t.g F.RED_REPL_STAT_DROPPED [] = 0 ∧ t.red = s.red)

/-- Line signatures compared or missing, the standby's self-test, and the clears of the plane counters. On a STANDBY device that
compares signatures, with a partner lane in UP: SIG_RECEIVE of a record whose own signature is not held is held for it; with the
own one held and neither forced, an equal CRC ends the run of mismatches, and a different one makes the run one longer, and
where it then reaches PERSIST counts a run, shows the first signal and is an occurrence of source 315, once until a match ends
the run (the model keeps such a run as 256). SIG_MISSING_TIMEOUT of the signature held longest of a signal, 8 line periods old,
drops it and counts it missing. SELFTEST_TICK of a STANDBY device counts in SEL_ERR each selector without a route that fails,
and in LUT_ERR each set that an engine names and that no longer has the CRC recorded, with no engine on and one selector failing
an occurrence of source 316; a device not STANDBY tests nothing. The clears of the lease, signature and check counters put those
registers back to their reset value. -/
def Obligations.SignaturesAndChecksAreCounted : Prop :=
  (∀ (y : SigRec) (s : State), s.g F.RED_PARTNER_STAT_LANES [] ≠ 0 → s.red.plane = .standby → s.on F.RED_SIG_CFG_EN [] = true →
    (s.red.sigs.find? (fun x => sameRecord x.1 y) = none →
      exec (.sigReceive y) s = .next { s with red := { s.red with twinSigs := s.red.twinSigs.filter (fun z => !sigOld s z) ++ [(y, s.ticks)] } }) ∧
    (∀ x : SigRec × Nat, s.red.sigs.find? (fun x => sameRecord x.1 y) = some x → x.1.forced = false → y.forced = false → x.1.d < 1280 → x.1.m < 8 →
      let key := 8 * x.1.d + x.1.m
      let n := getD 0 s.red.runs key
      (x.1.crc = y.crc → ∃ t, exec (.sigReceive y) s = .next t ∧ getD 0 t.red.runs key = 0 ∧
        t.red.sigs = s.red.sigs.filter (fun z => !sameRecord z.1 y)) ∧
      (x.1.crc ≠ y.crc → n < 256 → n + 1 < s.g F.RED_SIG_CFG_PERSIST [] → ∃ t, exec (.sigReceive y) s = .next t ∧ getD 0 t.red.runs key = n + 1 ∧
        t.g F.RED_SIG_CNT_RUNS [] = s.g F.RED_SIG_CNT_RUNS []) ∧
      (x.1.crc ≠ y.crc → n = 256 → ∃ t, exec (.sigReceive y) s = .next t ∧ getD 0 t.red.runs key = 256 ∧
        t.g F.RED_SIG_CNT_RUNS [] = s.g F.RED_SIG_CNT_RUNS []) ∧
      (x.1.crc ≠ y.crc → n < 256 → s.g F.RED_SIG_CFG_PERSIST [] ≤ n + 1 →
        ∃ u, exec (.sigReceive y) s = .next (occur 315 key u) ∧ getD 0 u.red.runs key = 256 ∧
          u.g F.RED_SIG_CNT_RUNS [] = satAdd 65535 (s.g F.RED_SIG_CNT_RUNS []) 1 ∧
          (s.on F.RED_SIG_STAT_FIRST_VALID [] = false → u.on F.RED_SIG_STAT_FIRST_VALID [] = true ∧
            u.g F.RED_SIG_STAT_FIRST_SLOT [] = x.1.d ∧ u.g F.RED_SIG_STAT_FIRST_BASE [] = x.1.m)))) ∧
  (∀ (d : Fin 1280) (m : Fin 8) (x : SigRec × Nat) (s : State), s.red.sigs.find? (fun z => z.1.d == d.val && z.1.m == m.val) = some x →
    sigOld s x = true →
    ∃ t, exec (.sigMissingTimeout d m) s = .next t ∧ t.red.sigs = s.red.sigs.filter (fun z => !sameRecord z.1 x.1) ∧
      t.g F.RED_SIG_CNT_MISSING [] = satAdd 65535 (s.g F.RED_SIG_CNT_MISSING []) 1) ∧
  (∀ (i : Fin 10240) (s : State),
    (s.red.plane = .standby → (∀ e : Fin 64, s.engOn e = false) → eValid (s.rd R.XPT_LIVE [i]) = false →
      exec (.selftestTick [i] []) s = .next (occur 316 0 ((s.bump F.RED_CHECK_STAT_SEL_ERR [] 1).count 456 1))) ∧
    (s.red.plane ≠ .standby → exec (.selftestTick [i] []) s = .next s)) ∧
  (∀ (sels : List Nat) (upsets : List (Nat × Byte)) (s : State),
    let s0 : State := { s with eng := { s.eng with lut := upsets.foldl (fun m u => memPut m u.1 u.2) s.eng.lut } }
    let idle := sels.eraseDups.filter (fun i => decide (i < 10240) && !eValid (s.rd R.XPT_LIVE [i]))
    let named := ((List.range 64).filterMap (fun e => if s.engOn e then namedSet (s.ecb e) else none)).eraseDups
    (s.red.plane ≠ .standby → exec (.selftestTick sels upsets) s = .next s0) ∧
    (s.red.plane = .standby → ∃ t, exec (.selftestTick sels upsets) s = .next t ∧
      t.g F.RED_CHECK_STAT_SEL_ERR [] = satAdd 65535 (s.g F.RED_CHECK_STAT_SEL_ERR []) idle.length ∧
      t.g F.RED_CHECK_STAT_LUT_ERR [] = satAdd 65535 (s.g F.RED_CHECK_STAT_LUT_ERR [])
        (named.filter (fun n => lutSetCrc s0 n != lutRecorded s0 n)).length)) ∧
  (∀ (rq : Req) (s : State), Reaches rq .red s →
    exec (.leaseCntClear rq) s = .next (s.wr R.RED_LEASE_CNT [] (R.RED_LEASE_CNT.resetWord [])) ∧
    exec (.sigCntClear rq) s = .next (s.wr R.RED_SIG_CNT [] (R.RED_SIG_CNT.resetWord [])) ∧
    exec (.checkStatClear rq) s = .next (s.wr R.RED_CHECK_STAT [] (R.RED_CHECK_STAT.resetWord [])))

/-- A step is the effect of the command at the front of the queue with the queue's rest; an empty queue idles. For every
command, every queue after it and every state, a step with that command at the front of the queue is the command's effect on the
state with the queue's rest. With an empty queue a step leaves the state as it is (the model's choice, log 1). No table word
spells a command, so placing one changes nothing. -/
def Obligations.StepTakesTheFront : Prop :=
  (∀ (c : Instr) (rest : List Instr) (s : State), step { s with pending := c :: rest } = exec c { s with pending := rest }) ∧
  (∀ s : State, s.pending = [] → step s = .next s) ∧
  (∀ (s : State) (nbits w : Nat), s.withFetchWord nbits w = s)

/-- Every command answers a next state from every state, and so does every step. Every command of the opcode table, with any
operands and in any state, answers a next state: it has its effect, or is turned away with the effect the manual gives that, or
finds its condition not met and changes nothing. No step faults and none is refused. -/
def Obligations.EveryCommandCompletes : Prop :=
  (∀ (c : Instr) (s : State), ∃ t, exec c s = .next t) ∧ (∀ s : State, ∃ t, step s = .next t)

/-- The state after reset: every register at the value of its table's Reset column, and the block held in POR. In the state
after reset every element of every register reads its table's reset value; HIF_ID reads 0x11520000, HIF_SRC_VIS 1,
RED_LEASE_CFG.HELLO_MS 12, PMU_HIST_MIN 0x7FFFFFFF and PMU_HIST_MAX 0x80000000. POR is asserted, the plane state is ISOLATED
with no lease, the cellar, the LUT pool and the flow table list nothing, no route is valid, and nothing is waiting, pending,
latched or sent. That State.reset stands while POR is asserted, and that memory which nothing has written reads 0, are the
model's choices (logs 1 and 2). -/
def Obligations.ResetLeavesTheTableValues : Prop :=
  (∀ (r : Reg) (i : List Nat), State.reset.rd r i = r.resetWord i) ∧
  State.reset.rd R.HIF_ID [] = 0x11520000 ∧ (∀ i : Fin 1280, State.reset.rd R.HIF_SRC_VIS [i] = 1) ∧
  State.reset.g F.RED_LEASE_CFG_HELLO_MS [] = 12 ∧ (∀ u : Fin 32, State.reset.rd R.PMU_HIST_MIN [u] = 0x7FFFFFFF ∧
    State.reset.rd R.PMU_HIST_MAX [u] = 0x80000000) ∧
  (∀ i : Fin 10240, eValid (State.reset.rd R.XPT_LIVE [i]) = false) ∧
  State.reset.sys.por = true ∧ State.reset.red.plane = .isolated ∧ State.reset.red.tExp = none ∧ State.reset.cel.mem = [] ∧
  State.reset.eng.lut = [] ∧ State.reset.flw.tbl = [] ∧ State.reset.pending = [] ∧ State.reset.latches = [] ∧
  State.reset.held = [] ∧ State.reset.out = [] ∧ State.reset.xpt.takes = [] ∧ State.reset.cmd.live = []

/-- The state after reset is in canonical form, and its tracker numbers are fresh. The state after reset lists its registers and
memories by rising address, lists no memory byte that an unlisted address reads as, and holds no tracker entry under a number
still to be given. -/
def Obligations.ResetHoldsTheInvariants : Prop :=
  State.reset.wf = true ∧ FreshTok State.reset

/-- Every step keeps the canonical form of registers and memories and the freshness of tracker numbers, and takes one command
off the queue. From every state, reached or not, a step leaves the queue without its front; if the registers, the cellar and the
LUT pool were in canonical form they are so after it, so that equal contents are equal data; and if no tracker entry had a
number still to be given, none has after it. -/
def Obligations.EveryStepKeepsTheInvariants : Prop :=
  ∀ s t : State, step s = .next t →
    t.pending = s.pending.tail ∧ (s.wf = true → t.wf = true) ∧ (FreshTok s → FreshTok t)

/-- The frame of every command: each part of the state outside its list stays as it is, the registers of every other block among
them. For every command the parts of the state that mayTouch does not list for it are the same after it: the structures of the
state (host interface and command processor, fault collector, weave, time counters, plane, flows, audio, lanes, engines, cellar,
references, resets), the registers of each block of R301, the read latches and held writes, the counters, what has left the
device, the free values taken, and inside the structures the lease, the contents of the cellar, of the LUT pool and of the flow
table, the root secret, POR, house time, and the moves of the plane state. The list of a command that may raise a fault holds
what the collector may change. -/
def Obligations.OtherPartsStay : Prop :=
  ∀ (c : Instr) (s t : State), exec c s = .next t → ∀ p : Part, p ∉ mayTouch c → p.same s t

/-- The plane state moves only as R375 gives: only a GRANT makes a STANDBY device ACTIVE, and each other move has its commands.
A device becomes ACTIVE only from STANDBY, and only by a message on LEASE_RX. It leaves ISOLATED only by a JOIN (the command, or
a write of a register by its address, one among them that waited for the cellar stack and is made as the stack becomes ready,
log 120). It enters ISOLATED only by an ISOLATE, a write of a register by its address, or a reset that takes effect. It enters
SYNCING only as the partner link goes down, at a replicated descriptor, by a RESYNC or a JOIN, or by such a write. It leaves
SYNCING only as the partner link comes up, at a heartbeat, at a replicated descriptor, at the end of SETTLE, by a RESYNC or a
JOIN that decides at once, by an ISOLATE, by such a write, or by a reset. Time passing alone, packets, frames and descriptors of
the own host move nothing but ACTIVE to STANDBY. -/
def Obligations.PlaneMovesOnlyByItsTable : Prop :=
  ∀ (c : Instr) (s t : State), exec c s = .next t →
    (t.red.plane = .active → s.red.plane ≠ .active →
      s.red.plane = .standby ∧ ∃ bytes, c = .grantReceive bytes ∨ c = .ackReceive bytes) ∧
    (s.red.plane = .isolated → t.red.plane ≠ .isolated → (∃ rq, c = .join rq) ∨ writesRegister c = true) ∧
    (t.red.plane = .isolated → s.red.plane ≠ .isolated → (∃ rq, c = .isolate rq) ∨ writesRegister c = true ∨ bringsReset c = true) ∧
    (t.red.plane = .syncing → s.red.plane ≠ .syncing →
      c = .partnerLinkDown ∨ (∃ m, c = .replReceive m) ∨ (∃ rq, c = .resync rq ∨ c = .join rq) ∨ writesRegister c = true) ∧
    (s.red.plane = .syncing → t.red.plane ≠ .syncing →
      c = .partnerLinkUp ∨ c = .resyncSettleEnd ∨ (∃ m, c = .heartbeatReceive m) ∨ (∃ m, c = .replReceive m) ∨
      (∃ rq, c = .resync rq ∨ c = .join rq ∨ c = .isolate rq) ∨ writesRegister c = true ∨ bringsReset c = true)

/-- What may change the root secret, the contents of the cellar and of the LUT pool, the flow table, and time. The root secret
changes only as POR is asserted (by the supply or by heat) or released. A byte of the cellar changes only by a write of the bulk
data port, a unit or snapshot from the twin, a packet or record received, a record emitted, a cadence's line or its start or
stop, an engine's region or frame brought to its end, requests served as the stack becomes ready, a register write by its
address (which may stop a cadence), or POR; a byte of the LUT pool only by a write of the bulk data port, a copied unit, the
service of what waited for the stack, an upset that the self-test meets, or POR. The flow table changes only by FLOW_ADD's
entry, FLOW_DEL, a replicated descriptor, a snapshot, RESET_N or POR. Time passes only at TIME_COUNTER_TICK, by one tick. -/
def Obligations.StoresChangeOnlyByTheirCommands : Prop :=
  ∀ (c : Instr) (s t : State), exec c s = .next t →
    (t.sys.root ≠ s.sys.root → (∃ r, c = .porAssert r) ∨ (∃ p a b d e, c = .porRelease p a b d e) ∨ (∃ a b, c = .tempSensorRead a b)) ∧
    (t.cel.mem ≠ s.cel.mem → storesCellar c = true) ∧ (t.eng.lut ≠ s.eng.lut → storesLut c = true) ∧
    (t.flw.tbl ≠ s.flw.tbl → changesFlows c = true) ∧
    (t.ticks ≠ s.ticks → c = .timeCounterTick ∧ t.ticks = s.ticks + 1)

/-- Event counters of R414 and R415: EDGE adds the amount modulo 2^48 with the wrap shown and counted, LEVEL marks the tick. For
an event other than WRAP in EDGE mode, as it is in force since the last tick, an occurrence of amount n, of at most 2^48, adds n
to its counter modulo 2^48 and leaves every counter but WRAP. Without a wrap nothing else changes. With one, the counter's bit
in PMU_WRAP is set, and WRAP in EDGE mode below its own wrap is one higher. In LEVEL mode an occurrence changes no counter and
no register: it marks the tick, once. -/
def Obligations.CountersAddAndWrap : Prop :=
  ∀ (e n : Nat) (s : State), e < 586 → e ≠ 553 → n ≤ 2 ^ 48 →
    (s.levelMode e = false →
      (s.count e n).cnt e = (s.cnt e + n) % 2 ^ 48 ∧ (∀ j, j ≠ e → j ≠ 553 → (s.count e n).cnt j = s.cnt j) ∧
      (s.cnt e + n < 2 ^ 48 → { s.count e n with pmu := s.pmu } = s ∧ (s.count e n).pmu.seen = s.pmu.seen) ∧
      (2 ^ 48 ≤ s.cnt e + n → bitOf ((s.count e n).g F.PMU_WRAP_WRAP [e / 32]) (e % 32) = true ∧
        (s.levelMode 553 = false → s.cnt 553 + 1 < 2 ^ 48 → (s.count e n).cnt 553 = s.cnt 553 + 1))) ∧
    (s.levelMode e = true →
      (s.count e n).regs = s.regs ∧ (s.count e n).pmu.cnt = s.pmu.cnt ∧ e ∈ (s.count e n).pmu.seen ∧
      (e ∈ s.pmu.seen → s.count e n = s))

/-- The cellar budget is 6,553.6 Gbit/s x PCT / 100; a PCT above 75 or one that the load exceeds is refused. BUDGET_WRITE by a
requester that reaches CEL. With B = 6,553.6 Gbit/s x PCT / 100 compared with CEL_LOAD, which counts units of 0.01 Gbit/s: a PCT
of 1 to 75 with a budget not below the load is set, and OVER is then 0; a PCT above 75, or one that would bring the budget below
the load, changes nothing but sets CEL_STAT.CFG_ERR. At reset PCT is 75. -/
def Obligations.BudgetFollowsItsPercentage : Prop :=
  State.reset.g F.CEL_BUDGET_PCT [] = 75 ∧
  (∀ (rq : Req) (v : Word) (s : State), Reaches rq .cel s →
    let pct := F.CEL_BUDGET_PCT.of v
    let covers : Prop := s.g F.CEL_LOAD_LOAD [] * 100 ≤ 655360 * pct
    (1 ≤ pct → pct ≤ 75 → covers →
      ∃ t, exec (.budgetWrite rq v) s = .next t ∧ t.g F.CEL_BUDGET_PCT [] = pct ∧ t.g F.CEL_STAT_OVER [] = 0) ∧
    (75 < pct ∨ ¬ covers → exec (.budgetWrite rq v) s = .next (s.p F.CEL_STAT_CFG_ERR [] 1)))

/-- MODE of a quad changes only while its lanes are off and neither a route nor a flow names it; else it stays and MODE_REFUSED
is set. QUAD_MODE_WRITE by a requester that reaches ZL, of a MODE other than the present one. With RX_EN and TX_EN at 0 on all
four lanes of the quad, no entry of the live or loft bank naming a slot of the quad and no flow entry naming its port or a
packet slot of it, a MODE of R96 is set. With RX_EN or TX_EN at 1 on a lane, or with such a route, or with such a flow, MODE
stays as it was and ZL_QUAD_STAT.MODE_REFUSED is set. -/
def Obligations.QuadModesNeedAnIdleQuad : Prop :=
  ∀ (rq : Req) (q : Fin 146) (v : Word) (s : State), Reaches rq .zl s → F.ZL_QUAD_CFG_MODE.of v ≠ s.g F.ZL_QUAD_CFG_MODE [q] →
    let off : Prop := ∀ k : Fin 4, s.on F.ZL_LANE_CTRL_RX_EN [4 * q.val + k] = false ∧ s.on F.ZL_LANE_CTRL_TX_EN [4 * q.val + k] = false
    let routed : Prop := ∃ x ∈ liveEntries s ++ loftEntries s, eValid x.2 = true ∧ (x.1 / 8 / 8 = q ∨ (eSource x.2).1 / 8 = q)
    let flows : Prop := ∃ x ∈ s.flw.tbl, fValid x.2 = true ∧ (fPort x.2 = q ∨ (fKind x.2 ≠ 1 ∧ fSlot x.2 / 8 = q))
    (off → ¬ routed → ¬ flows → F.ZL_QUAD_CFG_MODE.of v ≠ 3 →
      ∃ t, exec (.quadModeWrite rq q v) s = .next t ∧ t.g F.ZL_QUAD_CFG_MODE [q] = F.ZL_QUAD_CFG_MODE.of v ∧
        t.g F.ZL_QUAD_STAT_MODE_REFUSED [q] = s.g F.ZL_QUAD_STAT_MODE_REFUSED [q]) ∧
    (¬ off ∨ routed ∨ flows →
      ∃ t, exec (.quadModeWrite rq q v) s = .next t ∧ t.g F.ZL_QUAD_CFG_MODE [q] = s.g F.ZL_QUAD_CFG_MODE [q] ∧
        t.on F.ZL_QUAD_STAT_MODE_REFUSED [q] = true)

/-- A midnight of local time advances the date by a day of the Gregorian calendar, but the last day of 2399 stays and sets
CAL_RANGE. MIDNIGHT with REF out of reset, where local time has passed one midnight not yet counted, advances a real date by one
day: to the next day of the month, to the first of the next month, or to the first of January. At 2399-12-31 24:00 the date
stays at 2399-12-31 and CAL_RANGE is set. The counters, from which the time of day is computed, stay as they are, so the time of
day continues. Away from that end CAL_RANGE keeps its value. -/
def Obligations.MidnightAdvancesTheDate : Prop :=
  ∀ (y m d : Nat) (s : State), ¬ Blk.ref ∈ s.sys.held → localDay s = s.ref.calDay + 1 → realDate y m d = true →
    s.g F.REF_CAL_DATE_YEAR [] = y → s.g F.REF_CAL_DATE_MONTH [] = m → s.g F.REF_CAL_DATE_DAY [] = d →
    ∃ t, exec .midnight s = .next t ∧ t.ref.calDay = localDay s ∧ t.ptp = s.ptp ∧
      let new := (t.g F.REF_CAL_DATE_YEAR [], t.g F.REF_CAL_DATE_MONTH [], t.g F.REF_CAL_DATE_DAY [])
      (d < monthDays y m → new = (y, m, d + 1)) ∧
      (d = monthDays y m → m < 12 → new = (y, m + 1, 1)) ∧
      (d = 31 → m = 12 → y < 2399 → new = (y + 1, 1, 1)) ∧
      (y = 2399 → m = 12 → d = 31 → new = (2399, 12, 31) ∧ t.on F.REF_CAL_STAT_CAL_RANGE [] = true) ∧
      (¬ (y = 2399 ∧ m = 12 ∧ d = 31) → t.on F.REF_CAL_STAT_CAL_RANGE [] = s.on F.REF_CAL_STAT_CAL_RANGE [])

/-- With SEQ_CHECK at 1 a descriptor's SEQ is compared with the expected one: a match raises it by 1, a mismatch refuses BAD_SEQ
and resets it. For a descriptor at the front of ring r of partition p with the ring's version and its own partition, and
SEQ_CHECK at 1. Where its SEQ is the expected sequence, the state in which its opcode's own checks judge it has the expected
value one higher, modulo 2^16 in version 1 and 2^32 in version 2. Where it is not, every command that presents it refuses it
with BAD_SEQ; the expected value becomes its SEQ plus 1 and SEQ_ERR is set. With SEQ_CHECK at 0 the expected value stays. -/
def Obligations.SequenceNumbersAreCompared : Prop :=
  ∀ (p r : Fin 8) (x : Nat × Instr) (d : Desc) (s : State), x ∈ presenting p r → Presented s p r d → dOpcode d = x.1 →
    (ringVer s p r = 1 ∨ ringVer s p r = 2) → dBits d 3 0 = ringVer s p r → dBits d 14 12 = d.part → d.part = p → d.ring = r →
    let modulus := if ringVer s p r = 2 then 2 ^ 32 else 2 ^ 16
    let seq := dSeq (ringVer s p r) d
    (s.on F.CMD_RING_CFG_SEQ_CHECK [p, r] = true → seq = s.g F.CMD_RING_SEQ_EXPECT [p, r] →
      (judgedIn s p r d).g F.CMD_RING_SEQ_EXPECT [p, r] = (s.g F.CMD_RING_SEQ_EXPECT [p, r] + 1) % modulus ∧
      (judgedIn s p r d).g F.CMD_RING_STAT_SEQ_ERR [p, r] = s.g F.CMD_RING_STAT_SEQ_ERR [p, r]) ∧
    (s.on F.CMD_RING_CFG_SEQ_CHECK [p, r] = true → seq ≠ s.g F.CMD_RING_SEQ_EXPECT [p, r] →
      ∃ u, exec x.2 s = .next (refuse (ringVer s p r) d 0x13 0 u) ∧ u.cmd = (popDesc p r s).cmd ∧
        u.g F.CMD_RING_SEQ_EXPECT [p, r] = (seq + 1) % modulus ∧ u.on F.CMD_RING_STAT_SEQ_ERR [p, r] = true) ∧
    (s.on F.CMD_RING_CFG_SEQ_CHECK [p, r] = false → judgedIn s p r d = popDesc p r s)

/-- Every register of the map is written by its access codes or its own rule, and a pair is held, applied and latched as one.
For every register at every index, by a requester that reaches it. REGISTER_WRITE and REG_WRITE with every byte enable set do
what the register's own rule does with the word (writeOne); where the register has no rule of its own that is a write by the
access codes, after which it reads so and no other register word changes. PAIR_LO_WRITE of the low half of a writable pair holds
the word for the requester and writes no register. PAIR_HI_WRITE of its high half writes both halves, the low one as held, or as
it stands where nothing is held, and uses the held word up; a pair without a rule of its own then holds both by their codes.
PAIR_LO_READ of the low half of a pair with nothing latched for it answers the low word and latches the high word for the
requester, writing no register; with a word latched it answers that. An address that names no register takes no write, and reads
0. -/
def Obligations.RegistersAreAccessedByTheMap : Prop :=
  (∀ (rq : Req) (a : BitVec 24) (v : Word) (host : List (BitVec 128 × List Byte)) (r : Reg) (i : List Nat) (s : State),
    ReachesReg rq (4 * a.toNat) false r i s → ((highOf r).isSome && loWritable r) = false → (lowOf r).filter loWritable = none →
    exec (.registerWrite rq a 0xF v host) s = .next (writeOne r i v host s) ∧
    ((∀ u : State, writeOne r i v host u = u.write r i v) → ∃ t, exec (.registerWrite rq a 0xF v host) s = .next t ∧
      t.rd r i = writtenWord r i v (s.rd r i) ∧ ∀ (q : Reg) (j : List Nat), q.addr j ≠ r.addr i → t.rd q j = s.rd q j)) ∧
  (∀ (off v : Word) (host : List (BitVec 128 × List Byte)) (r : Reg) (i : List Nat) (s : State), off.toNat < 2 ^ 26 → off.toNat % 4 = 0 →
    blkHeld s .hif = false → ReachesReg .mgmt off.toNat false r i (s.count 27 1) → ((highOf r).isSome && loWritable r) = false →
    (lowOf r).filter loWritable = none → exec (.regWrite off v host) s = .next (writeOne r i v host (s.count 27 1))) ∧
  (∀ (rq : Req) (a : BitVec 24) (v : Word) (r : Reg) (i : List Nat) (s : State), ReachesReg rq (4 * a.toNat) false r i s →
    (highOf r).isSome = true → loWritable r = true →
    ∃ t, exec (.pairLoWrite rq a v) s = .next t ∧ t.regs = s.regs ∧ heldLow? t rq (r.addr i) = some v ∧ t.latches = s.latches) ∧
  (∀ (rq : Req) (a : BitVec 24) (v : Word) (lo r : Reg) (i : List Nat) (s : State), ReachesReg rq (4 * a.toNat) false r i s →
    highOf r = none → lowOf r = some lo → loWritable lo = true →
    ∃ t, exec (.pairHiWrite rq a v) s = .next t ∧
      t = writePair lo r i ((heldLow? s rq (lo.addr i)).getD (s.rd lo i)) v (unhold rq (lo.addr i) s) ∧
      heldLow? (unhold rq (lo.addr i) s) rq (lo.addr i) = none ∧
      ((∀ (l h : Word) (u : State), writePair lo r i l h u = (u.write lo i l).write r i h) → lo.addr i ≠ r.addr i →
        t.rd lo i = writtenWord lo i ((heldLow? s rq (lo.addr i)).getD (s.rd lo i)) (s.rd lo i) ∧ t.rd r i = writtenWord r i v (s.rd r i) ∧
        heldLow? t rq (lo.addr i) = none)) ∧
  (∀ (rq : Req) (a : BitVec 24) (r h : Reg) (i : List Nat) (s : State), ReachesReg rq (4 * a.toNat) true r i s → highOf r = some h →
    (¬ r.base ∈ [R.PTP_TIME_NS.base, R.PTP_TXTS_ID.base, R.XPT_CAD_POS.base, R.AUD_TDM_TS_NS.base, R.PMU_SNAP_CTRL.base]) →
    (latched? s rq (r.addr i) = none → ∃ t, exec (.pairLoRead rq a) s = .next t ∧ t.regs = s.regs ∧ t.held = s.held ∧
      t.out = s.out ++ [.regRead rq (r.addr i) (viewReg rq r i s)] ∧ latched? t rq (h.addr i) = some (viewReg rq h i s)) ∧
    (∀ w, latched? s rq (r.addr i) = some w → exec (.pairLoRead rq a) s = .next (answer rq (r.addr i) w s))) ∧
  (∀ (rq : Req) (a : BitVec 24) (v : Word) (host : List (BitVec 128 × List Byte)) (s : State), (rq = .mgmt ∨ rq = .part 0) →
    findReg (4 * a.toNat) = none → BusAwake rq s →
    (behind s rq (bdpChan (4 * a.toNat) false) = false → exec (.registerWrite rq a 0xF v host) s = .next s) ∧
    (behind s rq (bdpChan (4 * a.toNat) true) = false → exec (.pairLoRead rq a) s = .next (answer rq (4 * a.toNat) 0 s)))

/-- A register access or a bulk data access through idle ports wakes them and then does what it does through ports awake. For
every command that reads or writes a register, whatever ports are idle: the command does exactly what it does in the state in
which the ports of its requester's master and of register space have been woken. Waking a port clears its bit of NOC_IDLE,
leaves the bits of the other ports, and counts the wake; through ports awake it changes nothing. The same holds of a bulk data
access through the aperture, with the ports of the bulk data engine and of the cellar or the on-chip tables.
NOC_PORT_IDLE_ENTRY, followed by such an access, leaves the port awake. -/
def Obligations.IdlePortsWakeOnTheirNextRequest : Prop :=
  (∀ (c : Instr) (rq : Req) (s : State), requester c = some rq →
    exec c s = exec c (wakeBus rq s) ∧ BusAwake rq (wakeBus rq s) ∧ (BusAwake rq s → wakeBus rq s = s)) ∧
  (∀ (p : Fin 8) (o : Fin 1024) (data : List Word) (whole : Bool) (n : Fin 1025) (s : State), blkHeld s .hif = false →
    (apertureFits o data.length = true → data.length ≤ 128 →
      exec (.bdpApertureWrite p o data whole) s = exec (.bdpApertureWrite p o data whole) (wakeBulk p s)) ∧
    (apertureFits o n = true → exec (.bdpApertureRead p o n) s = exec (.bdpApertureRead p o n) (wakeBulk p s)) ∧
    BulkAwake p (wakeBulk p s) ∧ (BulkAwake p s → wakeBulk p s = s)) ∧
  (∀ (i : Fin 11) (s : State), s.g F.NOC_IDLE_IDLE [] < 2 ^ 11 →
    bitOf ((wakePort i s).g F.NOC_IDLE_IDLE []) i = false ∧
    (∀ j : Fin 11, j ≠ i → bitOf ((wakePort i s).g F.NOC_IDLE_IDLE []) j = bitOf (s.g F.NOC_IDLE_IDLE []) j) ∧
    (bitOf (s.g F.NOC_IDLE_IDLE []) i = true → s.levelMode (568 + i) = false → s.cnt (568 + i) + 1 < 2 ^ 48 →
      (wakePort i s).cnt (568 + i) = s.cnt (568 + i) + 1))

/-- The vendor-specific capability of function 0 and the MSI-X table and pending bits that the host reads. Once HIF is out of
reset and PERST_N has ended, the configuration space of function 0 carries at 0x400 the capability ID 0x000B, with VSEC ID
0x0001, revision 1 and length 0x10 in the dword after it; its dword at 0x408 reads as BOOT_STAT and that at 0x40C as
BOOT_SLOT_STAT of slots 0 and 1 in its halves, in every state of the boot. A VF has no such capability. Its IDs are 0x1F3B with
0x1152, 0x1153 for a VF while VF Enable is set. MSIX_VECTOR_UNMASK of a vector with address and data makes the vector's entry of
BAR4 read that address and data with its mask bit 0, and no other entry changes; the Pending Bit Array shows each vector whose
message is pending. The dwords of BAR4 beside the R443 mirror follow R299 and the model's log 118. -/
def Obligations.ConfigurationSpaceAndMsixTableRead : Prop :=
  (∀ s : State, blkHeld s .hif = false → s.cmd.perst = false →
    cfgVsecId = 0x000B ∧ cfgWord s 0 0x404 = some 0x01010001#32 ∧ cfgWord s 0 0x408 = some (s.rd R.BOOT_STAT []) ∧
    (∃ w, cfgWord s 0 0x40C = some w ∧ w.extractLsb' 0 16 = (s.rd R.BOOT_SLOT_STAT [0]).extractLsb' 0 16 ∧
      w.extractLsb' 16 16 = (s.rd R.BOOT_SLOT_STAT [1]).extractLsb' 0 16) ∧
    cfgWord s 0 0 = some 0x11521F3B#32 ∧
    (s.cmd.vfEnable = true → ∀ f : Fin 8, f ≠ 0 → cfgWord s f 0 = some 0x11531F3B#32 ∧ cfgWord s f 0x408 = none) ∧
    (s.cmd.vfEnable = false → ∀ f : Fin 8, f ≠ 0 → ∀ off, cfgWord s f off = none)) ∧
  (∀ (p : Fin 8) (v : Fin 32) (a : BitVec 64) (d : Word) (s : State),
    ∃ t, exec (.msixVectorUnmask p ⟨v, a, d⟩) s = .next t ∧ bar4Word t p (16 * v) = a.setWidth 32 ∧ bar4Word t p (16 * v + 4) = (a >>> 32).setWidth 32 ∧
      bar4Word t p (16 * v + 8) = d ∧ bar4Word t p (16 * v + 12) = 0 ∧
      ∀ (q : Fin 8) (u : Fin 32) (k : Fin 3), (q, u) ≠ (p, v) → bar4Word t q (16 * u + 4 * k) = bar4Word s q (16 * u + 4 * k)) ∧
  (∀ (p : Fin 8) (v : Fin 32) (s : State), (bar4Word s p 0x2000).getLsbD v = s.cmd.pba.contains (p.val, v.val))
end

