-- ==== Sys2Proof/Laws/Access.lean ====
section
/-! SUPPORT. What an access does that reaches its registers (R302, R303, R317): one lemma for each way in. -/
namespace Sys2Proof.Machine

theorem wakePort_awake {i : Nat} {s : State} (h : bitOf (s.g F.NOC_IDLE_IDLE []) i = false) : wakePort i s = s := by
  simp [wakePort, h]

theorem wakeBus_awake {rq : Req} {s : State} (h : BusAwake rq s) : wakeBus rq s = s := by
  cases rq <;> (unfold wakeBus; dsimp only; rw [wakePort_awake h.2, wakePort_awake h.1])

theorem wakeBulk_awake {c : Nat} {s : State} (h : BulkAwake c s) : wakeBulk c s = s := by
  unfold wakeBulk
  rw [wakePort_awake h.1, wakePort_awake h.2]

theorem gate_reaches {rq : Req} {b : Blk} {f : State → State} {s : State} (h : Reaches rq b s) : gate rq b f s = f s := by
  obtain ⟨h1, h2, h3⟩ := h
  unfold gate
  rw [wakeBus_awake h3]
  obtain h1 | h1 := h1 <;> subst h1 <;> simp [h2]

theorem gateUnit_reaches {rq : Req} {b : Blk} {f : State → State} {s : State} (h : Reaches rq b s) (hu : unitHeld s b = false) :
    gateUnit rq b f s = f s := by
  unfold gateUnit
  rw [gate_reaches h]
  simp [hu]

theorem gatePage_reaches {rq : Req} {b : Blk} {q : Fin 8} {f : State → State} {s : State} (h : ReachesPage rq b q s) :
    gatePage rq b q f s = f s := by
  obtain ⟨h1, h2, h3⟩ := h
  unfold gatePage
  rw [wakeBus_awake h3]
  obtain h1 | h1 | h1 := h1 <;> subst h1 <;> simp [h2]

end Sys2Proof.Machine
end

