-- ==== Sys2Proof/Laws/Regs.lean ====
section
/-! SUPPORT. Reading after writing: sparse maps, register words, fields. -/
namespace Sys2Proof.Machine

section
variable {α : Type}

theorem find?_put_same (v : α) (k : Nat) : ∀ m : List (Nat × α), find? (put m k v) k = some v
  | [] => by simp [put, find?]
  | (j, w) :: m => by
    simp only [put]
    split
    · rename_i h
      simp only [find?, find?_put_same v k m]
      rw [if_neg (by omega)]
    · split <;> simp [find?]

theorem find?_put_ne (v : α) {k l : Nat} (h : k ≠ l) : ∀ m : List (Nat × α), find? (put m k v) l = find? m l
  | [] => by simp [put, find?, h]
  | (j, w) :: m => by
    simp only [put]
    split
    · simp only [find?, find?_put_ne v h m]
    · split
      · rename_i e
        subst e
        simp [find?, h]
      · simp [find?, h]

theorem find?_drop1_same (k : Nat) : ∀ m : List (Nat × α), find? (drop1 m k) k = none
  | [] => rfl
  | (j, w) :: m => by
    simp only [drop1]
    split
    · exact find?_drop1_same k m
    · rename_i h
      simp [find?, h, find?_drop1_same k m]

theorem find?_drop1_ne {k l : Nat} (h : k ≠ l) : ∀ m : List (Nat × α), find? (drop1 m k) l = find? m l
  | [] => rfl
  | (j, w) :: m => by
    simp only [drop1]
    split
    · rename_i e
      subst e
      simp [find?, h, find?_drop1_ne h m]
    · simp only [find?, find?_drop1_ne h m]

theorem find?_filter (q : Nat → Bool) {a : Nat} (h : q a = true) : ∀ m : List (Nat × α), find? (m.filter (fun e => q e.1)) a = find? m a
  | [] => rfl
  | (j, w) :: m => by
    by_cases e : j = a
    · subst e
      simp [h, find?]
    · by_cases hj : q j = true
      · simp [hj, find?, e, find?_filter q h m]
      · simp [hj, find?, e, find?_filter q h m]

/-- A value put at a key reads there. -/
@[simp] theorem getD_put_same (d v : α) (m : List (Nat × α)) (k : Nat) : getD d (put m k v) k = v := by
  simp [getD, find?_put_same]

theorem getD_put_ne (d v : α) (m : List (Nat × α)) {k l : Nat} (h : k ≠ l) : getD d (put m k v) l = getD d m l := by
  simp [getD, find?_put_ne v h]

/-- The canonical write reads back, and leaves the value at every other key. -/
@[simp] theorem getD_putD_same [DecidableEq α] (d v : α) (m : List (Nat × α)) (k : Nat) : getD d (putD d m k v) k = v := by
  simp only [putD]
  split
  · rename_i h
    simp [getD, find?_drop1_same, h]
  · simp

theorem find?_putD_ne [DecidableEq α] (e v : α) (m : List (Nat × α)) {k l : Nat} (h : k ≠ l) :
    find? (putD e m k v) l = find? m l := by
  simp only [putD]
  split
  · exact find?_drop1_ne h m
  · exact find?_put_ne v h m

theorem getD_putD_ne [DecidableEq α] (d e v : α) (m : List (Nat × α)) {k l : Nat} (h : k ≠ l) :
    getD d (putD e m k v) l = getD d m l := by
  simp only [putD]
  split
  · simp [getD, find?_drop1_ne h]
  · simp [getD, find?_put_ne v h]

end

/-- A register word written reads back. -/
@[simp] theorem State.rd_wr_same (s : State) (r : Reg) (i : List Nat) (w : Word) : (s.wr r i w).rd r i = w :=
  getD_putD_same _ _ _ _

/-- A write leaves the words at every other address. -/
theorem State.rd_wr_ne (s : State) {r q : Reg} {i j : List Nat} (w : Word) (h : r.addr i ≠ q.addr j) :
    (s.wr r i w).rd q j = s.rd q j := getD_putD_ne _ _ _ _ h

theorem State.g_wr_ne (s : State) {r : Reg} {f : FR} {i j : List Nat} (w : Word) (h : r.addr i ≠ f.reg.addr j) :
    (s.wr r i w).g f j = s.g f j := by
  simp [State.g, s.rd_wr_ne w h]

theorem FR.mask_testBit (hi lo i : Nat) : (fldMask hi lo).getLsbD i = (decide (i < 32) && decide (lo ≤ i) && decide (i < hi + 1 - lo + lo)) := by
  simp only [fldMask, BitVec.getLsbD_ofNat, Nat.testBit_shiftLeft, Nat.testBit_two_pow_sub_one, ge_iff_le]
  by_cases h : lo ≤ i
  · simp only [h, decide_true, Bool.and_true, Bool.true_and]
    congr 1
    simp only [decide_eq_decide]
    omega
  · simp [h]

/-- A value put into a field of a word reads from it. -/
theorem FR.of_into {f : FR} (h : f.hi < 32) (v : Nat) (w : Word) : f.of (f.into v w) = v % 2 ^ (f.hi + 1 - f.lo) := by
  apply Nat.eq_of_testBit_eq
  intro i
  simp only [FR.of, FR.into, maskIn, Nat.testBit_mod_two_pow, Nat.testBit_shiftRight, BitVec.testBit_toNat, BitVec.getLsbD_or,
    BitVec.getLsbD_and, BitVec.getLsbD_not, FR.mask_testBit, BitVec.getLsbD_ofNat, Nat.testBit_shiftLeft]
  by_cases hi : i < f.hi + 1 - f.lo
  · have h1 : f.lo + i < 32 := by omega
    have h2 : f.lo + i < f.hi + 1 - f.lo + f.lo := by omega
    simp [hi, h1, h2]
  · simp [hi]

/-- The other fields of the word stay. -/
theorem FR.of_into_other {f g : FR} (h : f.hi < g.lo ∨ g.hi < f.lo) (v : Nat) (w : Word) : g.of (f.into v w) = g.of w := by
  apply Nat.eq_of_testBit_eq
  intro i
  simp only [FR.of, FR.into, maskIn, Nat.testBit_mod_two_pow, Nat.testBit_shiftRight, BitVec.testBit_toNat, BitVec.getLsbD_or,
    BitVec.getLsbD_and, BitVec.getLsbD_not, FR.mask_testBit]
  by_cases hi : i < g.hi + 1 - g.lo
  · have h1 : ¬(f.lo ≤ g.lo + i ∧ g.lo + i < f.hi + 1 - f.lo + f.lo) := by omega
    by_cases a : f.lo ≤ g.lo + i
    · have b : ¬ g.lo + i < f.hi + 1 - f.lo + f.lo := fun b => h1 ⟨a, b⟩
      simp [hi, b]
      intro y
      exact BitVec.lt_of_getLsbD y
    · simp [hi, a]
      intro y
      exact BitVec.lt_of_getLsbD y
  · simp [hi]

/-- A field written reads back, modulo its size. -/
theorem State.g_p_same (s : State) {f : FR} (i : List Nat) (v : Nat) (h : f.hi < 32 := by decide) :
    (s.p f i v).g f i = v % 2 ^ (f.hi + 1 - f.lo) := by
  simp [State.p, State.g, FR.of_into h]

/-- It leaves the other fields of its register. -/
theorem State.g_p_other (s : State) {f g : FR} (i : List Nat) (v : Nat) (e : g.reg = f.reg) (h : f.hi < g.lo ∨ g.hi < f.lo) :
    (s.p f i v).g g i = s.g g i := by
  simp [State.p, State.g, e, FR.of_into_other h]

/-- It leaves every other register. -/
theorem State.g_p_ne (s : State) {f g : FR} {i j : List Nat} (v : Nat) (h : f.reg.addr i ≠ g.reg.addr j) :
    (s.p f i v).g g j = s.g g j := s.g_wr_ne _ h

theorem State.rd_p_ne (s : State) {f : FR} {r : Reg} {i j : List Nat} (v : Nat) (h : f.reg.addr i ≠ r.addr j) :
    (s.p f i v).rd r j = s.rd r j := s.rd_wr_ne _ h

/-- Counting an event leaves every register but PMU_WRAP. -/
theorem State.rd_seeEvent (s : State) (e : Nat) (r : Reg) (j : List Nat) : (s.seeEvent e).rd r j = s.rd r j := by
  unfold State.seeEvent
  split <;> rfl

theorem setWrap_rd (s : State) (e : Nat) {r : Reg} {j : List Nat} (h : ∀ i, R.PMU_WRAP.addr [i] ≠ r.addr j) :
    (setWrap e s).rd r j = s.rd r j := State.rd_p_ne s _ (h _)

theorem countWrap_rd (s : State) {r : Reg} {j : List Nat} (h : ∀ i, R.PMU_WRAP.addr [i] ≠ r.addr j) :
    (countWrap s).rd r j = s.rd r j := by
  unfold countWrap
  split
  · exact s.rd_seeEvent 553 r j
  · split
    · rfl
    · exact setWrap_rd _ 553 h

theorem addCounter_rd (s : State) (e n : Nat) {r : Reg} {j : List Nat} (h : ∀ i, R.PMU_WRAP.addr [i] ≠ r.addr j) :
    (addCounter e n s).rd r j = s.rd r j := by
  unfold addCounter
  dsimp only
  split
  · rfl
  · rw [countWrap_rd _ h, setWrap_rd _ e h]
    rfl

theorem State.rd_count (s : State) (e n : Nat) {r : Reg} {j : List Nat} (h : ∀ i, R.PMU_WRAP.addr [i] ≠ r.addr j) :
    (s.count e n).rd r j = s.rd r j := by
  unfold State.count
  split
  · exact s.rd_seeEvent e r j
  · exact addCounter_rd s e n h

theorem State.g_count (s : State) (e n : Nat) {f : FR} {j : List Nat} (h : ∀ i, R.PMU_WRAP.addr [i] ≠ f.reg.addr j) :
    (s.count e n).g f j = s.g f j := by
  simp [State.g, s.rd_count e n h]

end Sys2Proof.Machine
end

