-- ==== Sys2Proof/Laws/Keeps.lean ====
section
/-! SUPPORT. What every operation of the block keeps: the queue of waiting commands, the canonical form of the register map,
of the cellar and of the LUT pool, and the parts of the state it does not touch. One lemma for each operation stands in
Laws/KeepsOps.lean; they compose by the lemmas here. -/
namespace Sys2Proof.Machine

theorem Part.same.refl (p : Part) (s : State) : p.same s s := by
  cases p <;> first | exact rfl | exact id | exact fun _ _ => rfl

theorem Part.same.trans {p : Part} {r s t : State} (h : p.same r s) (k : p.same s t) : p.same r t := by
  cases p <;> first | exact Eq.trans k h | exact fun x => h (k x) | exact fun x => k (h x) | exact fun a e => (k a e).trans (h a e)

/-- What holds between a state and one reached from it; the parts that `k` selects are the same. -/
structure Keeps (k : Part → Bool) (s t : State) : Prop where
  pending : t.pending = s.pending
  regs : rising s.regs = true → rising t.regs = true
  mem : Memory.wf s.cel.mem = true → Memory.wf t.cel.mem = true
  lut : Memory.wf s.eng.lut = true → Memory.wf t.eng.lut = true
  fresh : FreshTok s → FreshTok t
  same : ∀ p, k p = true → p.same s t

theorem Keeps.refl (k : Part → Bool) (s : State) : Keeps k s s := ⟨rfl, id, id, id, id, fun p _ => .refl p s⟩

theorem Keeps.trans {k : Part → Bool} {r s t : State} (h : Keeps k r s) (j : Keeps k s t) : Keeps k r t :=
  ⟨j.pending.trans h.pending, fun x => j.regs (h.regs x), fun x => j.mem (h.mem x), fun x => j.lut (h.lut x),
   fun x => j.fresh (h.fresh x),    fun p hp => (h.same p hp).trans (j.same p hp)⟩

section
variable {k : Part → Bool} {s t : State}

/-! A state that differs from a kept one in parts that `k` does not select is kept. -/

/-- A new register map that keeps its canonical form, and the words of the blocks that `k` selects. -/
theorem Keeps.set_regs {r : List (Nat × Word)} (h : Keeps k s t) (e : rising t.regs = true → rising r = true)
    (hr : ∀ b a, k (.reg b) = true → blkAt a = some b → find? r a = find? t.regs a) : Keeps k s { t with regs := r } :=
  ⟨h.pending, fun y => e (h.regs y), h.mem, h.lut, h.fresh, fun p hp => by
    cases p with
    | reg b => exact fun a ha => (hr b a hp ha).trans (h.same _ hp a ha)
    | _ => exact h.same _ hp⟩

/-- New contents of the cellar and of the LUT pool that keep their canonical form. -/
theorem Keeps.set_mem {x : CelHid} (h : Keeps k s t) (f : k .cel = false) (f_mem : k .mem = false)
    (e : Memory.wf t.cel.mem = true → Memory.wf x.mem = true) : Keeps k s { t with cel := x } :=
  ⟨h.pending, h.regs, fun y => e (h.mem y), h.lut, h.fresh, fun p hp => by
    cases p with
    | cel => simp [f] at hp
    | mem => simp [f_mem] at hp
    | _ => exact h.same _ hp⟩

theorem Keeps.set_lut {x : EngHid} (h : Keeps k s t) (f : k .eng = false) (f_lut : k .lut = false)
    (e : Memory.wf t.eng.lut = true → Memory.wf x.lut = true) : Keeps k s { t with eng := x } :=
  ⟨h.pending, h.regs, h.mem, fun y => e (h.lut y), h.fresh, fun p hp => by
    cases p with
    | eng => simp [f] at hp
    | lut => simp [f_lut] at hp
    | _ => exact h.same _ hp⟩

/-- Several parts at once. -/
theorem Keeps.set_many {u : State} (h : Keeps k s t) (hs : ∀ p, k p = true → p.same t u) (h1 : u.pending = t.pending := by rfl)
    (h2 : u.regs = t.regs := by rfl) (h3 : u.cel.mem = t.cel.mem := by rfl) (h4 : u.eng.lut = t.eng.lut := by rfl)
    (h5 : FreshTok t → FreshTok u := by exact id) : Keeps k s u :=
  ⟨h1.trans h.pending, h2 ▸ h.regs, h3 ▸ h.mem, h4 ▸ h.lut, fun y => h5 (h.fresh y), fun p hp => (h.same p hp).trans (hs p hp)⟩

theorem Keeps.set_pmu {x : PmuHid} (h : Keeps k s t) (f : k .pmu = false) : Keeps k s { t with pmu := x } :=
  ⟨h.pending, h.regs, h.mem, h.lut, h.fresh, fun p hp => by cases p <;> first | exact h.same _ hp | simp [f] at hp⟩

theorem Keeps.set_out {x : List Output} (h : Keeps k s t) (f : k .out = false) : Keeps k s { t with out := x } :=
  ⟨h.pending, h.regs, h.mem, h.lut, h.fresh, fun p hp => by cases p <;> first | exact h.same _ hp | simp [f] at hp⟩

theorem Keeps.set_free {x : Nat} (h : Keeps k s t) (f : k .free = false) : Keeps k s { t with free := x } :=
  ⟨h.pending, h.regs, h.mem, h.lut, h.fresh, fun p hp => by cases p <;> first | exact h.same _ hp | simp [f] at hp⟩

theorem Keeps.set_cmd {x : CmdHid} (h : Keeps k s t) (f : k .cmd = false)
    (e : FreshTok t → ∀ y ∈ x.live, y.id < x.nextId := by exact id) : Keeps k s { t with cmd := x } :=
  ⟨h.pending, h.regs, h.mem, h.lut, fun y => e (h.fresh y), fun p hp => by cases p <;> first | exact h.same _ hp | simp [f] at hp⟩

theorem Keeps.set_flt {x : FltHid} (h : Keeps k s t) (f : k .flt = false) : Keeps k s { t with flt := x } :=
  ⟨h.pending, h.regs, h.mem, h.lut, h.fresh, fun p hp => by cases p <;> first | exact h.same _ hp | simp [f] at hp⟩

theorem Keeps.set_xpt {x : XptHid} (h : Keeps k s t) (f : k .xpt = false) : Keeps k s { t with xpt := x } :=
  ⟨h.pending, h.regs, h.mem, h.lut, h.fresh, fun p hp => by cases p <;> first | exact h.same _ hp | simp [f] at hp⟩

theorem Keeps.set_ptp {x : PtpHid} (h : Keeps k s t) (f : k .ptp = false) : Keeps k s { t with ptp := x } :=
  ⟨h.pending, h.regs, h.mem, h.lut, h.fresh, fun p hp => by cases p <;> first | exact h.same _ hp | simp [f] at hp⟩

theorem Keeps.set_aud {x : AudHid} (h : Keeps k s t) (f : k .aud = false) : Keeps k s { t with aud := x } :=
  ⟨h.pending, h.regs, h.mem, h.lut, h.fresh, fun p hp => by cases p <;> first | exact h.same _ hp | simp [f] at hp⟩

theorem Keeps.set_zl {x : ZlHid} (h : Keeps k s t) (f : k .zl = false) : Keeps k s { t with zl := x } :=
  ⟨h.pending, h.regs, h.mem, h.lut, h.fresh, fun p hp => by cases p <;> first | exact h.same _ hp | simp [f] at hp⟩

theorem Keeps.set_latches {x : List ((Req × Nat) × Word)} (h : Keeps k s t) (f : k .latches = false) : Keeps k s { t with latches := x } :=
  ⟨h.pending, h.regs, h.mem, h.lut, h.fresh, fun p hp => by cases p <;> first | exact h.same _ hp | simp [f] at hp⟩

theorem Keeps.set_held {x : List ((Req × Nat) × Word)} (h : Keeps k s t) (f : k .held = false) : Keeps k s { t with held := x } :=
  ⟨h.pending, h.regs, h.mem, h.lut, h.fresh, fun p hp => by cases p <;> first | exact h.same _ hp | simp [f] at hp⟩

theorem Keeps.set_ticks {x : Nat} (h : Keeps k s t) (f : k .ticks = false) : Keeps k s { t with ticks := x } :=
  ⟨h.pending, h.regs, h.mem, h.lut, h.fresh, fun p hp => by cases p <;> first | exact h.same _ hp | simp [f] at hp⟩

theorem Keeps.set_red {x : RedHid} (h : Keeps k s t) (f : k .red = false)
    (e : x.plane = t.red.plane) (f_lease : k .lease = false ∨ x.tExp = t.red.tExp) : Keeps k s { t with red := x } :=
  ⟨h.pending, h.regs, h.mem, h.lut, h.fresh, fun p hp => by
    cases p with
    | red => simp [f] at hp
    | active => exact fun z => h.same .active hp (e ▸ z)
    | enterIso => exact fun z => h.same .enterIso hp (e ▸ z)
    | leaveIso => exact fun z => e.trans (h.same .leaveIso hp z)
    | enterSync => exact fun z => h.same .enterSync hp (e ▸ z)
    | leaveSync => exact fun z => e.trans (h.same .leaveSync hp z)
    | lease => exact f_lease.elim (fun e => by simp [e] at hp) (fun e => e.trans (h.same .lease hp))
    | _ => exact h.same _ hp⟩

theorem Keeps.set_flw {x : FlwHid} (h : Keeps k s t) (f : k .flw = false)
    (f_table : k .table = false ∨ x.tbl = t.flw.tbl) : Keeps k s { t with flw := x } :=
  ⟨h.pending, h.regs, h.mem, h.lut, h.fresh, fun p hp => by
    cases p with
    | flw => simp [f] at hp
    | table => exact f_table.elim (fun e => by simp [e] at hp) (fun e => e.trans (h.same .table hp))
    | _ => exact h.same _ hp⟩

theorem Keeps.set_ref {x : RefHid} (h : Keeps k s t) (f : k .ref = false)
    (f_house : k .house = false ∨ x.h = t.ref.h) : Keeps k s { t with ref := x } :=
  ⟨h.pending, h.regs, h.mem, h.lut, h.fresh, fun p hp => by
    cases p with
    | ref => simp [f] at hp
    | house => exact f_house.elim (fun e => by simp [e] at hp) (fun e => e.trans (h.same .house hp))
    | _ => exact h.same _ hp⟩

theorem Keeps.set_sys {x : SysHid} (h : Keeps k s t) (f : k .sys = false)
    (f_root : k .root = false ∨ x.root = t.sys.root) (f_por : k .por = false ∨ x.por = t.sys.por) : Keeps k s { t with sys := x } :=
  ⟨h.pending, h.regs, h.mem, h.lut, h.fresh, fun p hp => by
    cases p with
    | sys => simp [f] at hp
    | root => exact f_root.elim (fun e => by simp [e] at hp) (fun e => e.trans (h.same .root hp))
    | por => exact f_por.elim (fun e => by simp [e] at hp) (fun e => e.trans (h.same .por hp))
    | _ => exact h.same _ hp⟩

theorem Keeps.set_eng {x : EngHid} (h : Keeps k s t) (f : k .eng = false) (e : x.lut = t.eng.lut) :
    Keeps k s { t with eng := x } :=
  ⟨h.pending, h.regs, h.mem, fun y => e ▸ h.lut y, h.fresh, fun p hp => by
    cases p with
    | eng => simp [f] at hp
    | lut => exact e.trans (h.same .lut hp)
    | _ => exact h.same _ hp⟩

theorem Keeps.set_cel {x : CelHid} (h : Keeps k s t) (f : k .cel = false) (e : x.mem = t.cel.mem) :
    Keeps k s { t with cel := x } :=
  ⟨h.pending, h.regs, fun y => e ▸ h.mem y, h.lut, h.fresh, fun p hp => by
    cases p with
    | cel => simp [f] at hp
    | mem => exact e.trans (h.same .mem hp)
    | _ => exact h.same _ hp⟩

end

/-! Tracker entries that go, that change in other fields than their number, and a new one under the next number. -/

theorem live_filter {l : List Tok} {n : Nat} {q : Tok → Bool} (h : ∀ y ∈ l, y.id < n) : ∀ y ∈ l.filter q, y.id < n :=
  fun y hy => h y (List.mem_filter.mp hy).1

theorem live_map {l : List Tok} {n : Nat} {f : Tok → Tok} (hf : ∀ y, (f y).id = y.id) (h : ∀ y ∈ l, y.id < n) :
    ∀ y ∈ l.map f, y.id < n := fun y hy => by
  obtain ⟨z, hz, rfl⟩ := List.mem_map.mp hy
  exact hf z ▸ h z hz

theorem live_new {l : List Tok} {x : Tok} {n : Nat} (hx : x.id = n) (h : ∀ y ∈ l, y.id < n) :
    ∀ y ∈ l ++ [x], y.id < n + 1 := fun y hy => by
  rcases List.mem_append.mp hy with hy | hy
  · exact Nat.lt_succ_of_lt (h y hy)
  · cases List.mem_singleton.mp hy
    exact hx ▸ Nat.lt_succ_self _

theorem live_up {l : List Tok} {n m : Nat} (hn : n ≤ m) (h : ∀ y ∈ l, y.id < n) : ∀ y ∈ l, y.id < m :=
  fun y hy => Nat.lt_of_lt_of_le (h y hy) hn

/-- The same of results that hold a state. -/
def KeepsP {α : Type} (k : Part → Bool) (s : State) (p : α × State) : Prop := Keeps k s p.2
def KeepsT {α β : Type} (k : Part → Bool) (s : State) (p : α × β × State) : Prop := Keeps k s p.2.2
def KeepsQ {α : Type} (k : Part → Bool) (s : State) (p : State × α) : Prop := Keeps k s p.1
def KeepsO (k : Part → Bool) (s : State) (o : Option State) : Prop := ∀ t, o = some t → Keeps k s t
def KeepsOut (k : Part → Bool) (s : State) (o : Out) : Prop := ∀ t, o = .next t → Keeps k s t

section
variable {k : Part → Bool} {s : State} {α β : Type}

theorem KeepsOut.next {t : State} (h : Keeps k s t) : KeepsOut k s (.next t) := fun _ e => by cases e; exact h

theorem KeepsO.some {t : State} (h : Keeps k s t) : KeepsO k s (some t) := fun _ e => by cases e; exact h

theorem KeepsO.none : KeepsO k s none := fun _ e => by cases e

theorem keep_ite (P : α → Prop) {c : Prop} [Decidable c] {a b : α} (ha : P a) (hb : P b) : P (if c then a else b) := by
  split
  · exact ha
  · exact hb

theorem KeepsP.of_eq {p : α × State} {a : α} {t : State} (e : p = (a, t)) (h : KeepsP k s p) : Keeps k s t := by
  subst e
  exact h

theorem KeepsT.of_eq {p : α × β × State} {a : α} {b : β} {t : State} (e : p = (a, b, t)) (h : KeepsT k s p) : Keeps k s t := by
  subst e
  exact h

theorem KeepsQ.of_eq {p : State × α} {a : α} {t : State} (e : p = (t, a)) (h : KeepsQ k s p) : Keeps k s t := by
  subst e
  exact h

theorem KeepsO.of_eq {o : Option State} {t : State} (e : o = Option.some t) (h : KeepsO k s o) : Keeps k s t := h t e

theorem keep_foldl (P : β → Prop) {l : List α} {f : β → α → β} {i : β} (hf : ∀ x a, P x → P (f x a)) (hi : P i) :
    P (l.foldl f i) := by
  induction l generalizing i with
  | nil => exact hi
  | cons a l ih => exact ih (hf i a hi)

theorem keep_each {l : List α} {f : α → State → State} {i : State} (hf : ∀ a x, Keeps k s x → Keeps k s (f a x))
    (hi : Keeps k s i) : Keeps k s (each l f i) := keep_foldl (Keeps k s) (fun x a h => hf a x h) hi

theorem keep_when {c : Bool} {f : State → State} {i : State} (hf : ∀ x, Keeps k s x → Keeps k s (f x)) (hi : Keeps k s i) :
    Keeps k s (when c f i) := by
  cases c
  · exact hi
  · exact hf i hi

end

/-! Register blocks. Every element of a register lies in its block's range of R301. -/

/-- The range of a block (R301). -/
def blkRange : Blk → Nat × Nat
  | .hif => (0, 0x100000) | .cmd => (0x100000, 0x200000) | .xpt => (0x200000, 0x300000) | .ref => (0x300000, 0x340000)
  | .ptp => (0x340000, 0x400000) | .eth => (0x400000, 0x500000) | .flw => (0x500000, 0x600000) | .aud => (0x600000, 0x800000)
  | .eng => (0x800000, 0xC00000) | .cel => (0xC00000, 0x1000000) | .zl => (0x1000000, 0x1400000) | .red => (0x1400000, 0x1500000)
  | .flt => (0x1500000, 0x1600000) | .pmu => (0x1600000, 0x1700000) | .key => (0x1700000, 0x1780000)
  | .boot => (0x1780000, 0x1800000) | .noc => (0x1800000, 0x1900000) | .sys => (0x1900000, 0x1A00000)

theorem blkAt_range {a : Nat} {b : Blk} (h : (blkRange b).1 ≤ a) (h2 : a < (blkRange b).2) : blkAt a = some b := by
  cases b <;> simp only [blkRange] at h h2 <;> unfold blkAt <;> repeat (first | rfl | (rw [if_neg (by omega)]) | (rw [if_pos (by omega)]))

/-- Bytes from the first element of an array to its last. -/
def span : List (Nat × Nat) → Nat
  | [] => 0
  | (n, st) :: ds => (n - 1) * st + span ds

/-- Whether a register and its elements lie in its block's range. -/
def Reg.inBlock (r : Reg) : Bool :=
  Nat.ble (blkRange r.blk).1 r.base && Nat.ble (r.base + span r.dims + 1) (blkRange r.blk).2

theorem idxOff_le : ∀ (d : List (Nat × Nat)) (i : List Nat), (d.all fun x => x.1 != 0) = true → idxOff d i ≤ span d
  | [], _, _ => by simp [idxOff]
  | (n, st) :: ds, [], _ => by simp [idxOff]
  | (n, st) :: ds, i :: is, h => by
    simp only [List.all_cons, Bool.and_eq_true, bne_iff_ne, ne_eq] at h
    have h1 := idxOff_le ds is h.2
    have h2 : i % n ≤ n - 1 := by
      have := Nat.mod_lt i (Nat.pos_of_ne_zero h.1)
      omega
    have h3 := Nat.mul_le_mul_right st h2
    simp only [idxOff, span]
    omega

theorem Reg.blkAt_addr {r : Reg} (h : r.inBlock = true) (hd : (r.dims.all fun x => x.1 != 0) = true) (i : List Nat) :
    blkAt (r.addr i) = some r.blk := by
  simp only [Reg.inBlock, Bool.and_eq_true, Nat.ble_eq] at h
  have h1 := idxOff_le r.dims i hd
  exact blkAt_range (by unfold Reg.addr; omega) (by unfold Reg.addr; omega)

/-- No element of a register lies in a block that `k` selects. -/
def RegFree (k : Part → Bool) (r : Reg) : Prop := ∀ i b, blkAt (r.addr i) = some b → k (.reg b) = false

theorem RegFree.of {k : Part → Bool} {r : Reg} (f : k (.reg r.blk) = false)
    (h : (r.inBlock && r.dims.all fun x => x.1 != 0) = true := by rfl) : RegFree k r := by
  intro i b hb
  rw [Bool.and_eq_true] at h
  rw [r.blkAt_addr h.1 h.2] at hb
  cases hb
  exact f

theorem RegFree.all {k : Part → Bool} {r : Reg} (f : ∀ b, k (.reg b) = false) : RegFree k r := fun _ b _ => f b

theorem RegFree.ite {k : Part → Bool} {c : Prop} [Decidable c] {f g : FR} (h : RegFree k f.reg) (j : RegFree k g.reg) :
    RegFree k (if c then f else g).reg := by
  split
  · exact h
  · exact j

/-! Sparse maps keep their canonical form. -/

theorem keysAbove_put {α : Type} {j k : Nat} {v : α} : ∀ {m : List (Nat × α)}, j < k → keysAbove j m = true →
    keysAbove j (put m k v) = true
  | [], h, _ => by simp [put, keysAbove, h]
  | (i, w) :: m, h, hm => by
    simp only [keysAbove, List.all_cons, Bool.and_eq_true, decide_eq_true_eq] at hm
    have ih := keysAbove_put (v := v) h (m := m) hm.2
    simp only [keysAbove] at ih
    simp only [put]
    split
    · simp [keysAbove, hm.1, ih]
    · split
      · simp [keysAbove, h, hm.2]
      · simp [keysAbove, h, hm.1, hm.2]

theorem keysAbove_mono {α : Type} {i j : Nat} (h : i < j) {m : List (Nat × α)} (hm : keysAbove j m = true) : keysAbove i m = true := by
  simp only [keysAbove, List.all_eq_true, decide_eq_true_eq] at *
  exact fun e he => Nat.lt_trans h (hm e he)

theorem rising_put {α : Type} {k : Nat} {v : α} : ∀ {m : List (Nat × α)}, rising m = true → rising (put m k v) = true
  | [], _ => by simp [put, rising, keysAbove]
  | (j, w) :: m, hm => by
    simp only [rising, Bool.and_eq_true] at hm
    simp only [put]
    split
    · rename_i h
      simp [rising, keysAbove_put h hm.1, rising_put (v := v) hm.2]
    · split
      · rename_i h
        subst h
        simp [rising, hm]
      · have h : k < j := by omega
        have h2 := keysAbove_mono h hm.1
        simp only [keysAbove] at h2
        simp [rising, keysAbove, hm.2, h, h2]
        simpa [keysAbove] using hm.1

theorem drop1_sub {α : Type} {k : Nat} (p : Nat × α → Bool) : ∀ {m : List (Nat × α)}, m.all p = true → (drop1 m k).all p = true
  | [], _ => rfl
  | (j, w) :: m, hm => by
    simp only [List.all_cons, Bool.and_eq_true] at hm
    simp only [drop1]
    split
    · exact drop1_sub p hm.2
    · simp [hm.1, drop1_sub p hm.2]

theorem rising_drop1 {α : Type} {k : Nat} : ∀ {m : List (Nat × α)}, rising m = true → rising (drop1 m k) = true
  | [], _ => rfl
  | (j, w) :: m, hm => by
    simp only [rising, Bool.and_eq_true] at hm
    simp only [drop1]
    split
    · exact rising_drop1 hm.2
    · simp [rising, keysAbove, rising_drop1 hm.2]
      simpa [keysAbove] using drop1_sub (k := k) _ hm.1

theorem rising_putD {α : Type} [DecidableEq α] {d v : α} {m : List (Nat × α)} {k : Nat} (h : rising m = true) :
    rising (putD d m k v) = true := by
  simp only [putD]
  split
  · exact rising_drop1 h
  · exact rising_put h

theorem noDefault_put {α : Type} [DecidableEq α] {d v : α} {k : Nat} (hv : v ≠ d) : ∀ {m : List (Nat × α)},
    noDefault d m = true → noDefault d (put m k v) = true
  | [], _ => by simp [put, noDefault, hv]
  | (j, w) :: m, hm => by
    simp only [noDefault, List.all_cons, Bool.and_eq_true] at hm
    have ih := noDefault_put (k := k) hv (m := m) hm.2
    simp only [noDefault] at ih
    simp only [put]
    split
    · simp only [noDefault, List.all_cons, hm.1, ih, Bool.and_self]
    · split
      · simp only [noDefault, List.all_cons, hm.2, Bool.and_true]
        simp [hv]
      · simp only [noDefault, List.all_cons, hm.1, hm.2, Bool.and_true]
        simp [hv]

/-- A write of a sparse memory keeps the canonical form. -/
theorem memPut_wf {m : List (Nat × Byte)} {a : Nat} {b : Byte} (h : Memory.wf m = true) : Memory.wf (memPut m a b) = true := by
  simp only [Memory.wf, Bool.and_eq_true] at *
  refine ⟨rising_putD h.1, ?_⟩
  simp only [memPut, putD]
  split
  · exact drop1_sub _ h.2
  · rename_i hb
    exact noDefault_put hb h.2

theorem memPuts_wf : ∀ {bs : List Byte} {m : List (Nat × Byte)} {a : Nat}, Memory.wf m = true → Memory.wf (memPuts m a bs) = true
  | [], _, _, h => h
  | _ :: r, _, _, h => memPuts_wf (bs := r) (memPut_wf h)

theorem rising_filter {α : Type} (p : Nat × α → Bool) : ∀ {m : List (Nat × α)}, rising m = true → rising (m.filter p) = true
  | [], _ => rfl
  | (j, w) :: m, hm => by
    simp only [rising, Bool.and_eq_true] at hm
    simp only [List.filter_cons]
    split
    · simp only [rising, Bool.and_eq_true]
      refine ⟨?_, rising_filter p hm.2⟩
      simp only [keysAbove, List.all_eq_true] at *
      exact fun e he => hm.1 e (List.mem_filter.mp he).1
    · exact rising_filter p hm.2

end Sys2Proof.Machine
end

