-- ==== Sys2Proof/Laws/State.lean ====
section
/-! SUPPORT. What the shared operations on registers, output and free values leave alone: one lemma per operation and field. -/
namespace Sys2Proof.Machine

section
variable (s : State) (r : Reg) (f : FR) (i : List Nat) (w : Word) (v : Nat) (o : Output) (k : Cad)

@[simp] theorem State.wr_pending : (s.wr r i w).pending = s.pending := rfl
@[simp] theorem State.wr_latches : (s.wr r i w).latches = s.latches := rfl
@[simp] theorem State.wr_held : (s.wr r i w).held = s.held := rfl
@[simp] theorem State.wr_out : (s.wr r i w).out = s.out := rfl
@[simp] theorem State.wr_free : (s.wr r i w).free = s.free := rfl
@[simp] theorem State.wr_ticks : (s.wr r i w).ticks = s.ticks := rfl
@[simp] theorem State.wr_cmd : (s.wr r i w).cmd = s.cmd := rfl
@[simp] theorem State.wr_flt : (s.wr r i w).flt = s.flt := rfl
@[simp] theorem State.wr_pmu : (s.wr r i w).pmu = s.pmu := rfl
@[simp] theorem State.wr_xpt : (s.wr r i w).xpt = s.xpt := rfl
@[simp] theorem State.wr_ptp : (s.wr r i w).ptp = s.ptp := rfl
@[simp] theorem State.wr_red : (s.wr r i w).red = s.red := rfl
@[simp] theorem State.wr_flw : (s.wr r i w).flw = s.flw := rfl
@[simp] theorem State.wr_aud : (s.wr r i w).aud = s.aud := rfl
@[simp] theorem State.wr_zl : (s.wr r i w).zl = s.zl := rfl
@[simp] theorem State.wr_eng : (s.wr r i w).eng = s.eng := rfl
@[simp] theorem State.wr_cel : (s.wr r i w).cel = s.cel := rfl
@[simp] theorem State.wr_ref : (s.wr r i w).ref = s.ref := rfl
@[simp] theorem State.wr_sys : (s.wr r i w).sys = s.sys := rfl

@[simp] theorem State.p_pending : (s.p f i v).pending = s.pending := rfl
@[simp] theorem State.p_latches : (s.p f i v).latches = s.latches := rfl
@[simp] theorem State.p_held : (s.p f i v).held = s.held := rfl
@[simp] theorem State.p_out : (s.p f i v).out = s.out := rfl
@[simp] theorem State.p_free : (s.p f i v).free = s.free := rfl
@[simp] theorem State.p_ticks : (s.p f i v).ticks = s.ticks := rfl
@[simp] theorem State.p_cmd : (s.p f i v).cmd = s.cmd := rfl
@[simp] theorem State.p_flt : (s.p f i v).flt = s.flt := rfl
@[simp] theorem State.p_pmu : (s.p f i v).pmu = s.pmu := rfl
@[simp] theorem State.p_xpt : (s.p f i v).xpt = s.xpt := rfl
@[simp] theorem State.p_ptp : (s.p f i v).ptp = s.ptp := rfl
@[simp] theorem State.p_red : (s.p f i v).red = s.red := rfl
@[simp] theorem State.p_flw : (s.p f i v).flw = s.flw := rfl
@[simp] theorem State.p_aud : (s.p f i v).aud = s.aud := rfl
@[simp] theorem State.p_zl : (s.p f i v).zl = s.zl := rfl
@[simp] theorem State.p_eng : (s.p f i v).eng = s.eng := rfl
@[simp] theorem State.p_cel : (s.p f i v).cel = s.cel := rfl
@[simp] theorem State.p_ref : (s.p f i v).ref = s.ref := rfl
@[simp] theorem State.p_sys : (s.p f i v).sys = s.sys := rfl

@[simp] theorem State.bump_pending : (s.bump f i v).pending = s.pending := rfl
@[simp] theorem State.bump_latches : (s.bump f i v).latches = s.latches := rfl
@[simp] theorem State.bump_held : (s.bump f i v).held = s.held := rfl
@[simp] theorem State.bump_out : (s.bump f i v).out = s.out := rfl
@[simp] theorem State.bump_free : (s.bump f i v).free = s.free := rfl
@[simp] theorem State.bump_ticks : (s.bump f i v).ticks = s.ticks := rfl
@[simp] theorem State.bump_cmd : (s.bump f i v).cmd = s.cmd := rfl
@[simp] theorem State.bump_flt : (s.bump f i v).flt = s.flt := rfl
@[simp] theorem State.bump_pmu : (s.bump f i v).pmu = s.pmu := rfl
@[simp] theorem State.bump_xpt : (s.bump f i v).xpt = s.xpt := rfl
@[simp] theorem State.bump_ptp : (s.bump f i v).ptp = s.ptp := rfl
@[simp] theorem State.bump_red : (s.bump f i v).red = s.red := rfl
@[simp] theorem State.bump_flw : (s.bump f i v).flw = s.flw := rfl
@[simp] theorem State.bump_aud : (s.bump f i v).aud = s.aud := rfl
@[simp] theorem State.bump_zl : (s.bump f i v).zl = s.zl := rfl
@[simp] theorem State.bump_eng : (s.bump f i v).eng = s.eng := rfl
@[simp] theorem State.bump_cel : (s.bump f i v).cel = s.cel := rfl
@[simp] theorem State.bump_ref : (s.bump f i v).ref = s.ref := rfl
@[simp] theorem State.bump_sys : (s.bump f i v).sys = s.sys := rfl

@[simp] theorem State.inc_pending : (s.inc f i v).pending = s.pending := rfl
@[simp] theorem State.inc_latches : (s.inc f i v).latches = s.latches := rfl
@[simp] theorem State.inc_held : (s.inc f i v).held = s.held := rfl
@[simp] theorem State.inc_out : (s.inc f i v).out = s.out := rfl
@[simp] theorem State.inc_free : (s.inc f i v).free = s.free := rfl
@[simp] theorem State.inc_ticks : (s.inc f i v).ticks = s.ticks := rfl
@[simp] theorem State.inc_cmd : (s.inc f i v).cmd = s.cmd := rfl
@[simp] theorem State.inc_flt : (s.inc f i v).flt = s.flt := rfl
@[simp] theorem State.inc_pmu : (s.inc f i v).pmu = s.pmu := rfl
@[simp] theorem State.inc_xpt : (s.inc f i v).xpt = s.xpt := rfl
@[simp] theorem State.inc_ptp : (s.inc f i v).ptp = s.ptp := rfl
@[simp] theorem State.inc_red : (s.inc f i v).red = s.red := rfl
@[simp] theorem State.inc_flw : (s.inc f i v).flw = s.flw := rfl
@[simp] theorem State.inc_aud : (s.inc f i v).aud = s.aud := rfl
@[simp] theorem State.inc_zl : (s.inc f i v).zl = s.zl := rfl
@[simp] theorem State.inc_eng : (s.inc f i v).eng = s.eng := rfl
@[simp] theorem State.inc_cel : (s.inc f i v).cel = s.cel := rfl
@[simp] theorem State.inc_ref : (s.inc f i v).ref = s.ref := rfl
@[simp] theorem State.inc_sys : (s.inc f i v).sys = s.sys := rfl

@[simp] theorem State.restore_pending : (s.restore r i).pending = s.pending := rfl
@[simp] theorem State.restore_latches : (s.restore r i).latches = s.latches := rfl
@[simp] theorem State.restore_held : (s.restore r i).held = s.held := rfl
@[simp] theorem State.restore_out : (s.restore r i).out = s.out := rfl
@[simp] theorem State.restore_free : (s.restore r i).free = s.free := rfl
@[simp] theorem State.restore_ticks : (s.restore r i).ticks = s.ticks := rfl
@[simp] theorem State.restore_cmd : (s.restore r i).cmd = s.cmd := rfl
@[simp] theorem State.restore_flt : (s.restore r i).flt = s.flt := rfl
@[simp] theorem State.restore_pmu : (s.restore r i).pmu = s.pmu := rfl
@[simp] theorem State.restore_xpt : (s.restore r i).xpt = s.xpt := rfl
@[simp] theorem State.restore_ptp : (s.restore r i).ptp = s.ptp := rfl
@[simp] theorem State.restore_red : (s.restore r i).red = s.red := rfl
@[simp] theorem State.restore_flw : (s.restore r i).flw = s.flw := rfl
@[simp] theorem State.restore_aud : (s.restore r i).aud = s.aud := rfl
@[simp] theorem State.restore_zl : (s.restore r i).zl = s.zl := rfl
@[simp] theorem State.restore_eng : (s.restore r i).eng = s.eng := rfl
@[simp] theorem State.restore_cel : (s.restore r i).cel = s.cel := rfl
@[simp] theorem State.restore_ref : (s.restore r i).ref = s.ref := rfl
@[simp] theorem State.restore_sys : (s.restore r i).sys = s.sys := rfl

@[simp] theorem State.emit_pending : (s.emit o).pending = s.pending := rfl
@[simp] theorem State.emit_regs : (s.emit o).regs = s.regs := rfl
@[simp] theorem State.emit_latches : (s.emit o).latches = s.latches := rfl
@[simp] theorem State.emit_held : (s.emit o).held = s.held := rfl
@[simp] theorem State.emit_free : (s.emit o).free = s.free := rfl
@[simp] theorem State.emit_ticks : (s.emit o).ticks = s.ticks := rfl
@[simp] theorem State.emit_cmd : (s.emit o).cmd = s.cmd := rfl
@[simp] theorem State.emit_flt : (s.emit o).flt = s.flt := rfl
@[simp] theorem State.emit_pmu : (s.emit o).pmu = s.pmu := rfl
@[simp] theorem State.emit_xpt : (s.emit o).xpt = s.xpt := rfl
@[simp] theorem State.emit_ptp : (s.emit o).ptp = s.ptp := rfl
@[simp] theorem State.emit_red : (s.emit o).red = s.red := rfl
@[simp] theorem State.emit_flw : (s.emit o).flw = s.flw := rfl
@[simp] theorem State.emit_aud : (s.emit o).aud = s.aud := rfl
@[simp] theorem State.emit_zl : (s.emit o).zl = s.zl := rfl
@[simp] theorem State.emit_eng : (s.emit o).eng = s.eng := rfl
@[simp] theorem State.emit_cel : (s.emit o).cel = s.cel := rfl
@[simp] theorem State.emit_ref : (s.emit o).ref = s.ref := rfl
@[simp] theorem State.emit_sys : (s.emit o).sys = s.sys := rfl

@[simp] theorem State.setCad_pending : (s.setCad v k).pending = s.pending := rfl
@[simp] theorem State.setCad_regs : (s.setCad v k).regs = s.regs := rfl
@[simp] theorem State.setCad_latches : (s.setCad v k).latches = s.latches := rfl
@[simp] theorem State.setCad_held : (s.setCad v k).held = s.held := rfl
@[simp] theorem State.setCad_out : (s.setCad v k).out = s.out := rfl
@[simp] theorem State.setCad_free : (s.setCad v k).free = s.free := rfl
@[simp] theorem State.setCad_ticks : (s.setCad v k).ticks = s.ticks := rfl
@[simp] theorem State.setCad_cmd : (s.setCad v k).cmd = s.cmd := rfl
@[simp] theorem State.setCad_flt : (s.setCad v k).flt = s.flt := rfl
@[simp] theorem State.setCad_pmu : (s.setCad v k).pmu = s.pmu := rfl
@[simp] theorem State.setCad_ptp : (s.setCad v k).ptp = s.ptp := rfl
@[simp] theorem State.setCad_red : (s.setCad v k).red = s.red := rfl
@[simp] theorem State.setCad_flw : (s.setCad v k).flw = s.flw := rfl
@[simp] theorem State.setCad_aud : (s.setCad v k).aud = s.aud := rfl
@[simp] theorem State.setCad_zl : (s.setCad v k).zl = s.zl := rfl
@[simp] theorem State.setCad_eng : (s.setCad v k).eng = s.eng := rfl
@[simp] theorem State.setCad_cel : (s.setCad v k).cel = s.cel := rfl
@[simp] theorem State.setCad_ref : (s.setCad v k).ref = s.ref := rfl
@[simp] theorem State.setCad_sys : (s.setCad v k).sys = s.sys := rfl

@[simp] theorem State.freeNat_pending : (s.freeNat v).2.pending = s.pending := rfl
@[simp] theorem State.freeNat_regs : (s.freeNat v).2.regs = s.regs := rfl
@[simp] theorem State.freeNat_latches : (s.freeNat v).2.latches = s.latches := rfl
@[simp] theorem State.freeNat_held : (s.freeNat v).2.held = s.held := rfl
@[simp] theorem State.freeNat_out : (s.freeNat v).2.out = s.out := rfl
@[simp] theorem State.freeNat_ticks : (s.freeNat v).2.ticks = s.ticks := rfl
@[simp] theorem State.freeNat_cmd : (s.freeNat v).2.cmd = s.cmd := rfl
@[simp] theorem State.freeNat_flt : (s.freeNat v).2.flt = s.flt := rfl
@[simp] theorem State.freeNat_pmu : (s.freeNat v).2.pmu = s.pmu := rfl
@[simp] theorem State.freeNat_xpt : (s.freeNat v).2.xpt = s.xpt := rfl
@[simp] theorem State.freeNat_ptp : (s.freeNat v).2.ptp = s.ptp := rfl
@[simp] theorem State.freeNat_red : (s.freeNat v).2.red = s.red := rfl
@[simp] theorem State.freeNat_flw : (s.freeNat v).2.flw = s.flw := rfl
@[simp] theorem State.freeNat_aud : (s.freeNat v).2.aud = s.aud := rfl
@[simp] theorem State.freeNat_zl : (s.freeNat v).2.zl = s.zl := rfl
@[simp] theorem State.freeNat_eng : (s.freeNat v).2.eng = s.eng := rfl
@[simp] theorem State.freeNat_cel : (s.freeNat v).2.cel = s.cel := rfl
@[simp] theorem State.freeNat_ref : (s.freeNat v).2.ref = s.ref := rfl
@[simp] theorem State.freeNat_sys : (s.freeNat v).2.sys = s.sys := rfl

@[simp] theorem State.emit_out : (s.emit o).out = s.out ++ [o] := rfl
@[simp] theorem State.freeNat_free : (s.freeNat v).2.free = s.free + 1 := rfl
@[simp] theorem State.emit_rd : (s.emit o).rd r i = s.rd r i := rfl
@[simp] theorem State.emit_g : (s.emit o).g f i = s.g f i := rfl

end

section
variable (s : State) (e n : Nat)

@[simp] theorem State.seeEvent_pending : (s.seeEvent e).pending = s.pending := by
  unfold State.seeEvent; split <;> rfl
@[simp] theorem countWrap_pending : (countWrap s).pending = s.pending := by
  unfold countWrap; split
  · exact s.seeEvent_pending 553
  · split <;> rfl
@[simp] theorem addCounter_pending : (addCounter e n s).pending = s.pending := by
  unfold addCounter; dsimp only; split
  · rfl
  · exact countWrap_pending _
@[simp] theorem State.count_pending : (s.count e n).pending = s.pending := by
  unfold State.count; split
  · exact s.seeEvent_pending e
  · exact addCounter_pending s e n
@[simp] theorem State.seeEvent_latches : (s.seeEvent e).latches = s.latches := by
  unfold State.seeEvent; split <;> rfl
@[simp] theorem countWrap_latches : (countWrap s).latches = s.latches := by
  unfold countWrap; split
  · exact s.seeEvent_latches 553
  · split <;> rfl
@[simp] theorem addCounter_latches : (addCounter e n s).latches = s.latches := by
  unfold addCounter; dsimp only; split
  · rfl
  · exact countWrap_latches _
@[simp] theorem State.count_latches : (s.count e n).latches = s.latches := by
  unfold State.count; split
  · exact s.seeEvent_latches e
  · exact addCounter_latches s e n
@[simp] theorem State.seeEvent_held : (s.seeEvent e).held = s.held := by
  unfold State.seeEvent; split <;> rfl
@[simp] theorem countWrap_held : (countWrap s).held = s.held := by
  unfold countWrap; split
  · exact s.seeEvent_held 553
  · split <;> rfl
@[simp] theorem addCounter_held : (addCounter e n s).held = s.held := by
  unfold addCounter; dsimp only; split
  · rfl
  · exact countWrap_held _
@[simp] theorem State.count_held : (s.count e n).held = s.held := by
  unfold State.count; split
  · exact s.seeEvent_held e
  · exact addCounter_held s e n
@[simp] theorem State.seeEvent_out : (s.seeEvent e).out = s.out := by
  unfold State.seeEvent; split <;> rfl
@[simp] theorem countWrap_out : (countWrap s).out = s.out := by
  unfold countWrap; split
  · exact s.seeEvent_out 553
  · split <;> rfl
@[simp] theorem addCounter_out : (addCounter e n s).out = s.out := by
  unfold addCounter; dsimp only; split
  · rfl
  · exact countWrap_out _
@[simp] theorem State.count_out : (s.count e n).out = s.out := by
  unfold State.count; split
  · exact s.seeEvent_out e
  · exact addCounter_out s e n
@[simp] theorem State.seeEvent_free : (s.seeEvent e).free = s.free := by
  unfold State.seeEvent; split <;> rfl
@[simp] theorem countWrap_free : (countWrap s).free = s.free := by
  unfold countWrap; split
  · exact s.seeEvent_free 553
  · split <;> rfl
@[simp] theorem addCounter_free : (addCounter e n s).free = s.free := by
  unfold addCounter; dsimp only; split
  · rfl
  · exact countWrap_free _
@[simp] theorem State.count_free : (s.count e n).free = s.free := by
  unfold State.count; split
  · exact s.seeEvent_free e
  · exact addCounter_free s e n
@[simp] theorem State.seeEvent_ticks : (s.seeEvent e).ticks = s.ticks := by
  unfold State.seeEvent; split <;> rfl
@[simp] theorem countWrap_ticks : (countWrap s).ticks = s.ticks := by
  unfold countWrap; split
  · exact s.seeEvent_ticks 553
  · split <;> rfl
@[simp] theorem addCounter_ticks : (addCounter e n s).ticks = s.ticks := by
  unfold addCounter; dsimp only; split
  · rfl
  · exact countWrap_ticks _
@[simp] theorem State.count_ticks : (s.count e n).ticks = s.ticks := by
  unfold State.count; split
  · exact s.seeEvent_ticks e
  · exact addCounter_ticks s e n
@[simp] theorem State.seeEvent_cmd : (s.seeEvent e).cmd = s.cmd := by
  unfold State.seeEvent; split <;> rfl
@[simp] theorem countWrap_cmd : (countWrap s).cmd = s.cmd := by
  unfold countWrap; split
  · exact s.seeEvent_cmd 553
  · split <;> rfl
@[simp] theorem addCounter_cmd : (addCounter e n s).cmd = s.cmd := by
  unfold addCounter; dsimp only; split
  · rfl
  · exact countWrap_cmd _
@[simp] theorem State.count_cmd : (s.count e n).cmd = s.cmd := by
  unfold State.count; split
  · exact s.seeEvent_cmd e
  · exact addCounter_cmd s e n
@[simp] theorem State.seeEvent_flt : (s.seeEvent e).flt = s.flt := by
  unfold State.seeEvent; split <;> rfl
@[simp] theorem countWrap_flt : (countWrap s).flt = s.flt := by
  unfold countWrap; split
  · exact s.seeEvent_flt 553
  · split <;> rfl
@[simp] theorem addCounter_flt : (addCounter e n s).flt = s.flt := by
  unfold addCounter; dsimp only; split
  · rfl
  · exact countWrap_flt _
@[simp] theorem State.count_flt : (s.count e n).flt = s.flt := by
  unfold State.count; split
  · exact s.seeEvent_flt e
  · exact addCounter_flt s e n
@[simp] theorem State.seeEvent_xpt : (s.seeEvent e).xpt = s.xpt := by
  unfold State.seeEvent; split <;> rfl
@[simp] theorem countWrap_xpt : (countWrap s).xpt = s.xpt := by
  unfold countWrap; split
  · exact s.seeEvent_xpt 553
  · split <;> rfl
@[simp] theorem addCounter_xpt : (addCounter e n s).xpt = s.xpt := by
  unfold addCounter; dsimp only; split
  · rfl
  · exact countWrap_xpt _
@[simp] theorem State.count_xpt : (s.count e n).xpt = s.xpt := by
  unfold State.count; split
  · exact s.seeEvent_xpt e
  · exact addCounter_xpt s e n
@[simp] theorem State.seeEvent_ptp : (s.seeEvent e).ptp = s.ptp := by
  unfold State.seeEvent; split <;> rfl
@[simp] theorem countWrap_ptp : (countWrap s).ptp = s.ptp := by
  unfold countWrap; split
  · exact s.seeEvent_ptp 553
  · split <;> rfl
@[simp] theorem addCounter_ptp : (addCounter e n s).ptp = s.ptp := by
  unfold addCounter; dsimp only; split
  · rfl
  · exact countWrap_ptp _
@[simp] theorem State.count_ptp : (s.count e n).ptp = s.ptp := by
  unfold State.count; split
  · exact s.seeEvent_ptp e
  · exact addCounter_ptp s e n
@[simp] theorem State.seeEvent_red : (s.seeEvent e).red = s.red := by
  unfold State.seeEvent; split <;> rfl
@[simp] theorem countWrap_red : (countWrap s).red = s.red := by
  unfold countWrap; split
  · exact s.seeEvent_red 553
  · split <;> rfl
@[simp] theorem addCounter_red : (addCounter e n s).red = s.red := by
  unfold addCounter; dsimp only; split
  · rfl
  · exact countWrap_red _
@[simp] theorem State.count_red : (s.count e n).red = s.red := by
  unfold State.count; split
  · exact s.seeEvent_red e
  · exact addCounter_red s e n
@[simp] theorem State.seeEvent_flw : (s.seeEvent e).flw = s.flw := by
  unfold State.seeEvent; split <;> rfl
@[simp] theorem countWrap_flw : (countWrap s).flw = s.flw := by
  unfold countWrap; split
  · exact s.seeEvent_flw 553
  · split <;> rfl
@[simp] theorem addCounter_flw : (addCounter e n s).flw = s.flw := by
  unfold addCounter; dsimp only; split
  · rfl
  · exact countWrap_flw _
@[simp] theorem State.count_flw : (s.count e n).flw = s.flw := by
  unfold State.count; split
  · exact s.seeEvent_flw e
  · exact addCounter_flw s e n
@[simp] theorem State.seeEvent_aud : (s.seeEvent e).aud = s.aud := by
  unfold State.seeEvent; split <;> rfl
@[simp] theorem countWrap_aud : (countWrap s).aud = s.aud := by
  unfold countWrap; split
  · exact s.seeEvent_aud 553
  · split <;> rfl
@[simp] theorem addCounter_aud : (addCounter e n s).aud = s.aud := by
  unfold addCounter; dsimp only; split
  · rfl
  · exact countWrap_aud _
@[simp] theorem State.count_aud : (s.count e n).aud = s.aud := by
  unfold State.count; split
  · exact s.seeEvent_aud e
  · exact addCounter_aud s e n
@[simp] theorem State.seeEvent_zl : (s.seeEvent e).zl = s.zl := by
  unfold State.seeEvent; split <;> rfl
@[simp] theorem countWrap_zl : (countWrap s).zl = s.zl := by
  unfold countWrap; split
  · exact s.seeEvent_zl 553
  · split <;> rfl
@[simp] theorem addCounter_zl : (addCounter e n s).zl = s.zl := by
  unfold addCounter; dsimp only; split
  · rfl
  · exact countWrap_zl _
@[simp] theorem State.count_zl : (s.count e n).zl = s.zl := by
  unfold State.count; split
  · exact s.seeEvent_zl e
  · exact addCounter_zl s e n
@[simp] theorem State.seeEvent_eng : (s.seeEvent e).eng = s.eng := by
  unfold State.seeEvent; split <;> rfl
@[simp] theorem countWrap_eng : (countWrap s).eng = s.eng := by
  unfold countWrap; split
  · exact s.seeEvent_eng 553
  · split <;> rfl
@[simp] theorem addCounter_eng : (addCounter e n s).eng = s.eng := by
  unfold addCounter; dsimp only; split
  · rfl
  · exact countWrap_eng _
@[simp] theorem State.count_eng : (s.count e n).eng = s.eng := by
  unfold State.count; split
  · exact s.seeEvent_eng e
  · exact addCounter_eng s e n
@[simp] theorem State.seeEvent_cel : (s.seeEvent e).cel = s.cel := by
  unfold State.seeEvent; split <;> rfl
@[simp] theorem countWrap_cel : (countWrap s).cel = s.cel := by
  unfold countWrap; split
  · exact s.seeEvent_cel 553
  · split <;> rfl
@[simp] theorem addCounter_cel : (addCounter e n s).cel = s.cel := by
  unfold addCounter; dsimp only; split
  · rfl
  · exact countWrap_cel _
@[simp] theorem State.count_cel : (s.count e n).cel = s.cel := by
  unfold State.count; split
  · exact s.seeEvent_cel e
  · exact addCounter_cel s e n
@[simp] theorem State.seeEvent_ref : (s.seeEvent e).ref = s.ref := by
  unfold State.seeEvent; split <;> rfl
@[simp] theorem countWrap_ref : (countWrap s).ref = s.ref := by
  unfold countWrap; split
  · exact s.seeEvent_ref 553
  · split <;> rfl
@[simp] theorem addCounter_ref : (addCounter e n s).ref = s.ref := by
  unfold addCounter; dsimp only; split
  · rfl
  · exact countWrap_ref _
@[simp] theorem State.count_ref : (s.count e n).ref = s.ref := by
  unfold State.count; split
  · exact s.seeEvent_ref e
  · exact addCounter_ref s e n
@[simp] theorem State.seeEvent_sys : (s.seeEvent e).sys = s.sys := by
  unfold State.seeEvent; split <;> rfl
@[simp] theorem countWrap_sys : (countWrap s).sys = s.sys := by
  unfold countWrap; split
  · exact s.seeEvent_sys 553
  · split <;> rfl
@[simp] theorem addCounter_sys : (addCounter e n s).sys = s.sys := by
  unfold addCounter; dsimp only; split
  · rfl
  · exact countWrap_sys _
@[simp] theorem State.count_sys : (s.count e n).sys = s.sys := by
  unfold State.count; split
  · exact s.seeEvent_sys e
  · exact addCounter_sys s e n

end

end Sys2Proof.Machine
end

