-- ==== Sys2Proof/Laws/KeepsOps.lean ====
section
/-! SUPPORT. One lemma for each operation: what it keeps (Laws/Keeps.lean). -/
set_option Elab.async false

namespace Sys2Proof.Machine

theorem State.wr_keeps {k s0 a1 a2 a3 a4} (g2 : RegFree k a2) (k1 : Keeps k s0 a1) : Keeps k s0 (State.wr a1 a2 a3 a4) :=
  k1.set_regs rising_putD (fun b a hb ha => find?_putD_ne _ _ _ (fun e => by rw [g2 a3 b (e ▸ ha)] at hb; cases hb))

theorem State.restore_keeps {k s0 a1 a2 a3} (g2 : RegFree k a2) (k1 : Keeps k s0 a1) :
    Keeps k s0 (State.restore a1 a2 a3) := by
  unfold State.restore
  exact (State.wr_keeps g2 k1)

theorem State.p_keeps {k s0 a1 a2 a3 a4} (g2 : RegFree k a2.reg) (k1 : Keeps k s0 a1) :
    Keeps k s0 (State.p a1 a2 a3 a4) := by
  unfold State.p
  exact (State.wr_keeps g2 k1)

theorem State.inc_keeps {k s0 a1 a2 a3 a4} (g2 : RegFree k a2.reg) (k1 : Keeps k s0 a1) :
    Keeps k s0 (State.inc a1 a2 a3 a4) := by
  unfold State.inc
  exact (State.p_keeps g2 k1)

theorem State.setCnt_keeps {k s0 a1 a2 a3} (f_pmu : k .pmu = false) (k1 : Keeps k s0 a1) :
    Keeps k s0 (State.setCnt a1 a2 a3) := by
  unfold State.setCnt
  exact (by lift_lets -underBinder; intro xh1; exact (k1.set_pmu f_pmu))

theorem State.seeEvent_keeps {k s0 a1 a2} (f_pmu : k .pmu = false) (k1 : Keeps k s0 a1) :
    Keeps k s0 (State.seeEvent a1 a2) := by
  unfold State.seeEvent
  exact (by lift_lets -underBinder; intro xh1; exact (keep_ite (Keeps k s0) k1 (k1.set_pmu f_pmu)))

theorem setWrap_keeps {k s0 a1 a2} (f_r_pmu : k (.reg .pmu) = false) (k2 : Keeps k s0 a2) :
    Keeps k s0 (setWrap a1 a2) := by
  unfold setWrap
  exact (State.p_keeps (.of f_r_pmu) k2)

theorem countWrap_keeps {k s0 a1} (f_pmu : k .pmu = false) (f_r_pmu : k (.reg .pmu) = false) (k1 : Keeps k s0 a1) :
    Keeps k s0 (countWrap a1) := by
  unfold countWrap
  exact (keep_ite (Keeps k s0) (State.seeEvent_keeps f_pmu k1) (keep_ite (Keeps k s0) (State.setCnt_keeps f_pmu k1) (setWrap_keeps f_r_pmu (State.setCnt_keeps f_pmu k1))))

theorem addCounter_keeps {k s0 a1 a2 a3} (f_pmu : k .pmu = false) (f_r_pmu : k (.reg .pmu) = false) (k3 : Keeps k s0 a3) :
    Keeps k s0 (addCounter a1 a2 a3) := by
  unfold addCounter
  exact (by lift_lets -underBinder; intro xh1; (try clear_value xh1); exact (keep_ite (Keeps k s0) (State.setCnt_keeps f_pmu k3) (countWrap_keeps f_pmu f_r_pmu (setWrap_keeps f_r_pmu (State.setCnt_keeps f_pmu k3)))))

theorem State.count_keeps {k s0 a1 a2 a3}  (f_pmu : k .pmu = false) (f_r_pmu : k (.reg .pmu) = false) (k1 : Keeps k s0 a1) : Keeps k s0 (State.count a1 a2 a3) := by
  unfold State.count
  exact keep_ite (Keeps k s0) (State.seeEvent_keeps f_pmu k1) (addCounter_keeps f_pmu f_r_pmu k1)

theorem State.bump_keeps {k s0 a1 a2 a3 a4} (g2 : RegFree k a2.reg) (k1 : Keeps k s0 a1) :
    Keeps k s0 (State.bump a1 a2 a3 a4) := by
  unfold State.bump
  exact (State.p_keeps g2 k1)

theorem State.freeNat_keeps {k s0 a1 a2} (f_free : k .free = false) (k1 : Keeps k s0 a1) :
    KeepsP k s0 (State.freeNat a1 a2) := by
  unfold State.freeNat
  exact (k1.set_free f_free)

theorem State.emit_keeps {k s0 a1 a2} (f_out : k .out = false) (k1 : Keeps k s0 a1) :
    Keeps k s0 (State.emit a1 a2) := by
  unfold State.emit
  exact (k1.set_out f_out)

theorem State.tell_keeps {k s0 a1 a2} (f_red : k .red = false) (f_out : k .out = false) (k1 : Keeps k s0 a1) :
    Keeps k s0 (State.tell a1 a2) := by
  unfold State.tell
  exact (by lift_lets -underBinder; intro xh1; (try clear_value xh1); intro xh2; (try clear_value xh2); intro xh3; (try clear_value xh3); intro xh4; intro xh5; (try clear_value xh5); intro xh6; exact (State.emit_keeps f_out (k1.set_red f_red rfl (.inr rfl))))

theorem State.setCad_keeps {k s0 a1 a2 a3} (f_xpt : k .xpt = false) (k1 : Keeps k s0 a1) :
    Keeps k s0 (State.setCad a1 a2 a3) := by
  unfold State.setCad
  exact (by lift_lets -underBinder; intro xh1; exact (k1.set_xpt f_xpt))

theorem startHoldoff_keeps {k s0 a1 a2 a3} (f_cmd : k .cmd = false) (k3 : Keeps k s0 a3) :
    Keeps k s0 (startHoldoff a1 a2 a3) := by
  unfold startHoldoff
  exact (by lift_lets -underBinder; intro xh1; (try clear_value xh1); intro xh2; (try clear_value xh2); intro xh3; exact (keep_ite (Keeps k s0) (k3.set_cmd f_cmd ) (k3.set_cmd f_cmd )))

theorem msixOut_keeps {k s0 a1 a2 a3} (f_cmd : k .cmd = false) (f_pmu : k .pmu = false) (f_out : k .out = false) (f_r_pmu : k (.reg .pmu) = false) (k3 : Keeps k s0 a3) :
    Keeps k s0 (msixOut a1 a2 a3) := by
  unfold msixOut
  exact (by lift_lets -underBinder; intro xh1; (try clear_value xh1); exact (by split; exact (by lift_lets -underBinder; intro xh2; intro xh3; have h4 : Keeps k s0 xh3 := (by unfold xh3; exact (k3.set_cmd f_cmd )); clear_value xh3; exact (keep_each (fun _ _ h5 => (startHoldoff_keeps f_cmd h5)) (State.count_keeps f_pmu f_r_pmu (State.emit_keeps f_out h4))))))

theorem sendMsix_keeps {k s0 a1 a2 a3} (f_cmd : k .cmd = false) (f_pmu : k .pmu = false) (f_out : k .out = false) (f_r_pmu : k (.reg .pmu) = false) (k3 : Keeps k s0 a3) :
    Keeps k s0 (sendMsix a1 a2 a3) := by
  unfold sendMsix
  exact (by lift_lets -underBinder; intro xh1; exact (keep_ite (Keeps k s0) (keep_ite (Keeps k s0) k3 (k3.set_cmd f_cmd )) (keep_ite (Keeps k s0) (msixOut_keeps f_cmd f_pmu f_out f_r_pmu k3) (keep_ite (Keeps k s0) k3 (k3.set_cmd f_cmd )))))

theorem raiseIrq_keeps {k s0 a1 a2 a3} (f_cmd : k .cmd = false) (f_pmu : k .pmu = false) (f_out : k .out = false) (f_r_pmu : k (.reg .pmu) = false) (k3 : Keeps k s0 a3) :
    Keeps k s0 (raiseIrq a1 a2 a3) := by
  unfold raiseIrq
  exact (by split; exact k3; exact (by lift_lets -underBinder; intro xh1; (try clear_value xh1); intro xh2; intro xh3; (try clear_value xh3); exact (keep_ite (Keeps k s0) (k3.set_cmd f_cmd ) (sendMsix_keeps f_cmd f_pmu f_out f_r_pmu (k3.set_cmd f_cmd )))))

theorem wakePort_keeps {k s0 a1 a2} (f_pmu : k .pmu = false) (f_r_pmu : k (.reg .pmu) = false) (f_r_noc : k (.reg .noc) = false) (k2 : Keeps k s0 a2) :
    Keeps k s0 (wakePort a1 a2) := by
  unfold wakePort
  exact (by lift_lets -underBinder; intro xh1; (try clear_value xh1); exact (keep_ite (Keeps k s0) (State.count_keeps f_pmu f_r_pmu (State.p_keeps (.of f_r_noc) k2)) k2))

theorem dmaWrite_keeps {k s0 a1 a2 a3 a4} (f_out : k .out = false) (k4 : Keeps k s0 a4) :
    Keeps k s0 (dmaWrite a1 a2 a3 a4) := by
  unfold dmaWrite
  exact (by lift_lets -underBinder; intro xh1; (try clear_value xh1); intro xh2; (try clear_value xh2); exact (keep_each (fun _ _ h3 => (State.emit_keeps f_out h3)) k4))

theorem evtTo_keeps {k s0 a1 a2 a3 a4 a5 a6} (f_cmd : k .cmd = false) (f_pmu : k .pmu = false) (f_r_cmd : k (.reg .cmd) = false) (f_r_pmu : k (.reg .pmu) = false) (k6 : Keeps k s0 a6) :
    Keeps k s0 (evtTo a1 a2 a3 a4 a5 a6) := by
  unfold evtTo
  exact (by lift_lets -underBinder; intro xh1; (try clear_value xh1); intro xh2; (try clear_value xh2); intro xh3; intro xh4; have h5 : Keeps k s0 xh4 := (by unfold xh4; exact (State.count_keeps f_pmu f_r_pmu (State.bump_keeps (.of f_r_cmd) (State.bump_keeps (.of f_r_cmd) k6)))); clear_value xh4; intro xh6; exact (keep_ite (Keeps k s0) k6 (keep_ite (Keeps k s0) (k6.set_cmd f_cmd ) (h5.set_cmd f_cmd ))))

theorem raiseEvent_keeps {k s0 a1 a2 a3 a4 a5 a6} (f_cmd : k .cmd = false) (f_pmu : k .pmu = false) (f_r_cmd : k (.reg .cmd) = false) (f_r_pmu : k (.reg .pmu) = false) (k6 : Keeps k s0 a6) :
    Keeps k s0 (raiseEvent a1 a2 a3 a4 a5 a6) := by
  unfold raiseEvent
  exact (keep_each (fun _ _ h1 => (evtTo_keeps f_cmd f_pmu f_r_cmd f_r_pmu h1)) k6)

theorem writeEvtRecord_keeps {k s0 a1 a2} (f_cmd : k .cmd = false) (f_pmu : k .pmu = false) (f_out : k .out = false) (f_r_cmd : k (.reg .cmd) = false) (f_r_pmu : k (.reg .pmu) = false) (f_r_noc : k (.reg .noc) = false) (k2 : Keeps k s0 a2) :
    Keeps k s0 (writeEvtRecord a1 a2) := by
  unfold writeEvtRecord
  exact (by lift_lets -underBinder; intro xh1; (try clear_value xh1); intro xh2; (try clear_value xh2); intro xh3; (try clear_value xh3); intro xh4; (try clear_value xh4); intro xh5; (try clear_value xh5); intro xh6; (try clear_value xh6); intro xh7; (try clear_value xh7); intro xh8; (try clear_value xh8); intro xh9; have h10 : Keeps k s0 xh9 := (by unfold xh9; exact (wakePort_keeps f_pmu f_r_pmu f_r_noc (wakePort_keeps f_pmu f_r_pmu f_r_noc k2))); clear_value xh9; intro xh11; have h12 : Keeps k s0 xh11 := (by unfold xh11; exact (State.emit_keeps f_out (State.emit_keeps f_out h10))); clear_value xh11; intro xh13; have h14 : Keeps k s0 xh13 := (by unfold xh13; exact (State.p_keeps (.of f_r_cmd) h12)); clear_value xh13; intro xh15; have h16 : Keeps k s0 xh15 := (by unfold xh15; exact (keep_ite (Keeps k s0) (State.p_keeps (.of f_r_cmd) h14) h14)); clear_value xh15; intro xh17; have h18 : Keeps k s0 xh17 := (by unfold xh17; exact (State.p_keeps (.of f_r_cmd) h16)); clear_value xh17; intro xh19; intro xh20; have h21 : Keeps k s0 xh20 := (by unfold xh20; exact (h18.set_cmd f_cmd )); clear_value xh20; exact (raiseIrq_keeps f_cmd f_pmu f_out f_r_pmu (State.count_keeps f_pmu f_r_pmu h21)))

theorem dmaRead_keeps {k s0 a1 a2 a3 a4} (f_out : k .out = false) (k4 : Keeps k s0 a4) :
    Keeps k s0 (dmaRead a1 a2 a3 a4) := by
  unfold dmaRead
  exact (by lift_lets -underBinder; intro xh1; (try clear_value xh1); exact (keep_each (fun _ _ h2 => (State.emit_keeps f_out h2)) k4))

theorem unstageEntries_keeps {k s0 a1 a2} (f_r_xpt : k (.reg .xpt) = false) (k2 : Keeps k s0 a2) :
    Keeps k s0 (unstageEntries a1 a2) := by
  unfold unstageEntries
  exact (keep_each (fun _ _ h1 => (State.wr_keeps (.of f_r_xpt) h1)) k2)

theorem reloadEntries_keeps {k s0 a1 a2} (f_r_xpt : k (.reg .xpt) = false) (k2 : Keeps k s0 a2) :
    Keeps k s0 (reloadEntries a1 a2) := by
  unfold reloadEntries
  exact (keep_each (fun _ _ h1 => (State.wr_keeps (.of f_r_xpt) h1)) k2)

theorem markForced_keeps {k s0 a1 a2 a3} (f_r_xpt : k (.reg .xpt) = false) (k3 : Keeps k s0 a3) :
    Keeps k s0 (markForced a1 a2 a3) := by
  unfold markForced
  exact (keep_each (fun _ _ h1 => (by lift_lets -underBinder; intro xh2; (try clear_value xh2); exact (State.wr_keeps (.of f_r_xpt) h1))) k3)

theorem stageEntries_keeps {k s0 a1 a2} (f_r_xpt : k (.reg .xpt) = false) (k2 : Keeps k s0 a2) :
    Keeps k s0 (stageEntries a1 a2) := by
  unfold stageEntries
  exact (keep_each (fun _ _ h1 => (State.wr_keeps (.of f_r_xpt) h1)) k2)

theorem forceSignal_keeps {k s0 a1 a2 a3 a4 a5} (f_flt : k .flt = false) (f_pmu : k .pmu = false) (f_r_xpt : k (.reg .xpt) = false) (f_r_flt : k (.reg .flt) = false) (f_r_pmu : k (.reg .pmu) = false) (k5 : Keeps k s0 a5) :
    Keeps k s0 (forceSignal a1 a2 a3 a4 a5) := by
  unfold forceSignal
  exact (by lift_lets -underBinder; intro xh1; intro xh2; exact (keep_ite (Keeps k s0) (k5.set_flt f_flt) (by split; exact (by lift_lets -underBinder; intro xh3; have h4 : Keeps k s0 xh3 := (by unfold xh3; exact (markForced_keeps f_r_xpt k5)); clear_value xh3; intro xh5; intro xh6; have h7 : Keeps k s0 xh6 := (by unfold xh6; exact (h4.set_flt f_flt)); clear_value xh6; intro xh8; have h10 : Keeps k s0 xh8 := (by unfold xh8; exact (keep_when (fun _ h9 => (State.p_keeps (.of f_r_flt) h9)) h7)); clear_value xh8; intro xh11; have h12 : Keeps k s0 xh11 := (by unfold xh11; exact (State.count_keeps f_pmu f_r_pmu h10)); clear_value xh11; exact (keep_ite (Keeps k s0) (State.count_keeps f_pmu f_r_pmu h12) h12)))))

theorem skipOld_keeps {k s0 a1 a2 a3} (f_xpt : k .xpt = false) (k3 : Keeps k s0 a3) :
    Keeps k s0 (skipOld a1 a2 a3) := by
  unfold skipOld
  exact (by lift_lets -underBinder; intro xh1; (try clear_value xh1); exact (by split; exact (by split; exact (by lift_lets -underBinder; intro xh2; exact (keep_ite (Keeps k s0) k3 (k3.set_xpt f_xpt))); exact k3)))

theorem seeEpoch_keeps {k s0 a1 a2 a3} (f_r_red : k (.reg .red) = false) (k3 : Keeps k s0 a3) :
    Keeps k s0 (seeEpoch a1 a2 a3) := by
  unfold seeEpoch
  exact (keep_ite (Keeps k s0) (State.p_keeps (.of f_r_red) (State.p_keeps (.of f_r_red) k3)) k3)

theorem noteUnacked_keeps {k s0 a1} (f_r_red : k (.reg .red) = false) (k1 : Keeps k s0 a1) :
    Keeps k s0 (noteUnacked a1) := by
  unfold noteUnacked
  exact (by lift_lets -underBinder; intro xh1; (try clear_value xh1); intro xh2; (try clear_value xh2); exact (keep_ite (Keeps k s0) (State.p_keeps (.of f_r_red) k1) k1))

theorem discardImage_keeps {k s0 a1} (f_r_xpt : k (.reg .xpt) = false) (k1 : Keeps k s0 a1) :
    Keeps k s0 (discardImage a1) := by
  unfold discardImage
  exact (keep_ite (Keeps k s0) (State.p_keeps (.of f_r_xpt) (unstageEntries_keeps f_r_xpt k1)) k1)

theorem sendLease_keeps {k s0 a1 a2 a3 a4} (f_red : k .red = false) (f_out : k .out = false) (k4 : Keeps k s0 a4) :
    Keeps k s0 (sendLease a1 a2 a3 a4) := by
  unfold sendLease
  exact (by split; exact k4; exact (by lift_lets -underBinder; intro xh1; intro xh2; (try clear_value xh2); exact (by split; exact (by lift_lets -underBinder; intro xh3; exact (State.emit_keeps f_out (k4.set_red f_red rfl (.inr rfl)))))))

theorem giveUpLease_keeps {k s0 a1} (f_red : k .red = false) (f_lease : k .lease = false) (f_pmu : k .pmu = false) (f_out : k .out = false) (f_free : k .free = false) (f_r_pmu : k (.reg .pmu) = false) (k1 : Keeps k s0 a1) :
    Keeps k s0 (giveUpLease a1) := by
  unfold giveUpLease
  exact (by split; (rename_i vh1 vh2 he; have h3 := KeepsP.of_eq he (State.freeNat_keeps f_free k1); exact (by lift_lets -underBinder; intro xh4; intro xh5; have h6 : Keeps k s0 xh5 := (by unfold xh5; exact (h3.set_red f_red rfl (.inl f_lease))); clear_value xh5; exact (keep_ite (Keeps k s0) (State.count_keeps f_pmu f_r_pmu (sendLease_keeps f_red f_out h6)) h6))))

theorem setPlane_keeps {k s0 a1 a2}  (f_cmd : k .cmd = false) (f_red : k .red = false) (f_pmu : k .pmu = false) (f_r_cmd : k (.reg .cmd) = false) (f_r_xpt : k (.reg .xpt) = false) (f_r_pmu : k (.reg .pmu) = false) (k2 : Keeps k s0 a2)
    (ha : k .active = true → a1 ≠ .active := by intro _; decide)
    (hi : k .enterIso = true → a1 ≠ .isolated := by intro _; decide)
    (hs : k .enterSync = true → a1 ≠ .syncing := by intro _; decide)
    (hl : k .leaveIso = true → a1 = .isolated ∨ a2.red.plane ≠ .isolated := by intro _; exact .inl rfl)
    (hm : k .leaveSync = true → a1 = .syncing ∨ a2.red.plane ≠ .syncing := by intro _; exact .inl rfl) :
    Keeps k s0 (setPlane a1 a2) := by
  have h : Keeps k s0 { a2 with red := { a2.red with plane := a1, owed := a2.red.owed && a2.red.plane != .active } } := ⟨k2.pending, k2.regs, k2.mem, k2.lut, k2.fresh, fun p hk => by
    cases p with
    | red => simp [f_red] at hk
    | active => exact fun e => absurd e (ha hk)
    | enterIso => exact fun e => absurd e (hi hk)
    | enterSync => exact fun e => absurd e (hs hk)
    | leaveIso => exact fun e => (hl hk).elim id (fun n => absurd (k2.same .leaveIso hk e) n)
    | leaveSync => exact fun e => (hm hk).elim id (fun n => absurd (k2.same .leaveSync hk e) n)
    | _ => exact k2.same _ hk⟩
  unfold setPlane
  exact keep_ite (Keeps k s0) k2 (raiseEvent_keeps f_cmd f_pmu f_r_cmd f_r_pmu (State.count_keeps f_pmu f_r_pmu
    (keep_when (fun _ h => keep_when (fun _ h' => discardImage_keeps f_r_xpt h') h) h)))

theorem startRecovery_keeps {k s0 a1} (f_red : k .red = false) (k1 : Keeps k s0 a1) :
    Keeps k s0 (startRecovery a1) := by
  unfold startRecovery
  exact (by lift_lets -underBinder; intro xh1; exact (k1.set_red f_red rfl (.inr rfl)))

theorem startRecovery_plane (s : State) : (startRecovery s).red.plane = s.red.plane := by
  unfold startRecovery
  dsimp only
  repeat (first | rfl | split)

theorem noteUnacked_plane (s : State) : (noteUnacked s).red.plane = s.red.plane := by
  unfold noteUnacked
  exact keep_ite (fun t : State => t.red.plane = s.red.plane) (congrArg RedHid.plane (State.p_red ..)) rfl

theorem leaveActive_keeps {k s0 a1 a2}  (f_cmd : k .cmd = false) (f_red : k .red = false) (f_lease : k .lease = false) (f_pmu : k .pmu = false) (f_out : k .out = false) (f_free : k .free = false) (f_r_cmd : k (.reg .cmd) = false) (f_r_xpt : k (.reg .xpt) = false) (f_r_red : k (.reg .red) = false) (f_r_pmu : k (.reg .pmu) = false) (k2 : Keeps k s0 a2) :
    Keeps k s0 (leaveActive a1 a2) := by
  unfold leaveActive
  refine iteInduction (fun h => ?_) (fun _ => k2)
  have e : (startRecovery (noteUnacked a2)).red.plane = .active := by rw [startRecovery_plane, noteUnacked_plane, h]
  have k3 := setPlane_keeps (a1 := .standby) f_cmd f_red f_pmu f_r_cmd f_r_xpt f_r_pmu (startRecovery_keeps f_red (noteUnacked_keeps f_r_red k2))
    (hl := fun _ => .inr (by rw [e]; decide)) (hm := fun _ => .inr (by rw [e]; decide))
  exact keep_ite (Keeps k s0) k3 (giveUpLease_keeps f_red f_lease f_pmu f_out f_free f_r_pmu k3)

theorem movePlane_keeps {k s0 a1 a2}  (f_cmd : k .cmd = false) (f_red : k .red = false) (f_pmu : k .pmu = false) (f_r_cmd : k (.reg .cmd) = false) (f_r_xpt : k (.reg .xpt) = false) (f_r_pmu : k (.reg .pmu) = false) (k2 : Keeps k s0 a2)
    (ha : k .active = true → a1 ≠ .active := by intro _; decide)
    (hi : k .enterIso = true → a1 ≠ .isolated := by intro _; decide)
    (hs : k .enterSync = true → a1 ≠ .syncing := by intro _; decide)
    (hl : k .leaveIso = true → a1 = .isolated ∨ a2.red.plane ≠ .isolated := by intro _; exact .inl rfl)
    (hm : k .leaveSync = true → a1 = .syncing ∨ a2.red.plane ≠ .syncing := by intro _; exact .inl rfl) :
    Keeps k s0 (movePlane a1 a2) :=
  keep_ite (Keeps k s0) k2 (setPlane_keeps f_cmd f_red f_pmu f_r_cmd f_r_xpt f_r_pmu k2 ha hi hs hl hm)

theorem openWindow_keeps {k s0 a1 a2} (f_flt : k .flt = false) (k2 : Keeps k s0 a2) :
    Keeps k s0 (openWindow a1 a2) := by
  unfold openWindow
  exact (by lift_lets -underBinder; intro xh1; (try clear_value xh1); intro xh2; (try clear_value xh2); intro xh3; (try clear_value xh3); intro xh4; exact (k2.set_flt f_flt))

theorem forceAffected_keeps {k s0 a1 a2 a3} (f_flt : k .flt = false) (f_pmu : k .pmu = false) (f_r_xpt : k (.reg .xpt) = false) (f_r_flt : k (.reg .flt) = false) (f_r_pmu : k (.reg .pmu) = false) (k3 : Keeps k s0 a3) :
    Keeps k s0 (forceAffected a1 a2 a3) := by
  unfold forceAffected
  exact (by lift_lets -underBinder; intro xh1; (try clear_value xh1); exact (keep_each (fun _ _ h2 => (forceSignal_keeps f_flt f_pmu f_r_xpt f_r_flt f_r_pmu h2)) k3))

theorem forceEverything_keeps {k s0 a1 a2} (f_flt : k .flt = false) (f_pmu : k .pmu = false) (f_r_xpt : k (.reg .xpt) = false) (f_r_flt : k (.reg .flt) = false) (f_r_pmu : k (.reg .pmu) = false) (k2 : Keeps k s0 a2) :
    Keeps k s0 (forceEverything a1 a2) := by
  unfold forceEverything
  exact (by lift_lets -underBinder; intro xh1; intro xh2; have h3 : Keeps k s0 xh2 := (by unfold xh2; exact (k2.set_flt f_flt)); clear_value xh2; intro xh4; (try clear_value xh4); exact (keep_each (fun _ _ h5 => (forceSignal_keeps f_flt f_pmu f_r_xpt f_r_flt f_r_pmu h5)) h3))

theorem fatalReaction_keeps {k s0 a1 a2} (f_cmd : k .cmd = false) (f_flt : k .flt = false) (f_red : k .red = false) (f_lease : k .lease = false) (f_pmu : k .pmu = false) (f_out : k .out = false) (f_free : k .free = false) (f_r_cmd : k (.reg .cmd) = false) (f_r_xpt : k (.reg .xpt) = false) (f_r_red : k (.reg .red) = false) (f_r_flt : k (.reg .flt) = false) (f_r_pmu : k (.reg .pmu) = false) (k2 : Keeps k s0 a2) :
    Keeps k s0 (fatalReaction a1 a2) := by
  unfold fatalReaction
  exact (by lift_lets -underBinder; intro xh1; exact (keep_ite (Keeps k s0) (forceEverything_keeps f_flt f_pmu f_r_xpt f_r_flt f_r_pmu k2) (leaveActive_keeps f_cmd f_red f_lease f_pmu f_out f_free f_r_cmd f_r_xpt f_r_red f_r_pmu (k2.set_flt f_flt))))

theorem react_keeps {k s0 a1 a2 a3 a4 a5} (f_cmd : k .cmd = false) (f_flt : k .flt = false) (f_red : k .red = false) (f_lease : k .lease = false) (f_pmu : k .pmu = false) (f_out : k .out = false) (f_free : k .free = false) (f_r_cmd : k (.reg .cmd) = false) (f_r_xpt : k (.reg .xpt) = false) (f_r_red : k (.reg .red) = false) (f_r_flt : k (.reg .flt) = false) (f_r_pmu : k (.reg .pmu) = false) (k5 : Keeps k s0 a5) :
    Keeps k s0 (react a1 a2 a3 a4 a5) := by
  unfold react
  exact (by lift_lets -underBinder; intro xh1; have h3 : Keeps k s0 xh1 := (by unfold xh1; exact (keep_when (fun _ h2 => (raiseIrq_keeps f_cmd f_pmu f_out f_r_pmu (raiseEvent_keeps f_cmd f_pmu f_r_cmd f_r_pmu h2))) k5)); clear_value xh1; intro xh4; have h6 : Keeps k s0 xh4 := (by unfold xh4; exact (keep_when (fun _ h5 => (forceAffected_keeps f_flt f_pmu f_r_xpt f_r_flt f_r_pmu h5)) h3)); clear_value xh4; exact (keep_when (fun _ h7 => (fatalReaction_keeps f_cmd f_flt f_red f_lease f_pmu f_out f_free f_r_cmd f_r_xpt f_r_red f_r_flt f_r_pmu h7)) h6))

theorem dropWhy_keeps {k s0 a1 a2} (f_flt : k .flt = false) (k2 : Keeps k s0 a2) :
    Keeps k s0 (dropWhy a1 a2) := by
  unfold dropWhy
  exact (by lift_lets -underBinder; intro xh1; exact (k2.set_flt f_flt))

theorem celRetrain_keeps {k s0 a1} (f_pmu : k .pmu = false) (f_r_cel : k (.reg .cel) = false) (f_r_pmu : k (.reg .pmu) = false) (k1 : Keeps k s0 a1) :
    Keeps k s0 (celRetrain a1) := by
  unfold celRetrain
  exact (State.count_keeps f_pmu f_r_pmu (State.p_keeps (.of f_r_cel) k1))

theorem celHold_keeps {k s0 a1} (f_cel : k .cel = false) (f_r_cel : k (.reg .cel) = false) (k1 : Keeps k s0 a1) :
    Keeps k s0 (celHold a1) := by
  unfold celHold
  exact (by lift_lets -underBinder; intro xh1; have h2 : Keeps k s0 xh1 := (by unfold xh1; exact (State.p_keeps (.of f_r_cel) k1)); clear_value xh1; intro xh3; exact (h2.set_cel f_cel rfl))

theorem celReset_keeps {k s0 a1} (f_cel : k .cel = false) (f_pmu : k .pmu = false) (f_r_cel : k (.reg .cel) = false) (f_r_pmu : k (.reg .pmu) = false) (k1 : Keeps k s0 a1) :
    Keeps k s0 (celReset a1) := by
  unfold celReset
  exact (celRetrain_keeps f_pmu f_r_cel f_r_pmu (celHold_keeps f_cel f_r_cel k1))

theorem setTrain_keeps {k s0 a1 a2 a3} (f_zl : k .zl = false) (f_r_zl : k (.reg .zl) = false) (k3 : Keeps k s0 a3) :
    Keeps k s0 (setTrain a1 a2 a3) := by
  unfold setTrain
  exact (by lift_lets -underBinder; intro xh1; have h2 : Keeps k s0 xh1 := (by unfold xh1; exact (keep_ite (Keeps k s0) k3 (State.p_keeps (.of f_r_zl) k3))); clear_value xh1; intro xh3; have h4 : Keeps k s0 xh3 := (by unfold xh3; exact (State.p_keeps (.of f_r_zl) (State.p_keeps (.of f_r_zl) h2))); clear_value xh3; intro xh5; intro xh6; exact (h4.set_zl f_zl))

theorem clearAlign_keeps {k s0 a1 a2} (f_r_xpt : k (.reg .xpt) = false) (k2 : Keeps k s0 a2) :
    Keeps k s0 (clearAlign a1 a2) := by
  unfold clearAlign
  exact (keep_each (fun _ _ h1 => (State.p_keeps (.of f_r_xpt) h1)) k2)

theorem dropReceived_keeps {k s0 a1 a2} (f_zl : k .zl = false) (k2 : Keeps k s0 a2) :
    Keeps k s0 (dropReceived a1 a2) := by
  unfold dropReceived
  exact (by lift_lets -underBinder; intro xh1; exact (k2.set_zl f_zl))

theorem laneFailure_keeps {k s0 a1 a2 a3} (f_zl : k .zl = false) (f_pmu : k .pmu = false) (f_r_zl : k (.reg .zl) = false) (f_r_pmu : k (.reg .pmu) = false) (k1 : ∀ x0 x1 x2, Keeps k s0 x2 → Keeps k s0 (a1 x0 x1 x2)) (k3 : Keeps k s0 a3) :
    Keeps k s0 (laneFailure a1 a2 a3) := by
  unfold laneFailure
  exact (by lift_lets -underBinder; intro xh1; (try clear_value xh1); intro xh2; (try clear_value xh2); intro xh3; have h6 : Keeps k s0 xh3 := (by unfold xh3; exact (by split; exact (by lift_lets -underBinder; intro xh4; exact (keep_each (fun _ _ h5 => (k1 _ _ _ (State.count_keeps f_pmu f_r_pmu h5))) (k3.set_zl f_zl))); exact k3)); clear_value xh3; intro xh7; (try clear_value xh7); exact (keep_ite (Keeps k s0) k3 (keep_ite (Keeps k s0) (k1 _ _ _ k3) (keep_ite (Keeps k s0) k3 (by split; exact (by lift_lets -underBinder; intro xh8; (try clear_value xh8); intro xh9; have h10 : Keeps k s0 xh9 := (by unfold xh9; exact (keep_ite (Keeps k s0) (State.count_keeps f_pmu f_r_pmu h6) h6)); clear_value xh9; intro xh11; intro xh12; have h13 : Keeps k s0 xh12 := (by unfold xh12; exact (h10.set_zl f_zl)); clear_value xh12; exact (keep_ite (Keeps k s0) (k1 _ _ _ (State.count_keeps f_pmu f_r_pmu (State.p_keeps (.of f_r_zl) h13))) (h10.set_zl f_zl))))))))

theorem leaveUp_keeps {k s0 a1 a2 a3 a4} (f_xpt : k .xpt = false) (f_red : k .red = false) (f_zl : k .zl = false) (f_pmu : k .pmu = false) (f_r_xpt : k (.reg .xpt) = false) (f_r_zl : k (.reg .zl) = false) (f_r_red : k (.reg .red) = false) (f_r_pmu : k (.reg .pmu) = false) (k1 : ∀ x0 x1 x2, Keeps k s0 x2 → Keeps k s0 (a1 x0 x1 x2)) (k4 : Keeps k s0 a4) :
    Keeps k s0 (leaveUp a1 a2 a3 a4) := by
  unfold leaveUp
  exact (by lift_lets -underBinder; intro xh1; have h2 : Keeps k s0 xh1 := (by unfold xh1; exact (setTrain_keeps f_zl f_r_zl k4)); clear_value xh1; intro xh3; have h4 : Keeps k s0 xh3 := (by unfold xh3; exact (keep_ite (Keeps k s0) (clearAlign_keeps f_r_xpt (clearAlign_keeps f_r_xpt (State.p_keeps (.of f_r_xpt) h2))) h2)); clear_value xh3; intro xh5; have h6 : Keeps k s0 xh5 := (by unfold xh5; exact (State.count_keeps f_pmu f_r_pmu (State.p_keeps (.of f_r_zl) h4))); clear_value xh5; intro xh7; intro xh8; have h9 : Keeps k s0 xh8 := (by unfold xh8; exact (dropReceived_keeps f_zl (h6.set_xpt f_xpt))); clear_value xh8; intro xh10; have h11 : Keeps k s0 xh10 := (by unfold xh10; exact (State.p_keeps (.of f_r_red) h9)); clear_value xh10; intro xh12; intro xh13; have h14 : Keeps k s0 xh13 := (by unfold xh13; exact (keep_ite (Keeps k s0) (h11.set_red f_red rfl (.inr rfl)) h9)); clear_value xh13; exact (keep_ite (Keeps k s0) (laneFailure_keeps f_zl f_pmu f_r_zl f_r_pmu (fun _ _ _ h15 => (k1 _ _ _ h15)) h14) (setTrain_keeps f_zl f_r_zl k4)))

theorem retrain_keeps {k s0 a1 a2 a3} (f_xpt : k .xpt = false) (f_red : k .red = false) (f_zl : k .zl = false) (f_pmu : k .pmu = false) (f_r_xpt : k (.reg .xpt) = false) (f_r_zl : k (.reg .zl) = false) (f_r_red : k (.reg .red) = false) (f_r_pmu : k (.reg .pmu) = false) (k1 : ∀ x0 x1 x2, Keeps k s0 x2 → Keeps k s0 (a1 x0 x1 x2)) (k3 : Keeps k s0 a3) :
    Keeps k s0 (retrain a1 a2 a3) := by
  unfold retrain
  exact (keep_ite (Keeps k s0) (leaveUp_keeps f_xpt f_red f_zl f_pmu f_r_xpt f_r_zl f_r_red f_r_pmu (fun _ _ _ h1 => (k1 _ _ _ h1)) k3) k3)

theorem settleHeld_keeps {k s0 a1} (f_flt : k .flt = false) (k1 : Keeps k s0 a1) :
    Keeps k s0 (settleHeld a1) := by
  unfold settleHeld
  exact (by lift_lets -underBinder; intro xh1; exact (keep_ite (Keeps k s0) k1 (dropWhy_keeps f_flt (k1.set_flt f_flt))))

theorem ackSource_keeps {k s0 a1 a2} (f_flt : k .flt = false) (f_r_zl : k (.reg .zl) = false) (f_r_flt : k (.reg .flt) = false) (k2 : Keeps k s0 a2) :
    Keeps k s0 (ackSource a1 a2) := by
  unfold ackSource
  exact (by lift_lets -underBinder; intro xh1; have h2 : Keeps k s0 xh1 := (by unfold xh1; exact (State.p_keeps (.of f_r_flt) (State.p_keeps (.of f_r_flt) (State.p_keeps (.of f_r_flt) k2)))); clear_value xh1; intro xh3; have h4 : Keeps k s0 xh3 := (by unfold xh3; exact (keep_ite (Keeps k s0) (State.p_keeps (.of f_r_zl) h2) h2)); clear_value xh3; exact (keep_ite (Keeps k s0) k2 (settleHeld_keeps f_flt (dropWhy_keeps f_flt h4))))

theorem releaseForced_keeps {k s0 a1 a2} (f_flt : k .flt = false) (f_xpt : k .xpt = false) (f_r_xpt : k (.reg .xpt) = false) (f_r_flt : k (.reg .flt) = false) (k2 : Keeps k s0 a2) :
    Keeps k s0 (releaseForced a1 a2) := by
  unfold releaseForced
  exact (by lift_lets -underBinder; intro xh1; (try clear_value xh1); exact (keep_each (fun _ _ h2 => (by lift_lets -underBinder; intro xh3; have h4 : Keeps k s0 xh3 := (by unfold xh3; exact (markForced_keeps f_r_xpt h2)); clear_value xh3; intro xh5; exact (keep_ite (Keeps k s0) h2 (keep_ite (Keeps k s0) (keep_each (fun _ _ h6 => (skipOld_keeps f_xpt h6)) (h4.set_flt f_flt)) (keep_ite (Keeps k s0) (by split; exact (by lift_lets -underBinder; intro xh7; have h9 : Keeps k s0 xh7 := (by unfold xh7; exact (keep_when (fun _ h8 => (State.p_keeps (.of f_r_flt) h8)) h2)); clear_value xh7; intro xh10; (try clear_value xh10); intro xh11; exact (h9.set_flt f_flt))) h2))))) k2))

theorem recordFirst_keeps {k s0 a1 a2 a3 a4 a5 a6} (f_r_flt : k (.reg .flt) = false) (k6 : Keeps k s0 a6) :
    Keeps k s0 (recordFirst a1 a2 a3 a4 a5 a6) := by
  unfold recordFirst
  exact (by lift_lets -underBinder; intro xh1; (try clear_value xh1); exact (keep_ite (Keeps k s0) k6 (State.wr_keeps (.of f_r_flt) (State.wr_keeps (.of f_r_flt) (State.wr_keeps (.of f_r_flt) k6)))))

theorem setLink_keeps {k s0 a1 a2 a3 a4 a5} (f_cmd : k .cmd = false) (f_pmu : k .pmu = false) (f_r_cmd : k (.reg .cmd) = false) (f_r_eth : k (.reg .eth) = false) (f_r_pmu : k (.reg .pmu) = false) (k1 : ∀ x0 x1 x2, Keeps k s0 x2 → Keeps k s0 (a1 x0 x1 x2)) (k5 : Keeps k s0 a5) :
    Keeps k s0 (setLink a1 a2 a3 a4 a5) := by
  unfold setLink
  exact (by lift_lets -underBinder; intro xh1; (try clear_value xh1); intro xh2; have h3 : Keeps k s0 xh2 := (by unfold xh2; exact (State.p_keeps (.of f_r_eth) (State.p_keeps (.of f_r_eth) k5))); clear_value xh2; intro xh4; have h5 : Keeps k s0 xh4 := (by unfold xh4; exact (raiseEvent_keeps f_cmd f_pmu f_r_cmd f_r_pmu h3)); clear_value xh4; intro xh6; have h7 : Keeps k s0 xh6 := (by unfold xh6; exact (State.count_keeps f_pmu f_r_pmu h5)); clear_value xh6; exact (keep_ite (Keeps k s0) k5 (keep_ite (Keeps k s0) h5 (keep_ite (Keeps k s0) (k1 _ _ _ h7) h7))))

theorem blkReset_keeps {k s0 a1 a2 a3 a4} (f_cmd : k .cmd = false) (f_xpt : k .xpt = false) (f_red : k .red = false) (f_zl : k .zl = false) (f_eng : k .eng = false) (f_cel : k .cel = false) (f_pmu : k .pmu = false) (f_r_cmd : k (.reg .cmd) = false) (f_r_xpt : k (.reg .xpt) = false) (f_r_eth : k (.reg .eth) = false) (f_r_cel : k (.reg .cel) = false) (f_r_zl : k (.reg .zl) = false) (f_r_red : k (.reg .red) = false) (f_r_pmu : k (.reg .pmu) = false) (k1 : ∀ x0 x1 x2, Keeps k s0 x2 → Keeps k s0 (a1 x0 x1 x2)) (k4 : Keeps k s0 a4) :
    Keeps k s0 (blkReset a1 a2 a3 a4) := by
  unfold blkReset
  exact (by split; exact (keep_ite (Keeps k s0) (keep_each (fun _ _ h1 => (retrain_keeps f_xpt f_red f_zl f_pmu f_r_xpt f_r_zl f_r_red f_r_pmu (fun _ _ _ h2 => (k1 _ _ _ h2)) h1)) k4) (keep_ite (Keeps k s0) (retrain_keeps f_xpt f_red f_zl f_pmu f_r_xpt f_r_zl f_r_red f_r_pmu (fun _ _ _ h3 => (k1 _ _ _ h3)) k4) k4)); exact (setLink_keeps f_cmd f_pmu f_r_cmd f_r_eth f_r_pmu (fun _ _ _ h4 => (k1 _ _ _ h4)) (State.p_keeps (.of f_r_eth) k4)); exact (by lift_lets -underBinder; intro xh5; (try clear_value xh5); intro xh6; exact (k4.set_eng f_eng rfl)); exact (celReset_keeps f_cel f_pmu f_r_cel f_r_pmu k4); exact k4)

theorem occurWith_keeps {k s0 a1 a2 a3 a4 a5} (f_cmd : k .cmd = false) (f_flt : k .flt = false) (f_xpt : k .xpt = false) (f_red : k .red = false) (f_zl : k .zl = false) (f_eng : k .eng = false) (f_cel : k .cel = false) (f_lease : k .lease = false) (f_pmu : k .pmu = false) (f_out : k .out = false) (f_free : k .free = false) (f_r_cmd : k (.reg .cmd) = false) (f_r_xpt : k (.reg .xpt) = false) (f_r_eth : k (.reg .eth) = false) (f_r_cel : k (.reg .cel) = false) (f_r_zl : k (.reg .zl) = false) (f_r_red : k (.reg .red) = false) (f_r_flt : k (.reg .flt) = false) (f_r_pmu : k (.reg .pmu) = false) (k1 : ∀ x0 x1 x2, Keeps k s0 x2 → Keeps k s0 (a1 x0 x1 x2)) (k5 : Keeps k s0 a5) :
    Keeps k s0 (occurWith a1 a2 a3 a4 a5) := by
  unfold occurWith
  exact (by lift_lets -underBinder; intro xh1; intro xh2; (try clear_value xh2); intro xh3; have h4 : Keeps k s0 xh3 := (by unfold xh3; exact (State.count_keeps f_pmu f_r_pmu (State.bump_keeps (.of f_r_flt) k5))); clear_value xh3; intro xh5; (try clear_value xh5); intro xh6; have h7 : Keeps k s0 xh6 := (by unfold xh6; exact (State.count_keeps f_pmu f_r_pmu (State.p_keeps (.of f_r_flt) (State.p_keeps (.of f_r_flt) h4)))); clear_value xh6; intro xh8; (try clear_value xh8); intro xh9; have h11 : Keeps k s0 xh9 := (by unfold xh9; exact (keep_when (fun _ h10 => (openWindow_keeps f_flt h10)) h7)); clear_value xh9; intro xh12; (try clear_value xh12); intro xh13; (try clear_value xh13); intro xh14; (try clear_value xh14); intro xh15; (try clear_value xh15); intro xh16; have h17 : Keeps k s0 xh16 := (by unfold xh16; exact (State.count_keeps f_pmu f_r_pmu (State.wr_keeps (.of f_r_flt) k5))); clear_value xh16; intro xh18; have h20 : Keeps k s0 xh18 := (by unfold xh18; exact (keep_when (fun _ h19 => (State.count_keeps f_pmu f_r_pmu h19)) h17)); clear_value xh18; intro xh21; (try clear_value xh21); intro xh22; have h23 : Keeps k s0 xh22 := (by unfold xh22; exact (recordFirst_keeps f_r_flt h20)); clear_value xh22; intro xh24; (try clear_value xh24); intro xh25; have h27 : Keeps k s0 xh25 := (by unfold xh25; exact (keep_when (fun _ h26 => (openWindow_keeps f_flt h26)) h23)); clear_value xh25; intro xh28; have h29 : Keeps k s0 xh28 := (by unfold xh28; exact (react_keeps f_cmd f_flt f_red f_lease f_pmu f_out f_free f_r_cmd f_r_xpt f_r_red f_r_flt f_r_pmu h27)); clear_value xh28; exact (keep_ite (Keeps k s0) (State.count_keeps f_pmu f_r_pmu (State.bump_keeps (.of f_r_flt) k5)) (keep_ite (Keeps k s0) (keep_ite (Keeps k s0) h4 (react_keeps f_cmd f_flt f_red f_lease f_pmu f_out f_free f_r_cmd f_r_xpt f_r_red f_r_flt f_r_pmu h11)) (keep_when (fun _ h30 => (blkReset_keeps f_cmd f_xpt f_red f_zl f_eng f_cel f_pmu f_r_cmd f_r_xpt f_r_eth f_r_cel f_r_zl f_r_red f_r_pmu (fun _ _ _ h31 => (k1 _ _ _ h31)) h30)) h29))))

theorem occurN_keeps {k s0 a1 a2 a3 a4 a5}  (f_cmd : k .cmd = false) (f_flt : k .flt = false) (f_xpt : k .xpt = false) (f_red : k .red = false) (f_zl : k .zl = false) (f_eng : k .eng = false) (f_cel : k .cel = false) (f_lease : k .lease = false) (f_pmu : k .pmu = false) (f_out : k .out = false) (f_free : k .free = false) (f_r_cmd : k (.reg .cmd) = false) (f_r_xpt : k (.reg .xpt) = false) (f_r_eth : k (.reg .eth) = false) (f_r_cel : k (.reg .cel) = false) (f_r_zl : k (.reg .zl) = false) (f_r_red : k (.reg .red) = false) (f_r_flt : k (.reg .flt) = false) (f_r_pmu : k (.reg .pmu) = false)
    (k5 : Keeps k s0 a5) : Keeps k s0 (occurN a1 a2 a3 a4 a5) := by
  induction a1 generalizing a2 a3 a4 a5 with
  | zero => exact occurWith_keeps f_cmd f_flt f_xpt f_red f_zl f_eng f_cel f_lease f_pmu f_out f_free f_r_cmd f_r_xpt f_r_eth f_r_cel f_r_zl f_r_red f_r_flt f_r_pmu (fun _ _ _ h => h) k5
  | succ n ih => exact occurWith_keeps f_cmd f_flt f_xpt f_red f_zl f_eng f_cel f_lease f_pmu f_out f_free f_r_cmd f_r_xpt f_r_eth f_r_cel f_r_zl f_r_red f_r_flt f_r_pmu (fun _ _ _ h => ih h) k5

theorem occur_keeps {k s0 a1 a2 a3} (f_cmd : k .cmd = false) (f_flt : k .flt = false) (f_xpt : k .xpt = false) (f_red : k .red = false) (f_zl : k .zl = false) (f_eng : k .eng = false) (f_cel : k .cel = false) (f_lease : k .lease = false) (f_pmu : k .pmu = false) (f_out : k .out = false) (f_free : k .free = false) (f_r_cmd : k (.reg .cmd) = false) (f_r_xpt : k (.reg .xpt) = false) (f_r_eth : k (.reg .eth) = false) (f_r_cel : k (.reg .cel) = false) (f_r_zl : k (.reg .zl) = false) (f_r_red : k (.reg .red) = false) (f_r_flt : k (.reg .flt) = false) (f_r_pmu : k (.reg .pmu) = false) (k3 : Keeps k s0 a3) :
    Keeps k s0 (occur a1 a2 a3) := by
  unfold occur
  exact (keep_ite (Keeps k s0) k3 (occurN_keeps f_cmd f_flt f_xpt f_red f_zl f_eng f_cel f_lease f_pmu f_out f_free f_r_cmd f_r_xpt f_r_eth f_r_cel f_r_zl f_r_red f_r_flt f_r_pmu k3))

theorem level_keeps {k s0 a1 a2 a3 a4} (f_cmd : k .cmd = false) (f_flt : k .flt = false) (f_xpt : k .xpt = false) (f_red : k .red = false) (f_zl : k .zl = false) (f_eng : k .eng = false) (f_cel : k .cel = false) (f_lease : k .lease = false) (f_pmu : k .pmu = false) (f_out : k .out = false) (f_free : k .free = false) (f_r_cmd : k (.reg .cmd) = false) (f_r_xpt : k (.reg .xpt) = false) (f_r_eth : k (.reg .eth) = false) (f_r_cel : k (.reg .cel) = false) (f_r_zl : k (.reg .zl) = false) (f_r_red : k (.reg .red) = false) (f_r_flt : k (.reg .flt) = false) (f_r_pmu : k (.reg .pmu) = false) (k4 : Keeps k s0 a4) :
    Keeps k s0 (level a1 a2 a3 a4) := by
  unfold level
  exact (by lift_lets -underBinder; intro xh1; (try clear_value xh1); intro xh2; have h3 : Keeps k s0 xh2 := (by unfold xh2; exact (occur_keeps f_cmd f_flt f_xpt f_red f_zl f_eng f_cel f_lease f_pmu f_out f_free f_r_cmd f_r_xpt f_r_eth f_r_cel f_r_zl f_r_red f_r_flt f_r_pmu (State.p_keeps (.of f_r_flt) k4))); clear_value xh2; exact (keep_ite (Keeps k s0) (State.p_keeps (.of f_r_flt) h3) (keep_ite (Keeps k s0) (State.p_keeps (.of f_r_flt) k4) k4)))

theorem accept_keeps {k s0 a1 a2 a3} (f_cmd : k .cmd = false) (f_pmu : k .pmu = false) (f_r_pmu : k (.reg .pmu) = false) (k3 : Keeps k s0 a3) :
    KeepsP k s0 (accept a1 a2 a3) := by
  unfold accept
  exact (by lift_lets -underBinder; intro xh1; intro xh2; intro xh3; intro xh4; have h5 : Keeps k s0 xh4 := (by unfold xh4; exact (k3.set_many (by intro p hp; cases p <;> first | exact rfl | exact id | exact fun _ _ => rfl | simp [f_cmd, f_pmu] at hp) rfl rfl rfl rfl (by first | exact id | exact live_filter | exact live_up (Nat.le_succ _) | exact live_map (fun y => by (try dsimp only); split <;> rfl) | exact live_up (Nat.le_trans (Nat.le_add_right _ _) (Nat.le_succ _)) | exact live_new rfl))); clear_value xh4; exact (State.count_keeps f_pmu f_r_pmu h5))

theorem sampNotify_keeps {k s0 a1} (f_cmd : k .cmd = false) (f_pmu : k .pmu = false) (f_r_cmd : k (.reg .cmd) = false) (f_r_pmu : k (.reg .pmu) = false) (k1 : Keeps k s0 a1) :
    Keeps k s0 (sampNotify a1) := by
  unfold sampNotify
  exact (by lift_lets -underBinder; intro xh1; (try clear_value xh1); intro xh2; exact (keep_ite (Keeps k s0) (keep_ite (Keeps k s0) k1 (raiseEvent_keeps f_cmd f_pmu f_r_cmd f_r_pmu (k1.set_pmu f_pmu))) (k1.set_pmu f_pmu)))

theorem sample_keeps {k s0 a1 a2 a3 a4} (f_cmd : k .cmd = false) (f_flt : k .flt = false) (f_xpt : k .xpt = false) (f_red : k .red = false) (f_zl : k .zl = false) (f_eng : k .eng = false) (f_cel : k .cel = false) (f_lease : k .lease = false) (f_pmu : k .pmu = false) (f_out : k .out = false) (f_free : k .free = false) (f_r_cmd : k (.reg .cmd) = false) (f_r_xpt : k (.reg .xpt) = false) (f_r_eth : k (.reg .eth) = false) (f_r_cel : k (.reg .cel) = false) (f_r_zl : k (.reg .zl) = false) (f_r_red : k (.reg .red) = false) (f_r_flt : k (.reg .flt) = false) (f_r_pmu : k (.reg .pmu) = false) (k4 : Keeps k s0 a4) :
    Keeps k s0 (sample a1 a2 a3 a4) := by
  unfold sample
  exact (by lift_lets -underBinder; intro xh1; (try clear_value xh1); intro xh2; have h3 : Keeps k s0 xh2 := (by unfold xh2; exact (State.count_keeps f_pmu f_r_pmu k4)); clear_value xh2; intro xh4; have h5 : Keeps k s0 xh4 := (by unfold xh4; exact (State.count_keeps f_pmu f_r_pmu (State.bump_keeps (.of f_r_pmu) (State.p_keeps (.of f_r_pmu) h3)))); clear_value xh4; intro xh6; intro xh7; (try clear_value xh7); intro xh8; (try clear_value xh8); intro xh9; (try clear_value xh9); intro xh10; (try clear_value xh10); intro xh11; have h13 : Keeps k s0 xh11 := (by unfold xh11; exact (keep_each (fun _ _ h12 => (State.wr_keeps (.of f_r_pmu) h12)) h3)); clear_value xh11; intro xh14; have h15 : Keeps k s0 xh14 := (by unfold xh14; exact (State.count_keeps f_pmu f_r_pmu (State.p_keeps (.of f_r_pmu) h13))); clear_value xh14; intro xh16; exact (keep_ite (Keeps k s0) k4 (keep_ite (Keeps k s0) k4 (keep_ite (Keeps k s0) (occur_keeps f_cmd f_flt f_xpt f_red f_zl f_eng f_cel f_lease f_pmu f_out f_free f_r_cmd f_r_xpt f_r_eth f_r_cel f_r_zl f_r_red f_r_flt f_r_pmu (h5.set_pmu f_pmu)) (sampNotify_keeps f_cmd f_pmu f_r_cmd f_r_pmu (h15.set_pmu f_pmu))))))

theorem recordDue_keeps {k s0 a1 a2 a3 a4 a5 a6} (f_cmd : k .cmd = false) (f_flt : k .flt = false) (f_xpt : k .xpt = false) (f_red : k .red = false) (f_zl : k .zl = false) (f_eng : k .eng = false) (f_cel : k .cel = false) (f_lease : k .lease = false) (f_pmu : k .pmu = false) (f_out : k .out = false) (f_free : k .free = false) (f_r_cmd : k (.reg .cmd) = false) (f_r_xpt : k (.reg .xpt) = false) (f_r_eth : k (.reg .eth) = false) (f_r_cel : k (.reg .cel) = false) (f_r_zl : k (.reg .zl) = false) (f_r_red : k (.reg .red) = false) (f_r_flt : k (.reg .flt) = false) (f_r_pmu : k (.reg .pmu) = false) (k6 : Keeps k s0 a6) :
    Keeps k s0 (recordDue a1 a2 a3 a4 a5 a6) := by
  unfold recordDue
  exact (by lift_lets -underBinder; intro xh1; (try clear_value xh1); intro xh2; exact (keep_ite (Keeps k s0) k6 (keep_ite (Keeps k s0) (sample_keeps f_cmd f_flt f_xpt f_red f_zl f_eng f_cel f_lease f_pmu f_out f_free f_r_cmd f_r_xpt f_r_eth f_r_cel f_r_zl f_r_red f_r_flt f_r_pmu k6) (keep_ite (Keeps k s0) (occur_keeps f_cmd f_flt f_xpt f_red f_zl f_eng f_cel f_lease f_pmu f_out f_free f_r_cmd f_r_xpt f_r_eth f_r_cel f_r_zl f_r_red f_r_flt f_r_pmu (State.count_keeps f_pmu f_r_pmu (State.bump_keeps (.of f_r_cmd) (sample_keeps f_cmd f_flt f_xpt f_red f_zl f_eng f_cel f_lease f_pmu f_out f_free f_r_cmd f_r_xpt f_r_eth f_r_cel f_r_zl f_r_red f_r_flt f_r_pmu k6)))) (k6.set_cmd f_cmd )))))

theorem refuse_keeps {k s0 a1 a2 a3 a4 a5} (f_cmd : k .cmd = false) (f_flt : k .flt = false) (f_xpt : k .xpt = false) (f_red : k .red = false) (f_zl : k .zl = false) (f_eng : k .eng = false) (f_cel : k .cel = false) (f_lease : k .lease = false) (f_pmu : k .pmu = false) (f_out : k .out = false) (f_free : k .free = false) (f_r_cmd : k (.reg .cmd) = false) (f_r_xpt : k (.reg .xpt) = false) (f_r_eth : k (.reg .eth) = false) (f_r_cel : k (.reg .cel) = false) (f_r_zl : k (.reg .zl) = false) (f_r_red : k (.reg .red) = false) (f_r_flt : k (.reg .flt) = false) (f_r_pmu : k (.reg .pmu) = false) (k5 : Keeps k s0 a5) :
    Keeps k s0 (refuse a1 a2 a3 a4 a5) := by
  unfold refuse
  exact (by lift_lets -underBinder; intro xh1; intro xh2; intro xh3; intro xh4; have h5 : Keeps k s0 xh4 := (by unfold xh4; exact (k5.set_many (by intro p hp; cases p <;> first | exact rfl | exact id | exact fun _ _ => rfl | simp [f_cmd, f_pmu] at hp) rfl rfl rfl rfl (by first | exact id | exact live_filter | exact live_up (Nat.le_succ _) | exact live_map (fun y => by (try dsimp only); split <;> rfl) | exact live_up (Nat.le_trans (Nat.le_add_right _ _) (Nat.le_succ _)) | exact live_new rfl))); clear_value xh4; intro xh6; have h7 : Keeps k s0 xh6 := (by unfold xh6; exact (State.count_keeps f_pmu f_r_pmu (State.bump_keeps (.of f_r_cmd) h5))); clear_value xh6; intro xh8; have h9 : Keeps k s0 xh8 := (by unfold xh8; exact (keep_ite (Keeps k s0) (occur_keeps f_cmd f_flt f_xpt f_red f_zl f_eng f_cel f_lease f_pmu f_out f_free f_r_cmd f_r_xpt f_r_eth f_r_cel f_r_zl f_r_red f_r_flt f_r_pmu (State.count_keeps f_pmu f_r_pmu h7)) (keep_ite (Keeps k s0) (State.count_keeps f_pmu f_r_pmu h7) (keep_ite (Keeps k s0) (State.count_keeps f_pmu f_r_pmu (State.p_keeps (.of f_r_xpt) (State.p_keeps (.of f_r_xpt) h7))) h7)))); clear_value xh8; exact (recordDue_keeps f_cmd f_flt f_xpt f_red f_zl f_eng f_cel f_lease f_pmu f_out f_free f_r_cmd f_r_xpt f_r_eth f_r_cel f_r_zl f_r_red f_r_flt f_r_pmu h9))

theorem writeCplRecord_keeps {k s0 a1 a2} (f_cmd : k .cmd = false) (f_flt : k .flt = false) (f_xpt : k .xpt = false) (f_red : k .red = false) (f_zl : k .zl = false) (f_eng : k .eng = false) (f_cel : k .cel = false) (f_lease : k .lease = false) (f_pmu : k .pmu = false) (f_out : k .out = false) (f_free : k .free = false) (f_r_cmd : k (.reg .cmd) = false) (f_r_xpt : k (.reg .xpt) = false) (f_r_eth : k (.reg .eth) = false) (f_r_cel : k (.reg .cel) = false) (f_r_zl : k (.reg .zl) = false) (f_r_red : k (.reg .red) = false) (f_r_flt : k (.reg .flt) = false) (f_r_pmu : k (.reg .pmu) = false) (f_r_noc : k (.reg .noc) = false) (k2 : Keeps k s0 a2) :
    Keeps k s0 (writeCplRecord a1 a2) := by
  unfold writeCplRecord
  exact (by split; exact k2; exact (by lift_lets -underBinder; intro xh1; (try clear_value xh1); intro xh2; (try clear_value xh2); intro xh3; intro xh4; (try clear_value xh4); intro xh5; (try clear_value xh5); intro xh6; (try clear_value xh6); intro xh7; have h8 : Keeps k s0 xh7 := (by unfold xh7; exact (wakePort_keeps f_pmu f_r_pmu f_r_noc (wakePort_keeps f_pmu f_r_pmu f_r_noc k2))); clear_value xh7; intro xh9; have h10 : Keeps k s0 xh9 := (by unfold xh9; exact (State.emit_keeps f_out (State.emit_keeps f_out h8))); clear_value xh9; intro xh11; have h12 : Keeps k s0 xh11 := (by unfold xh11; exact (State.p_keeps (.of f_r_cmd) h10)); clear_value xh11; intro xh13; have h14 : Keeps k s0 xh13 := (by unfold xh13; exact (keep_ite (Keeps k s0) (State.p_keeps (.of f_r_cmd) h12) h12)); clear_value xh13; intro xh15; intro xh16; have h17 : Keeps k s0 xh16 := (by unfold xh16; exact (h14.set_cmd f_cmd )); clear_value xh16; exact (keep_ite (Keeps k s0) k2 (raiseIrq_keeps f_cmd f_pmu f_out f_r_pmu (State.count_keeps f_pmu f_r_pmu (sample_keeps f_cmd f_flt f_xpt f_red f_zl f_eng f_cel f_lease f_pmu f_out f_free f_r_cmd f_r_xpt f_r_eth f_r_cel f_r_zl f_r_red f_r_flt f_r_pmu h17))))))

theorem freeCredit_keeps {k s0 a1 a2} (f_cmd : k .cmd = false) (k2 : Keeps k s0 a2) :
    Keeps k s0 (freeCredit a1 a2) := by
  unfold freeCredit
  exact (by lift_lets -underBinder; intro xh1; exact (k2.set_cmd f_cmd (by first | exact id | exact live_filter | exact live_up (Nat.le_succ _) | exact live_map (fun y => by (try dsimp only); split <;> rfl) | exact live_up (Nat.le_trans (Nat.le_add_right _ _) (Nat.le_succ _)) | exact live_new rfl)))

theorem seqCheck_keeps {k s0 a1 a2 a3} (f_r_cmd : k (.reg .cmd) = false) (k3 : Keeps k s0 a3) :
    KeepsP k s0 (seqCheck a1 a2 a3) := by
  unfold seqCheck
  exact (by lift_lets -underBinder; intro xh1; (try clear_value xh1); intro xh2; (try clear_value xh2); intro xh3; (try clear_value xh3); intro xh4; have h5 : Keeps k s0 xh4 := (by unfold xh4; exact (State.p_keeps (.of f_r_cmd) k3)); clear_value xh4; exact (keep_ite (KeepsP k s0) (keep_ite (KeepsP k s0) h5 (State.p_keeps (.of f_r_cmd) h5)) k3))

theorem generalCheck_keeps {k s0 a1 a2 a3 a4 a5 a6 a7} (f_r_cmd : k (.reg .cmd) = false) (k7 : Keeps k s0 a7) :
    KeepsP k s0 (generalCheck a1 a2 a3 a4 a5 a6 a7) := by
  unfold generalCheck
  exact (keep_ite (KeepsP k s0) k7 (keep_ite (KeepsP k s0) k7 (keep_ite (KeepsP k s0) k7 (by split; (rename_i vh1 vh2 he; have h3 := KeepsP.of_eq he (seqCheck_keeps f_r_cmd k7); exact (keep_ite (KeepsP k s0) h3 (keep_ite (KeepsP k s0) h3 (keep_ite (KeepsP k s0) h3 (keep_ite (KeepsP k s0) h3 h3)))))))))

theorem popDesc_keeps {k s0 a1 a2 a3} (f_cmd : k .cmd = false) (k3 : Keeps k s0 a3) :
    Keeps k s0 (popDesc a1 a2 a3) := by
  unfold popDesc
  exact (by lift_lets -underBinder; intro xh1; exact (k3.set_cmd f_cmd ))

theorem presentRead_keeps {k s0 a1 a2 a3 a4 a5 a6 a7 a8} (f_cmd : k .cmd = false) (f_flt : k .flt = false) (f_xpt : k .xpt = false) (f_red : k .red = false) (f_zl : k .zl = false) (f_eng : k .eng = false) (f_cel : k .cel = false) (f_lease : k .lease = false) (f_pmu : k .pmu = false) (f_out : k .out = false) (f_free : k .free = false) (f_r_cmd : k (.reg .cmd) = false) (f_r_xpt : k (.reg .xpt) = false) (f_r_eth : k (.reg .eth) = false) (f_r_cel : k (.reg .cel) = false) (f_r_zl : k (.reg .zl) = false) (f_r_red : k (.reg .red) = false) (f_r_flt : k (.reg .flt) = false) (f_r_pmu : k (.reg .pmu) = false) (f_r_noc : k (.reg .noc) = false) (k8 : Keeps k s0 a8) :
    Keeps k s0 (presentRead a1 a2 a3 a4 a5 a6 a7 a8) := by
  unfold presentRead
  exact (by split; exact k8; exact (by lift_lets -underBinder; intro xh1; (try clear_value xh1); exact (keep_ite (Keeps k s0) k8 (keep_ite (Keeps k s0) (State.count_keeps f_pmu f_r_pmu k8) (by split; (rename_i vh2 vh3 he; have h4 := KeepsP.of_eq he (generalCheck_keeps f_r_cmd (popDesc_keeps f_cmd k8)); exact (refuse_keeps f_cmd f_flt f_xpt f_red f_zl f_eng f_cel f_lease f_pmu f_out f_free f_r_cmd f_r_xpt f_r_eth f_r_cel f_r_zl f_r_red f_r_flt f_r_pmu h4)); (rename_i vh5 he; have h6 := KeepsP.of_eq he (generalCheck_keeps f_r_cmd (popDesc_keeps f_cmd k8)); exact (by lift_lets -underBinder; intro xh7; intro xh8; have h9 : Keeps k s0 xh8 := (by unfold xh8; exact (h6.set_cmd f_cmd )); clear_value xh8; exact (dmaRead_keeps f_out (wakePort_keeps f_pmu f_r_pmu f_r_noc (wakePort_keeps f_pmu f_r_pmu f_r_noc h9))))))))))

theorem finish_keeps {k s0 a1 a2 a3 a4 a5 a6} (f_cmd : k .cmd = false) (f_flt : k .flt = false) (f_xpt : k .xpt = false) (f_red : k .red = false) (f_zl : k .zl = false) (f_eng : k .eng = false) (f_cel : k .cel = false) (f_lease : k .lease = false) (f_pmu : k .pmu = false) (f_out : k .out = false) (f_free : k .free = false) (f_r_cmd : k (.reg .cmd) = false) (f_r_xpt : k (.reg .xpt) = false) (f_r_eth : k (.reg .eth) = false) (f_r_cel : k (.reg .cel) = false) (f_r_zl : k (.reg .zl) = false) (f_r_red : k (.reg .red) = false) (f_r_flt : k (.reg .flt) = false) (f_r_pmu : k (.reg .pmu) = false) (k6 : Keeps k s0 a6) :
    Keeps k s0 (finish a1 a2 a3 a4 a5 a6) := by
  unfold finish
  exact (by split; exact k6; exact (by lift_lets -underBinder; intro xh1; exact (recordDue_keeps f_cmd f_flt f_xpt f_red f_zl f_eng f_cel f_lease f_pmu f_out f_free f_r_cmd f_r_xpt f_r_eth f_r_cel f_r_zl f_r_red f_r_flt f_r_pmu (k6.set_cmd f_cmd (by first | exact id | exact live_filter | exact live_up (Nat.le_succ _) | exact live_map (fun y => by (try dsimp only); split <;> rfl) | exact live_up (Nat.le_trans (Nat.le_add_right _ _) (Nat.le_succ _)) | exact live_new rfl)))))

theorem discardDue_keeps {k s0 a1 a2} (f_cmd : k .cmd = false) (f_flt : k .flt = false) (f_xpt : k .xpt = false) (f_red : k .red = false) (f_zl : k .zl = false) (f_eng : k .eng = false) (f_cel : k .cel = false) (f_lease : k .lease = false) (f_pmu : k .pmu = false) (f_out : k .out = false) (f_free : k .free = false) (f_r_cmd : k (.reg .cmd) = false) (f_r_xpt : k (.reg .xpt) = false) (f_r_eth : k (.reg .eth) = false) (f_r_cel : k (.reg .cel) = false) (f_r_zl : k (.reg .zl) = false) (f_r_red : k (.reg .red) = false) (f_r_flt : k (.reg .flt) = false) (f_r_pmu : k (.reg .pmu) = false) (k2 : Keeps k s0 a2) :
    Keeps k s0 (discardDue a1 a2) := by
  unfold discardDue
  exact (by lift_lets -underBinder; intro xh1; (try clear_value xh1); intro xh2; intro xh3; have h4 : Keeps k s0 xh3 := (by unfold xh3; exact (k2.set_cmd f_cmd )); clear_value xh3; exact (keep_each (fun _ _ h5 => (occur_keeps f_cmd f_flt f_xpt f_red f_zl f_eng f_cel f_lease f_pmu f_out f_free f_r_cmd f_r_xpt f_r_eth f_r_cel f_r_zl f_r_red f_r_flt f_r_pmu (State.count_keeps f_pmu f_r_pmu (State.bump_keeps (.of f_r_cmd) (sample_keeps f_cmd f_flt f_xpt f_red f_zl f_eng f_cel f_lease f_pmu f_out f_free f_r_cmd f_r_xpt f_r_eth f_r_cel f_r_zl f_r_red f_r_flt f_r_pmu h5))))) h4))

theorem present_keeps {k s0 a1 a2 a3 a4 a5 a6 a7 a8 a9} (f_cmd : k .cmd = false) (f_flt : k .flt = false) (f_xpt : k .xpt = false) (f_red : k .red = false) (f_zl : k .zl = false) (f_eng : k .eng = false) (f_cel : k .cel = false) (f_lease : k .lease = false) (f_pmu : k .pmu = false) (f_out : k .out = false) (f_free : k .free = false) (f_r_cmd : k (.reg .cmd) = false) (f_r_xpt : k (.reg .xpt) = false) (f_r_eth : k (.reg .eth) = false) (f_r_cel : k (.reg .cel) = false) (f_r_zl : k (.reg .zl) = false) (f_r_red : k (.reg .red) = false) (f_r_flt : k (.reg .flt) = false) (f_r_pmu : k (.reg .pmu) = false) (k8 : ∀ x0 x1 x2 x3, Keeps k s0 x3 → Keeps k s0 (a8 x0 x1 x2 x3)) (k9 : Keeps k s0 a9) :
    Keeps k s0 (present a1 a2 a3 a4 a5 a6 a7 a8 a9) := by
  unfold present
  exact (by split; exact k9; exact (by lift_lets -underBinder; intro xh1; (try clear_value xh1); intro xh2; have h3 : Keeps k s0 xh2 := (by unfold xh2; exact (popDesc_keeps f_cmd k9)); clear_value xh2; exact (keep_ite (Keeps k s0) k9 (keep_ite (Keeps k s0) (State.count_keeps f_pmu f_r_pmu k9) (by split; (rename_i vh4 vh5 he; have h6 := KeepsP.of_eq he (generalCheck_keeps f_r_cmd h3); exact (refuse_keeps f_cmd f_flt f_xpt f_red f_zl f_eng f_cel f_lease f_pmu f_out f_free f_r_cmd f_r_xpt f_r_eth f_r_cel f_r_zl f_r_red f_r_flt f_r_pmu h6)); (rename_i vh7 he; have h8 := KeepsP.of_eq he (generalCheck_keeps f_r_cmd h3); exact (by split; exact (refuse_keeps f_cmd f_flt f_xpt f_red f_zl f_eng f_cel f_lease f_pmu f_out f_free f_r_cmd f_r_xpt f_r_eth f_r_cel f_r_zl f_r_red f_r_flt f_r_pmu h8); exact (by split; (rename_i vh9 vh10 he; have h11 := KeepsP.of_eq he (accept_keeps f_cmd f_pmu f_r_pmu h8); exact (k8 _ _ _ _ h11))))))))))

theorem dropRead_keeps {k s0 a1 a2 a3} (f_cmd : k .cmd = false) (k3 : Keeps k s0 a3) :
    Keeps k s0 (dropRead a1 a2 a3) := by
  unfold dropRead
  exact (by lift_lets -underBinder; intro xh1; exact (k3.set_cmd f_cmd ))

theorem histSat_keeps {k s0 a1 a2 a3 a4} (f_cmd : k .cmd = false) (f_flt : k .flt = false) (f_xpt : k .xpt = false) (f_red : k .red = false) (f_zl : k .zl = false) (f_eng : k .eng = false) (f_cel : k .cel = false) (f_lease : k .lease = false) (f_pmu : k .pmu = false) (f_out : k .out = false) (f_free : k .free = false) (f_r_cmd : k (.reg .cmd) = false) (f_r_xpt : k (.reg .xpt) = false) (f_r_eth : k (.reg .eth) = false) (f_r_cel : k (.reg .cel) = false) (f_r_zl : k (.reg .zl) = false) (f_r_red : k (.reg .red) = false) (f_r_flt : k (.reg .flt) = false) (f_r_pmu : k (.reg .pmu) = false) (g2 : RegFree k a2.reg) (k4 : Keeps k s0 a4) :
    Keeps k s0 (histSat a1 a2 a3 a4) := by
  unfold histSat
  exact (by lift_lets -underBinder; intro xh1; (try clear_value xh1); intro xh2; have h3 : Keeps k s0 xh2 := (by unfold xh2; exact (State.p_keeps g2 k4)); clear_value xh2; exact (keep_ite (Keeps k s0) k4 (keep_ite (Keeps k s0) (occur_keeps f_cmd f_flt f_xpt f_red f_zl f_eng f_cel f_lease f_pmu f_out f_free f_r_cmd f_r_xpt f_r_eth f_r_cel f_r_zl f_r_red f_r_flt f_r_pmu (State.count_keeps f_pmu f_r_pmu (State.p_keeps (.of f_r_pmu) h3))) h3)))

theorem histTake_keeps {k s0 a1 a2 a3} (f_cmd : k .cmd = false) (f_flt : k .flt = false) (f_xpt : k .xpt = false) (f_red : k .red = false) (f_zl : k .zl = false) (f_eng : k .eng = false) (f_cel : k .cel = false) (f_lease : k .lease = false) (f_pmu : k .pmu = false) (f_out : k .out = false) (f_free : k .free = false) (f_r_cmd : k (.reg .cmd) = false) (f_r_xpt : k (.reg .xpt) = false) (f_r_eth : k (.reg .eth) = false) (f_r_cel : k (.reg .cel) = false) (f_r_zl : k (.reg .zl) = false) (f_r_red : k (.reg .red) = false) (f_r_flt : k (.reg .flt) = false) (f_r_pmu : k (.reg .pmu) = false) (k3 : Keeps k s0 a3) :
    Keeps k s0 (histTake a1 a2 a3) := by
  unfold histTake
  exact (by lift_lets -underBinder; intro xh1; have h2 : Keeps k s0 xh1 := (by unfold xh1; exact (State.count_keeps f_pmu f_r_pmu k3)); clear_value xh1; intro xh3; have h4 : Keeps k s0 xh3 := (by unfold xh3; exact (keep_ite (Keeps k s0) (State.p_keeps (.of f_r_pmu) h2) h2)); clear_value xh3; intro xh5; have h6 : Keeps k s0 xh5 := (by unfold xh5; exact (keep_ite (Keeps k s0) (State.p_keeps (.of f_r_pmu) h4) h4)); clear_value xh5; intro xh7; have h8 : Keeps k s0 xh7 := (by unfold xh7; exact (histSat_keeps f_cmd f_flt f_xpt f_red f_zl f_eng f_cel f_lease f_pmu f_out f_free f_r_cmd f_r_xpt f_r_eth f_r_cel f_r_zl f_r_red f_r_flt f_r_pmu (.of f_r_pmu) h6)); clear_value xh7; intro xh9; have h10 : Keeps k s0 xh9 := (by unfold xh9; exact (histSat_keeps f_cmd f_flt f_xpt f_red f_zl f_eng f_cel f_lease f_pmu f_out f_free f_r_cmd f_r_xpt f_r_eth f_r_cel f_r_zl f_r_red f_r_flt f_r_pmu (.of f_r_pmu) h8)); clear_value xh9; intro xh11; (try clear_value xh11); intro xh12; (try clear_value xh12); exact (keep_ite (Keeps k s0) (State.bump_keeps (.of f_r_pmu) k3) (keep_ite (Keeps k s0) k3 (keep_ite (Keeps k s0) (raiseEvent_keeps f_cmd f_pmu f_r_cmd f_r_pmu (State.p_keeps (.of f_r_pmu) h10)) h10))))

theorem histSample_keeps {k s0 a1 a2 a3 a4} (f_cmd : k .cmd = false) (f_flt : k .flt = false) (f_xpt : k .xpt = false) (f_red : k .red = false) (f_zl : k .zl = false) (f_eng : k .eng = false) (f_cel : k .cel = false) (f_lease : k .lease = false) (f_pmu : k .pmu = false) (f_out : k .out = false) (f_free : k .free = false) (f_r_cmd : k (.reg .cmd) = false) (f_r_xpt : k (.reg .xpt) = false) (f_r_eth : k (.reg .eth) = false) (f_r_cel : k (.reg .cel) = false) (f_r_zl : k (.reg .zl) = false) (f_r_red : k (.reg .red) = false) (f_r_flt : k (.reg .flt) = false) (f_r_pmu : k (.reg .pmu) = false) (k4 : Keeps k s0 a4) :
    Keeps k s0 (histSample a1 a2 a3 a4) := by
  unfold histSample
  exact (keep_each (fun _ _ h1 => (keep_ite (Keeps k s0) (histTake_keeps f_cmd f_flt f_xpt f_red f_zl f_eng f_cel f_lease f_pmu f_out f_free f_r_cmd f_r_xpt f_r_eth f_r_cel f_r_zl f_r_red f_r_flt f_r_pmu h1) h1)) k4)

theorem takeLatency_keeps {k s0 a1 a2 a3} (f_cmd : k .cmd = false) (f_flt : k .flt = false) (f_xpt : k .xpt = false) (f_red : k .red = false) (f_zl : k .zl = false) (f_eng : k .eng = false) (f_cel : k .cel = false) (f_lease : k .lease = false) (f_pmu : k .pmu = false) (f_out : k .out = false) (f_free : k .free = false) (f_r_cmd : k (.reg .cmd) = false) (f_r_xpt : k (.reg .xpt) = false) (f_r_eth : k (.reg .eth) = false) (f_r_cel : k (.reg .cel) = false) (f_r_zl : k (.reg .zl) = false) (f_r_red : k (.reg .red) = false) (f_r_flt : k (.reg .flt) = false) (f_r_pmu : k (.reg .pmu) = false) (k3 : Keeps k s0 a3) :
    Keeps k s0 (takeLatency a1 a2 a3) := by
  unfold takeLatency
  exact (by split; exact (by lift_lets -underBinder; intro xh1; (try clear_value xh1); exact (keep_ite (Keeps k s0) k3 (histSample_keeps f_cmd f_flt f_xpt f_red f_zl f_eng f_cel f_lease f_pmu f_out f_free f_r_cmd f_r_xpt f_r_eth f_r_cel f_r_zl f_r_red f_r_flt f_r_pmu (histSample_keeps f_cmd f_flt f_xpt f_red f_zl f_eng f_cel f_lease f_pmu f_out f_free f_r_cmd f_r_xpt f_r_eth f_r_cel f_r_zl f_r_red f_r_flt f_r_pmu k3)))); exact k3)

theorem commitTake_keeps {k s0 a1 a2 a3 a4 a5 a6} (f_cmd : k .cmd = false) (f_flt : k .flt = false) (f_xpt : k .xpt = false) (f_red : k .red = false) (f_zl : k .zl = false) (f_eng : k .eng = false) (f_cel : k .cel = false) (f_lease : k .lease = false) (f_pmu : k .pmu = false) (f_out : k .out = false) (f_free : k .free = false) (f_r_cmd : k (.reg .cmd) = false) (f_r_xpt : k (.reg .xpt) = false) (f_r_eth : k (.reg .eth) = false) (f_r_cel : k (.reg .cel) = false) (f_r_zl : k (.reg .zl) = false) (f_r_red : k (.reg .red) = false) (f_r_flt : k (.reg .flt) = false) (f_r_pmu : k (.reg .pmu) = false) (k6 : Keeps k s0 a6) :
    Keeps k s0 (commitTake a1 a2 a3 a4 a5 a6) := by
  unfold commitTake
  exact (by lift_lets -underBinder; intro xh1; (try clear_value xh1); intro xh2; have h4 : Keeps k s0 xh2 := (by unfold xh2; exact (keep_each (fun _ _ h3 => (skipOld_keeps f_xpt h3)) (reloadEntries_keeps f_r_xpt k6))); clear_value xh2; intro xh5; intro xh6; have h7 : Keeps k s0 xh6 := (by unfold xh6; exact (h4.set_xpt f_xpt)); clear_value xh6; intro xh8; have h11 : Keeps k s0 xh8 := (by unfold xh8; exact (keep_each (fun _ _ h9 => (keep_ite (Keeps k s0) (forceSignal_keeps f_flt f_pmu f_r_xpt f_r_flt f_r_pmu h9) h9)) (keep_when (fun _ h10 => (forceSignal_keeps f_flt f_pmu f_r_xpt f_r_flt f_r_pmu h10)) h7))); clear_value xh8; intro xh12; (try clear_value xh12); intro xh13; have h14 : Keeps k s0 xh13 := (by unfold xh13; exact (State.count_keeps f_pmu f_r_pmu h11)); clear_value xh13; intro xh15; have h17 : Keeps k s0 xh15 := (by unfold xh15; exact (keep_when (fun _ h16 => (State.count_keeps f_pmu f_r_pmu (State.bump_keeps (.of f_r_xpt) h16))) h14)); clear_value xh15; intro xh18; have h21 : Keeps k s0 xh18 := (by unfold xh18; exact (keep_when (fun _ h19 => (takeLatency_keeps f_cmd f_flt f_xpt f_red f_zl f_eng f_cel f_lease f_pmu f_out f_free f_r_cmd f_r_xpt f_r_eth f_r_cel f_r_zl f_r_red f_r_flt f_r_pmu h19)) (keep_when (fun _ h20 => (State.count_keeps f_pmu f_r_pmu h20)) h17))); clear_value xh18; intro xh22; exact (h21.set_xpt f_xpt))

theorem endTake_keeps {k s0 a1 a2 a3} (f_cmd : k .cmd = false) (f_flt : k .flt = false) (f_xpt : k .xpt = false) (f_red : k .red = false) (f_zl : k .zl = false) (f_eng : k .eng = false) (f_cel : k .cel = false) (f_lease : k .lease = false) (f_pmu : k .pmu = false) (f_out : k .out = false) (f_free : k .free = false) (f_r_cmd : k (.reg .cmd) = false) (f_r_xpt : k (.reg .xpt) = false) (f_r_eth : k (.reg .eth) = false) (f_r_cel : k (.reg .cel) = false) (f_r_zl : k (.reg .zl) = false) (f_r_red : k (.reg .red) = false) (f_r_flt : k (.reg .flt) = false) (f_r_pmu : k (.reg .pmu) = false) (k3 : Keeps k s0 a3) :
    Keeps k s0 (endTake a1 a2 a3) := by
  unfold endTake
  exact (by lift_lets -underBinder; intro xh1; intro xh2; have h3 : Keeps k s0 xh2 := (by unfold xh2; exact (k3.set_xpt f_xpt)); clear_value xh2; intro xh4; have h5 : Keeps k s0 xh4 := (by unfold xh4; exact (by split; exact (State.count_keeps f_pmu f_r_pmu h3); exact (State.count_keeps f_pmu f_r_pmu h3); exact (State.count_keeps f_pmu f_r_pmu h3); exact h3)); clear_value xh4; exact (finish_keeps f_cmd f_flt f_xpt f_red f_zl f_eng f_cel f_lease f_pmu f_out f_free f_r_cmd f_r_xpt f_r_eth f_r_cel f_r_zl f_r_red f_r_flt f_r_pmu h5))

theorem unstage_keeps {k s0 a1 a2 a3} (f_r_xpt : k (.reg .xpt) = false) (k3 : Keeps k s0 a3) :
    Keeps k s0 (unstage a1 a2 a3) := by
  unfold unstage
  exact (unstageEntries_keeps f_r_xpt k3)

theorem endTakes_keeps {k s0 a1 a2 a3} (f_cmd : k .cmd = false) (f_flt : k .flt = false) (f_xpt : k .xpt = false) (f_red : k .red = false) (f_zl : k .zl = false) (f_eng : k .eng = false) (f_cel : k .cel = false) (f_lease : k .lease = false) (f_pmu : k .pmu = false) (f_out : k .out = false) (f_free : k .free = false) (f_r_cmd : k (.reg .cmd) = false) (f_r_xpt : k (.reg .xpt) = false) (f_r_eth : k (.reg .eth) = false) (f_r_cel : k (.reg .cel) = false) (f_r_zl : k (.reg .zl) = false) (f_r_red : k (.reg .red) = false) (f_r_flt : k (.reg .flt) = false) (f_r_pmu : k (.reg .pmu) = false) (k3 : Keeps k s0 a3) :
    Keeps k s0 (endTakes a1 a2 a3) := by
  unfold endTakes
  exact (keep_each (fun _ _ h1 => (endTake_keeps f_cmd f_flt f_xpt f_red f_zl f_eng f_cel f_lease f_pmu f_out f_free f_r_cmd f_r_xpt f_r_eth f_r_cel f_r_zl f_r_red f_r_flt f_r_pmu (unstage_keeps f_r_xpt h1))) k3)

theorem stageTake_keeps {k s0 a1 a2 a3 a4 a5 a6 a7 a8} (f_cmd : k .cmd = false) (f_flt : k .flt = false) (f_xpt : k .xpt = false) (f_red : k .red = false) (f_zl : k .zl = false) (f_eng : k .eng = false) (f_cel : k .cel = false) (f_lease : k .lease = false) (f_pmu : k .pmu = false) (f_out : k .out = false) (f_free : k .free = false) (f_r_cmd : k (.reg .cmd) = false) (f_r_xpt : k (.reg .xpt) = false) (f_r_eth : k (.reg .eth) = false) (f_r_cel : k (.reg .cel) = false) (f_r_zl : k (.reg .zl) = false) (f_r_red : k (.reg .red) = false) (f_r_flt : k (.reg .flt) = false) (f_r_pmu : k (.reg .pmu) = false) (k8 : Keeps k s0 a8) :
    Keeps k s0 (stageTake a1 a2 a3 a4 a5 a6 a7 a8) := by
  unfold stageTake
  exact (by lift_lets -underBinder; intro xh1; have h5 : Keeps k s0 xh1 := (by unfold xh1; exact (by split; exact k8; exact (by lift_lets -underBinder; intro xh2; have h3 : Keeps k s0 xh2 := (by unfold xh2; exact (finish_keeps f_cmd f_flt f_xpt f_red f_zl f_eng f_cel f_lease f_pmu f_out f_free f_r_cmd f_r_xpt f_r_eth f_r_cel f_r_zl f_r_red f_r_flt f_r_pmu k8)); clear_value xh2; intro xh4; exact (keep_ite (Keeps k s0) (h3.set_xpt f_xpt) (endTake_keeps f_cmd f_flt f_xpt f_red f_zl f_eng f_cel f_lease f_pmu f_out f_free f_r_cmd f_r_xpt f_r_eth f_r_cel f_r_zl f_r_red f_r_flt f_r_pmu k8))))); clear_value xh1; intro xh6; (try clear_value xh6); intro xh7; (try clear_value xh7); intro xh8; have h9 : Keeps k s0 xh8 := (by unfold xh8; exact (stageEntries_keeps f_r_xpt h5)); clear_value xh8; intro xh10; intro xh11; have h12 : Keeps k s0 xh11 := (by unfold xh11; exact (h9.set_xpt f_xpt)); clear_value xh11; exact (keep_ite (Keeps k s0) (freeCredit_keeps f_cmd h12) h12))

theorem commitAud_keeps {k s0 a1 a2 a3 a4 a5 a6} (f_aud : k .aud = false) (f_pmu : k .pmu = false) (f_r_aud : k (.reg .aud) = false) (f_r_pmu : k (.reg .pmu) = false) (k6 : Keeps k s0 a6) :
    Keeps k s0 (commitAud a1 a2 a3 a4 a5 a6) := by
  unfold commitAud
  exact (by lift_lets -underBinder; intro xh1; (try clear_value xh1); intro xh2; have h4 : Keeps k s0 xh2 := (by unfold xh2; exact (keep_each (fun _ _ h3 => (State.wr_keeps (.of f_r_aud) h3)) k6)); clear_value xh2; intro xh5; (try clear_value xh5); intro xh6; have h7 : Keeps k s0 xh6 := (by unfold xh6; exact (State.count_keeps f_pmu f_r_pmu h4)); intro xh8; exact (h7.set_aud f_aud))

theorem unstageAud_keeps {k s0 a1 a2 a3} (f_r_aud : k (.reg .aud) = false) (k3 : Keeps k s0 a3) :
    Keeps k s0 (unstageAud a1 a2 a3) := by
  unfold unstageAud
  exact (keep_each (fun _ _ h1 => (State.wr_keeps (.of f_r_aud) h1)) k3)

theorem endAud_keeps {k s0 a1 a2 a3} (f_cmd : k .cmd = false) (f_flt : k .flt = false) (f_xpt : k .xpt = false) (f_red : k .red = false) (f_aud : k .aud = false) (f_zl : k .zl = false) (f_eng : k .eng = false) (f_cel : k .cel = false) (f_lease : k .lease = false) (f_pmu : k .pmu = false) (f_out : k .out = false) (f_free : k .free = false) (f_r_cmd : k (.reg .cmd) = false) (f_r_xpt : k (.reg .xpt) = false) (f_r_eth : k (.reg .eth) = false) (f_r_aud : k (.reg .aud) = false) (f_r_cel : k (.reg .cel) = false) (f_r_zl : k (.reg .zl) = false) (f_r_red : k (.reg .red) = false) (f_r_flt : k (.reg .flt) = false) (f_r_pmu : k (.reg .pmu) = false) (k3 : Keeps k s0 a3) :
    Keeps k s0 (endAud a1 a2 a3) := by
  unfold endAud
  exact (by lift_lets -underBinder; intro xh1; intro xh2; have h3 : Keeps k s0 xh2 := (by unfold xh2; exact (unstageAud_keeps f_r_aud (k3.set_aud f_aud))); clear_value xh2; intro xh4; have h5 : Keeps k s0 xh4 := (by unfold xh4; exact (by split; exact (State.count_keeps f_pmu f_r_pmu h3); exact (State.count_keeps f_pmu f_r_pmu h3); exact (State.count_keeps f_pmu f_r_pmu h3); exact h3)); clear_value xh4; exact (finish_keeps f_cmd f_flt f_xpt f_red f_zl f_eng f_cel f_lease f_pmu f_out f_free f_r_cmd f_r_xpt f_r_eth f_r_cel f_r_zl f_r_red f_r_flt f_r_pmu h5))

theorem endAuds_keeps {k s0 a1 a2 a3} (f_cmd : k .cmd = false) (f_flt : k .flt = false) (f_xpt : k .xpt = false) (f_red : k .red = false) (f_aud : k .aud = false) (f_zl : k .zl = false) (f_eng : k .eng = false) (f_cel : k .cel = false) (f_lease : k .lease = false) (f_pmu : k .pmu = false) (f_out : k .out = false) (f_free : k .free = false) (f_r_cmd : k (.reg .cmd) = false) (f_r_xpt : k (.reg .xpt) = false) (f_r_eth : k (.reg .eth) = false) (f_r_aud : k (.reg .aud) = false) (f_r_cel : k (.reg .cel) = false) (f_r_zl : k (.reg .zl) = false) (f_r_red : k (.reg .red) = false) (f_r_flt : k (.reg .flt) = false) (f_r_pmu : k (.reg .pmu) = false) (k3 : Keeps k s0 a3) :
    Keeps k s0 (endAuds a1 a2 a3) := by
  unfold endAuds
  exact (keep_each (fun _ _ h1 => (endAud_keeps f_cmd f_flt f_xpt f_red f_aud f_zl f_eng f_cel f_lease f_pmu f_out f_free f_r_cmd f_r_xpt f_r_eth f_r_aud f_r_cel f_r_zl f_r_red f_r_flt f_r_pmu h1)) k3)

theorem stageAud_keeps {k s0 a1 a2} (f_cmd : k .cmd = false) (f_flt : k .flt = false) (f_xpt : k .xpt = false) (f_red : k .red = false) (f_aud : k .aud = false) (f_zl : k .zl = false) (f_eng : k .eng = false) (f_cel : k .cel = false) (f_lease : k .lease = false) (f_pmu : k .pmu = false) (f_out : k .out = false) (f_free : k .free = false) (f_r_cmd : k (.reg .cmd) = false) (f_r_xpt : k (.reg .xpt) = false) (f_r_eth : k (.reg .eth) = false) (f_r_aud : k (.reg .aud) = false) (f_r_cel : k (.reg .cel) = false) (f_r_zl : k (.reg .zl) = false) (f_r_red : k (.reg .red) = false) (f_r_flt : k (.reg .flt) = false) (f_r_pmu : k (.reg .pmu) = false) (k2 : Keeps k s0 a2) :
    Keeps k s0 (stageAud a1 a2) := by
  unfold stageAud
  exact (by lift_lets -underBinder; intro xh1; have h3 : Keeps k s0 xh1 := (by unfold xh1; exact (keep_each (fun _ _ h2 => (endAud_keeps f_cmd f_flt f_xpt f_red f_aud f_zl f_eng f_cel f_lease f_pmu f_out f_free f_r_cmd f_r_xpt f_r_eth f_r_aud f_r_cel f_r_zl f_r_red f_r_flt f_r_pmu h2)) k2)); clear_value xh1; intro xh4; have h6 : Keeps k s0 xh4 := (by unfold xh4; exact (keep_each (fun _ _ h5 => (State.wr_keeps (.of f_r_aud) h5)) h3)); clear_value xh4; intro xh7; intro xh8; have h9 : Keeps k s0 xh8 := (by unfold xh8; exact (h6.set_aud f_aud)); clear_value xh8; exact (keep_ite (Keeps k s0) (freeCredit_keeps f_cmd h9) h9))

theorem announcePoint_keeps {k s0 a1 a2 a3 a4 a5} (f_cmd : k .cmd = false) (f_flt : k .flt = false) (f_xpt : k .xpt = false) (f_red : k .red = false) (f_zl : k .zl = false) (f_eng : k .eng = false) (f_cel : k .cel = false) (f_lease : k .lease = false) (f_pmu : k .pmu = false) (f_out : k .out = false) (f_free : k .free = false) (f_r_cmd : k (.reg .cmd) = false) (f_r_xpt : k (.reg .xpt) = false) (f_r_eth : k (.reg .eth) = false) (f_r_cel : k (.reg .cel) = false) (f_r_zl : k (.reg .zl) = false) (f_r_red : k (.reg .red) = false) (f_r_flt : k (.reg .flt) = false) (f_r_pmu : k (.reg .pmu) = false) (k5 : Keeps k s0 a5) :
    Keeps k s0 (announcePoint a1 a2 a3 a4 a5) := by
  unfold announcePoint
  exact (by lift_lets -underBinder; intro xh1; (try clear_value xh1); exact (keep_ite (Keeps k s0) (by split; exact (keep_ite (Keeps k s0) (State.tell_keeps f_red f_out k5) k5); exact k5) (keep_ite (Keeps k s0) (occur_keeps f_cmd f_flt f_xpt f_red f_zl f_eng f_cel f_lease f_pmu f_out f_free f_r_cmd f_r_xpt f_r_eth f_r_cel f_r_zl f_r_red f_r_flt f_r_pmu (State.count_keeps f_pmu f_r_pmu (State.p_keeps (.of f_r_xpt) k5))) k5)))

theorem resolvePoint_keeps {k s0 a1 a2 a3 a4 a5} (f_xpt : k .xpt = false) (f_aud : k .aud = false) (k5 : Keeps k s0 a5) :
    Keeps k s0 (resolvePoint a1 a2 a3 a4 a5) := by
  unfold resolvePoint
  exact (by lift_lets -underBinder; intro xh1; (try clear_value xh1); intro xh2; (try clear_value xh2); intro xh3; have h4 : Keeps k s0 xh3 := (by unfold xh3; exact (State.setCad_keeps f_xpt k5)); clear_value xh3; intro xh5; intro xh6; intro xh7; exact (h4.set_many (by intro p hp; cases p <;> first | exact rfl | exact id | exact fun _ _ => rfl | simp [f_xpt, f_aud] at hp)))

theorem ssyncEdge_keeps {k s0 a1 a2} (f_cmd : k .cmd = false) (f_flt : k .flt = false) (f_xpt : k .xpt = false) (f_red : k .red = false) (f_aud : k .aud = false) (f_zl : k .zl = false) (f_eng : k .eng = false) (f_cel : k .cel = false) (f_lease : k .lease = false) (f_pmu : k .pmu = false) (f_out : k .out = false) (f_free : k .free = false) (f_r_cmd : k (.reg .cmd) = false) (f_r_xpt : k (.reg .xpt) = false) (f_r_eth : k (.reg .eth) = false) (f_r_cel : k (.reg .cel) = false) (f_r_zl : k (.reg .zl) = false) (f_r_red : k (.reg .red) = false) (f_r_flt : k (.reg .flt) = false) (f_r_pmu : k (.reg .pmu) = false) (k2 : Keeps k s0 a2) :
    Keeps k s0 (ssyncEdge a1 a2) := by
  unfold ssyncEdge
  exact (by lift_lets -underBinder; intro xh1; (try clear_value xh1); exact (keep_ite (Keeps k s0) k2 (by split; exact (by lift_lets -underBinder; intro xh2; (try clear_value xh2); intro xh3; (try clear_value xh3); intro xh4; (try clear_value xh4); intro xh5; (try clear_value xh5); exact (keep_ite (Keeps k s0) (by split; exact (State.count_keeps f_pmu f_r_pmu (State.p_keeps (.of f_r_xpt) (announcePoint_keeps f_cmd f_flt f_xpt f_red f_zl f_eng f_cel f_lease f_pmu f_out f_free f_r_cmd f_r_xpt f_r_eth f_r_cel f_r_zl f_r_red f_r_flt f_r_pmu (resolvePoint_keeps f_xpt f_aud k2))))) (State.count_keeps f_pmu f_r_pmu (State.bump_keeps (.of f_r_xpt) k2)))))))

theorem countDirty_keeps {k s0 a1 a2 a3} (f_pmu : k .pmu = false) (f_r_xpt : k (.reg .xpt) = false) (f_r_pmu : k (.reg .pmu) = false) (k3 : Keeps k s0 a3) :
    Keeps k s0 (countDirty a1 a2 a3) := by
  unfold countDirty
  exact (by lift_lets -underBinder; intro xh1; have h3 : Keeps k s0 xh1 := (by unfold xh1; exact (keep_each (fun _ _ h2 => (State.bump_keeps (.of f_r_xpt) h2)) k3)); clear_value xh1; exact (State.count_keeps f_pmu f_r_pmu (State.bump_keeps (.of f_r_xpt) h3)))

theorem judgeOne_keeps {k s0 a1 a2} (f_cmd : k .cmd = false) (f_flt : k .flt = false) (f_xpt : k .xpt = false) (f_red : k .red = false) (f_zl : k .zl = false) (f_eng : k .eng = false) (f_cel : k .cel = false) (f_lease : k .lease = false) (f_pmu : k .pmu = false) (f_out : k .out = false) (f_free : k .free = false) (f_r_cmd : k (.reg .cmd) = false) (f_r_xpt : k (.reg .xpt) = false) (f_r_eth : k (.reg .eth) = false) (f_r_cel : k (.reg .cel) = false) (f_r_zl : k (.reg .zl) = false) (f_r_red : k (.reg .red) = false) (f_r_flt : k (.reg .flt) = false) (f_r_pmu : k (.reg .pmu) = false) (k2 : Keeps k s0 a2) :
    Keeps k s0 (judgeOne a1 a2) := by
  unfold judgeOne
  exact (by lift_lets -underBinder; intro xh1; (try clear_value xh1); intro xh2; (try clear_value xh2); intro xh3; (try clear_value xh3); intro xh4; have h6 : Keeps k s0 xh4 := (by unfold xh4; exact (keep_when (fun _ h5 => (countDirty_keeps f_pmu f_r_xpt f_r_pmu h5)) k2)); clear_value xh4; intro xh7; have h9 : Keeps k s0 xh7 := (by unfold xh7; exact (keep_when (fun _ h8 => (State.count_keeps f_pmu f_r_pmu h8)) h6)); clear_value xh7; exact (by split; exact (by lift_lets -underBinder; intro xh10; (try clear_value xh10); exact (finish_keeps f_cmd f_flt f_xpt f_red f_zl f_eng f_cel f_lease f_pmu f_out f_free f_r_cmd f_r_xpt f_r_eth f_r_cel f_r_zl f_r_red f_r_flt f_r_pmu h9)); exact (by lift_lets -underBinder; intro xh11; intro xh12; (try clear_value xh12); intro xh13; intro xh14; have h15 : Keeps k s0 xh14 := (by unfold xh14; exact (h9.set_xpt f_xpt)); clear_value xh14; exact (finish_keeps f_cmd f_flt f_xpt f_red f_zl f_eng f_cel f_lease f_pmu f_out f_free f_r_cmd f_r_xpt f_r_eth f_r_cel f_r_zl f_r_red f_r_flt f_r_pmu h15))))

theorem closeSalvo_keeps {k s0 a1 a2} (f_cmd : k .cmd = false) (f_flt : k .flt = false) (f_xpt : k .xpt = false) (f_red : k .red = false) (f_zl : k .zl = false) (f_eng : k .eng = false) (f_cel : k .cel = false) (f_lease : k .lease = false) (f_pmu : k .pmu = false) (f_out : k .out = false) (f_free : k .free = false) (f_r_cmd : k (.reg .cmd) = false) (f_r_xpt : k (.reg .xpt) = false) (f_r_eth : k (.reg .eth) = false) (f_r_cel : k (.reg .cel) = false) (f_r_zl : k (.reg .zl) = false) (f_r_red : k (.reg .red) = false) (f_r_flt : k (.reg .flt) = false) (f_r_pmu : k (.reg .pmu) = false) (k2 : Keeps k s0 a2) :
    Keeps k s0 (closeSalvo a1 a2) := by
  unfold closeSalvo
  exact (by lift_lets -underBinder; intro xh1; intro xh2; have h3 : Keeps k s0 xh2 := (by unfold xh2; exact (k2.set_xpt f_xpt)); clear_value xh2; intro xh4; (try clear_value xh4); intro xh5; (try clear_value xh5); exact (finish_keeps f_cmd f_flt f_xpt f_red f_zl f_eng f_cel f_lease f_pmu f_out f_free f_r_cmd f_r_xpt f_r_eth f_r_cel f_r_zl f_r_red f_r_flt f_r_pmu h3))

theorem closeSalvos_keeps {k s0 a1} (f_cmd : k .cmd = false) (f_flt : k .flt = false) (f_xpt : k .xpt = false) (f_red : k .red = false) (f_zl : k .zl = false) (f_eng : k .eng = false) (f_cel : k .cel = false) (f_lease : k .lease = false) (f_pmu : k .pmu = false) (f_out : k .out = false) (f_free : k .free = false) (f_r_cmd : k (.reg .cmd) = false) (f_r_xpt : k (.reg .xpt) = false) (f_r_eth : k (.reg .eth) = false) (f_r_cel : k (.reg .cel) = false) (f_r_zl : k (.reg .zl) = false) (f_r_red : k (.reg .red) = false) (f_r_flt : k (.reg .flt) = false) (f_r_pmu : k (.reg .pmu) = false) (k1 : Keeps k s0 a1) :
    Keeps k s0 (closeSalvos a1) := by
  unfold closeSalvos
  exact (keep_each (fun _ _ h1 => (closeSalvo_keeps f_cmd f_flt f_xpt f_red f_zl f_eng f_cel f_lease f_pmu f_out f_free f_r_cmd f_r_xpt f_r_eth f_r_cel f_r_zl f_r_red f_r_flt f_r_pmu h1)) k1)

theorem judgeLine_keeps {k s0 a1 a2} (f_cmd : k .cmd = false) (f_flt : k .flt = false) (f_xpt : k .xpt = false) (f_red : k .red = false) (f_zl : k .zl = false) (f_eng : k .eng = false) (f_cel : k .cel = false) (f_lease : k .lease = false) (f_pmu : k .pmu = false) (f_out : k .out = false) (f_free : k .free = false) (f_r_cmd : k (.reg .cmd) = false) (f_r_xpt : k (.reg .xpt) = false) (f_r_eth : k (.reg .eth) = false) (f_r_cel : k (.reg .cel) = false) (f_r_zl : k (.reg .zl) = false) (f_r_red : k (.reg .red) = false) (f_r_flt : k (.reg .flt) = false) (f_r_pmu : k (.reg .pmu) = false) (k2 : Keeps k s0 a2) :
    Keeps k s0 (judgeLine a1 a2) := by
  unfold judgeLine
  exact (by lift_lets -underBinder; intro xh1; (try clear_value xh1); intro xh2; intro xh3; have h4 : Keeps k s0 xh3 := (by unfold xh3; exact (k2.set_xpt f_xpt)); clear_value xh3; intro xh5; have h7 : Keeps k s0 xh5 := (by unfold xh5; exact (keep_each (fun _ _ h6 => (judgeOne_keeps f_cmd f_flt f_xpt f_red f_zl f_eng f_cel f_lease f_pmu f_out f_free f_r_cmd f_r_xpt f_r_eth f_r_cel f_r_zl f_r_red f_r_flt f_r_pmu h6)) h4)); clear_value xh5; intro xh8; (try clear_value xh8); intro xh9; exact (closeSalvos_keeps f_cmd f_flt f_xpt f_red f_zl f_eng f_cel f_lease f_pmu f_out f_free f_r_cmd f_r_xpt f_r_eth f_r_cel f_r_zl f_r_red f_r_flt f_r_pmu (h7.set_xpt f_xpt)))

theorem commitDue_keeps {k s0 a1 a2 a3 a4} (f_cmd : k .cmd = false) (f_flt : k .flt = false) (f_xpt : k .xpt = false) (f_red : k .red = false) (f_aud : k .aud = false) (f_zl : k .zl = false) (f_eng : k .eng = false) (f_cel : k .cel = false) (f_lease : k .lease = false) (f_pmu : k .pmu = false) (f_out : k .out = false) (f_free : k .free = false) (f_r_cmd : k (.reg .cmd) = false) (f_r_xpt : k (.reg .xpt) = false) (f_r_eth : k (.reg .eth) = false) (f_r_aud : k (.reg .aud) = false) (f_r_cel : k (.reg .cel) = false) (f_r_zl : k (.reg .zl) = false) (f_r_red : k (.reg .red) = false) (f_r_flt : k (.reg .flt) = false) (f_r_pmu : k (.reg .pmu) = false) (k4 : Keeps k s0 a4) :
    Keeps k s0 (commitDue a1 a2 a3 a4) := by
  unfold commitDue
  exact (by lift_lets -underBinder; intro xh1; (try clear_value xh1); intro xh2; (try clear_value xh2); intro xh3; have h5 : Keeps k s0 xh3 := (by unfold xh3; exact (keep_each (fun _ _ h4 => (commitTake_keeps f_cmd f_flt f_xpt f_red f_zl f_eng f_cel f_lease f_pmu f_out f_free f_r_cmd f_r_xpt f_r_eth f_r_cel f_r_zl f_r_red f_r_flt f_r_pmu h4)) k4)); clear_value xh3; intro xh6; have h8 : Keeps k s0 xh6 := (by unfold xh6; exact (keep_each (fun _ _ h7 => (commitAud_keeps f_aud f_pmu f_r_aud f_r_pmu h7)) h5)); clear_value xh6; intro xh9; (try clear_value xh9); exact (keep_each (fun _ _ h10 => (by split; exact h10; exact (by lift_lets -underBinder; intro xh11; (try clear_value xh11); intro xh12; (try clear_value xh12); intro xh13; have h16 : Keeps k s0 xh13 := (by unfold xh13; exact (keep_each (fun _ _ h14 => (commitAud_keeps f_aud f_pmu f_r_aud f_r_pmu h14)) (keep_each (fun _ _ h15 => (commitTake_keeps f_cmd f_flt f_xpt f_red f_zl f_eng f_cel f_lease f_pmu f_out f_free f_r_cmd f_r_xpt f_r_eth f_r_cel f_r_zl f_r_red f_r_flt f_r_pmu h15)) h10))); clear_value xh13; intro xh17; intro xh18; have h19 : Keeps k s0 xh18 := (by unfold xh18; exact (h16.set_xpt f_xpt)); clear_value xh18; exact (takeLatency_keeps f_cmd f_flt f_xpt f_red f_zl f_eng f_cel f_lease f_pmu f_out f_free f_r_cmd f_r_xpt f_r_eth f_r_cel f_r_zl f_r_red f_r_flt f_r_pmu (State.count_keeps f_pmu f_r_pmu h19))))) h8))

theorem clearCadAlign_keeps {k s0 a1 a2} (f_xpt : k .xpt = false) (f_r_xpt : k (.reg .xpt) = false) (k2 : Keeps k s0 a2) :
    Keeps k s0 (clearCadAlign a1 a2) := by
  unfold clearCadAlign
  exact (keep_each (fun _ _ h1 => (by lift_lets -underBinder; intro xh2; have h3 : Keeps k s0 xh2 := (by unfold xh2; exact (State.p_keeps (.of f_r_xpt) h1)); intro xh4; exact (keep_ite (Keeps k s0) (h3.set_xpt f_xpt) h1))) k2)

theorem cancelCadOps_keeps {k s0 a1 a2} (f_cmd : k .cmd = false) (f_flt : k .flt = false) (f_xpt : k .xpt = false) (f_red : k .red = false) (f_zl : k .zl = false) (f_eng : k .eng = false) (f_cel : k .cel = false) (f_lease : k .lease = false) (f_pmu : k .pmu = false) (f_out : k .out = false) (f_free : k .free = false) (f_r_cmd : k (.reg .cmd) = false) (f_r_xpt : k (.reg .xpt) = false) (f_r_eth : k (.reg .eth) = false) (f_r_cel : k (.reg .cel) = false) (f_r_zl : k (.reg .zl) = false) (f_r_red : k (.reg .red) = false) (f_r_flt : k (.reg .flt) = false) (f_r_pmu : k (.reg .pmu) = false) (k2 : Keeps k s0 a2) :
    Keeps k s0 (cancelCadOps a1 a2) := by
  unfold cancelCadOps
  exact (keep_each (fun _ _ h1 => (by lift_lets -underBinder; intro xh2; have h3 : Keeps k s0 xh2 := (by unfold xh2; exact (State.count_keeps f_pmu f_r_pmu h1)); intro xh4; exact (finish_keeps f_cmd f_flt f_xpt f_red f_zl f_eng f_cel f_lease f_pmu f_out f_free f_r_cmd f_r_xpt f_r_eth f_r_cel f_r_zl f_r_red f_r_flt f_r_pmu (h3.set_xpt f_xpt)))) k2)

theorem cancelTakes_keeps {k s0 a1 a2} (f_cmd : k .cmd = false) (f_flt : k .flt = false) (f_xpt : k .xpt = false) (f_red : k .red = false) (f_aud : k .aud = false) (f_zl : k .zl = false) (f_eng : k .eng = false) (f_cel : k .cel = false) (f_lease : k .lease = false) (f_pmu : k .pmu = false) (f_out : k .out = false) (f_free : k .free = false) (f_r_cmd : k (.reg .cmd) = false) (f_r_xpt : k (.reg .xpt) = false) (f_r_eth : k (.reg .eth) = false) (f_r_aud : k (.reg .aud) = false) (f_r_cel : k (.reg .cel) = false) (f_r_zl : k (.reg .zl) = false) (f_r_red : k (.reg .red) = false) (f_r_flt : k (.reg .flt) = false) (f_r_pmu : k (.reg .pmu) = false) (k2 : Keeps k s0 a2) :
    KeepsQ k s0 (cancelTakes a1 a2) := by
  unfold cancelTakes
  exact (by lift_lets -underBinder; intro xh1; intro xh2; exact (endAuds_keeps f_cmd f_flt f_xpt f_red f_aud f_zl f_eng f_cel f_lease f_pmu f_out f_free f_r_cmd f_r_xpt f_r_eth f_r_aud f_r_cel f_r_zl f_r_red f_r_flt f_r_pmu (endTakes_keeps f_cmd f_flt f_xpt f_red f_zl f_eng f_cel f_lease f_pmu f_out f_free f_r_cmd f_r_xpt f_r_eth f_r_cel f_r_zl f_r_red f_r_flt f_r_pmu k2)))

theorem restampSkipped_keeps {k s0 a1 a2 a3 a4} (f_xpt : k .xpt = false) (f_aud : k .aud = false) (k4 : Keeps k s0 a4) :
    Keeps k s0 (restampSkipped a1 a2 a3 a4) := by
  unfold restampSkipped
  exact (by lift_lets -underBinder; intro xh1; (try clear_value xh1); intro xh2; (try clear_value xh2); intro xh3; intro xh4; intro xh5; intro xh6; intro xh7; exact (k4.set_many (by intro p hp; cases p <;> first | exact rfl | exact id | exact fun _ _ => rfl | simp [f_xpt, f_aud] at hp)))

theorem resolveAtLine_keeps {k s0 a1 a2} (f_cmd : k .cmd = false) (f_flt : k .flt = false) (f_xpt : k .xpt = false) (f_red : k .red = false) (f_aud : k .aud = false) (f_zl : k .zl = false) (f_eng : k .eng = false) (f_cel : k .cel = false) (f_lease : k .lease = false) (f_pmu : k .pmu = false) (f_out : k .out = false) (f_free : k .free = false) (f_r_cmd : k (.reg .cmd) = false) (f_r_xpt : k (.reg .xpt) = false) (f_r_eth : k (.reg .eth) = false) (f_r_cel : k (.reg .cel) = false) (f_r_zl : k (.reg .zl) = false) (f_r_red : k (.reg .red) = false) (f_r_flt : k (.reg .flt) = false) (f_r_pmu : k (.reg .pmu) = false) (k2 : Keeps k s0 a2) :
    KeepsQ k s0 (resolveAtLine a1 a2) := by
  unfold resolveAtLine
  exact (by lift_lets -underBinder; intro xh1; (try clear_value xh1); intro xh2; (try clear_value xh2); intro xh3; (try clear_value xh3); intro xh4; (try clear_value xh4); intro xh5; (try clear_value xh5); intro xh6; have h7 : Keeps k s0 xh6 := (by unfold xh6; exact (announcePoint_keeps f_cmd f_flt f_xpt f_red f_zl f_eng f_cel f_lease f_pmu f_out f_free f_r_cmd f_r_xpt f_r_eth f_r_cel f_r_zl f_r_red f_r_flt f_r_pmu (resolvePoint_keeps f_xpt f_aud k2))); clear_value xh6; exact (keep_ite (KeepsQ k s0) (keep_ite (KeepsQ k s0) (State.count_keeps f_pmu f_r_pmu (State.bump_keeps (.of f_r_xpt) h7)) k2) (keep_ite (KeepsQ k s0) (resolvePoint_keeps f_xpt f_aud k2) k2)))

theorem cancelSalvos_keeps {k s0 a1 a2} (f_cmd : k .cmd = false) (f_flt : k .flt = false) (f_xpt : k .xpt = false) (f_red : k .red = false) (f_aud : k .aud = false) (f_zl : k .zl = false) (f_eng : k .eng = false) (f_cel : k .cel = false) (f_lease : k .lease = false) (f_pmu : k .pmu = false) (f_out : k .out = false) (f_free : k .free = false) (f_r_cmd : k (.reg .cmd) = false) (f_r_xpt : k (.reg .xpt) = false) (f_r_eth : k (.reg .eth) = false) (f_r_aud : k (.reg .aud) = false) (f_r_cel : k (.reg .cel) = false) (f_r_zl : k (.reg .zl) = false) (f_r_red : k (.reg .red) = false) (f_r_flt : k (.reg .flt) = false) (f_r_pmu : k (.reg .pmu) = false) (k2 : Keeps k s0 a2) :
    Keeps k s0 (cancelSalvos a1 a2) := by
  unfold cancelSalvos
  exact (keep_each (fun _ _ h1 => (by lift_lets -underBinder; intro xh2; (try clear_value xh2); intro xh3; have h4 : Keeps k s0 xh3 := (by unfold xh3; exact (endAuds_keeps f_cmd f_flt f_xpt f_red f_aud f_zl f_eng f_cel f_lease f_pmu f_out f_free f_r_cmd f_r_xpt f_r_eth f_r_aud f_r_cel f_r_zl f_r_red f_r_flt f_r_pmu (endTakes_keeps f_cmd f_flt f_xpt f_red f_zl f_eng f_cel f_lease f_pmu f_out f_free f_r_cmd f_r_xpt f_r_eth f_r_cel f_r_zl f_r_red f_r_flt f_r_pmu h1))); clear_value xh3; intro xh5; intro xh6; have h7 : Keeps k s0 xh6 := (by unfold xh6; exact (h4.set_xpt f_xpt)); clear_value xh6; exact (by split; exact (finish_keeps f_cmd f_flt f_xpt f_red f_zl f_eng f_cel f_lease f_pmu f_out f_free f_r_cmd f_r_xpt f_r_eth f_r_cel f_r_zl f_r_red f_r_flt f_r_pmu (State.count_keeps f_pmu f_r_pmu h7)); exact h7))) k2)

theorem markWrote_keeps {k s0 a1 a2} (f_red : k .red = false) (k2 : Keeps k s0 a2) :
    Keeps k s0 (markWrote a1 a2) := by
  unfold markWrote
  exact (by split; exact (by lift_lets -underBinder; intro xh1; exact (k2.set_red f_red rfl (.inr rfl))); exact k2)

theorem srWake_keeps {k s0 a1} (f_cel : k .cel = false) (f_r_cel : k (.reg .cel) = false) (k1 : Keeps k s0 a1) :
    Keeps k s0 (srWake a1) := by
  unfold srWake
  exact (by lift_lets -underBinder; intro xh1; have h2 : Keeps k s0 xh1 := (by unfold xh1; exact (State.p_keeps (.of f_r_cel) k1)); intro xh3; exact (keep_ite (Keeps k s0) (h2.set_cel f_cel rfl) k1))

theorem celHoldReq_keeps {k s0 a1 a2} (f_cel : k .cel = false) (f_r_cel : k (.reg .cel) = false) (k2 : Keeps k s0 a2) :
    Keeps k s0 (celHoldReq a1 a2) := by
  unfold celHoldReq
  exact (by lift_lets -underBinder; intro xh1; exact (srWake_keeps f_cel f_r_cel (k2.set_cel f_cel rfl)))

theorem touchRow_keeps {k s0 a1 a2} (f_cel : k .cel = false) (f_pmu : k .pmu = false) (f_r_pmu : k (.reg .pmu) = false) (k2 : Keeps k s0 a2) :
    Keeps k s0 (touchRow a1 a2) := by
  unfold touchRow
  exact (by lift_lets -underBinder; intro xh1; intro xh2; (try clear_value xh2); intro xh3; (try clear_value xh3); intro xh4; (try clear_value xh4); intro xh5; (try clear_value xh5); intro xh6; exact (State.count_keeps f_pmu f_r_pmu (k2.set_cel f_cel rfl)))

theorem celTouch_keeps {k s0 a1 a2 a3} (f_cel : k .cel = false) (f_pmu : k .pmu = false) (f_r_cel : k (.reg .cel) = false) (f_r_pmu : k (.reg .pmu) = false) (k3 : Keeps k s0 a3) :
    Keeps k s0 (celTouch a1 a2 a3) := by
  unfold celTouch
  exact (by lift_lets -underBinder; intro xh1; intro xh2; have h3 : Keeps k s0 xh2 := (by unfold xh2; exact (keep_ite (Keeps k s0) k3 (srWake_keeps f_cel f_r_cel (k3.set_cel f_cel rfl)))); clear_value xh2; exact (keep_each (fun _ _ h4 => (touchRow_keeps f_cel f_pmu f_r_pmu h4)) (State.count_keeps f_pmu f_r_pmu (State.count_keeps f_pmu f_r_pmu h3))))

theorem celPut_keeps {k s0 a1 a2 a3 a4}  (f_cel : k .cel = false) (f_mem : k .mem = false) (f_pmu : k .pmu = false) (f_r_cel : k (.reg .cel) = false) (f_r_pmu : k (.reg .pmu) = false) (k4 : Keeps k s0 a4) :
    Keeps k s0 (celPut a1 a2 a3 a4) := by
  have hm : ∀ (l : List (Nat × Byte)) g, Memory.wf a4.cel.mem = true →
      Memory.wf (l.foldl (fun m x => memPut m (celLoc g (a2 + x.1)) x.2) a4.cel.mem) = true := fun l g h =>
    keep_foldl (fun m => Memory.wf m = true) (fun _ _ h => memPut_wf h) h
  unfold celPut
  exact keep_ite (Keeps k s0) (celTouch_keeps f_cel f_pmu f_r_cel f_r_pmu (k4.set_mem f_cel f_mem (hm _ _)))
    (State.p_keeps (.of f_r_cel) (celTouch_keeps f_cel f_pmu f_r_cel f_r_pmu (k4.set_mem f_cel f_mem (hm _ _))))

theorem celStore_keeps {k s0 a1 a2 a3 a4} (f_cel : k .cel = false) (f_mem : k .mem = false) (f_pmu : k .pmu = false) (f_r_cel : k (.reg .cel) = false) (f_r_pmu : k (.reg .pmu) = false) (k4 : Keeps k s0 a4) :
    Keeps k s0 (celStore a1 a2 a3 a4) := by
  unfold celStore
  exact (keep_ite (Keeps k s0) (celHoldReq_keeps f_cel f_r_cel k4) (celPut_keeps f_cel f_mem f_pmu f_r_cel f_r_pmu k4))

theorem celWrite_keeps {k s0 a1 a2 a3 a4} (f_red : k .red = false) (f_cel : k .cel = false) (f_mem : k .mem = false) (f_pmu : k .pmu = false) (f_r_cel : k (.reg .cel) = false) (f_r_pmu : k (.reg .pmu) = false) (k4 : Keeps k s0 a4) :
    Keeps k s0 (celWrite a1 a2 a3 a4) := by
  unfold celWrite
  exact (markWrote_keeps f_red (celStore_keeps f_cel f_mem f_pmu f_r_cel f_r_pmu k4))

theorem celError_keeps {k s0 a1 a2 a3 a4} (f_cmd : k .cmd = false) (f_flt : k .flt = false) (f_xpt : k .xpt = false) (f_red : k .red = false) (f_zl : k .zl = false) (f_eng : k .eng = false) (f_cel : k .cel = false) (f_lease : k .lease = false) (f_pmu : k .pmu = false) (f_out : k .out = false) (f_free : k .free = false) (f_r_cmd : k (.reg .cmd) = false) (f_r_xpt : k (.reg .xpt) = false) (f_r_eth : k (.reg .eth) = false) (f_r_cel : k (.reg .cel) = false) (f_r_zl : k (.reg .zl) = false) (f_r_red : k (.reg .red) = false) (f_r_flt : k (.reg .flt) = false) (f_r_pmu : k (.reg .pmu) = false) (k4 : Keeps k s0 a4) :
    Keeps k s0 (celError a1 a2 a3 a4) := by
  unfold celError
  exact (by lift_lets -underBinder; intro xh1; (try clear_value xh1); intro xh2; (try clear_value xh2); intro xh3; (try clear_value xh3); intro xh4; have h5 : Keeps k s0 xh4 := (by unfold xh4; exact (State.count_keeps f_pmu f_r_pmu (State.bump_keeps (.of f_r_cel) k4))); clear_value xh4; intro xh6; have h7 : Keeps k s0 xh6 := (by unfold xh6; exact (keep_ite (Keeps k s0) h5 (State.wr_keeps (.of f_r_cel) (State.wr_keeps (.of f_r_cel) h5)))); clear_value xh6; intro xh8; have h9 : Keeps k s0 xh8 := (by unfold xh8; exact (State.count_keeps f_pmu f_r_pmu (State.bump_keeps (.of f_r_cel) k4))); clear_value xh8; intro xh10; have h11 : Keeps k s0 xh10 := (by unfold xh10; exact (keep_ite (Keeps k s0) h9 (State.wr_keeps (.of f_r_cel) (State.wr_keeps (.of f_r_cel) h9)))); clear_value xh10; exact (keep_ite (Keeps k s0) (occur_keeps f_cmd f_flt f_xpt f_red f_zl f_eng f_cel f_lease f_pmu f_out f_free f_r_cmd f_r_xpt f_r_eth f_r_cel f_r_zl f_r_red f_r_flt f_r_pmu h7) (occur_keeps f_cmd f_flt f_xpt f_red f_zl f_eng f_cel f_lease f_pmu f_out f_free f_r_cmd f_r_xpt f_r_eth f_r_cel f_r_zl f_r_red f_r_flt f_r_pmu h11)))

theorem celRead_keeps {k s0 a1 a2 a3 a4} (f_cmd : k .cmd = false) (f_flt : k .flt = false) (f_xpt : k .xpt = false) (f_red : k .red = false) (f_zl : k .zl = false) (f_eng : k .eng = false) (f_cel : k .cel = false) (f_lease : k .lease = false) (f_pmu : k .pmu = false) (f_out : k .out = false) (f_free : k .free = false) (f_r_cmd : k (.reg .cmd) = false) (f_r_xpt : k (.reg .xpt) = false) (f_r_eth : k (.reg .eth) = false) (f_r_cel : k (.reg .cel) = false) (f_r_zl : k (.reg .zl) = false) (f_r_red : k (.reg .red) = false) (f_r_flt : k (.reg .flt) = false) (f_r_pmu : k (.reg .pmu) = false) (k4 : Keeps k s0 a4) :
    KeepsT k s0 (celRead a1 a2 a3 a4) := by
  unfold celRead
  exact (by lift_lets -underBinder; intro xh1; (try clear_value xh1); intro xh2; have h4 : Keeps k s0 xh2 := (by unfold xh2; exact (keep_each (fun _ _ h3 => (by split; exact h3; exact (celError_keeps f_cmd f_flt f_xpt f_red f_zl f_eng f_cel f_lease f_pmu f_out f_free f_r_cmd f_r_xpt f_r_eth f_r_cel f_r_zl f_r_red f_r_flt f_r_pmu h3); exact (celError_keeps f_cmd f_flt f_xpt f_red f_zl f_eng f_cel f_lease f_pmu f_out f_free f_r_cmd f_r_xpt f_r_eth f_r_cel f_r_zl f_r_red f_r_flt f_r_pmu h3))) (celTouch_keeps f_cel f_pmu f_r_cel f_r_pmu k4))); clear_value xh2; exact h4)

theorem wakeBus_keeps {k s0 a1 a2} (f_pmu : k .pmu = false) (f_r_pmu : k (.reg .pmu) = false) (f_r_noc : k (.reg .noc) = false) (k2 : Keeps k s0 a2) :
    Keeps k s0 (wakeBus a1 a2) := by
  unfold wakeBus
  exact (wakePort_keeps f_pmu f_r_pmu f_r_noc (wakePort_keeps f_pmu f_r_pmu f_r_noc k2))

theorem denyWrite_keeps {k s0 a1 a2} (f_pmu : k .pmu = false) (f_r_hif : k (.reg .hif) = false) (f_r_pmu : k (.reg .pmu) = false) (k2 : Keeps k s0 a2) :
    Keeps k s0 (denyWrite a1 a2) := by
  unfold denyWrite
  exact (keep_ite (Keeps k s0) k2 (State.count_keeps f_pmu f_r_pmu (State.bump_keeps (.of f_r_hif) k2)))

theorem gate_keeps {k s0 a1 a2 a3 a4} (f_pmu : k .pmu = false) (f_r_hif : k (.reg .hif) = false) (f_r_pmu : k (.reg .pmu) = false) (f_r_noc : k (.reg .noc) = false) (k3 : ∀ x0, Keeps k s0 x0 → Keeps k s0 (a3 x0)) (k4 : Keeps k s0 a4) :
    Keeps k s0 (gate a1 a2 a3 a4) := by
  unfold gate
  exact (by lift_lets -underBinder; intro xh1; have h2 : Keeps k s0 xh1 := (by unfold xh1; exact (wakeBus_keeps f_pmu f_r_pmu f_r_noc k4)); clear_value xh1; exact (by split; exact (keep_ite (Keeps k s0) (keep_ite (Keeps k s0) h2 (k3 _ h2)) (denyWrite_keeps f_pmu f_r_hif f_r_pmu h2)); exact (keep_ite (Keeps k s0) h2 (k3 _ h2))))

theorem gatePage_keeps {k s0 a1 a2 a3 a4 a5} (f_pmu : k .pmu = false) (f_r_hif : k (.reg .hif) = false) (f_r_pmu : k (.reg .pmu) = false) (f_r_noc : k (.reg .noc) = false) (k4 : ∀ x0, Keeps k s0 x0 → Keeps k s0 (a4 x0)) (k5 : Keeps k s0 a5) :
    Keeps k s0 (gatePage a1 a2 a3 a4 a5) := by
  unfold gatePage
  exact (by lift_lets -underBinder; intro xh1; subst xh1; intro xh2; have h3 : Keeps k s0 xh2 := (by unfold xh2; exact (wakeBus_keeps f_pmu f_r_pmu f_r_noc k5)); clear_value xh2; exact (by split; exact (keep_ite (Keeps k s0) (keep_ite (Keeps k s0) h3 (k4 _ h3)) (denyWrite_keeps f_pmu f_r_hif f_r_pmu h3)); exact (keep_ite (Keeps k s0) h3 (k4 _ h3))))

theorem wakeBulk_keeps {k s0 a1 a2} (f_pmu : k .pmu = false) (f_r_pmu : k (.reg .pmu) = false) (f_r_noc : k (.reg .noc) = false) (k2 : Keeps k s0 a2) :
    Keeps k s0 (wakeBulk a1 a2) := by
  unfold wakeBulk
  exact (wakePort_keeps f_pmu f_r_pmu f_r_noc (wakePort_keeps f_pmu f_r_pmu f_r_noc k2))

theorem updateOver_keeps {k s0 a1} (f_cmd : k .cmd = false) (f_flt : k .flt = false) (f_xpt : k .xpt = false) (f_red : k .red = false) (f_zl : k .zl = false) (f_eng : k .eng = false) (f_cel : k .cel = false) (f_lease : k .lease = false) (f_pmu : k .pmu = false) (f_out : k .out = false) (f_free : k .free = false) (f_r_cmd : k (.reg .cmd) = false) (f_r_xpt : k (.reg .xpt) = false) (f_r_eth : k (.reg .eth) = false) (f_r_cel : k (.reg .cel) = false) (f_r_zl : k (.reg .zl) = false) (f_r_red : k (.reg .red) = false) (f_r_flt : k (.reg .flt) = false) (f_r_pmu : k (.reg .pmu) = false) (k1 : Keeps k s0 a1) :
    Keeps k s0 (updateOver a1) := by
  unfold updateOver
  exact (by lift_lets -underBinder; intro xh1; (try clear_value xh1); exact (level_keeps f_cmd f_flt f_xpt f_red f_zl f_eng f_cel f_lease f_pmu f_out f_free f_r_cmd f_r_xpt f_r_eth f_r_cel f_r_zl f_r_red f_r_flt f_r_pmu (keep_when (fun _ h2 => (State.count_keeps f_pmu f_r_pmu h2)) (State.p_keeps (.of f_r_cel) k1))))

theorem State.write_keeps {k s0 a1 a2 a3 a4} (g2 : RegFree k a2) (k1 : Keeps k s0 a1) :
    Keeps k s0 (State.write a1 a2 a3 a4) := by
  unfold State.write
  exact (State.wr_keeps g2 k1)

theorem charge_keeps {k s0 a1 a2 a3} (f_cmd : k .cmd = false) (f_flt : k .flt = false) (f_xpt : k .xpt = false) (f_red : k .red = false) (f_zl : k .zl = false) (f_eng : k .eng = false) (f_cel : k .cel = false) (f_lease : k .lease = false) (f_pmu : k .pmu = false) (f_out : k .out = false) (f_free : k .free = false) (f_r_cmd : k (.reg .cmd) = false) (f_r_xpt : k (.reg .xpt) = false) (f_r_eth : k (.reg .eth) = false) (f_r_cel : k (.reg .cel) = false) (f_r_zl : k (.reg .zl) = false) (f_r_red : k (.reg .red) = false) (f_r_flt : k (.reg .flt) = false) (f_r_pmu : k (.reg .pmu) = false) (k3 : Keeps k s0 a3) :
    Keeps k s0 (charge a1 a2 a3) := by
  unfold charge
  exact (by lift_lets -underBinder; intro xh1; (try clear_value xh1); exact (keep_ite (Keeps k s0) k3 (updateOver_keeps f_cmd f_flt f_xpt f_red f_zl f_eng f_cel f_lease f_pmu f_out f_free f_r_cmd f_r_xpt f_r_eth f_r_cel f_r_zl f_r_red f_r_flt f_r_pmu (keep_when (fun _ h2 => (srWake_keeps f_cel f_r_cel h2)) (State.p_keeps (.of f_r_cel) k3)))))

theorem gateUnit_keeps {k s0 a1 a2 a3 a4} (f_pmu : k .pmu = false) (f_r_hif : k (.reg .hif) = false) (f_r_pmu : k (.reg .pmu) = false) (f_r_noc : k (.reg .noc) = false) (k3 : ∀ x0, Keeps k s0 x0 → Keeps k s0 (a3 x0)) (k4 : Keeps k s0 a4) :
    Keeps k s0 (gateUnit a1 a2 a3 a4) := by
  unfold gateUnit
  exact (gate_keeps f_pmu f_r_hif f_r_pmu f_r_noc (fun _ h1 => (keep_ite (Keeps k s0) h1 (k3 _ h1))) k4)

theorem execFixedLatencyStart_keeps {k s0 a1 a2 a3} (f_xpt : k .xpt = false) (f_r_xpt : k (.reg .xpt) = false) (k3 : Keeps k s0 a3) :
    KeepsOut k s0 (execFixedLatencyStart a1 a2 a3) := by
  unfold execFixedLatencyStart
  exact (by lift_lets -underBinder; intro xh1; have h2 : Keeps k s0 xh1 := (by unfold xh1; exact (State.p_keeps (.of f_r_xpt) (State.p_keeps (.of f_r_xpt) k3))); clear_value xh1; intro xh3; exact (KeepsOut.next (keep_ite (Keeps k s0) (h2.set_xpt f_xpt) k3)))

theorem execProbeCapture_keeps {k s0 a1 a2 a3 a4 a5 a6} (f_pmu : k .pmu = false) (f_r_xpt : k (.reg .xpt) = false) (f_r_pmu : k (.reg .pmu) = false) (k6 : Keeps k s0 a6) :
    KeepsOut k s0 (execProbeCapture a1 a2 a3 a4 a5 a6) := by
  unfold execProbeCapture
  exact (KeepsOut.next (by split; exact (by lift_lets -underBinder; intro xh1; have h3 : Keeps k s0 xh1 := (by unfold xh1; exact (keep_each (fun _ _ h2 => (State.wr_keeps (.of f_r_xpt) h2)) k6)); clear_value xh1; intro xh4; (try clear_value xh4); intro xh5; have h6 : Keeps k s0 xh5 := (by unfold xh5; exact (State.wr_keeps (.of f_r_xpt) h3)); clear_value xh5; exact (keep_ite (Keeps k s0) (State.count_keeps f_pmu f_r_pmu (State.p_keeps (.of f_r_xpt) (State.p_keeps (.of f_r_xpt) h6))) k6)); exact k6))

theorem writeXing_keeps {k s0 a1 a2} (f_xpt : k .xpt = false) (f_r_xpt : k (.reg .xpt) = false) (k2 : Keeps k s0 a2) :
    Keeps k s0 (writeXing a1 a2) := by
  unfold writeXing
  exact (by lift_lets -underBinder; intro xh1; (try clear_value xh1); intro xh2; have h3 : Keeps k s0 xh2 := (by unfold xh2; exact (State.p_keeps (.of f_r_xpt) k2)); clear_value xh2; intro xh4; (try clear_value xh4); intro xh5; have h6 : Keeps k s0 xh5 := (by unfold xh5; exact (State.p_keeps (.of f_r_xpt) h3)); clear_value xh5; intro xh7; intro xh8; have h9 : Keeps k s0 xh8 := (by unfold xh8; exact (State.p_keeps (.of f_r_xpt) h3)); clear_value xh8; intro xh10; exact (keep_ite (Keeps k s0) (h6.set_xpt f_xpt) (h9.set_xpt f_xpt)))

theorem genWaits_keeps {k s0 a1 a2} (f_xpt : k .xpt = false) (k2 : Keeps k s0 a2) :
    Keeps k s0 (genWaits a1 a2) := by
  unfold genWaits
  exact (by lift_lets -underBinder; intro xh1; (try clear_value xh1); intro xh2; (try clear_value xh2); intro xh3; exact (k2.set_xpt f_xpt))

theorem writeGenCfg_keeps {k s0 a1 a2 a3} (f_cmd : k .cmd = false) (f_flt : k .flt = false) (f_xpt : k .xpt = false) (f_red : k .red = false) (f_zl : k .zl = false) (f_eng : k .eng = false) (f_cel : k .cel = false) (f_lease : k .lease = false) (f_pmu : k .pmu = false) (f_out : k .out = false) (f_free : k .free = false) (f_r_cmd : k (.reg .cmd) = false) (f_r_xpt : k (.reg .xpt) = false) (f_r_eth : k (.reg .eth) = false) (f_r_cel : k (.reg .cel) = false) (f_r_zl : k (.reg .zl) = false) (f_r_red : k (.reg .red) = false) (f_r_flt : k (.reg .flt) = false) (f_r_pmu : k (.reg .pmu) = false) (k3 : Keeps k s0 a3) :
    Keeps k s0 (writeGenCfg a1 a2 a3) := by
  unfold writeGenCfg
  exact (by lift_lets -underBinder; intro xh1; (try clear_value xh1); intro xh2; (try clear_value xh2); exact (keep_ite (Keeps k s0) k3 (keep_ite (Keeps k s0) (State.p_keeps (.of f_r_xpt) k3) (keep_ite (Keeps k s0) (State.count_keeps f_pmu f_r_pmu (State.p_keeps (.of f_r_xpt) k3)) (genWaits_keeps f_xpt (charge_keeps f_cmd f_flt f_xpt f_red f_zl f_eng f_cel f_lease f_pmu f_out f_free f_r_cmd f_r_xpt f_r_eth f_r_cel f_r_zl f_r_red f_r_flt f_r_pmu (State.write_keeps (.of f_r_xpt) k3)))))))

theorem execGenCfgWrite_keeps {k s0 a1 a2 a3 a4} (f_cmd : k .cmd = false) (f_flt : k .flt = false) (f_xpt : k .xpt = false) (f_red : k .red = false) (f_zl : k .zl = false) (f_eng : k .eng = false) (f_cel : k .cel = false) (f_lease : k .lease = false) (f_pmu : k .pmu = false) (f_out : k .out = false) (f_free : k .free = false) (f_r_hif : k (.reg .hif) = false) (f_r_cmd : k (.reg .cmd) = false) (f_r_xpt : k (.reg .xpt) = false) (f_r_eth : k (.reg .eth) = false) (f_r_cel : k (.reg .cel) = false) (f_r_zl : k (.reg .zl) = false) (f_r_red : k (.reg .red) = false) (f_r_flt : k (.reg .flt) = false) (f_r_pmu : k (.reg .pmu) = false) (f_r_noc : k (.reg .noc) = false) (k4 : Keeps k s0 a4) :
    KeepsOut k s0 (execGenCfgWrite a1 a2 a3 a4) := by
  unfold execGenCfgWrite
  exact (KeepsOut.next (gate_keeps f_pmu f_r_hif f_r_pmu f_r_noc (fun _ h1 => (writeGenCfg_keeps f_cmd f_flt f_xpt f_red f_zl f_eng f_cel f_lease f_pmu f_out f_free f_r_cmd f_r_xpt f_r_eth f_r_cel f_r_zl f_r_red f_r_flt f_r_pmu h1)) k4))

theorem writeProbe_keeps {k s0 a1 a2} (f_xpt : k .xpt = false) (f_r_xpt : k (.reg .xpt) = false) (k2 : Keeps k s0 a2) :
    Keeps k s0 (writeProbe a1 a2) := by
  unfold writeProbe
  exact (by lift_lets -underBinder; intro xh1; (try clear_value xh1); intro xh2; have h3 : Keeps k s0 xh2 := (by unfold xh2; exact (State.write_keeps (.of f_r_xpt) k2)); clear_value xh2; intro xh4; have h5 : Keeps k s0 xh4 := (by unfold xh4; exact (State.p_keeps (.of f_r_xpt) h3)); intro xh6; exact (keep_ite (Keeps k s0) (State.p_keeps (.of f_r_xpt) k2) (keep_ite (Keeps k s0) (h5.set_xpt f_xpt) h3)))

theorem execProbeArm_keeps {k s0 a1 a2 a3} (f_xpt : k .xpt = false) (f_pmu : k .pmu = false) (f_r_hif : k (.reg .hif) = false) (f_r_xpt : k (.reg .xpt) = false) (f_r_pmu : k (.reg .pmu) = false) (f_r_noc : k (.reg .noc) = false) (k3 : Keeps k s0 a3) :
    KeepsOut k s0 (execProbeArm a1 a2 a3) := by
  unfold execProbeArm
  exact (KeepsOut.next (gateUnit_keeps f_pmu f_r_hif f_r_pmu f_r_noc (fun _ h1 => (writeProbe_keeps f_xpt f_r_xpt h1)) k3))

theorem execGenClrRepeats_keeps {k s0 a1 a2 a3 a4} (f_pmu : k .pmu = false) (f_r_hif : k (.reg .hif) = false) (f_r_xpt : k (.reg .xpt) = false) (f_r_pmu : k (.reg .pmu) = false) (f_r_noc : k (.reg .noc) = false) (k4 : Keeps k s0 a4) :
    KeepsOut k s0 (execGenClrRepeats a1 a2 a3 a4) := by
  unfold execGenClrRepeats
  exact (KeepsOut.next (gate_keeps f_pmu f_r_hif f_r_pmu f_r_noc (fun _ h1 => (keep_when (fun _ h2 => (State.p_keeps (.of f_r_xpt) h2)) (State.write_keeps (.of f_r_xpt) h1))) k4))

theorem execBusParityError_keeps {k s0 a1 a2} (f_cmd : k .cmd = false) (f_flt : k .flt = false) (f_xpt : k .xpt = false) (f_red : k .red = false) (f_zl : k .zl = false) (f_eng : k .eng = false) (f_cel : k .cel = false) (f_lease : k .lease = false) (f_pmu : k .pmu = false) (f_out : k .out = false) (f_free : k .free = false) (f_r_cmd : k (.reg .cmd) = false) (f_r_xpt : k (.reg .xpt) = false) (f_r_eth : k (.reg .eth) = false) (f_r_cel : k (.reg .cel) = false) (f_r_zl : k (.reg .zl) = false) (f_r_red : k (.reg .red) = false) (f_r_flt : k (.reg .flt) = false) (f_r_pmu : k (.reg .pmu) = false) (k2 : Keeps k s0 a2) :
    KeepsOut k s0 (execBusParityError a1 a2) := by
  unfold execBusParityError
  exact (KeepsOut.next (occur_keeps f_cmd f_flt f_xpt f_red f_zl f_eng f_cel f_lease f_pmu f_out f_free f_r_cmd f_r_xpt f_r_eth f_r_cel f_r_zl f_r_red f_r_flt f_r_pmu (State.count_keeps f_pmu f_r_pmu (State.p_keeps (.of f_r_xpt) k2))))

theorem refuseLayout_keeps {k s0 a1 a2 a3 a4 a5} (f_pmu : k .pmu = false) (f_r_xpt : k (.reg .xpt) = false) (f_r_pmu : k (.reg .pmu) = false) (k5 : Keeps k s0 a5) :
    Keeps k s0 (refuseLayout a1 a2 a3 a4 a5) := by
  unfold refuseLayout
  exact (by lift_lets -underBinder; intro xh1; have h3 : Keeps k s0 xh1 := (by unfold xh1; exact (keep_when (fun _ h2 => (State.p_keeps (.of f_r_xpt) h2)) k5)); clear_value xh1; intro xh4; have h6 : Keeps k s0 xh4 := (by unfold xh4; exact (keep_when (fun _ h5 => (State.p_keeps (.of f_r_xpt) h5)) h3)); clear_value xh4; exact (State.count_keeps f_pmu f_r_pmu (State.p_keeps (.of f_r_xpt) (State.p_keeps (.of f_r_xpt) h6))))

theorem writeDstLayout_keeps {k s0 a1 a2 a3} (f_pmu : k .pmu = false) (f_r_xpt : k (.reg .xpt) = false) (f_r_pmu : k (.reg .pmu) = false) (k3 : Keeps k s0 a3) :
    Keeps k s0 (writeDstLayout a1 a2 a3) := by
  unfold writeDstLayout
  exact (by lift_lets -underBinder; intro xh1; (try clear_value xh1); intro xh2; (try clear_value xh2); exact (keep_ite (Keeps k s0) k3 (keep_ite (Keeps k s0) (refuseLayout_keeps f_pmu f_r_xpt f_r_pmu k3) (State.wr_keeps (.of f_r_xpt) k3))))

theorem execDstLayoutWrite_keeps {k s0 a1 a2 a3 a4} (f_pmu : k .pmu = false) (f_r_hif : k (.reg .hif) = false) (f_r_xpt : k (.reg .xpt) = false) (f_r_pmu : k (.reg .pmu) = false) (f_r_noc : k (.reg .noc) = false) (k4 : Keeps k s0 a4) :
    KeepsOut k s0 (execDstLayoutWrite a1 a2 a3 a4) := by
  unfold execDstLayoutWrite
  exact (KeepsOut.next (gate_keeps f_pmu f_r_hif f_r_pmu f_r_noc (fun _ h1 => (writeDstLayout_keeps f_pmu f_r_xpt f_r_pmu h1)) k4))

theorem execGenCfgApply_keeps {k s0 a1 a2} (f_xpt : k .xpt = false) (k2 : Keeps k s0 a2) :
    KeepsOut k s0 (execGenCfgApply a1 a2) := by
  unfold execGenCfgApply
  exact (KeepsOut.next (by split; exact k2; exact (by lift_lets -underBinder; intro xh1; (try clear_value xh1); intro xh2; (try clear_value xh2); intro xh3; (try clear_value xh3); intro xh4; exact (keep_ite (Keeps k s0) (k2.set_xpt f_xpt) k2))))

theorem execProbeCancel_keeps {k s0 a1 a2 a3} (f_xpt : k .xpt = false) (f_pmu : k .pmu = false) (f_r_hif : k (.reg .hif) = false) (f_r_xpt : k (.reg .xpt) = false) (f_r_pmu : k (.reg .pmu) = false) (f_r_noc : k (.reg .noc) = false) (k3 : Keeps k s0 a3) :
    KeepsOut k s0 (execProbeCancel a1 a2 a3) := by
  unfold execProbeCancel
  exact (KeepsOut.next (gateUnit_keeps f_pmu f_r_hif f_r_pmu f_r_noc (fun _ h1 => (writeProbe_keeps f_xpt f_r_xpt h1)) k3))

theorem execSelParityError_keeps {k s0 a1 a2} (f_cmd : k .cmd = false) (f_flt : k .flt = false) (f_xpt : k .xpt = false) (f_red : k .red = false) (f_zl : k .zl = false) (f_eng : k .eng = false) (f_cel : k .cel = false) (f_lease : k .lease = false) (f_pmu : k .pmu = false) (f_out : k .out = false) (f_free : k .free = false) (f_r_cmd : k (.reg .cmd) = false) (f_r_xpt : k (.reg .xpt) = false) (f_r_eth : k (.reg .eth) = false) (f_r_cel : k (.reg .cel) = false) (f_r_zl : k (.reg .zl) = false) (f_r_red : k (.reg .red) = false) (f_r_flt : k (.reg .flt) = false) (f_r_pmu : k (.reg .pmu) = false) (k2 : Keeps k s0 a2) :
    KeepsOut k s0 (execSelParityError a1 a2) := by
  unfold execSelParityError
  exact (KeepsOut.next (occur_keeps f_cmd f_flt f_xpt f_red f_zl f_eng f_cel f_lease f_pmu f_out f_free f_r_cmd f_r_xpt f_r_eth f_r_cel f_r_zl f_r_red f_r_flt f_r_pmu (State.count_keeps f_pmu f_r_pmu k2)))

theorem execXingModeWrite_keeps {k s0 a1 a2 a3} (f_xpt : k .xpt = false) (f_pmu : k .pmu = false) (f_r_hif : k (.reg .hif) = false) (f_r_xpt : k (.reg .xpt) = false) (f_r_pmu : k (.reg .pmu) = false) (f_r_noc : k (.reg .noc) = false) (k3 : Keeps k s0 a3) :
    KeepsOut k s0 (execXingModeWrite a1 a2 a3) := by
  unfold execXingModeWrite
  exact (KeepsOut.next (gate_keeps f_pmu f_r_hif f_r_pmu f_r_noc (fun _ h1 => (writeXing_keeps f_xpt f_r_xpt h1)) k3))

theorem execXingFallback_keeps {k s0 a1 a2} (f_cmd : k .cmd = false) (f_flt : k .flt = false) (f_xpt : k .xpt = false) (f_red : k .red = false) (f_zl : k .zl = false) (f_eng : k .eng = false) (f_cel : k .cel = false) (f_lease : k .lease = false) (f_pmu : k .pmu = false) (f_out : k .out = false) (f_free : k .free = false) (f_r_cmd : k (.reg .cmd) = false) (f_r_xpt : k (.reg .xpt) = false) (f_r_eth : k (.reg .eth) = false) (f_r_cel : k (.reg .cel) = false) (f_r_zl : k (.reg .zl) = false) (f_r_red : k (.reg .red) = false) (f_r_flt : k (.reg .flt) = false) (f_r_pmu : k (.reg .pmu) = false) (k2 : Keeps k s0 a2) :
    KeepsOut k s0 (execXingFallback a1 a2) := by
  unfold execXingFallback
  exact (by lift_lets -underBinder; intro xh1; intro xh2; have h3 : Keeps k s0 xh2 := (by unfold xh2; exact (k2.set_xpt f_xpt)); clear_value xh2; intro xh4; have h5 : Keeps k s0 xh4 := (by unfold xh4; exact (State.p_keeps (.of f_r_zl) (State.p_keeps (.of f_r_xpt) h3))); clear_value xh4; exact (KeepsOut.next (keep_ite (Keeps k s0) (occur_keeps f_cmd f_flt f_xpt f_red f_zl f_eng f_cel f_lease f_pmu f_out f_free f_r_cmd f_r_xpt f_r_eth f_r_cel f_r_zl f_r_red f_r_flt f_r_pmu (State.count_keeps f_pmu f_r_pmu h5)) k2)))

theorem writeProbeDst_keeps {k s0 a1 a2} (f_r_xpt : k (.reg .xpt) = false) (k2 : Keeps k s0 a2) :
    Keeps k s0 (writeProbeDst a1 a2) := by
  unfold writeProbeDst
  exact (keep_ite (Keeps k s0) k2 (State.write_keeps (.of f_r_xpt) k2))

theorem writeSrcLayout_keeps {k s0 a1 a2 a3} (f_pmu : k .pmu = false) (f_r_xpt : k (.reg .xpt) = false) (f_r_pmu : k (.reg .pmu) = false) (k3 : Keeps k s0 a3) :
    Keeps k s0 (writeSrcLayout a1 a2 a3) := by
  unfold writeSrcLayout
  exact (by lift_lets -underBinder; intro xh1; (try clear_value xh1); intro xh2; (try clear_value xh2); exact (keep_ite (Keeps k s0) k3 (keep_ite (Keeps k s0) (refuseLayout_keeps f_pmu f_r_xpt f_r_pmu k3) (State.wr_keeps (.of f_r_xpt) k3))))

theorem execSrcLayoutWrite_keeps {k s0 a1 a2 a3 a4} (f_pmu : k .pmu = false) (f_r_hif : k (.reg .hif) = false) (f_r_xpt : k (.reg .xpt) = false) (f_r_pmu : k (.reg .pmu) = false) (f_r_noc : k (.reg .noc) = false) (k4 : Keeps k s0 a4) :
    KeepsOut k s0 (execSrcLayoutWrite a1 a2 a3 a4) := by
  unfold execSrcLayoutWrite
  exact (KeepsOut.next (gate_keeps f_pmu f_r_hif f_r_pmu f_r_noc (fun _ h1 => (writeSrcLayout_keeps f_pmu f_r_xpt f_r_pmu h1)) k4))

theorem forward_keeps {k s0 a1 a2 a3 a4 a5 a6} (f_red : k .red = false) (f_pmu : k .pmu = false) (f_out : k .out = false) (f_r_red : k (.reg .red) = false) (f_r_pmu : k (.reg .pmu) = false) (k6 : Keeps k s0 a6) :
    Keeps k s0 (forward a1 a2 a3 a4 a5 a6) := by
  unfold forward
  exact (by lift_lets -underBinder; intro xh1; (try clear_value xh1); intro xh2; have h3 : Keeps k s0 xh2 := (by unfold xh2; exact (State.p_keeps (.of f_r_red) (State.p_keeps (.of f_r_red) k6))); clear_value xh2; exact (keep_ite (Keeps k s0) (State.count_keeps f_pmu f_r_pmu (State.tell_keeps f_red f_out h3)) k6))

theorem closeImage_keeps {k s0 a1 a2 a3 a4 a5 a6 a7} (f_xpt : k .xpt = false) (f_r_xpt : k (.reg .xpt) = false) (k7 : Keeps k s0 a7) :
    Keeps k s0 (closeImage a1 a2 a3 a4 a5 a6 a7) := by
  unfold closeImage
  exact (by lift_lets -underBinder; intro xh1; (try clear_value xh1); intro xh2; (try clear_value xh2); intro xh3; have h4 : Keeps k s0 xh3 := (by unfold xh3; exact (State.p_keeps (.of f_r_xpt) k7)); clear_value xh3; intro xh5; exact (h4.set_xpt f_xpt))

theorem abortSalvo_keeps {k s0 a1 a2} (f_cmd : k .cmd = false) (f_flt : k .flt = false) (f_xpt : k .xpt = false) (f_red : k .red = false) (f_aud : k .aud = false) (f_zl : k .zl = false) (f_eng : k .eng = false) (f_cel : k .cel = false) (f_lease : k .lease = false) (f_pmu : k .pmu = false) (f_out : k .out = false) (f_free : k .free = false) (f_r_cmd : k (.reg .cmd) = false) (f_r_xpt : k (.reg .xpt) = false) (f_r_eth : k (.reg .eth) = false) (f_r_aud : k (.reg .aud) = false) (f_r_cel : k (.reg .cel) = false) (f_r_zl : k (.reg .zl) = false) (f_r_red : k (.reg .red) = false) (f_r_flt : k (.reg .flt) = false) (f_r_pmu : k (.reg .pmu) = false) (k2 : Keeps k s0 a2) :
    Keeps k s0 (abortSalvo a1 a2) := by
  unfold abortSalvo
  exact (by lift_lets -underBinder; intro xh1; have h2 : Keeps k s0 xh1 := (by unfold xh1; exact (endAuds_keeps f_cmd f_flt f_xpt f_red f_aud f_zl f_eng f_cel f_lease f_pmu f_out f_free f_r_cmd f_r_xpt f_r_eth f_r_aud f_r_cel f_r_zl f_r_red f_r_flt f_r_pmu (endTakes_keeps f_cmd f_flt f_xpt f_red f_zl f_eng f_cel f_lease f_pmu f_out f_free f_r_cmd f_r_xpt f_r_eth f_r_cel f_r_zl f_r_red f_r_flt f_r_pmu k2))); clear_value xh1; intro xh3; exact (h2.set_xpt f_xpt))

theorem commitSalvo_keeps {k s0 a1 a2 a3 a4 a5} (f_xpt : k .xpt = false) (f_aud : k .aud = false) (k5 : Keeps k s0 a5) :
    Keeps k s0 (commitSalvo a1 a2 a3 a4 a5) := by
  unfold commitSalvo
  exact (by lift_lets -underBinder; intro xh1; (try clear_value xh1); intro xh2; (try clear_value xh2); intro xh3; (try clear_value xh3); intro xh4; intro xh5; exact (k5.set_many (by intro p hp; cases p <;> first | exact rfl | exact id | exact fun _ _ => rfl | simp [f_xpt, f_aud] at hp)))

theorem salvoCommitGo_keeps {k s0 a1 a2 a3 a4} (f_cmd : k .cmd = false) (f_flt : k .flt = false) (f_xpt : k .xpt = false) (f_red : k .red = false) (f_aud : k .aud = false) (f_zl : k .zl = false) (f_eng : k .eng = false) (f_cel : k .cel = false) (f_lease : k .lease = false) (f_pmu : k .pmu = false) (f_out : k .out = false) (f_free : k .free = false) (f_r_cmd : k (.reg .cmd) = false) (f_r_xpt : k (.reg .xpt) = false) (f_r_eth : k (.reg .eth) = false) (f_r_aud : k (.reg .aud) = false) (f_r_cel : k (.reg .cel) = false) (f_r_zl : k (.reg .zl) = false) (f_r_red : k (.reg .red) = false) (f_r_flt : k (.reg .flt) = false) (f_r_pmu : k (.reg .pmu) = false) (k4 : Keeps k s0 a4) :
    Keeps k s0 (salvoCommitGo a1 a2 a3 a4) := by
  unfold salvoCommitGo
  exact (by lift_lets -underBinder; intro xh1; (try clear_value xh1); intro xh2; (try clear_value xh2); exact (keep_ite (Keeps k s0) (keep_ite (Keeps k s0) (finish_keeps f_cmd f_flt f_xpt f_red f_zl f_eng f_cel f_lease f_pmu f_out f_free f_r_cmd f_r_xpt f_r_eth f_r_cel f_r_zl f_r_red f_r_flt f_r_pmu (forward_keeps f_red f_pmu f_out f_r_red f_r_pmu (State.count_keeps f_pmu f_r_pmu (discardImage_keeps f_r_xpt k4)))) (by split; exact k4; exact (by lift_lets -underBinder; intro xh3; (try clear_value xh3); exact (forward_keeps f_red f_pmu f_out f_r_red f_r_pmu (closeImage_keeps f_xpt f_r_xpt k4))))) (keep_ite (Keeps k s0) (finish_keeps f_cmd f_flt f_xpt f_red f_zl f_eng f_cel f_lease f_pmu f_out f_free f_r_cmd f_r_xpt f_r_eth f_r_cel f_r_zl f_r_red f_r_flt f_r_pmu (forward_keeps f_red f_pmu f_out f_r_red f_r_pmu (State.count_keeps f_pmu f_r_pmu (abortSalvo_keeps f_cmd f_flt f_xpt f_red f_aud f_zl f_eng f_cel f_lease f_pmu f_out f_free f_r_cmd f_r_xpt f_r_eth f_r_aud f_r_cel f_r_zl f_r_red f_r_flt f_r_pmu k4)))) (by split; exact k4; exact (by split; exact k4; exact (forward_keeps f_red f_pmu f_out f_r_red f_r_pmu (commitSalvo_keeps f_xpt f_aud k4)))))))

theorem execSalvoCommit_keeps {k s0 a1 a2 a3} (f_cmd : k .cmd = false) (f_flt : k .flt = false) (f_xpt : k .xpt = false) (f_red : k .red = false) (f_aud : k .aud = false) (f_zl : k .zl = false) (f_eng : k .eng = false) (f_cel : k .cel = false) (f_lease : k .lease = false) (f_pmu : k .pmu = false) (f_out : k .out = false) (f_free : k .free = false) (f_r_cmd : k (.reg .cmd) = false) (f_r_xpt : k (.reg .xpt) = false) (f_r_eth : k (.reg .eth) = false) (f_r_aud : k (.reg .aud) = false) (f_r_cel : k (.reg .cel) = false) (f_r_zl : k (.reg .zl) = false) (f_r_red : k (.reg .red) = false) (f_r_flt : k (.reg .flt) = false) (f_r_pmu : k (.reg .pmu) = false) (k3 : Keeps k s0 a3) :
    KeepsOut k s0 (execSalvoCommit a1 a2 a3) := by
  unfold execSalvoCommit
  exact (KeepsOut.next (present_keeps f_cmd f_flt f_xpt f_red f_zl f_eng f_cel f_lease f_pmu f_out f_free f_r_cmd f_r_xpt f_r_eth f_r_cel f_r_zl f_r_red f_r_flt f_r_pmu (fun _ _ _ _ h1 => (salvoCommitGo_keeps f_cmd f_flt f_xpt f_red f_aud f_zl f_eng f_cel f_lease f_pmu f_out f_free f_r_cmd f_r_xpt f_r_eth f_r_aud f_r_cel f_r_zl f_r_red f_r_flt f_r_pmu h1)) k3))

theorem writeSsync_keeps {k s0 a1 a2 a3} (f_r_xpt : k (.reg .xpt) = false) (k3 : Keeps k s0 a3) :
    Keeps k s0 (writeSsync a1 a2 a3) := by
  unfold writeSsync
  exact (keep_ite (Keeps k s0) (State.wr_keeps (.of f_r_xpt) k3) k3)

theorem writeCadStat_keeps {k s0 a1 a2 a3} (f_r_xpt : k (.reg .xpt) = false) (k3 : Keeps k s0 a3) :
    Keeps k s0 (writeCadStat a1 a2 a3) := by
  unfold writeCadStat
  exact (by lift_lets -underBinder; intro xh1; have h2 : Keeps k s0 xh1 := (by unfold xh1; exact (State.write_keeps (.of f_r_xpt) k3)); clear_value xh1; exact (keep_ite (Keeps k s0) (State.wr_keeps (.of f_r_xpt) h2) h2))

theorem execClrTakes_keeps {k s0 a1 a2 a3} (f_pmu : k .pmu = false) (f_r_hif : k (.reg .hif) = false) (f_r_xpt : k (.reg .xpt) = false) (f_r_pmu : k (.reg .pmu) = false) (f_r_noc : k (.reg .noc) = false) (k3 : Keeps k s0 a3) :
    KeepsOut k s0 (execClrTakes a1 a2 a3) := by
  unfold execClrTakes
  exact (KeepsOut.next (gate_keeps f_pmu f_r_hif f_r_pmu f_r_noc (fun _ h1 => (writeCadStat_keeps f_r_xpt h1)) k3))

theorem writeImageOpen_keeps {k s0 a1 a2} (f_r_xpt : k (.reg .xpt) = false) (k2 : Keeps k s0 a2) :
    Keeps k s0 (writeImageOpen a1 a2) := by
  unfold writeImageOpen
  exact (keep_ite (Keeps k s0) (keep_ite (Keeps k s0) (State.p_keeps (.of f_r_xpt) k2) (State.p_keeps (.of f_r_xpt) k2)) (discardImage_keeps f_r_xpt k2))

theorem execImageDiscard_keeps {k s0 a1 a2} (f_pmu : k .pmu = false) (f_r_hif : k (.reg .hif) = false) (f_r_xpt : k (.reg .xpt) = false) (f_r_pmu : k (.reg .pmu) = false) (f_r_noc : k (.reg .noc) = false) (k2 : Keeps k s0 a2) :
    KeepsOut k s0 (execImageDiscard a1 a2) := by
  unfold execImageDiscard
  exact (KeepsOut.next (gate_keeps f_pmu f_r_hif f_r_pmu f_r_noc (fun _ h1 => (writeImageOpen_keeps f_r_xpt h1)) k2))

theorem execAlignValidTimeout_keeps {k s0 a1 a2} (f_r_xpt : k (.reg .xpt) = false) (k2 : Keeps k s0 a2) :
    KeepsOut k s0 (execAlignValidTimeout a1 a2) := by
  unfold execAlignValidTimeout
  exact (KeepsOut.next (keep_ite (Keeps k s0) (State.p_keeps (.of f_r_xpt) k2) k2))

theorem openSalvo_keeps {k s0 a1 a2 a3} (f_xpt : k .xpt = false) (k3 : Keeps k s0 a3) :
    Keeps k s0 (openSalvo a1 a2 a3) := by
  unfold openSalvo
  exact (by lift_lets -underBinder; intro xh1; exact (k3.set_xpt f_xpt))

theorem writeDstCad_keeps {k s0 a1 a2 a3} (f_r_xpt : k (.reg .xpt) = false) (k3 : Keeps k s0 a3) :
    Keeps k s0 (writeDstCad a1 a2 a3) := by
  unfold writeDstCad
  exact (by lift_lets -underBinder; intro xh1; (try clear_value xh1); intro xh2; (try clear_value xh2); exact (keep_ite (Keeps k s0) k3 (keep_ite (Keeps k s0) (keep_when (fun _ h3 => (State.p_keeps (.of f_r_xpt) h3)) (keep_when (fun _ h4 => (State.p_keeps (.of f_r_xpt) h4)) k3)) (State.write_keeps (.of f_r_xpt) k3))))

theorem writeSrcCad_keeps {k s0 a1 a2 a3} (f_r_xpt : k (.reg .xpt) = false) (k3 : Keeps k s0 a3) :
    Keeps k s0 (writeSrcCad a1 a2 a3) := by
  unfold writeSrcCad
  exact (keep_ite (Keeps k s0) k3 (keep_ite (Keeps k s0) (State.write_keeps (.of f_r_xpt) k3) (State.p_keeps (.of f_r_xpt) k3)))

theorem execCadBindingWrite_keeps {k s0 a1 a2 a3 a4 a5} (f_pmu : k .pmu = false) (f_r_hif : k (.reg .hif) = false) (f_r_xpt : k (.reg .xpt) = false) (f_r_pmu : k (.reg .pmu) = false) (f_r_noc : k (.reg .noc) = false) (k5 : Keeps k s0 a5) :
    KeepsOut k s0 (execCadBindingWrite a1 a2 a3 a4 a5) := by
  unfold execCadBindingWrite
  exact (KeepsOut.next (gate_keeps f_pmu f_r_hif f_r_pmu f_r_noc (fun _ h1 => (by split; exact (writeDstCad_keeps f_r_xpt h1); exact (writeSrcCad_keeps f_r_xpt h1))) k5))

theorem writeAlignStat_keeps {k s0 a1 a2 a3} (f_r_xpt : k (.reg .xpt) = false) (k3 : Keeps k s0 a3) :
    Keeps k s0 (writeAlignStat a1 a2 a3) := by
  unfold writeAlignStat
  exact (keep_ite (Keeps k s0) (State.p_keeps (.of f_r_xpt) k3) k3)

theorem execSwitchSyncEdge_keeps {k s0 a1 a2} (f_cmd : k .cmd = false) (f_flt : k .flt = false) (f_xpt : k .xpt = false) (f_red : k .red = false) (f_aud : k .aud = false) (f_zl : k .zl = false) (f_eng : k .eng = false) (f_cel : k .cel = false) (f_lease : k .lease = false) (f_pmu : k .pmu = false) (f_out : k .out = false) (f_free : k .free = false) (f_r_cmd : k (.reg .cmd) = false) (f_r_xpt : k (.reg .xpt) = false) (f_r_eth : k (.reg .eth) = false) (f_r_cel : k (.reg .cel) = false) (f_r_zl : k (.reg .zl) = false) (f_r_red : k (.reg .red) = false) (f_r_flt : k (.reg .flt) = false) (f_r_pmu : k (.reg .pmu) = false) (k2 : Keeps k s0 a2) :
    KeepsOut k s0 (execSwitchSyncEdge a1 a2) := by
  unfold execSwitchSyncEdge
  exact (KeepsOut.next (ssyncEdge_keeps f_cmd f_flt f_xpt f_red f_aud f_zl f_eng f_cel f_lease f_pmu f_out f_free f_r_cmd f_r_xpt f_r_eth f_r_cel f_r_zl f_r_red f_r_flt f_r_pmu k2))

theorem salvoOpenGo_keeps {k s0 a1 a2 a3 a4} (f_cmd : k .cmd = false) (f_flt : k .flt = false) (f_xpt : k .xpt = false) (f_red : k .red = false) (f_zl : k .zl = false) (f_eng : k .eng = false) (f_cel : k .cel = false) (f_lease : k .lease = false) (f_pmu : k .pmu = false) (f_out : k .out = false) (f_free : k .free = false) (f_r_cmd : k (.reg .cmd) = false) (f_r_xpt : k (.reg .xpt) = false) (f_r_eth : k (.reg .eth) = false) (f_r_cel : k (.reg .cel) = false) (f_r_zl : k (.reg .zl) = false) (f_r_red : k (.reg .red) = false) (f_r_flt : k (.reg .flt) = false) (f_r_pmu : k (.reg .pmu) = false) (k4 : Keeps k s0 a4) :
    Keeps k s0 (salvoOpenGo a1 a2 a3 a4) := by
  unfold salvoOpenGo
  exact (finish_keeps f_cmd f_flt f_xpt f_red f_zl f_eng f_cel f_lease f_pmu f_out f_free f_r_cmd f_r_xpt f_r_eth f_r_cel f_r_zl f_r_red f_r_flt f_r_pmu (forward_keeps f_red f_pmu f_out f_r_red f_r_pmu (openSalvo_keeps f_xpt k4)))

theorem takeGo_keeps {k s0 a1 a2 a3 a4} (f_cmd : k .cmd = false) (f_flt : k .flt = false) (f_xpt : k .xpt = false) (f_red : k .red = false) (f_zl : k .zl = false) (f_eng : k .eng = false) (f_cel : k .cel = false) (f_lease : k .lease = false) (f_pmu : k .pmu = false) (f_out : k .out = false) (f_free : k .free = false) (f_r_cmd : k (.reg .cmd) = false) (f_r_xpt : k (.reg .xpt) = false) (f_r_eth : k (.reg .eth) = false) (f_r_cel : k (.reg .cel) = false) (f_r_zl : k (.reg .zl) = false) (f_r_red : k (.reg .red) = false) (f_r_flt : k (.reg .flt) = false) (f_r_pmu : k (.reg .pmu) = false) (k4 : Keeps k s0 a4) :
    Keeps k s0 (takeGo a1 a2 a3 a4) := by
  unfold takeGo
  exact (by split; exact (by lift_lets -underBinder; intro xh1; (try clear_value xh1); exact (by split; exact k4; exact (forward_keeps f_red f_pmu f_out f_r_red f_r_pmu (stageTake_keeps f_cmd f_flt f_xpt f_red f_zl f_eng f_cel f_lease f_pmu f_out f_free f_r_cmd f_r_xpt f_r_eth f_r_cel f_r_zl f_r_red f_r_flt f_r_pmu k4)); exact (forward_keeps f_red f_pmu f_out f_r_red f_r_pmu (stageTake_keeps f_cmd f_flt f_xpt f_red f_zl f_eng f_cel f_lease f_pmu f_out f_free f_r_cmd f_r_xpt f_r_eth f_r_cel f_r_zl f_r_red f_r_flt f_r_pmu k4)))))

theorem execTake_keeps {k s0 a1 a2 a3} (f_cmd : k .cmd = false) (f_flt : k .flt = false) (f_xpt : k .xpt = false) (f_red : k .red = false) (f_zl : k .zl = false) (f_eng : k .eng = false) (f_cel : k .cel = false) (f_lease : k .lease = false) (f_pmu : k .pmu = false) (f_out : k .out = false) (f_free : k .free = false) (f_r_cmd : k (.reg .cmd) = false) (f_r_xpt : k (.reg .xpt) = false) (f_r_eth : k (.reg .eth) = false) (f_r_cel : k (.reg .cel) = false) (f_r_zl : k (.reg .zl) = false) (f_r_red : k (.reg .red) = false) (f_r_flt : k (.reg .flt) = false) (f_r_pmu : k (.reg .pmu) = false) (k3 : Keeps k s0 a3) :
    KeepsOut k s0 (execTake a1 a2 a3) := by
  unfold execTake
  exact (KeepsOut.next (present_keeps f_cmd f_flt f_xpt f_red f_zl f_eng f_cel f_lease f_pmu f_out f_free f_r_cmd f_r_xpt f_r_eth f_r_cel f_r_zl f_r_red f_r_flt f_r_pmu (fun _ _ _ _ h1 => (takeGo_keeps f_cmd f_flt f_xpt f_red f_zl f_eng f_cel f_lease f_pmu f_out f_free f_r_cmd f_r_xpt f_r_eth f_r_cel f_r_zl f_r_red f_r_flt f_r_pmu h1)) k3))

theorem execSsyncClr_keeps {k s0 a1 a2 a3} (f_pmu : k .pmu = false) (f_r_hif : k (.reg .hif) = false) (f_r_xpt : k (.reg .xpt) = false) (f_r_pmu : k (.reg .pmu) = false) (f_r_noc : k (.reg .noc) = false) (k3 : Keeps k s0 a3) :
    KeepsOut k s0 (execSsyncClr a1 a2 a3) := by
  unfold execSsyncClr
  exact (KeepsOut.next (gate_keeps f_pmu f_r_hif f_r_pmu f_r_noc (fun _ h1 => (writeSsync_keeps f_r_xpt h1)) k3))

theorem execImageOpenWrite_keeps {k s0 a1 a2} (f_pmu : k .pmu = false) (f_r_hif : k (.reg .hif) = false) (f_r_xpt : k (.reg .xpt) = false) (f_r_pmu : k (.reg .pmu) = false) (f_r_noc : k (.reg .noc) = false) (k2 : Keeps k s0 a2) :
    KeepsOut k s0 (execImageOpenWrite a1 a2) := by
  unfold execImageOpenWrite
  exact (KeepsOut.next (gate_keeps f_pmu f_r_hif f_r_pmu f_r_noc (fun _ h1 => (writeImageOpen_keeps f_r_xpt h1)) k2))

theorem execAlignClr_keeps {k s0 a1 a2 a3} (f_pmu : k .pmu = false) (f_r_hif : k (.reg .hif) = false) (f_r_xpt : k (.reg .xpt) = false) (f_r_pmu : k (.reg .pmu) = false) (f_r_noc : k (.reg .noc) = false) (k3 : Keeps k s0 a3) :
    KeepsOut k s0 (execAlignClr a1 a2 a3) := by
  unfold execAlignClr
  exact (KeepsOut.next (gate_keeps f_pmu f_r_hif f_r_pmu f_r_noc (fun _ h1 => (writeAlignStat_keeps f_r_xpt h1)) k3))

theorem execSalvoOpen_keeps {k s0 a1 a2 a3} (f_cmd : k .cmd = false) (f_flt : k .flt = false) (f_xpt : k .xpt = false) (f_red : k .red = false) (f_zl : k .zl = false) (f_eng : k .eng = false) (f_cel : k .cel = false) (f_lease : k .lease = false) (f_pmu : k .pmu = false) (f_out : k .out = false) (f_free : k .free = false) (f_r_cmd : k (.reg .cmd) = false) (f_r_xpt : k (.reg .xpt) = false) (f_r_eth : k (.reg .eth) = false) (f_r_cel : k (.reg .cel) = false) (f_r_zl : k (.reg .zl) = false) (f_r_red : k (.reg .red) = false) (f_r_flt : k (.reg .flt) = false) (f_r_pmu : k (.reg .pmu) = false) (k3 : Keeps k s0 a3) :
    KeepsOut k s0 (execSalvoOpen a1 a2 a3) := by
  unfold execSalvoOpen
  exact (KeepsOut.next (present_keeps f_cmd f_flt f_xpt f_red f_zl f_eng f_cel f_lease f_pmu f_out f_free f_r_cmd f_r_xpt f_r_eth f_r_cel f_r_zl f_r_red f_r_flt f_r_pmu (fun _ _ _ _ h1 => (salvoOpenGo_keeps f_cmd f_flt f_xpt f_red f_zl f_eng f_cel f_lease f_pmu f_out f_free f_r_cmd f_r_xpt f_r_eth f_r_cel f_r_zl f_r_red f_r_flt f_r_pmu h1)) k3))

theorem execMarkComplete_keeps {k s0 a1 a2} (f_cmd : k .cmd = false) (f_flt : k .flt = false) (f_xpt : k .xpt = false) (f_red : k .red = false) (f_zl : k .zl = false) (f_eng : k .eng = false) (f_cel : k .cel = false) (f_lease : k .lease = false) (f_pmu : k .pmu = false) (f_out : k .out = false) (f_free : k .free = false) (f_r_cmd : k (.reg .cmd) = false) (f_r_xpt : k (.reg .xpt) = false) (f_r_eth : k (.reg .eth) = false) (f_r_cel : k (.reg .cel) = false) (f_r_zl : k (.reg .zl) = false) (f_r_red : k (.reg .red) = false) (f_r_flt : k (.reg .flt) = false) (f_r_pmu : k (.reg .pmu) = false) (k2 : Keeps k s0 a2) :
    KeepsOut k s0 (execMarkComplete a1 a2) := by
  unfold execMarkComplete
  exact (KeepsOut.next (by split; exact k2; exact (by lift_lets -underBinder; intro xh1; exact (finish_keeps f_cmd f_flt f_xpt f_red f_zl f_eng f_cel f_lease f_pmu f_out f_free f_r_cmd f_r_xpt f_r_eth f_r_cel f_r_zl f_r_red f_r_flt f_r_pmu (k2.set_cmd f_cmd )))))

theorem execCompletionRecordWrite_keeps {k s0 a1 a2} (f_cmd : k .cmd = false) (f_flt : k .flt = false) (f_xpt : k .xpt = false) (f_red : k .red = false) (f_zl : k .zl = false) (f_eng : k .eng = false) (f_cel : k .cel = false) (f_lease : k .lease = false) (f_pmu : k .pmu = false) (f_out : k .out = false) (f_free : k .free = false) (f_r_cmd : k (.reg .cmd) = false) (f_r_xpt : k (.reg .xpt) = false) (f_r_eth : k (.reg .eth) = false) (f_r_cel : k (.reg .cel) = false) (f_r_zl : k (.reg .zl) = false) (f_r_red : k (.reg .red) = false) (f_r_flt : k (.reg .flt) = false) (f_r_pmu : k (.reg .pmu) = false) (f_r_noc : k (.reg .noc) = false) (k2 : Keeps k s0 a2) :
    KeepsOut k s0 (execCompletionRecordWrite a1 a2) := by
  unfold execCompletionRecordWrite
  exact (KeepsOut.next (writeCplRecord_keeps f_cmd f_flt f_xpt f_red f_zl f_eng f_cel f_lease f_pmu f_out f_free f_r_cmd f_r_xpt f_r_eth f_r_cel f_r_zl f_r_red f_r_flt f_r_pmu f_r_noc k2))

theorem writeRingStat_keeps {k s0 a1 a2 a3 a4} (f_r_cmd : k (.reg .cmd) = false) (k4 : Keeps k s0 a4) :
    Keeps k s0 (writeRingStat a1 a2 a3 a4) := by
  unfold writeRingStat
  exact (by lift_lets -underBinder; intro xh1; have h2 : Keeps k s0 xh1 := (by unfold xh1; exact (State.write_keeps (.of f_r_cmd) k4)); clear_value xh1; exact (keep_ite (Keeps k s0) (State.p_keeps (.of f_r_cmd) h2) h2))

theorem execRingRefusedClr_keeps {k s0 a1 a2 a3 a4} (f_pmu : k .pmu = false) (f_r_hif : k (.reg .hif) = false) (f_r_cmd : k (.reg .cmd) = false) (f_r_pmu : k (.reg .pmu) = false) (f_r_noc : k (.reg .noc) = false) (k4 : Keeps k s0 a4) :
    KeepsOut k s0 (execRingRefusedClr a1 a2 a3 a4) := by
  unfold execRingRefusedClr
  exact (KeepsOut.next (gatePage_keeps f_pmu f_r_hif f_r_pmu f_r_noc (fun _ h1 => (writeRingStat_keeps f_r_cmd h1)) k4))

theorem doorbellGate_keeps {k s0 a1 a2 a3 a4} (f_pmu : k .pmu = false) (f_r_hif : k (.reg .hif) = false) (f_r_pmu : k (.reg .pmu) = false) (k3 : ∀ x0, Keeps k s0 x0 → Keeps k s0 (a3 x0)) (k4 : Keeps k s0 a4) :
    Keeps k s0 (doorbellGate a1 a2 a3 a4) := by
  unfold doorbellGate
  exact (keep_ite (Keeps k s0) (keep_ite (Keeps k s0) k4 (k3 _ k4)) (denyWrite_keeps f_pmu f_r_hif f_r_pmu k4))

theorem execEvtHead_keeps {k s0 a1 a2 a3 a4} (f_pmu : k .pmu = false) (f_r_hif : k (.reg .hif) = false) (f_r_cmd : k (.reg .cmd) = false) (f_r_pmu : k (.reg .pmu) = false) (k4 : Keeps k s0 a4) :
    KeepsOut k s0 (execEvtHead a1 a2 a3 a4) := by
  unfold execEvtHead
  exact (KeepsOut.next (doorbellGate_keeps f_pmu f_r_hif f_r_pmu (fun _ h1 => (by lift_lets -underBinder; intro xh2; (try clear_value xh2); exact (keep_ite (Keeps k s0) (State.p_keeps (.of f_r_cmd) h1) (State.count_keeps f_pmu f_r_pmu h1)))) k4))

theorem execEventRecordWrite_keeps {k s0 a1 a2} (f_cmd : k .cmd = false) (f_pmu : k .pmu = false) (f_out : k .out = false) (f_r_cmd : k (.reg .cmd) = false) (f_r_pmu : k (.reg .pmu) = false) (f_r_noc : k (.reg .noc) = false) (k2 : Keeps k s0 a2) :
    KeepsOut k s0 (execEventRecordWrite a1 a2) := by
  unfold execEventRecordWrite
  exact (KeepsOut.next (by split; exact k2; exact (by lift_lets -underBinder; intro xh1; exact (keep_ite (Keeps k s0) (writeEvtRecord_keeps f_cmd f_pmu f_out f_r_cmd f_r_pmu f_r_noc (k2.set_cmd f_cmd )) k2))))

theorem writeEvtCfg_keeps {k s0 a1 a2 a3} (f_cmd : k .cmd = false) (f_r_cmd : k (.reg .cmd) = false) (k3 : Keeps k s0 a3) :
    Keeps k s0 (writeEvtCfg a1 a2 a3) := by
  unfold writeEvtCfg
  exact (by lift_lets -underBinder; intro xh1; (try clear_value xh1); intro xh2; (try clear_value xh2); intro xh3; have h4 : Keeps k s0 xh3 := (by unfold xh3; exact (State.wr_keeps (.of f_r_cmd) k3)); clear_value xh3; intro xh5; exact (keep_ite (Keeps k s0) (keep_ite (Keeps k s0) h4 (h4.set_cmd f_cmd )) (keep_ite (Keeps k s0) (State.p_keeps (.of f_r_cmd) (State.wr_keeps (.of f_r_cmd) (State.wr_keeps (.of f_r_cmd) k3))) (State.wr_keeps (.of f_r_cmd) k3))))

theorem dropFlights_keeps {k s0 a1 a2} (f_cmd : k .cmd = false) (k2 : Keeps k s0 a2) :
    Keeps k s0 (dropFlights a1 a2) := by
  unfold dropFlights
  exact (by lift_lets -underBinder; intro xh1; exact (k2.set_cmd f_cmd ))

theorem writeRingCfg_keeps {k s0 a1 a2 a3 a4} (f_cmd : k .cmd = false) (f_r_cmd : k (.reg .cmd) = false) (k4 : Keeps k s0 a4) :
    Keeps k s0 (writeRingCfg a1 a2 a3 a4) := by
  unfold writeRingCfg
  exact (by lift_lets -underBinder; intro xh1; (try clear_value xh1); intro xh2; (try clear_value xh2); intro xh3; (try clear_value xh3); intro xh4; have h5 : Keeps k s0 xh4 := (by unfold xh4; exact (State.wr_keeps (.of f_r_cmd) k4)); clear_value xh4; intro xh6; (try clear_value xh6); exact (keep_ite (Keeps k s0) (keep_ite (Keeps k s0) h5 (dropFlights_keeps f_cmd h5)) (keep_ite (Keeps k s0) (State.wr_keeps (.of f_r_cmd) k4) (keep_ite (Keeps k s0) (State.wr_keeps (.of f_r_cmd) (State.wr_keeps (.of f_r_cmd) (State.wr_keeps (.of f_r_cmd) k4))) (State.p_keeps (.of f_r_cmd) (State.wr_keeps (.of f_r_cmd) k4))))))

theorem execCmdRingDisable_keeps {k s0 a1 a2 a3 a4 a5} (f_cmd : k .cmd = false) (f_pmu : k .pmu = false) (f_r_hif : k (.reg .hif) = false) (f_r_cmd : k (.reg .cmd) = false) (f_r_pmu : k (.reg .pmu) = false) (f_r_noc : k (.reg .noc) = false) (k5 : Keeps k s0 a5) :
    KeepsOut k s0 (execCmdRingDisable a1 a2 a3 a4 a5) := by
  unfold execCmdRingDisable
  exact (KeepsOut.next (gatePage_keeps f_pmu f_r_hif f_r_pmu f_r_noc (fun _ h1 => (writeRingCfg_keeps f_cmd f_r_cmd h1)) k5))

theorem execBadOpcode_keeps {k s0 a1 a2 a3} (f_cmd : k .cmd = false) (f_flt : k .flt = false) (f_xpt : k .xpt = false) (f_red : k .red = false) (f_zl : k .zl = false) (f_eng : k .eng = false) (f_cel : k .cel = false) (f_lease : k .lease = false) (f_pmu : k .pmu = false) (f_out : k .out = false) (f_free : k .free = false) (f_r_cmd : k (.reg .cmd) = false) (f_r_xpt : k (.reg .xpt) = false) (f_r_eth : k (.reg .eth) = false) (f_r_cel : k (.reg .cel) = false) (f_r_zl : k (.reg .zl) = false) (f_r_red : k (.reg .red) = false) (f_r_flt : k (.reg .flt) = false) (f_r_pmu : k (.reg .pmu) = false) (k3 : Keeps k s0 a3) :
    KeepsOut k s0 (execBadOpcode a1 a2 a3) := by
  unfold execBadOpcode
  exact (KeepsOut.next (by split; exact k3; exact (by lift_lets -underBinder; intro xh1; (try clear_value xh1); exact (keep_ite (Keeps k s0) k3 (keep_ite (Keeps k s0) (State.count_keeps f_pmu f_r_pmu k3) (refuse_keeps f_cmd f_flt f_xpt f_red f_zl f_eng f_cel f_lease f_pmu f_out f_free f_r_cmd f_r_xpt f_r_eth f_r_cel f_r_zl f_r_red f_r_flt f_r_pmu (popDesc_keeps f_cmd k3)))))))

theorem execCmdRingEnable_keeps {k s0 a1 a2 a3 a4 a5} (f_cmd : k .cmd = false) (f_pmu : k .pmu = false) (f_r_hif : k (.reg .hif) = false) (f_r_cmd : k (.reg .cmd) = false) (f_r_pmu : k (.reg .pmu) = false) (f_r_noc : k (.reg .noc) = false) (k5 : Keeps k s0 a5) :
    KeepsOut k s0 (execCmdRingEnable a1 a2 a3 a4 a5) := by
  unfold execCmdRingEnable
  exact (KeepsOut.next (gatePage_keeps f_pmu f_r_hif f_r_pmu f_r_noc (fun _ h1 => (writeRingCfg_keeps f_cmd f_r_cmd h1)) k5))

theorem landEntry_keeps {k s0 a1 a2 a3 a4 a5 a6} (f_cmd : k .cmd = false) (f_r_cmd : k (.reg .cmd) = false) (k6 : Keeps k s0 a6) :
    Keeps k s0 (landEntry a1 a2 a3 a4 a5 a6) := by
  unfold landEntry
  exact (by lift_lets -underBinder; intro xh1; (try clear_value xh1); exact (by split; exact (by lift_lets -underBinder; intro xh2; (try clear_value xh2); intro xh3; (try clear_value xh3); intro xh4; (try clear_value xh4); intro xh5; intro xh6; have h7 : Keeps k s0 xh6 := (by unfold xh6; exact (k6.set_cmd f_cmd )); clear_value xh6; exact (State.p_keeps (.of f_r_cmd) h7))))

theorem fetchDone_keeps {k s0 a1 a2 a3 a4} (f_cmd : k .cmd = false) (f_pmu : k .pmu = false) (f_r_cmd : k (.reg .cmd) = false) (f_r_pmu : k (.reg .pmu) = false) (k4 : Keeps k s0 a4) :
    Keeps k s0 (fetchDone a1 a2 a3 a4) := by
  unfold fetchDone
  exact (by split; exact k4; exact (by lift_lets -underBinder; intro xh1; (try clear_value xh1); intro xh2; (try clear_value xh2); intro xh3; intro xh4; have h5 : Keeps k s0 xh4 := (by unfold xh4; exact (k4.set_cmd f_cmd )); clear_value xh4; intro xh6; (try clear_value xh6); exact (keep_ite (Keeps k s0) (State.count_keeps f_pmu f_r_pmu (keep_each (fun _ _ h7 => (landEntry_keeps f_cmd f_r_cmd h7)) h5)) k4)))

theorem execFetchComplete_keeps {k s0 a1 a2 a3 a4} (f_cmd : k .cmd = false) (f_pmu : k .pmu = false) (f_r_cmd : k (.reg .cmd) = false) (f_r_pmu : k (.reg .pmu) = false) (k4 : Keeps k s0 a4) :
    KeepsOut k s0 (execFetchComplete a1 a2 a3 a4) := by
  unfold execFetchComplete
  exact (KeepsOut.next (fetchDone_keeps f_cmd f_pmu f_r_cmd f_r_pmu k4))

theorem cmdTail_keeps {k s0 a1 a2 a3 a4} (f_cmd : k .cmd = false) (f_pmu : k .pmu = false) (f_r_cmd : k (.reg .cmd) = false) (f_r_pmu : k (.reg .pmu) = false) (k4 : Keeps k s0 a4) :
    Keeps k s0 (cmdTail a1 a2 a3 a4) := by
  unfold cmdTail
  exact (by lift_lets -underBinder; intro xh1; (try clear_value xh1); intro xh2; (try clear_value xh2); intro xh3; intro xh4; (try clear_value xh4); intro xh5; have h6 : Keeps k s0 xh5 := (by unfold xh5; exact (State.p_keeps (.of f_r_cmd) k4)); clear_value xh5; intro xh7; exact (keep_ite (Keeps k s0) (State.count_keeps f_pmu f_r_pmu (State.p_keeps (.of f_r_cmd) k4)) (h6.set_cmd f_cmd )))

theorem execCmdTail_keeps {k s0 a1 a2 a3 a4 a5} (f_cmd : k .cmd = false) (f_pmu : k .pmu = false) (f_r_hif : k (.reg .hif) = false) (f_r_cmd : k (.reg .cmd) = false) (f_r_pmu : k (.reg .pmu) = false) (k5 : Keeps k s0 a5) :
    KeepsOut k s0 (execCmdTail a1 a2 a3 a4 a5) := by
  unfold execCmdTail
  exact (KeepsOut.next (doorbellGate_keeps f_pmu f_r_hif f_r_pmu (fun _ h1 => (cmdTail_keeps f_cmd f_pmu f_r_cmd f_r_pmu h1)) k5))

theorem execCplHead_keeps {k s0 a1 a2 a3 a4} (f_pmu : k .pmu = false) (f_r_hif : k (.reg .hif) = false) (f_r_cmd : k (.reg .cmd) = false) (f_r_pmu : k (.reg .pmu) = false) (k4 : Keeps k s0 a4) :
    KeepsOut k s0 (execCplHead a1 a2 a3 a4) := by
  unfold execCplHead
  exact (KeepsOut.next (doorbellGate_keeps f_pmu f_r_hif f_r_pmu (fun _ h1 => (by lift_lets -underBinder; intro xh2; (try clear_value xh2); exact (keep_ite (Keeps k s0) (State.p_keeps (.of f_r_cmd) h1) (State.count_keeps f_pmu f_r_pmu h1)))) k4))

theorem writeCplCfg_keeps {k s0 a1 a2 a3} (f_cmd : k .cmd = false) (f_flt : k .flt = false) (f_xpt : k .xpt = false) (f_red : k .red = false) (f_zl : k .zl = false) (f_eng : k .eng = false) (f_cel : k .cel = false) (f_lease : k .lease = false) (f_pmu : k .pmu = false) (f_out : k .out = false) (f_free : k .free = false) (f_r_cmd : k (.reg .cmd) = false) (f_r_xpt : k (.reg .xpt) = false) (f_r_eth : k (.reg .eth) = false) (f_r_cel : k (.reg .cel) = false) (f_r_zl : k (.reg .zl) = false) (f_r_red : k (.reg .red) = false) (f_r_flt : k (.reg .flt) = false) (f_r_pmu : k (.reg .pmu) = false) (k3 : Keeps k s0 a3) :
    Keeps k s0 (writeCplCfg a1 a2 a3) := by
  unfold writeCplCfg
  exact (by lift_lets -underBinder; intro xh1; (try clear_value xh1); intro xh2; (try clear_value xh2); intro xh3; have h4 : Keeps k s0 xh3 := (by unfold xh3; exact (State.wr_keeps (.of f_r_cmd) k3)); clear_value xh3; exact (keep_ite (Keeps k s0) (keep_ite (Keeps k s0) h4 (discardDue_keeps f_cmd f_flt f_xpt f_red f_zl f_eng f_cel f_lease f_pmu f_out f_free f_r_cmd f_r_xpt f_r_eth f_r_cel f_r_zl f_r_red f_r_flt f_r_pmu h4)) (keep_ite (Keeps k s0) (State.wr_keeps (.of f_r_cmd) (State.wr_keeps (.of f_r_cmd) k3)) (State.wr_keeps (.of f_r_cmd) k3))))

theorem execCplRingDisable_keeps {k s0 a1 a2 a3 a4} (f_cmd : k .cmd = false) (f_flt : k .flt = false) (f_xpt : k .xpt = false) (f_red : k .red = false) (f_zl : k .zl = false) (f_eng : k .eng = false) (f_cel : k .cel = false) (f_lease : k .lease = false) (f_pmu : k .pmu = false) (f_out : k .out = false) (f_free : k .free = false) (f_r_hif : k (.reg .hif) = false) (f_r_cmd : k (.reg .cmd) = false) (f_r_xpt : k (.reg .xpt) = false) (f_r_eth : k (.reg .eth) = false) (f_r_cel : k (.reg .cel) = false) (f_r_zl : k (.reg .zl) = false) (f_r_red : k (.reg .red) = false) (f_r_flt : k (.reg .flt) = false) (f_r_pmu : k (.reg .pmu) = false) (f_r_noc : k (.reg .noc) = false) (k4 : Keeps k s0 a4) :
    KeepsOut k s0 (execCplRingDisable a1 a2 a3 a4) := by
  unfold execCplRingDisable
  exact (KeepsOut.next (gatePage_keeps f_pmu f_r_hif f_r_pmu f_r_noc (fun _ h1 => (writeCplCfg_keeps f_cmd f_flt f_xpt f_red f_zl f_eng f_cel f_lease f_pmu f_out f_free f_r_cmd f_r_xpt f_r_eth f_r_cel f_r_zl f_r_red f_r_flt f_r_pmu h1)) k4))

theorem execDescriptorFetch_keeps {k s0 a1 a2 a3 a4} (f_cmd : k .cmd = false) (f_pmu : k .pmu = false) (f_out : k .out = false) (f_r_pmu : k (.reg .pmu) = false) (f_r_noc : k (.reg .noc) = false) (k4 : Keeps k s0 a4) :
    KeepsOut k s0 (execDescriptorFetch a1 a2 a3 a4) := by
  unfold execDescriptorFetch
  exact (KeepsOut.next (by split; exact (by lift_lets -underBinder; intro xh1; (try clear_value xh1); intro xh2; intro xh3; have h4 : Keeps k s0 xh3 := (by unfold xh3; exact (k4.set_cmd f_cmd )); clear_value xh3; exact (keep_ite (Keeps k s0) (wakePort_keeps f_pmu f_r_pmu f_r_noc (wakePort_keeps f_pmu f_r_pmu f_r_noc (State.emit_keeps f_out h4))) k4))))

theorem execLostOnly_keeps {k s0 a1 a2} (f_cmd : k .cmd = false) (f_pmu : k .pmu = false) (f_out : k .out = false) (f_r_cmd : k (.reg .cmd) = false) (f_r_pmu : k (.reg .pmu) = false) (f_r_noc : k (.reg .noc) = false) (k2 : Keeps k s0 a2) :
    KeepsOut k s0 (execLostOnly a1 a2) := by
  unfold execLostOnly
  exact (by lift_lets -underBinder; intro xh1; (try clear_value xh1); exact (KeepsOut.next (keep_ite (Keeps k s0) (writeEvtRecord_keeps f_cmd f_pmu f_out f_r_cmd f_r_pmu f_r_noc k2) k2)))

theorem execNop_keeps {k s0 a1 a2 a3} (f_cmd : k .cmd = false) (f_flt : k .flt = false) (f_xpt : k .xpt = false) (f_red : k .red = false) (f_zl : k .zl = false) (f_eng : k .eng = false) (f_cel : k .cel = false) (f_lease : k .lease = false) (f_pmu : k .pmu = false) (f_out : k .out = false) (f_free : k .free = false) (f_r_cmd : k (.reg .cmd) = false) (f_r_xpt : k (.reg .xpt) = false) (f_r_eth : k (.reg .eth) = false) (f_r_cel : k (.reg .cel) = false) (f_r_zl : k (.reg .zl) = false) (f_r_red : k (.reg .red) = false) (f_r_flt : k (.reg .flt) = false) (f_r_pmu : k (.reg .pmu) = false) (k3 : Keeps k s0 a3) :
    KeepsOut k s0 (execNop a1 a2 a3) := by
  unfold execNop
  exact (KeepsOut.next (present_keeps f_cmd f_flt f_xpt f_red f_zl f_eng f_cel f_lease f_pmu f_out f_free f_r_cmd f_r_xpt f_r_eth f_r_cel f_r_zl f_r_red f_r_flt f_r_pmu (fun _ _ _ _ h1 => (finish_keeps f_cmd f_flt f_xpt f_red f_zl f_eng f_cel f_lease f_pmu f_out f_free f_r_cmd f_r_xpt f_r_eth f_r_cel f_r_zl f_r_red f_r_flt f_r_pmu h1)) k3))

theorem execCplRingEnable_keeps {k s0 a1 a2 a3 a4} (f_cmd : k .cmd = false) (f_flt : k .flt = false) (f_xpt : k .xpt = false) (f_red : k .red = false) (f_zl : k .zl = false) (f_eng : k .eng = false) (f_cel : k .cel = false) (f_lease : k .lease = false) (f_pmu : k .pmu = false) (f_out : k .out = false) (f_free : k .free = false) (f_r_hif : k (.reg .hif) = false) (f_r_cmd : k (.reg .cmd) = false) (f_r_xpt : k (.reg .xpt) = false) (f_r_eth : k (.reg .eth) = false) (f_r_cel : k (.reg .cel) = false) (f_r_zl : k (.reg .zl) = false) (f_r_red : k (.reg .red) = false) (f_r_flt : k (.reg .flt) = false) (f_r_pmu : k (.reg .pmu) = false) (f_r_noc : k (.reg .noc) = false) (k4 : Keeps k s0 a4) :
    KeepsOut k s0 (execCplRingEnable a1 a2 a3 a4) := by
  unfold execCplRingEnable
  exact (KeepsOut.next (gatePage_keeps f_pmu f_r_hif f_r_pmu f_r_noc (fun _ h1 => (writeCplCfg_keeps f_cmd f_flt f_xpt f_red f_zl f_eng f_cel f_lease f_pmu f_out f_free f_r_cmd f_r_xpt f_r_eth f_r_cel f_r_zl f_r_red f_r_flt f_r_pmu h1)) k4))

theorem execEvtRingEnable_keeps {k s0 a1 a2 a3 a4} (f_cmd : k .cmd = false) (f_pmu : k .pmu = false) (f_r_hif : k (.reg .hif) = false) (f_r_cmd : k (.reg .cmd) = false) (f_r_pmu : k (.reg .pmu) = false) (f_r_noc : k (.reg .noc) = false) (k4 : Keeps k s0 a4) :
    KeepsOut k s0 (execEvtRingEnable a1 a2 a3 a4) := by
  unfold execEvtRingEnable
  exact (KeepsOut.next (gatePage_keeps f_pmu f_r_hif f_r_pmu f_r_noc (fun _ h1 => (writeEvtCfg_keeps f_cmd f_r_cmd h1)) k4))

theorem execQueryCaps_keeps {k s0 a1 a2 a3} (f_cmd : k .cmd = false) (f_flt : k .flt = false) (f_xpt : k .xpt = false) (f_red : k .red = false) (f_zl : k .zl = false) (f_eng : k .eng = false) (f_cel : k .cel = false) (f_lease : k .lease = false) (f_pmu : k .pmu = false) (f_out : k .out = false) (f_free : k .free = false) (f_r_cmd : k (.reg .cmd) = false) (f_r_xpt : k (.reg .xpt) = false) (f_r_eth : k (.reg .eth) = false) (f_r_cel : k (.reg .cel) = false) (f_r_zl : k (.reg .zl) = false) (f_r_red : k (.reg .red) = false) (f_r_flt : k (.reg .flt) = false) (f_r_pmu : k (.reg .pmu) = false) (k3 : Keeps k s0 a3) :
    KeepsOut k s0 (execQueryCaps a1 a2 a3) := by
  unfold execQueryCaps
  exact (KeepsOut.next (present_keeps f_cmd f_flt f_xpt f_red f_zl f_eng f_cel f_lease f_pmu f_out f_free f_r_cmd f_r_xpt f_r_eth f_r_cel f_r_zl f_r_red f_r_flt f_r_pmu (fun _ _ _ _ h1 => (finish_keeps f_cmd f_flt f_xpt f_red f_zl f_eng f_cel f_lease f_pmu f_out f_free f_r_cmd f_r_xpt f_r_eth f_r_cel f_r_zl f_r_red f_r_flt f_r_pmu (State.emit_keeps f_out h1))) k3))

theorem execEvtRingDisable_keeps {k s0 a1 a2 a3 a4} (f_cmd : k .cmd = false) (f_pmu : k .pmu = false) (f_r_hif : k (.reg .hif) = false) (f_r_cmd : k (.reg .cmd) = false) (f_r_pmu : k (.reg .pmu) = false) (f_r_noc : k (.reg .noc) = false) (k4 : Keeps k s0 a4) :
    KeepsOut k s0 (execEvtRingDisable a1 a2 a3 a4) := by
  unfold execEvtRingDisable
  exact (KeepsOut.next (gatePage_keeps f_pmu f_r_hif f_r_pmu f_r_noc (fun _ h1 => (writeEvtCfg_keeps f_cmd f_r_cmd h1)) k4))

theorem execMark_keeps {k s0 a1 a2 a3} (f_cmd : k .cmd = false) (f_flt : k .flt = false) (f_xpt : k .xpt = false) (f_red : k .red = false) (f_zl : k .zl = false) (f_eng : k .eng = false) (f_cel : k .cel = false) (f_lease : k .lease = false) (f_pmu : k .pmu = false) (f_out : k .out = false) (f_free : k .free = false) (f_r_cmd : k (.reg .cmd) = false) (f_r_xpt : k (.reg .xpt) = false) (f_r_eth : k (.reg .eth) = false) (f_r_cel : k (.reg .cel) = false) (f_r_zl : k (.reg .zl) = false) (f_r_red : k (.reg .red) = false) (f_r_flt : k (.reg .flt) = false) (f_r_pmu : k (.reg .pmu) = false) (k3 : Keeps k s0 a3) :
    KeepsOut k s0 (execMark a1 a2 a3) := by
  unfold execMark
  exact (KeepsOut.next (present_keeps f_cmd f_flt f_xpt f_red f_zl f_eng f_cel f_lease f_pmu f_out f_free f_r_cmd f_r_xpt f_r_eth f_r_cel f_r_zl f_r_red f_r_flt f_r_pmu (fun _ _ _ _ h1 => (by lift_lets -underBinder; intro xh2; (try clear_value xh2); intro xh3; exact (h1.set_cmd f_cmd ))) k3))

theorem engCharge_keeps {k s0 a1 a2 a3} (f_cmd : k .cmd = false) (f_flt : k .flt = false) (f_xpt : k .xpt = false) (f_red : k .red = false) (f_zl : k .zl = false) (f_eng : k .eng = false) (f_cel : k .cel = false) (f_lease : k .lease = false) (f_pmu : k .pmu = false) (f_out : k .out = false) (f_free : k .free = false) (f_r_cmd : k (.reg .cmd) = false) (f_r_xpt : k (.reg .xpt) = false) (f_r_eth : k (.reg .eth) = false) (f_r_eng : k (.reg .eng) = false) (f_r_cel : k (.reg .cel) = false) (f_r_zl : k (.reg .zl) = false) (f_r_red : k (.reg .red) = false) (f_r_flt : k (.reg .flt) = false) (f_r_pmu : k (.reg .pmu) = false) (k3 : Keeps k s0 a3) :
    Keeps k s0 (engCharge a1 a2 a3) := by
  unfold engCharge
  exact (by lift_lets -underBinder; intro xh1; (try clear_value xh1); exact (charge_keeps f_cmd f_flt f_xpt f_red f_zl f_eng f_cel f_lease f_pmu f_out f_free f_r_cmd f_r_xpt f_r_eth f_r_cel f_r_zl f_r_red f_r_flt f_r_pmu (State.p_keeps (.of f_r_eng) k3)))

theorem wbSkip_keeps {k s0 a1 a2} (f_cmd : k .cmd = false) (f_flt : k .flt = false) (f_xpt : k .xpt = false) (f_red : k .red = false) (f_zl : k .zl = false) (f_eng : k .eng = false) (f_cel : k .cel = false) (f_lease : k .lease = false) (f_pmu : k .pmu = false) (f_out : k .out = false) (f_free : k .free = false) (f_r_cmd : k (.reg .cmd) = false) (f_r_xpt : k (.reg .xpt) = false) (f_r_eth : k (.reg .eth) = false) (f_r_eng : k (.reg .eng) = false) (f_r_cel : k (.reg .cel) = false) (f_r_zl : k (.reg .zl) = false) (f_r_red : k (.reg .red) = false) (f_r_flt : k (.reg .flt) = false) (f_r_pmu : k (.reg .pmu) = false) (k2 : Keeps k s0 a2) :
    Keeps k s0 (wbSkip a1 a2) := by
  unfold wbSkip
  exact (by lift_lets -underBinder; intro xh1; have h2 : Keeps k s0 xh1 := (by unfold xh1; exact (occur_keeps f_cmd f_flt f_xpt f_red f_zl f_eng f_cel f_lease f_pmu f_out f_free f_r_cmd f_r_xpt f_r_eth f_r_cel f_r_zl f_r_red f_r_flt f_r_pmu (State.count_keeps f_pmu f_r_pmu (State.bump_keeps (.of f_r_eng) k2)))); clear_value xh1; intro xh3; exact (h2.set_eng f_eng rfl))

theorem takeB_keeps {k s0 a1 a2 a3 a4 a5 a6} (f_pmu : k .pmu = false) (f_r_eng : k (.reg .eng) = false) (f_r_pmu : k (.reg .pmu) = false) (k6 : Keeps k s0 a6) :
    KeepsP k s0 (takeB a1 a2 a3 a4 a5 a6) := by
  unfold takeB
  exact (by lift_lets -underBinder; intro xh1; (try clear_value xh1); intro xh2; (try clear_value xh2); exact (by split; exact (by lift_lets -underBinder; intro xh3; intro xh4; subst xh4; exact (by split; exact (by lift_lets -underBinder; intro xh5; (try clear_value xh5); intro xh6; exact (keep_when (fun _ h7 => (State.count_keeps f_pmu f_r_pmu (State.bump_keeps (.of f_r_eng) h7))) k6)); exact (State.count_keeps f_pmu f_r_pmu (State.bump_keeps (.of f_r_eng) k6))))))

theorem takeLayer_keeps {k s0 a1 a2 a3 a4 a5 a6} (f_cmd : k .cmd = false) (f_flt : k .flt = false) (f_xpt : k .xpt = false) (f_red : k .red = false) (f_zl : k .zl = false) (f_eng : k .eng = false) (f_cel : k .cel = false) (f_lease : k .lease = false) (f_pmu : k .pmu = false) (f_out : k .out = false) (f_free : k .free = false) (f_r_cmd : k (.reg .cmd) = false) (f_r_xpt : k (.reg .xpt) = false) (f_r_eth : k (.reg .eth) = false) (f_r_eng : k (.reg .eng) = false) (f_r_cel : k (.reg .cel) = false) (f_r_zl : k (.reg .zl) = false) (f_r_red : k (.reg .red) = false) (f_r_flt : k (.reg .flt) = false) (f_r_pmu : k (.reg .pmu) = false) (k6 : Keeps k s0 a6) :
    KeepsP k s0 (takeLayer a1 a2 a3 a4 a5 a6) := by
  unfold takeLayer
  exact (by lift_lets -underBinder; intro xh1; intro xh2; (try clear_value xh2); exact (by split; exact (by lift_lets -underBinder; intro xh3; intro xh4; have h5 : Keeps k s0 xh4 := (by unfold xh4; exact (k6.set_cel f_cel rfl)); clear_value xh4; exact (State.count_keeps f_pmu f_r_pmu h5)); exact (occur_keeps f_cmd f_flt f_xpt f_red f_zl f_eng f_cel f_lease f_pmu f_out f_free f_r_cmd f_r_xpt f_r_eth f_r_cel f_r_zl f_r_red f_r_flt f_r_pmu (State.count_keeps f_pmu f_r_pmu (State.p_keeps (.of f_r_eng) k6)))))

theorem wbLine_keeps {k s0 a1 a2 a3 a4 a5} (f_red : k .red = false) (f_cel : k .cel = false) (f_mem : k .mem = false) (f_pmu : k .pmu = false) (f_r_cel : k (.reg .cel) = false) (f_r_pmu : k (.reg .pmu) = false) (k5 : Keeps k s0 a5) :
    Keeps k s0 (wbLine a1 a2 a3 a4 a5) := by
  unfold wbLine
  exact (by split; exact k5; exact (by lift_lets -underBinder; intro xh1; (try clear_value xh1); intro xh2; intro xh3; (try clear_value xh3); intro xh4; (try clear_value xh4); intro xh5; (try clear_value xh5); exact (celWrite_keeps f_red f_cel f_mem f_pmu f_r_cel f_r_pmu k5)))

theorem sigLine_keeps {k s0 a1 a2 a3 a4 a5} (f_eng : k .eng = false) (k5 : Keeps k s0 a5) :
    Keeps k s0 (sigLine a1 a2 a3 a4 a5) := by
  unfold sigLine
  exact (keep_each (fun _ _ h1 => (by lift_lets -underBinder; intro xh2; (try clear_value xh2); intro xh3; (try clear_value xh3); intro xh4; (try clear_value xh4); intro xh5; (try clear_value xh5); intro xh6; exact (keep_ite (Keeps k s0) (h1.set_eng f_eng rfl) h1))) k5)

theorem engCompose_keeps {k s0 a1 a2 a3 a4} (f_cmd : k .cmd = false) (f_flt : k .flt = false) (f_xpt : k .xpt = false) (f_red : k .red = false) (f_zl : k .zl = false) (f_eng : k .eng = false) (f_cel : k .cel = false) (f_lease : k .lease = false) (f_mem : k .mem = false) (f_pmu : k .pmu = false) (f_out : k .out = false) (f_free : k .free = false) (f_r_cmd : k (.reg .cmd) = false) (f_r_xpt : k (.reg .xpt) = false) (f_r_eth : k (.reg .eth) = false) (f_r_eng : k (.reg .eng) = false) (f_r_cel : k (.reg .cel) = false) (f_r_zl : k (.reg .zl) = false) (f_r_red : k (.reg .red) = false) (f_r_flt : k (.reg .flt) = false) (f_r_pmu : k (.reg .pmu) = false) (k4 : Keeps k s0 a4) :
    Keeps k s0 (engCompose a1 a2 a3 a4) := by
  unfold engCompose
  exact (by lift_lets -underBinder; intro xh1; (try clear_value xh1); intro xh2; (try clear_value xh2); intro xh3; (try clear_value xh3); intro xh4; (try clear_value xh4); exact (by split; (rename_i vh19 vh20 he; have h21 := KeepsP.of_eq he (by split; exact (by lift_lets -underBinder; intro xh5; (try clear_value xh5); intro xh6; (try clear_value xh6); exact (keep_ite (KeepsP k s0) k4 (by split; (rename_i vh7 vh8 he; have h9 := KeepsP.of_eq he (keep_ite (KeepsP k s0) (takeB_keeps f_pmu f_r_eng f_r_pmu k4) k4); exact (by lift_lets -underBinder; intro xh10; (try clear_value xh10); exact (by split; (rename_i vh11 vh12 he; have h13 := KeepsP.of_eq he (keep_ite (KeepsP k s0) (takeLayer_keeps f_cmd f_flt f_xpt f_red f_zl f_eng f_cel f_lease f_pmu f_out f_free f_r_cmd f_r_xpt f_r_eth f_r_eng f_r_cel f_r_zl f_r_red f_r_flt f_r_pmu h9) h9); exact (by lift_lets -underBinder; intro xh14; (try clear_value xh14); exact (by split; (rename_i vh15 vh16 he; have h17 := KeepsP.of_eq he (keep_ite (KeepsP k s0) (takeLayer_keeps f_cmd f_flt f_xpt f_red f_zl f_eng f_cel f_lease f_pmu f_out f_free f_r_cmd f_r_xpt f_r_eth f_r_eng f_r_cel f_r_zl f_r_red f_r_flt f_r_pmu h13) h13); exact (by lift_lets -underBinder; intro xh18; (try clear_value xh18); exact (wbLine_keeps f_red f_cel f_mem f_pmu f_r_cel f_r_pmu (sigLine_keeps f_eng h17))))))))))))); exact k4); exact (by lift_lets -underBinder; intro xh22; (try clear_value xh22); intro xh23; exact (keep_ite (Keeps k s0) (h21.set_eng f_eng rfl) h21)))))

theorem engFlush_keeps {k s0 a1 a2 a3} (f_cmd : k .cmd = false) (f_flt : k .flt = false) (f_xpt : k .xpt = false) (f_red : k .red = false) (f_zl : k .zl = false) (f_eng : k .eng = false) (f_cel : k .cel = false) (f_lease : k .lease = false) (f_mem : k .mem = false) (f_pmu : k .pmu = false) (f_out : k .out = false) (f_free : k .free = false) (f_r_cmd : k (.reg .cmd) = false) (f_r_xpt : k (.reg .xpt) = false) (f_r_eth : k (.reg .eth) = false) (f_r_eng : k (.reg .eng) = false) (f_r_cel : k (.reg .cel) = false) (f_r_zl : k (.reg .zl) = false) (f_r_red : k (.reg .red) = false) (f_r_flt : k (.reg .flt) = false) (f_r_pmu : k (.reg .pmu) = false) (k3 : Keeps k s0 a3) :
    Keeps k s0 (engFlush a1 a2 a3) := by
  unfold engFlush
  exact (by split; exact k3; exact (by lift_lets -underBinder; intro xh1; exact (engCompose_keeps f_cmd f_flt f_xpt f_red f_zl f_eng f_cel f_lease f_mem f_pmu f_out f_free f_r_cmd f_r_xpt f_r_eth f_r_eng f_r_cel f_r_zl f_r_red f_r_flt f_r_pmu (k3.set_eng f_eng rfl))))

theorem engFlushAll_keeps {k s0 a1 a2} (f_cmd : k .cmd = false) (f_flt : k .flt = false) (f_xpt : k .xpt = false) (f_red : k .red = false) (f_zl : k .zl = false) (f_eng : k .eng = false) (f_cel : k .cel = false) (f_lease : k .lease = false) (f_mem : k .mem = false) (f_pmu : k .pmu = false) (f_out : k .out = false) (f_free : k .free = false) (f_r_cmd : k (.reg .cmd) = false) (f_r_xpt : k (.reg .xpt) = false) (f_r_eth : k (.reg .eth) = false) (f_r_eng : k (.reg .eng) = false) (f_r_cel : k (.reg .cel) = false) (f_r_zl : k (.reg .zl) = false) (f_r_red : k (.reg .red) = false) (f_r_flt : k (.reg .flt) = false) (f_r_pmu : k (.reg .pmu) = false) (k2 : Keeps k s0 a2) :
    Keeps k s0 (engFlushAll a1 a2) := by
  unfold engFlushAll
  exact (keep_each (fun _ _ h1 => (engFlush_keeps f_cmd f_flt f_xpt f_red f_zl f_eng f_cel f_lease f_mem f_pmu f_out f_free f_r_cmd f_r_xpt f_r_eth f_r_eng f_r_cel f_r_zl f_r_red f_r_flt f_r_pmu h1)) k2)

theorem engSlots_keeps {k s0 a1 a2 a3} (f_r_xpt : k (.reg .xpt) = false) (k3 : Keeps k s0 a3) :
    Keeps k s0 (engSlots a1 a2 a3) := by
  unfold engSlots
  exact (by lift_lets -underBinder; intro xh1; (try clear_value xh1); intro xh2; (try clear_value xh2); intro xh3; (try clear_value xh3); intro xh4; have h5 : Keeps k s0 xh4 := (by unfold xh4; exact (State.wr_keeps (.of f_r_xpt) (State.wr_keeps (.of f_r_xpt) (State.wr_keeps (.of f_r_xpt) k3)))); clear_value xh4; exact (State.wr_keeps (.of f_r_xpt) (State.wr_keeps (.of f_r_xpt) (State.wr_keeps (.of f_r_xpt) h5))))

theorem updateLost_keeps {k s0 a1 a2} (f_r_eng : k (.reg .eng) = false) (k2 : Keeps k s0 a2) :
    Keeps k s0 (updateLost a1 a2) := by
  unfold updateLost
  exact (State.p_keeps (.of f_r_eng) k2)

theorem engApply_keeps {k s0 a1 a2 a3} (f_cmd : k .cmd = false) (f_flt : k .flt = false) (f_xpt : k .xpt = false) (f_red : k .red = false) (f_zl : k .zl = false) (f_eng : k .eng = false) (f_cel : k .cel = false) (f_lease : k .lease = false) (f_mem : k .mem = false) (f_pmu : k .pmu = false) (f_out : k .out = false) (f_free : k .free = false) (f_r_cmd : k (.reg .cmd) = false) (f_r_xpt : k (.reg .xpt) = false) (f_r_eth : k (.reg .eth) = false) (f_r_eng : k (.reg .eng) = false) (f_r_cel : k (.reg .cel) = false) (f_r_zl : k (.reg .zl) = false) (f_r_red : k (.reg .red) = false) (f_r_flt : k (.reg .flt) = false) (f_r_pmu : k (.reg .pmu) = false) (k3 : Keeps k s0 a3) :
    Keeps k s0 (engApply a1 a2 a3) := by
  unfold engApply
  exact (by lift_lets -underBinder; intro xh1; have h2 : Keeps k s0 xh1 := (by unfold xh1; exact (engFlushAll_keeps f_cmd f_flt f_xpt f_red f_zl f_eng f_cel f_lease f_mem f_pmu f_out f_free f_r_cmd f_r_xpt f_r_eth f_r_eng f_r_cel f_r_zl f_r_red f_r_flt f_r_pmu k3)); clear_value xh1; intro xh3; (try clear_value xh3); intro xh4; (try clear_value xh4); intro xh5; (try clear_value xh5); intro xh6; (try clear_value xh6); intro xh7; have h9 : Keeps k s0 xh7 := (by unfold xh7; exact (keep_each (fun _ _ h8 => (State.wr_keeps (.of f_r_eng) h8)) h2)); clear_value xh7; intro xh10; have h11 : Keeps k s0 xh10 := (by unfold xh10; exact (engSlots_keeps f_r_xpt (State.p_keeps (.of f_r_eng) h9))); clear_value xh10; intro xh12; exact (updateLost_keeps f_r_eng (h11.set_eng f_eng rfl)))

theorem engOff_keeps {k s0 a1 a2} (f_cmd : k .cmd = false) (f_flt : k .flt = false) (f_xpt : k .xpt = false) (f_red : k .red = false) (f_zl : k .zl = false) (f_eng : k .eng = false) (f_cel : k .cel = false) (f_lease : k .lease = false) (f_mem : k .mem = false) (f_pmu : k .pmu = false) (f_out : k .out = false) (f_free : k .free = false) (f_r_cmd : k (.reg .cmd) = false) (f_r_xpt : k (.reg .xpt) = false) (f_r_eth : k (.reg .eth) = false) (f_r_eng : k (.reg .eng) = false) (f_r_cel : k (.reg .cel) = false) (f_r_zl : k (.reg .zl) = false) (f_r_red : k (.reg .red) = false) (f_r_flt : k (.reg .flt) = false) (f_r_pmu : k (.reg .pmu) = false) (k2 : Keeps k s0 a2) :
    Keeps k s0 (engOff a1 a2) := by
  unfold engOff
  exact (by lift_lets -underBinder; intro xh1; intro xh2; (try clear_value xh2); exact (keep_ite (Keeps k s0) (State.count_keeps f_pmu f_r_pmu (State.p_keeps (.of f_r_eng) (engCharge_keeps f_cmd f_flt f_xpt f_red f_zl f_eng f_cel f_lease f_pmu f_out f_free f_r_cmd f_r_xpt f_r_eth f_r_eng f_r_cel f_r_zl f_r_red f_r_flt f_r_pmu (engApply_keeps f_cmd f_flt f_xpt f_red f_zl f_eng f_cel f_lease f_mem f_pmu f_out f_free f_r_cmd f_r_xpt f_r_eth f_r_eng f_r_cel f_r_zl f_r_red f_r_flt f_r_pmu k2)))) k2))

theorem State.setFsc_keeps {k s0 a1 a2 a3 a4} (f_eng : k .eng = false) (k1 : Keeps k s0 a1) :
    Keeps k s0 (State.setFsc a1 a2 a3 a4) := by
  unfold State.setFsc
  exact (by lift_lets -underBinder; intro xh1; exact (k1.set_eng f_eng rfl))

theorem fsUse_keeps {k s0 a1 a2 a3 a4 a5} (f_cmd : k .cmd = false) (f_flt : k .flt = false) (f_xpt : k .xpt = false) (f_red : k .red = false) (f_zl : k .zl = false) (f_eng : k .eng = false) (f_cel : k .cel = false) (f_lease : k .lease = false) (f_pmu : k .pmu = false) (f_out : k .out = false) (f_free : k .free = false) (f_r_cmd : k (.reg .cmd) = false) (f_r_xpt : k (.reg .xpt) = false) (f_r_eth : k (.reg .eth) = false) (f_r_eng : k (.reg .eng) = false) (f_r_cel : k (.reg .cel) = false) (f_r_zl : k (.reg .zl) = false) (f_r_red : k (.reg .red) = false) (f_r_flt : k (.reg .flt) = false) (f_r_pmu : k (.reg .pmu) = false) (k5 : Keeps k s0 a5) :
    Keeps k s0 (fsUse a1 a2 a3 a4 a5) := by
  unfold fsUse
  exact (by lift_lets -underBinder; intro xh1; (try clear_value xh1); intro xh2; have h3 : Keeps k s0 xh2 := (by unfold xh2; exact (State.setFsc_keeps f_eng k5)); clear_value xh2; exact (keep_ite (Keeps k s0) h3 (keep_ite (Keeps k s0) (occur_keeps f_cmd f_flt f_xpt f_red f_zl f_eng f_cel f_lease f_pmu f_out f_free f_r_cmd f_r_xpt f_r_eth f_r_cel f_r_zl f_r_red f_r_flt f_r_pmu (State.count_keeps f_pmu f_r_pmu (State.bump_keeps (.of f_r_eng) h3))) (keep_ite (Keeps k s0) (occur_keeps f_cmd f_flt f_xpt f_red f_zl f_eng f_cel f_lease f_pmu f_out f_free f_r_cmd f_r_xpt f_r_eth f_r_cel f_r_zl f_r_red f_r_flt f_r_pmu (State.count_keeps f_pmu f_r_pmu (State.bump_keeps (.of f_r_eng) h3))) h3))))

theorem fsStore_keeps {k s0 a1 a2 a3 a4 a5} (f_red : k .red = false) (f_eng : k .eng = false) (f_cel : k .cel = false) (f_mem : k .mem = false) (f_pmu : k .pmu = false) (f_free : k .free = false) (f_r_eng : k (.reg .eng) = false) (f_r_cel : k (.reg .cel) = false) (f_r_pmu : k (.reg .pmu) = false) (k5 : Keeps k s0 a5) :
    Keeps k s0 (fsStore a1 a2 a3 a4 a5) := by
  unfold fsStore
  exact (by lift_lets -underBinder; intro xh1; (try clear_value xh1); intro xh2; (try clear_value xh2); exact (by split; (rename_i vh3 vh4 he; have h5 := KeepsP.of_eq he (State.freeNat_keeps f_free k5); exact (by lift_lets -underBinder; intro xh6; have h7 : Keeps k s0 xh6 := (by unfold xh6; exact (celWrite_keeps f_red f_cel f_mem f_pmu f_r_cel f_r_pmu h5)); clear_value xh6; intro xh8; have h9 : Keeps k s0 xh8 := (by unfold xh8; exact (keep_ite (Keeps k s0) (State.count_keeps f_pmu f_r_pmu (State.bump_keeps (.of f_r_eng) h7)) h7)); clear_value xh8; intro xh10; (try clear_value xh10); intro xh11; (try clear_value xh11); intro xh12; exact (State.setFsc_keeps f_eng h9)))))

theorem wbStart_keeps {k s0 a1 a2} (f_cmd : k .cmd = false) (f_flt : k .flt = false) (f_xpt : k .xpt = false) (f_red : k .red = false) (f_zl : k .zl = false) (f_eng : k .eng = false) (f_cel : k .cel = false) (f_lease : k .lease = false) (f_pmu : k .pmu = false) (f_out : k .out = false) (f_free : k .free = false) (f_r_cmd : k (.reg .cmd) = false) (f_r_xpt : k (.reg .xpt) = false) (f_r_eth : k (.reg .eth) = false) (f_r_eng : k (.reg .eng) = false) (f_r_cel : k (.reg .cel) = false) (f_r_zl : k (.reg .zl) = false) (f_r_red : k (.reg .red) = false) (f_r_flt : k (.reg .flt) = false) (f_r_pmu : k (.reg .pmu) = false) (k2 : Keeps k s0 a2) :
    Keeps k s0 (wbStart a1 a2) := by
  unfold wbStart
  exact (by lift_lets -underBinder; intro xh1; (try clear_value xh1); intro xh2; have h3 : Keeps k s0 xh2 := (by unfold xh2; exact (keep_ite (Keeps k s0) (wbSkip_keeps f_cmd f_flt f_xpt f_red f_zl f_eng f_cel f_lease f_pmu f_out f_free f_r_cmd f_r_xpt f_r_eth f_r_eng f_r_cel f_r_zl f_r_red f_r_flt f_r_pmu k2) k2)); clear_value xh2; intro xh4; exact (keep_ite (Keeps k s0) (h3.set_eng f_eng rfl) h3))

theorem engRestart_keeps {k s0 a1 a2}  (f_eng : k .eng = false) (f_pmu : k .pmu = false) (f_r_pmu : k (.reg .pmu) = false) (k2 : Keeps k s0 a2) : Keeps k s0 (engRestart a1 a2) :=
  (State.count_keeps f_pmu f_r_pmu k2).set_eng f_eng (congrArg EngHid.lut (State.count_eng a2 383 1)).symm

theorem sendSelect_keeps {k s0 a1 a2 a3 a4 a5} (f_red : k .red = false) (f_out : k .out = false) (k5 : Keeps k s0 a5) :
    Keeps k s0 (sendSelect a1 a2 a3 a4 a5) := by
  unfold sendSelect
  exact (keep_ite (Keeps k s0) (by split; exact (State.tell_keeps f_red f_out k5); exact k5) k5)

theorem fsSelect_keeps {k s0 a1 a2 a3} (f_cmd : k .cmd = false) (f_flt : k .flt = false) (f_xpt : k .xpt = false) (f_red : k .red = false) (f_zl : k .zl = false) (f_eng : k .eng = false) (f_cel : k .cel = false) (f_lease : k .lease = false) (f_pmu : k .pmu = false) (f_out : k .out = false) (f_free : k .free = false) (f_r_cmd : k (.reg .cmd) = false) (f_r_xpt : k (.reg .xpt) = false) (f_r_eth : k (.reg .eth) = false) (f_r_eng : k (.reg .eng) = false) (f_r_cel : k (.reg .cel) = false) (f_r_zl : k (.reg .zl) = false) (f_r_red : k (.reg .red) = false) (f_r_flt : k (.reg .flt) = false) (f_r_pmu : k (.reg .pmu) = false) (k3 : Keeps k s0 a3) :
    Keeps k s0 (fsSelect a1 a2 a3) := by
  unfold fsSelect
  exact (by lift_lets -underBinder; intro xh1; (try clear_value xh1); intro xh2; (try clear_value xh2); intro xh3; have h5 : Keeps k s0 xh3 := (by unfold xh3; exact (keep_when (fun _ h4 => (State.count_keeps f_pmu f_r_pmu (State.bump_keeps (.of f_r_eng) h4))) k3)); clear_value xh3; intro xh6; subst xh6; intro xh7; subst xh7; exact (keep_ite (Keeps k s0) (by split; exact (sendSelect_keeps f_red f_out (fsUse_keeps f_cmd f_flt f_xpt f_red f_zl f_eng f_cel f_lease f_pmu f_out f_free f_r_cmd f_r_xpt f_r_eth f_r_eng f_r_cel f_r_zl f_r_red f_r_flt f_r_pmu h5)); exact (sendSelect_keeps f_red f_out (State.setFsc_keeps f_eng h5))) (by split; exact (State.setFsc_keeps f_eng h5); exact (by split; exact (fsUse_keeps f_cmd f_flt f_xpt f_red f_zl f_eng f_cel f_lease f_pmu f_out f_free f_r_cmd f_r_xpt f_r_eth f_r_eng f_r_cel f_r_zl f_r_red f_r_flt f_r_pmu h5); exact (by split; exact (fsUse_keeps f_cmd f_flt f_xpt f_red f_zl f_eng f_cel f_lease f_pmu f_out f_free f_r_cmd f_r_xpt f_r_eth f_r_eng f_r_cel f_r_zl f_r_red f_r_flt f_r_pmu h5); exact h5)); exact (by split; exact (fsUse_keeps f_cmd f_flt f_xpt f_red f_zl f_eng f_cel f_lease f_pmu f_out f_free f_r_cmd f_r_xpt f_r_eth f_r_eng f_r_cel f_r_zl f_r_red f_r_flt f_r_pmu (occur_keeps f_cmd f_flt f_xpt f_red f_zl f_eng f_cel f_lease f_pmu f_out f_free f_r_cmd f_r_xpt f_r_eth f_r_cel f_r_zl f_r_red f_r_flt f_r_pmu (State.count_keeps f_pmu f_r_pmu (State.p_keeps (.of f_r_eng) h5)))); exact (occur_keeps f_cmd f_flt f_xpt f_red f_zl f_eng f_cel f_lease f_pmu f_out f_free f_r_cmd f_r_xpt f_r_eth f_r_cel f_r_zl f_r_red f_r_flt f_r_pmu (State.count_keeps f_pmu f_r_pmu (State.p_keeps (.of f_r_eng) h5)))))))

theorem engEmit_keeps {k s0 a1 a2 a3 a4 a5 a6} (f_cmd : k .cmd = false) (f_flt : k .flt = false) (f_xpt : k .xpt = false) (f_red : k .red = false) (f_zl : k .zl = false) (f_eng : k .eng = false) (f_cel : k .cel = false) (f_lease : k .lease = false) (f_mem : k .mem = false) (f_pmu : k .pmu = false) (f_out : k .out = false) (f_free : k .free = false) (f_r_cmd : k (.reg .cmd) = false) (f_r_xpt : k (.reg .xpt) = false) (f_r_eth : k (.reg .eth) = false) (f_r_eng : k (.reg .eng) = false) (f_r_cel : k (.reg .cel) = false) (f_r_zl : k (.reg .zl) = false) (f_r_red : k (.reg .red) = false) (f_r_flt : k (.reg .flt) = false) (f_r_pmu : k (.reg .pmu) = false) (k6 : Keeps k s0 a6) :
    Keeps k s0 (engEmit a1 a2 a3 a4 a5 a6) := by
  unfold engEmit
  exact (by lift_lets -underBinder; intro xh1; (try clear_value xh1); intro xh2; have h3 : Keeps k s0 xh2 := (by unfold xh2; exact (engFlush_keeps f_cmd f_flt f_xpt f_red f_zl f_eng f_cel f_lease f_mem f_pmu f_out f_free f_r_cmd f_r_xpt f_r_eth f_r_eng f_r_cel f_r_zl f_r_red f_r_flt f_r_pmu k6)); clear_value xh2; intro xh4; have h5 : Keeps k s0 xh4 := (by unfold xh4; exact (by split; exact (histSample_keeps f_cmd f_flt f_xpt f_red f_zl f_eng f_cel f_lease f_pmu f_out f_free f_r_cmd f_r_xpt f_r_eth f_r_cel f_r_zl f_r_red f_r_flt f_r_pmu h3); exact h3)); clear_value xh4; intro xh6; intro xh7; have h8 : Keeps k s0 xh7 := (by unfold xh7; exact (keep_ite (Keeps k s0) (h5.set_eng f_eng rfl) h3)); clear_value xh7; intro xh9; exact (h8.set_eng f_eng rfl))

theorem fsLoad_keeps {k s0 a1 a2 a3 a4 a5} (f_cmd : k .cmd = false) (f_flt : k .flt = false) (f_xpt : k .xpt = false) (f_red : k .red = false) (f_zl : k .zl = false) (f_eng : k .eng = false) (f_cel : k .cel = false) (f_lease : k .lease = false) (f_pmu : k .pmu = false) (f_out : k .out = false) (f_free : k .free = false) (f_r_cmd : k (.reg .cmd) = false) (f_r_xpt : k (.reg .xpt) = false) (f_r_eth : k (.reg .eth) = false) (f_r_eng : k (.reg .eng) = false) (f_r_cel : k (.reg .cel) = false) (f_r_zl : k (.reg .zl) = false) (f_r_red : k (.reg .red) = false) (f_r_flt : k (.reg .flt) = false) (f_r_pmu : k (.reg .pmu) = false) (k5 : Keeps k s0 a5) :
    KeepsP k s0 (fsLoad a1 a2 a3 a4 a5) := by
  unfold fsLoad
  exact (by lift_lets -underBinder; intro xh1; (try clear_value xh1); exact (by split; exact k5; exact (by lift_lets -underBinder; intro xh2; (try clear_value xh2); exact (by split; (rename_i vh3 vh4 vh5 he; have h6 := KeepsT.of_eq he (keep_ite (KeepsT k s0) k5 (celRead_keeps f_cmd f_flt f_xpt f_red f_zl f_eng f_cel f_lease f_pmu f_out f_free f_r_cmd f_r_xpt f_r_eth f_r_cel f_r_zl f_r_red f_r_flt f_r_pmu k5)); exact (by lift_lets -underBinder; intro xh7; (try clear_value xh7); intro xh8; (try clear_value xh8); intro xh9; intro xh10; (try clear_value xh10); intro xh11; have h12 : Keeps k s0 xh11 := (by unfold xh11; exact (keep_ite (Keeps k s0) h6 (State.count_keeps f_pmu f_r_pmu (State.bump_keeps (.of f_r_eng) h6)))); clear_value xh11; exact h12))))))

theorem engLineChan_keeps {k s0 a1 a2 a3} (f_cmd : k .cmd = false) (f_flt : k .flt = false) (f_xpt : k .xpt = false) (f_red : k .red = false) (f_zl : k .zl = false) (f_eng : k .eng = false) (f_cel : k .cel = false) (f_lease : k .lease = false) (f_mem : k .mem = false) (f_pmu : k .pmu = false) (f_out : k .out = false) (f_free : k .free = false) (f_r_cmd : k (.reg .cmd) = false) (f_r_xpt : k (.reg .xpt) = false) (f_r_eth : k (.reg .eth) = false) (f_r_eng : k (.reg .eng) = false) (f_r_cel : k (.reg .cel) = false) (f_r_zl : k (.reg .zl) = false) (f_r_red : k (.reg .red) = false) (f_r_flt : k (.reg .flt) = false) (f_r_pmu : k (.reg .pmu) = false) (k3 : Keeps k s0 a3) :
    Keeps k s0 (engLineChan a1 a2 a3) := by
  unfold engLineChan
  exact (by lift_lets -underBinder; intro xh1; (try clear_value xh1); exact (by split; exact (by lift_lets -underBinder; intro xh2; have h3 : Keeps k s0 xh2 := (by unfold xh2; exact (keep_ite (Keeps k s0) (fsSelect_keeps f_cmd f_flt f_xpt f_red f_zl f_eng f_cel f_lease f_pmu f_out f_free f_r_cmd f_r_xpt f_r_eth f_r_eng f_r_cel f_r_zl f_r_red f_r_flt f_r_pmu k3) k3)); clear_value xh2; intro xh4; (try clear_value xh4); intro xh5; (try clear_value xh5); exact (keep_ite (Keeps k s0) (engEmit_keeps f_cmd f_flt f_xpt f_red f_zl f_eng f_cel f_lease f_mem f_pmu f_out f_free f_r_cmd f_r_xpt f_r_eth f_r_eng f_r_cel f_r_zl f_r_red f_r_flt f_r_pmu h3) (by split; exact (engEmit_keeps f_cmd f_flt f_xpt f_red f_zl f_eng f_cel f_lease f_mem f_pmu f_out f_free f_r_cmd f_r_xpt f_r_eth f_r_eng f_r_cel f_r_zl f_r_red f_r_flt f_r_pmu h3); exact (by split; (rename_i vh6 vh7 he; have h8 := KeepsP.of_eq he (fsLoad_keeps f_cmd f_flt f_xpt f_red f_zl f_eng f_cel f_lease f_pmu f_out f_free f_r_cmd f_r_xpt f_r_eth f_r_eng f_r_cel f_r_zl f_r_red f_r_flt f_r_pmu h3); exact (engEmit_keeps f_cmd f_flt f_xpt f_red f_zl f_eng f_cel f_lease f_mem f_pmu f_out f_free f_r_cmd f_r_xpt f_r_eth f_r_eng f_r_cel f_r_zl f_r_red f_r_flt f_r_pmu h8)); (rename_i vh9 he; have h10 := KeepsP.of_eq he (fsLoad_keeps f_cmd f_flt f_xpt f_red f_zl f_eng f_cel f_lease f_pmu f_out f_free f_r_cmd f_r_xpt f_r_eth f_r_eng f_r_cel f_r_zl f_r_red f_r_flt f_r_pmu h3); exact h10))))); exact (by lift_lets -underBinder; intro xh11; (try clear_value xh11); intro xh12; (try clear_value xh12); intro xh13; have h14 : Keeps k s0 xh13 := (by unfold xh13; exact (State.setFsc_keeps f_eng k3)); clear_value xh13; exact (by split; exact (by lift_lets -underBinder; intro xh15; (try clear_value xh15); exact (keep_ite (Keeps k s0) h14 (keep_each (fun _ _ h16 => (by split; (rename_i vh17 vh18 he; have h19 := KeepsP.of_eq he (fsLoad_keeps f_cmd f_flt f_xpt f_red f_zl f_eng f_cel f_lease f_pmu f_out f_free f_r_cmd f_r_xpt f_r_eth f_r_eng f_r_cel f_r_zl f_r_red f_r_flt f_r_pmu h16); exact (engEmit_keeps f_cmd f_flt f_xpt f_red f_zl f_eng f_cel f_lease f_mem f_pmu f_out f_free f_r_cmd f_r_xpt f_r_eth f_r_eng f_r_cel f_r_zl f_r_red f_r_flt f_r_pmu h19)); (rename_i vh20 he; have h21 := KeepsP.of_eq he (fsLoad_keeps f_cmd f_flt f_xpt f_red f_zl f_eng f_cel f_lease f_pmu f_out f_free f_r_cmd f_r_xpt f_r_eth f_r_eng f_r_cel f_r_zl f_r_red f_r_flt f_r_pmu h16); exact h21))) h14))))); exact k3))

theorem engLines_keeps {k s0 a1 a2} (f_cmd : k .cmd = false) (f_flt : k .flt = false) (f_xpt : k .xpt = false) (f_red : k .red = false) (f_zl : k .zl = false) (f_eng : k .eng = false) (f_cel : k .cel = false) (f_lease : k .lease = false) (f_mem : k .mem = false) (f_pmu : k .pmu = false) (f_out : k .out = false) (f_free : k .free = false) (f_r_cmd : k (.reg .cmd) = false) (f_r_xpt : k (.reg .xpt) = false) (f_r_eth : k (.reg .eth) = false) (f_r_eng : k (.reg .eng) = false) (f_r_cel : k (.reg .cel) = false) (f_r_zl : k (.reg .zl) = false) (f_r_red : k (.reg .red) = false) (f_r_flt : k (.reg .flt) = false) (f_r_pmu : k (.reg .pmu) = false) (k2 : Keeps k s0 a2) :
    Keeps k s0 (engLines a1 a2) := by
  unfold engLines
  exact (keep_each (fun _ _ h1 => (by lift_lets -underBinder; intro xh2; have h3 : Keeps k s0 xh2 := (by unfold xh2; exact (engFlushAll_keeps f_cmd f_flt f_xpt f_red f_zl f_eng f_cel f_lease f_mem f_pmu f_out f_free f_r_cmd f_r_xpt f_r_eth f_r_eng f_r_cel f_r_zl f_r_red f_r_flt f_r_pmu h1)); clear_value xh2; intro xh4; have h5 : Keeps k s0 xh4 := (by unfold xh4; exact (keep_ite (Keeps k s0) (wbStart_keeps f_cmd f_flt f_xpt f_red f_zl f_eng f_cel f_lease f_pmu f_out f_free f_r_cmd f_r_xpt f_r_eth f_r_eng f_r_cel f_r_zl f_r_red f_r_flt f_r_pmu (keep_ite (Keeps k s0) (engRestart_keeps f_eng f_pmu f_r_pmu h3) h3)) h3)); clear_value xh4; exact (keep_each (fun _ _ h6 => (engLineChan_keeps f_cmd f_flt f_xpt f_red f_zl f_eng f_cel f_lease f_mem f_pmu f_out f_free f_r_cmd f_r_xpt f_r_eth f_r_eng f_r_cel f_r_zl f_r_red f_r_flt f_r_pmu h6)) h5))) k2)

theorem engInB_keeps {k s0 a1 a2 a3 a4 a5} (f_eng : k .eng = false) (k5 : Keeps k s0 a5) :
    Keeps k s0 (engInB a1 a2 a3 a4 a5) := by
  unfold engInB
  exact (by lift_lets -underBinder; intro xh1; (try clear_value xh1); intro xh2; exact (k5.set_eng f_eng rfl))

theorem engInA_keeps {k s0 a1 a2 a3 a4 a5} (f_cmd : k .cmd = false) (f_flt : k .flt = false) (f_xpt : k .xpt = false) (f_red : k .red = false) (f_zl : k .zl = false) (f_eng : k .eng = false) (f_cel : k .cel = false) (f_lease : k .lease = false) (f_mem : k .mem = false) (f_pmu : k .pmu = false) (f_out : k .out = false) (f_free : k .free = false) (f_r_cmd : k (.reg .cmd) = false) (f_r_xpt : k (.reg .xpt) = false) (f_r_eth : k (.reg .eth) = false) (f_r_eng : k (.reg .eng) = false) (f_r_cel : k (.reg .cel) = false) (f_r_zl : k (.reg .zl) = false) (f_r_red : k (.reg .red) = false) (f_r_flt : k (.reg .flt) = false) (f_r_pmu : k (.reg .pmu) = false) (k5 : Keeps k s0 a5) :
    Keeps k s0 (engInA a1 a2 a3 a4 a5) := by
  unfold engInA
  exact (by lift_lets -underBinder; intro xh1; (try clear_value xh1); intro xh2; have h3 : Keeps k s0 xh2 := (by unfold xh2; exact (updateLost_keeps f_r_eng (State.setFsc_keeps f_eng k5))); clear_value xh2; intro xh4; intro xh5; have h6 : Keeps k s0 xh5 := (by unfold xh5; exact (h3.set_eng f_eng rfl)); clear_value xh5; exact (by split; exact (engEmit_keeps f_cmd f_flt f_xpt f_red f_zl f_eng f_cel f_lease f_mem f_pmu f_out f_free f_r_cmd f_r_xpt f_r_eth f_r_eng f_r_cel f_r_zl f_r_red f_r_flt f_r_pmu h6); exact (by lift_lets -underBinder; intro xh7; (try clear_value xh7); intro xh8; (try clear_value xh8); intro xh9; intro xh10; intro xh11; have h12 : Keeps k s0 xh11 := (by unfold xh11; exact (keep_ite (Keeps k s0) (State.setFsc_keeps f_eng h6) h6)); clear_value xh11; exact (keep_ite (Keeps k s0) (State.count_keeps f_pmu f_r_pmu (State.bump_keeps (.of f_r_eng) h6)) (by split; exact h12; exact (by lift_lets -underBinder; intro xh13; have h14 : Keeps k s0 xh13 := (by unfold xh13; exact (fsStore_keeps f_red f_eng f_cel f_mem f_pmu f_free f_r_eng f_r_cel f_r_pmu h12)); clear_value xh13; intro xh15; (try clear_value xh15); exact (keep_ite (Keeps k s0) (State.setFsc_keeps f_eng h14) h14)))))))

theorem State.setTx_keeps {k s0 a1 a2 a3} (f_flw : k .flw = false) (k1 : Keeps k s0 a1) :
    Keeps k s0 (State.setTx a1 a2 a3) := by
  unfold State.setTx
  exact (by lift_lets -underBinder; intro xh1; exact (k1.set_flw f_flw (.inr rfl)))

theorem State.setLeg_keeps {k s0 a1 a2 a3} (f_flw : k .flw = false) (k1 : Keeps k s0 a1) :
    Keeps k s0 (State.setLeg a1 a2 a3) := by
  unfold State.setLeg
  exact (by lift_lets -underBinder; intro xh1; exact (k1.set_flw f_flw (.inr rfl)))

theorem State.setRx_keeps {k s0 a1 a2 a3} (f_flw : k .flw = false) (k1 : Keeps k s0 a1) :
    Keeps k s0 (State.setRx a1 a2 a3) := by
  unfold State.setRx
  exact (by lift_lets -underBinder; intro xh1; exact (k1.set_flw f_flw (.inr rfl)))

theorem flowCount_keeps {k s0 a1 a2 a3 a4} (f_pmu : k .pmu = false) (f_r_pmu : k (.reg .pmu) = false) (g2 : RegFree k a2.reg) (k4 : Keeps k s0 a4) :
    Keeps k s0 (flowCount a1 a2 a3 a4) := by
  unfold flowCount
  exact (State.count_keeps f_pmu f_r_pmu (State.bump_keeps g2 k4))

theorem outside_keeps {k s0 a1 a2 a3} (f_pmu : k .pmu = false) (f_r_flw : k (.reg .flw) = false) (f_r_pmu : k (.reg .pmu) = false) (k3 : Keeps k s0 a3) :
    Keeps k s0 (outside a1 a2 a3) := by
  unfold outside
  exact (keep_ite (Keeps k s0) (flowCount_keeps f_pmu f_r_pmu (.of f_r_flw) k3) (flowCount_keeps f_pmu f_r_pmu (.of f_r_flw) k3))

theorem legDelivers_keeps {k s0 a1 a2} (f_flw : k .flw = false) (f_r_flw : k (.reg .flw) = false) (k2 : Keeps k s0 a2) :
    Keeps k s0 (legDelivers a1 a2) := by
  unfold legDelivers
  exact (by lift_lets -underBinder; intro xh1; intro xh2; have h3 : Keeps k s0 xh2 := (by unfold xh2; exact (State.setLeg_keeps f_flw k2)); clear_value xh2; exact (keep_when (fun _ h4 => (State.p_keeps (.of f_r_flw) h4)) h3))

theorem countEmpty_keeps {k s0 a1 a2 a3} (f_flw : k .flw = false) (k3 : Keeps k s0 a3) :
    Keeps k s0 (countEmpty a1 a2 a3) := by
  unfold countEmpty
  exact (by lift_lets -underBinder; intro xh1; exact (State.setRx_keeps f_flw k3))

theorem showLost_keeps {k s0 a1 a2 a3} (f_r_flw : k (.reg .flw) = false) (k3 : Keeps k s0 a3) :
    Keeps k s0 (showLost a1 a2 a3) := by
  unfold showLost
  exact (by lift_lets -underBinder; intro xh1; have h2 : Keeps k s0 xh1 := (by unfold xh1; exact (State.p_keeps (.of f_r_flw) k3)); clear_value xh1; exact (by split; exact (State.p_keeps (.of f_r_flw) h2); exact h2))

theorem spill_keeps {k s0 a1 a2 a3} (f_red : k .red = false) (f_cel : k .cel = false) (f_mem : k .mem = false) (f_pmu : k .pmu = false) (f_r_cel : k (.reg .cel) = false) (f_r_pmu : k (.reg .pmu) = false) (k3 : Keeps k s0 a3) :
    Keeps k s0 (spill a1 a2 a3) := by
  unfold spill
  exact (by lift_lets -underBinder; intro xh1; (try clear_value xh1); intro xh2; (try clear_value xh2); intro xh3; (try clear_value xh3); exact (keep_ite (Keeps k s0) (celWrite_keeps f_red f_cel f_mem f_pmu f_r_cel f_r_pmu k3) k3))

theorem addLine_keeps {k s0 a1 a2 a3 a4} (f_red : k .red = false) (f_flw : k .flw = false) (f_cel : k .cel = false) (f_mem : k .mem = false) (f_pmu : k .pmu = false) (f_r_cel : k (.reg .cel) = false) (f_r_pmu : k (.reg .pmu) = false) (k4 : Keeps k s0 a4) :
    Keeps k s0 (addLine a1 a2 a3 a4) := by
  unfold addLine
  exact (spill_keeps f_red f_cel f_mem f_pmu f_r_cel f_r_pmu (State.setRx_keeps f_flw k4))

theorem leaveLost_keeps {k s0 a1 a2} (f_cmd : k .cmd = false) (f_pmu : k .pmu = false) (f_r_cmd : k (.reg .cmd) = false) (f_r_flw : k (.reg .flw) = false) (f_r_pmu : k (.reg .pmu) = false) (k2 : Keeps k s0 a2) :
    Keeps k s0 (leaveLost a1 a2) := by
  unfold leaveLost
  exact (by lift_lets -underBinder; intro xh1; have h2 : Keeps k s0 xh1 := (by unfold xh1; exact (State.count_keeps f_pmu f_r_pmu (showLost_keeps f_r_flw k2))); clear_value xh1; exact (raiseEvent_keeps f_cmd f_pmu f_r_cmd f_r_pmu h2))

theorem passAnc_keeps {k s0 a1 a2 a3 a4 a5} (f_cmd : k .cmd = false) (f_flw : k .flw = false) (f_pmu : k .pmu = false) (f_r_cmd : k (.reg .cmd) = false) (f_r_flw : k (.reg .flw) = false) (f_r_pmu : k (.reg .pmu) = false) (k5 : Keeps k s0 a5) :
    Keeps k s0 (passAnc a1 a2 a3 a4 a5) := by
  unfold passAnc
  exact (by lift_lets -underBinder; intro xh1; (try clear_value xh1); intro xh2; have h3 : Keeps k s0 xh2 := (by unfold xh2; exact (keep_ite (Keeps k s0) (leaveLost_keeps f_cmd f_pmu f_r_cmd f_r_flw f_r_pmu k5) k5)); clear_value xh2; intro xh4; have h6 : Keeps k s0 xh4 := (by unfold xh4; exact (keep_when (fun _ h5 => (countEmpty_keeps f_flw h5)) h3)); clear_value xh4; intro xh7; (try clear_value xh7); exact (State.setRx_keeps f_flw h6))

theorem setGrid_keeps {k s0 a1 a2 a3} (f_flw : k .flw = false) (k3 : Keeps k s0 a3) :
    Keeps k s0 (setGrid a1 a2 a3) := by
  unfold setGrid
  exact (by lift_lets -underBinder; intro xh1; (try clear_value xh1); intro xh2; (try clear_value xh2); intro xh3; (try clear_value xh3); intro xh4; (try clear_value xh4); intro xh5; exact (State.setRx_keeps f_flw k3))

theorem startGrid_keeps {k s0 a1 a2 a3 a4} (f_flw : k .flw = false) (k4 : Keeps k s0 a4) :
    Keeps k s0 (startGrid a1 a2 a3 a4) := by
  unfold startGrid
  exact (by lift_lets -underBinder; intro xh1; intro xh2; have h3 : Keeps k s0 xh2 := (by unfold xh2; exact (State.setLeg_keeps f_flw k4)); clear_value xh2; exact (keep_ite (Keeps k s0) h3 (setGrid_keeps f_flw h3)))

theorem gridFrame_keeps {k s0 a1 a2 a3 a4} (f_flw : k .flw = false) (f_pmu : k .pmu = false) (f_r_flw : k (.reg .flw) = false) (f_r_pmu : k (.reg .pmu) = false) (k4 : Keeps k s0 a4) :
    KeepsP k s0 (gridFrame a1 a2 a3 a4) := by
  unfold gridFrame
  exact (by lift_lets -underBinder; intro xh1; (try clear_value xh1); intro xh2; (try clear_value xh2); intro xh3; (try clear_value xh3); intro xh4; intro xh5; (try clear_value xh5); intro xh6; subst xh6; intro xh7; have h8 : KeepsP k s0 xh7 := (by unfold xh7; exact (keep_ite (KeepsP k s0) k4 (startGrid_keeps f_flw k4))); clear_value xh7; exact (by split; exact h8; exact (by lift_lets -underBinder; intro xh9; (try clear_value xh9); exact (by split; exact (keep_ite (KeepsP k s0) k4 (keep_ite (KeepsP k s0) h8 (keep_ite (KeepsP k s0) (State.setLeg_keeps f_flw k4) (flowCount_keeps f_pmu f_r_pmu (.of f_r_flw) (State.setLeg_keeps f_flw k4)))))))))

theorem takePacket_keeps {k s0 a1 a2 a3 a4} (f_flw : k .flw = false) (f_pmu : k .pmu = false) (f_r_flw : k (.reg .flw) = false) (f_r_pmu : k (.reg .pmu) = false) (k3 : ∀ x0, Keeps k s0 x0 → Keeps k s0 (a3 x0)) (k4 : Keeps k s0 a4) :
    Keeps k s0 (takePacket a1 a2 a3 a4) := by
  unfold takePacket
  exact (by lift_lets -underBinder; intro xh1; (try clear_value xh1); intro xh2; (try clear_value xh2); intro xh3; have h4 : Keeps k s0 xh3 := (by unfold xh3; exact (State.setRx_keeps f_flw k4)); clear_value xh3; exact (keep_ite (Keeps k s0) (legDelivers_keeps f_flw f_r_flw (flowCount_keeps f_pmu f_r_pmu (.of f_r_flw) k4)) (legDelivers_keeps f_flw f_r_flw (k3 _ (State.count_keeps f_pmu f_r_pmu h4)))))

theorem writeAnc_keeps {k s0 a1 a2 a3 a4 a5} (f_red : k .red = false) (f_flw : k .flw = false) (f_cel : k .cel = false) (f_mem : k .mem = false) (f_pmu : k .pmu = false) (f_r_flw : k (.reg .flw) = false) (f_r_cel : k (.reg .cel) = false) (f_r_pmu : k (.reg .pmu) = false) (k5 : Keeps k s0 a5) :
    Keeps k s0 (writeAnc a1 a2 a3 a4 a5) := by
  unfold writeAnc
  exact (by lift_lets -underBinder; intro xh1; (try clear_value xh1); intro xh2; (try clear_value xh2); intro xh3; (try clear_value xh3); intro xh4; (try clear_value xh4); intro xh5; (try clear_value xh5); intro xh6; (try clear_value xh6); exact (keep_ite (Keeps k s0) (flowCount_keeps f_pmu f_r_pmu (.of f_r_flw) k5) (addLine_keeps f_red f_flw f_cel f_mem f_pmu f_r_cel f_r_pmu k5)))

theorem recvAnc_keeps {k s0 a1 a2 a3 a4 a5} (f_red : k .red = false) (f_flw : k .flw = false) (f_cel : k .cel = false) (f_mem : k .mem = false) (f_pmu : k .pmu = false) (f_r_flw : k (.reg .flw) = false) (f_r_cel : k (.reg .cel) = false) (f_r_pmu : k (.reg .pmu) = false) (k5 : Keeps k s0 a5) :
    Keeps k s0 (recvAnc a1 a2 a3 a4 a5) := by
  unfold recvAnc
  exact (by lift_lets -underBinder; intro xh1; (try clear_value xh1); intro xh2; (try clear_value xh2); intro xh3; (try clear_value xh3); exact (by split; (rename_i vh4 vh5 he; have h6 := KeepsP.of_eq he (gridFrame_keeps f_flw f_pmu f_r_flw f_r_pmu k5); exact (by lift_lets -underBinder; intro xh7; intro xh8; (try clear_value xh8); exact (by split; exact (by split; exact (outside_keeps f_pmu f_r_flw f_r_pmu h6); exact (takePacket_keeps f_flw f_pmu f_r_flw f_r_pmu (fun _ h9 => (keep_each (fun _ _ h10 => (writeAnc_keeps f_red f_flw f_cel f_mem f_pmu f_r_flw f_r_cel f_r_pmu h10)) h9)) h6)); exact (keep_ite (Keeps k s0) h6 (takePacket_keeps f_flw f_pmu f_r_flw f_r_pmu (fun _ h11 => (keep_each (fun _ _ h12 => (writeAnc_keeps f_red f_flw f_cel f_mem f_pmu f_r_flw f_r_cel f_r_pmu h12)) h11)) h6)); exact h6)))))

theorem recvVideo_keeps {k s0 a1 a2 a3 a4 a5} (f_red : k .red = false) (f_flw : k .flw = false) (f_cel : k .cel = false) (f_mem : k .mem = false) (f_pmu : k .pmu = false) (f_r_flw : k (.reg .flw) = false) (f_r_cel : k (.reg .cel) = false) (f_r_pmu : k (.reg .pmu) = false) (k5 : Keeps k s0 a5) :
    Keeps k s0 (recvVideo a1 a2 a3 a4 a5) := by
  unfold recvVideo
  exact (by lift_lets -underBinder; intro xh1; (try clear_value xh1); intro xh2; (try clear_value xh2); intro xh3; (try clear_value xh3); exact (keep_ite (Keeps k s0) (flowCount_keeps f_pmu f_r_pmu (.of f_r_flw) k5) (by split; (rename_i vh4 vh5 he; have h6 := KeepsP.of_eq he (gridFrame_keeps f_flw f_pmu f_r_flw f_r_pmu k5); exact (by lift_lets -underBinder; intro xh7; (try clear_value xh7); exact (by split; exact (by split; exact (outside_keeps f_pmu f_r_flw f_r_pmu h6); exact (takePacket_keeps f_flw f_pmu f_r_flw f_r_pmu (fun _ h8 => (keep_each (fun _ _ h9 => (by lift_lets -underBinder; intro xh10; (try clear_value xh10); exact (keep_ite (Keeps k s0) h9 (addLine_keeps f_red f_flw f_cel f_mem f_pmu f_r_cel f_r_pmu h9)))) h8)) h6)); exact h6))))))

theorem clearGrids_keeps {k s0 a1 a2} (f_flw : k .flw = false) (k2 : Keeps k s0 a2) :
    Keeps k s0 (clearGrids a1 a2) := by
  unfold clearGrids
  exact (keep_each (fun _ _ h1 => (by lift_lets -underBinder; intro xh2; exact (State.setLeg_keeps f_flw h1))) k2)

theorem enterLost_keeps {k s0 a1 a2} (f_cmd : k .cmd = false) (f_flt : k .flt = false) (f_xpt : k .xpt = false) (f_red : k .red = false) (f_flw : k .flw = false) (f_zl : k .zl = false) (f_eng : k .eng = false) (f_cel : k .cel = false) (f_lease : k .lease = false) (f_pmu : k .pmu = false) (f_out : k .out = false) (f_free : k .free = false) (f_r_cmd : k (.reg .cmd) = false) (f_r_xpt : k (.reg .xpt) = false) (f_r_eth : k (.reg .eth) = false) (f_r_flw : k (.reg .flw) = false) (f_r_cel : k (.reg .cel) = false) (f_r_zl : k (.reg .zl) = false) (f_r_red : k (.reg .red) = false) (f_r_flt : k (.reg .flt) = false) (f_r_pmu : k (.reg .pmu) = false) (k2 : Keeps k s0 a2) :
    Keeps k s0 (enterLost a1 a2) := by
  unfold enterLost
  exact (by lift_lets -underBinder; intro xh1; (try clear_value xh1); intro xh2; have h4 : Keeps k s0 xh2 := (by unfold xh2; exact (keep_when (fun _ h3 => (State.p_keeps (.of f_r_xpt) h3)) k2)); clear_value xh2; intro xh5; (try clear_value xh5); intro xh6; have h7 : Keeps k s0 xh6 := (by unfold xh6; exact (State.count_keeps f_pmu f_r_pmu (showLost_keeps f_r_flw (clearGrids_keeps f_flw (State.setRx_keeps f_flw h4))))); clear_value xh6; exact (occur_keeps f_cmd f_flt f_xpt f_red f_zl f_eng f_cel f_lease f_pmu f_out f_free f_r_cmd f_r_xpt f_r_eth f_r_cel f_r_zl f_r_red f_r_flt f_r_pmu (raiseEvent_keeps f_cmd f_pmu f_r_cmd f_r_pmu h7)))

theorem forgetRead_keeps {k s0 a1 a2 a3} (f_cel : k .cel = false) (k3 : Keeps k s0 a3) :
    Keeps k s0 (forgetRead a1 a2 a3) := by
  unfold forgetRead
  exact (by lift_lets -underBinder; intro xh1; exact (k3.set_cel f_cel rfl))

theorem playRecord_keeps {k s0 a1 a2 a3} (f_cmd : k .cmd = false) (f_flt : k .flt = false) (f_xpt : k .xpt = false) (f_red : k .red = false) (f_flw : k .flw = false) (f_zl : k .zl = false) (f_eng : k .eng = false) (f_cel : k .cel = false) (f_lease : k .lease = false) (f_pmu : k .pmu = false) (f_out : k .out = false) (f_free : k .free = false) (f_r_cmd : k (.reg .cmd) = false) (f_r_xpt : k (.reg .xpt) = false) (f_r_eth : k (.reg .eth) = false) (f_r_flw : k (.reg .flw) = false) (f_r_cel : k (.reg .cel) = false) (f_r_zl : k (.reg .zl) = false) (f_r_red : k (.reg .red) = false) (f_r_flt : k (.reg .flt) = false) (f_r_pmu : k (.reg .pmu) = false) (k3 : Keeps k s0 a3) :
    Keeps k s0 (playRecord a1 a2 a3) := by
  unfold playRecord
  exact (by lift_lets -underBinder; intro xh1; (try clear_value xh1); intro xh2; (try clear_value xh2); intro xh3; (try clear_value xh3); intro xh4; (try clear_value xh4); intro xh5; (try clear_value xh5); intro xh6; (try clear_value xh6); intro xh7; (try clear_value xh7); intro xh8; (try clear_value xh8); intro xh9; (try clear_value xh9); intro xh10; intro xh11; (try clear_value xh11); intro xh12; (try clear_value xh12); intro xh13; (try clear_value xh13); intro xh14; (try clear_value xh14); intro xh15; (try clear_value xh15); intro xh16; (try clear_value xh16); intro xh17; (try clear_value xh17); intro xh18; (try clear_value xh18); intro xh19; (try clear_value xh19); intro xh20; (try clear_value xh20); intro xh21; (try clear_value xh21); intro xh22; (try clear_value xh22); intro xh23; intro xh24; (try clear_value xh24); intro xh25; (try clear_value xh25); intro xh26; have h27 : Keeps k s0 xh26 := (by unfold xh26; exact (keep_ite (Keeps k s0) (leaveLost_keeps f_cmd f_pmu f_r_cmd f_r_flw f_r_pmu k3) k3)); clear_value xh26; intro xh28; (try clear_value xh28); intro xh29; (try clear_value xh29); intro xh30; (try clear_value xh30); intro xh31; (try clear_value xh31); intro xh32; have h34 : Keeps k s0 xh32 := (by unfold xh32; exact (keep_when (fun _ h33 => (occur_keeps f_cmd f_flt f_xpt f_red f_zl f_eng f_cel f_lease f_pmu f_out f_free f_r_cmd f_r_xpt f_r_eth f_r_cel f_r_zl f_r_red f_r_flt f_r_pmu (flowCount_keeps f_pmu f_r_pmu (.of f_r_flw) h33))) h27)); clear_value xh32; intro xh35; have h37 : Keeps k s0 xh35 := (by unfold xh35; exact (keep_when (fun _ h36 => (State.count_keeps f_pmu f_r_pmu (State.bump_keeps (.of f_r_flw) h36))) h34)); clear_value xh35; intro xh38; (try clear_value xh38); intro xh39; have h40 : Keeps k s0 xh39 := (by unfold xh39; exact (State.setRx_keeps f_flw h37)); clear_value xh39; intro xh41; have h43 : Keeps k s0 xh41 := (by unfold xh41; exact (keep_when (fun _ h42 => (countEmpty_keeps f_flw h42)) h40)); clear_value xh41; intro xh44; have h45 : Keeps k s0 xh44 := (by unfold xh44; exact (by split; exact (forgetRead_keeps f_cel (passAnc_keeps f_cmd f_flw f_pmu f_r_cmd f_r_flw f_r_pmu h43)); exact h43)); clear_value xh44; intro xh46; have h47 : Keeps k s0 xh46 := (by unfold xh46; exact (forgetRead_keeps f_cel h45)); clear_value xh46; intro xh48; (try clear_value xh48); intro xh49; exact (keep_ite (Keeps k s0) (h47.set_flw f_flw (.inr rfl)) h47))

theorem ethStat_keeps {k s0 a1 a2 a3 a4 a5} (f_cmd : k .cmd = false) (f_pmu : k .pmu = false) (f_r_cmd : k (.reg .cmd) = false) (f_r_eth : k (.reg .eth) = false) (f_r_pmu : k (.reg .pmu) = false) (k5 : Keeps k s0 a5) :
    Keeps k s0 (ethStat a1 a2 a3 a4 a5) := by
  unfold ethStat
  exact (by lift_lets -underBinder; intro xh1; (try clear_value xh1); intro xh2; (try clear_value xh2); intro xh3; have h4 : Keeps k s0 xh3 := (by unfold xh3; exact (State.count_keeps f_pmu f_r_pmu (State.wr_keeps (.of f_r_eth) (State.wr_keeps (.of f_r_eth) k5)))); clear_value xh3; intro xh5; subst xh5; exact (keep_ite (Keeps k s0) (raiseEvent_keeps f_cmd f_pmu f_r_cmd f_r_pmu (State.p_keeps (RegFree.ite (.of f_r_eth) (.of f_r_eth)) h4)) h4))

theorem recvAudio_keeps {k s0 a1 a2 a3 a4 a5} (f_cmd : k .cmd = false) (f_flw : k .flw = false) (f_pmu : k .pmu = false) (f_r_cmd : k (.reg .cmd) = false) (f_r_flw : k (.reg .flw) = false) (f_r_pmu : k (.reg .pmu) = false) (k5 : Keeps k s0 a5) :
    Keeps k s0 (recvAudio a1 a2 a3 a4 a5) := by
  unfold recvAudio
  exact (by lift_lets -underBinder; intro xh1; (try clear_value xh1); intro xh2; (try clear_value xh2); intro xh3; (try clear_value xh3); intro xh4; (try clear_value xh4); intro xh5; (try clear_value xh5); intro xh6; (try clear_value xh6); intro xh7; (try clear_value xh7); intro xh8; (try clear_value xh8); intro xh9; intro xh10; (try clear_value xh10); intro xh11; (try clear_value xh11); intro xh12; have h16 : Keeps k s0 xh12 := (by unfold xh12; exact (takePacket_keeps f_flw f_pmu f_r_flw f_r_pmu (fun _ h13 => (by lift_lets -underBinder; intro xh14; exact (keep_when (fun _ h15 => (flowCount_keeps f_pmu f_r_pmu (.of f_r_flw) h15)) (State.setRx_keeps f_flw h13)))) k5)); clear_value xh12; exact (keep_ite (Keeps k s0) (flowCount_keeps f_pmu f_r_pmu (.of f_r_flw) k5) (keep_ite (Keeps k s0) (flowCount_keeps f_pmu f_r_pmu (.of f_r_flw) k5) (keep_ite (Keeps k s0) (flowCount_keeps f_pmu f_r_pmu (.of f_r_flw) k5) (keep_when (fun _ h17 => (leaveLost_keeps f_cmd f_pmu f_r_cmd f_r_flw f_r_pmu h17)) h16)))))

theorem flowReceive_keeps {k s0 a1 a2 a3 a4 a5} (f_cmd : k .cmd = false) (f_red : k .red = false) (f_flw : k .flw = false) (f_cel : k .cel = false) (f_mem : k .mem = false) (f_pmu : k .pmu = false) (f_r_cmd : k (.reg .cmd) = false) (f_r_eth : k (.reg .eth) = false) (f_r_flw : k (.reg .flw) = false) (f_r_cel : k (.reg .cel) = false) (f_r_pmu : k (.reg .pmu) = false) (k5 : Keeps k s0 a5) :
    Keeps k s0 (flowReceive a1 a2 a3 a4 a5) := by
  unfold flowReceive
  exact (by lift_lets -underBinder; intro xh1; (try clear_value xh1); intro xh2; (try clear_value xh2); intro xh3; (try clear_value xh3); intro xh4; have h5 : Keeps k s0 xh4 := (by unfold xh4; exact (ethStat_keeps f_cmd f_pmu f_r_cmd f_r_eth f_r_pmu k5)); clear_value xh4; exact (keep_ite (Keeps k s0) (ethStat_keeps f_cmd f_pmu f_r_cmd f_r_eth f_r_pmu k5) (keep_ite (Keeps k s0) (ethStat_keeps f_cmd f_pmu f_r_cmd f_r_eth f_r_pmu k5) (by split; exact (recvVideo_keeps f_red f_flw f_cel f_mem f_pmu f_r_flw f_r_cel f_r_pmu h5); exact (recvAudio_keeps f_cmd f_flw f_pmu f_r_cmd f_r_flw f_r_pmu h5); exact (recvAnc_keeps f_red f_flw f_cel f_mem f_pmu f_r_flw f_r_cel f_r_pmu h5)))))

theorem State.setPort_keeps {k s0 a1 a2 a3 a4} (f_flw : k .flw = false) (k1 : Keeps k s0 a1) :
    Keeps k s0 (State.setPort a1 a2 a3 a4) := by
  unfold State.setPort
  exact (by lift_lets -underBinder; intro xh1; exact (k1.set_flw f_flw (.inr rfl)))

theorem hostTxDone_keeps {k s0 a1 a2 a3 a4} (f_cmd : k .cmd = false) (f_flw : k .flw = false) (f_pmu : k .pmu = false) (f_out : k .out = false) (f_r_pmu : k (.reg .pmu) = false) (k4 : Keeps k s0 a4) :
    Keeps k s0 (hostTxDone a1 a2 a3 a4) := by
  unfold hostTxDone
  exact (by lift_lets -underBinder; intro xh1; (try clear_value xh1); intro xh2; (try clear_value xh2); intro xh3; (try clear_value xh3); exact (keep_ite (Keeps k s0) (raiseIrq_keeps f_cmd f_pmu f_out f_r_pmu (State.emit_keeps f_out k4)) (State.setPort_keeps f_flw k4)))

theorem flowFrame_keeps {k s0 a1 a2 a3} (f_free : k .free = false) (k3 : Keeps k s0 a3) :
    KeepsP k s0 (flowFrame a1 a2 a3) := by
  unfold flowFrame
  exact (by lift_lets -underBinder; intro xh1; (try clear_value xh1); intro xh2; (try clear_value xh2); exact (by split; (rename_i vh3 vh4 he; have h5 := KeepsP.of_eq he (State.freeNat_keeps f_free k3); exact (by lift_lets -underBinder; intro xh6; (try clear_value xh6); intro xh7; (try clear_value xh7); intro xh8; (try clear_value xh8); intro xh9; (try clear_value xh9); intro xh10; intro xh11; (try clear_value xh11); intro xh12; intro xh13; (try clear_value xh13); intro xh14; (try clear_value xh14); exact h5))))

theorem txKick_keeps {k s0 a1 a2 a3} (f_flw : k .flw = false) (k3 : Keeps k s0 a3) :
    Keeps k s0 (txKick a1 a2 a3) := by
  unfold txKick
  exact (by lift_lets -underBinder; intro xh1; (try clear_value xh1); exact (keep_ite (Keeps k s0) k3 (by split; exact k3; exact (by split; exact k3; exact (by lift_lets -underBinder; intro xh2; (try clear_value xh2); exact (by split; exact (State.setPort_keeps f_flw k3)))))))

theorem enqueue_keeps {k s0 a1 a2 a3 a4} (f_flw : k .flw = false) (k4 : Keeps k s0 a4) :
    Keeps k s0 (enqueue a1 a2 a3 a4) := by
  unfold enqueue
  exact (by lift_lets -underBinder; intro xh1; (try clear_value xh1); exact (txKick_keeps f_flw (State.setPort_keeps f_flw k4)))

theorem sendPacket_keeps {k s0 a1 a2 a3 a4} (f_cmd : k .cmd = false) (f_flw : k .flw = false) (f_pmu : k .pmu = false) (f_free : k .free = false) (f_r_cmd : k (.reg .cmd) = false) (f_r_eth : k (.reg .eth) = false) (f_r_flw : k (.reg .flw) = false) (f_r_pmu : k (.reg .pmu) = false) (k4 : Keeps k s0 a4) :
    Keeps k s0 (sendPacket a1 a2 a3 a4) := by
  unfold sendPacket
  exact (by lift_lets -underBinder; intro xh1; (try clear_value xh1); intro xh2; (try clear_value xh2); exact (by split; (rename_i vh3 vh4 he; have h5 := KeepsP.of_eq he (flowFrame_keeps f_free k4); exact (by lift_lets -underBinder; intro xh6; (try clear_value xh6); exact (keep_ite (Keeps k s0) (ethStat_keeps f_cmd f_pmu f_r_cmd f_r_eth f_r_pmu (State.count_keeps f_pmu f_r_pmu h5)) (keep_ite (Keeps k s0) (ethStat_keeps f_cmd f_pmu f_r_cmd f_r_eth f_r_pmu (flowCount_keeps f_pmu f_r_pmu (.of f_r_flw) h5)) (enqueue_keeps f_flw h5)))))))

theorem upTx_keeps {k s0 a1 a2 a3 a4} (f_flw : k .flw = false) (k4 : Keeps k s0 a4) :
    Keeps k s0 (upTx a1 a2 a3 a4) := by
  unfold upTx
  exact (by lift_lets -underBinder; intro xh1; exact (keep_ite (Keeps k s0) (k4.set_flw f_flw (.inr rfl)) (State.setTx_keeps f_flw k4)))

theorem sendNext_keeps {k s0 a1 a2 a3} (f_cmd : k .cmd = false) (f_flw : k .flw = false) (f_pmu : k .pmu = false) (f_free : k .free = false) (f_r_cmd : k (.reg .cmd) = false) (f_r_eth : k (.reg .eth) = false) (f_r_flw : k (.reg .flw) = false) (f_r_pmu : k (.reg .pmu) = false) (k3 : Keeps k s0 a3) :
    Keeps k s0 (sendNext a1 a2 a3) := by
  unfold sendNext
  exact (by split; exact k3; exact (by split; exact k3; exact (keep_ite (Keeps k s0) (sendPacket_keeps f_cmd f_flw f_pmu f_free f_r_cmd f_r_eth f_r_flw f_r_pmu (upTx_keeps f_flw k3)) k3)))

theorem flowLine1_keeps {k s0 a1 a2} (f_flw : k .flw = false) (k2 : Keeps k s0 a2) :
    Keeps k s0 (flowLine1 a1 a2) := by
  unfold flowLine1
  exact (by lift_lets -underBinder; intro xh1; intro xh2; have h4 : Keeps k s0 xh2 := (by unfold xh2; exact (keep_each (fun _ _ h3 => (upTx_keeps f_flw h3)) k2)); clear_value xh2; intro xh5; intro xh6; exact (h4.set_flw f_flw (.inr rfl)))

theorem shareTx_keeps {k s0 a1 a2 a3 a4} (f_flw : k .flw = false) (k4 : Keeps k s0 a4) :
    Keeps k s0 (shareTx a1 a2 a3 a4) := by
  unfold shareTx
  exact (by lift_lets -underBinder; intro xh1; (try clear_value xh1); exact (keep_each (fun _ _ h2 => (keep_ite (Keeps k s0) (upTx_keeps f_flw h2) h2)) k4))

theorem packetise_keeps {k s0 a1 a2 a3 a4} (f_flw : k .flw = false) (f_free : k .free = false) (k4 : Keeps k s0 a4) :
    Keeps k s0 (packetise a1 a2 a3 a4) := by
  unfold packetise
  exact (by lift_lets -underBinder; intro xh1; (try clear_value xh1); exact (keep_each (fun _ _ h2 => (by lift_lets -underBinder; intro xh3; (try clear_value xh3); intro xh4; (try clear_value xh4); exact (by split; exact h2; exact (by lift_lets -underBinder; intro xh5; (try clear_value xh5); exact (keep_ite (Keeps k s0) (by split; exact (by lift_lets -underBinder; intro xh6; (try clear_value xh6); exact (shareTx_keeps f_flw (upTx_keeps f_flw h2))); exact h2) (keep_ite (Keeps k s0) h2 (by split; (rename_i vh7 vh8 he; have h9 := KeepsP.of_eq he (State.freeNat_keeps f_free h2); exact (shareTx_keeps f_flw (upTx_keeps f_flw h9)))))))))) k4))

theorem pushTxts_keeps {k s0 a1 a2 a3 a4} (f_cmd : k .cmd = false) (f_flt : k .flt = false) (f_xpt : k .xpt = false) (f_ptp : k .ptp = false) (f_red : k .red = false) (f_zl : k .zl = false) (f_eng : k .eng = false) (f_cel : k .cel = false) (f_lease : k .lease = false) (f_pmu : k .pmu = false) (f_out : k .out = false) (f_free : k .free = false) (f_r_cmd : k (.reg .cmd) = false) (f_r_xpt : k (.reg .xpt) = false) (f_r_ptp : k (.reg .ptp) = false) (f_r_eth : k (.reg .eth) = false) (f_r_cel : k (.reg .cel) = false) (f_r_zl : k (.reg .zl) = false) (f_r_red : k (.reg .red) = false) (f_r_flt : k (.reg .flt) = false) (f_r_pmu : k (.reg .pmu) = false) (k4 : Keeps k s0 a4) :
    Keeps k s0 (pushTxts a1 a2 a3 a4) := by
  unfold pushTxts
  exact (by lift_lets -underBinder; intro xh1; (try clear_value xh1); intro xh2; intro xh3; have h4 : Keeps k s0 xh3 := (by unfold xh3; exact (k4.set_ptp f_ptp)); clear_value xh3; intro xh5; have h6 : Keeps k s0 xh5 := (by unfold xh5; exact (State.count_keeps f_pmu f_r_pmu (State.p_keeps (.of f_r_ptp) h4))); clear_value xh5; exact (keep_ite (Keeps k s0) (occur_keeps f_cmd f_flt f_xpt f_red f_zl f_eng f_cel f_lease f_pmu f_out f_free f_r_cmd f_r_xpt f_r_eth f_r_cel f_r_zl f_r_red f_r_flt f_r_pmu (State.count_keeps f_pmu f_r_pmu (State.bump_keeps (.of f_r_ptp) (State.p_keeps (.of f_r_ptp) k4)))) (keep_when (fun _ h7 => (raiseEvent_keeps f_cmd f_pmu f_r_cmd f_r_pmu h7)) h6)))

theorem frameSent_keeps {k s0 a1 a2 a3 a4 a5 a6 a7} (f_cmd : k .cmd = false) (f_flt : k .flt = false) (f_xpt : k .xpt = false) (f_ptp : k .ptp = false) (f_red : k .red = false) (f_flw : k .flw = false) (f_zl : k .zl = false) (f_eng : k .eng = false) (f_cel : k .cel = false) (f_lease : k .lease = false) (f_pmu : k .pmu = false) (f_out : k .out = false) (f_free : k .free = false) (f_r_cmd : k (.reg .cmd) = false) (f_r_xpt : k (.reg .xpt) = false) (f_r_ptp : k (.reg .ptp) = false) (f_r_eth : k (.reg .eth) = false) (f_r_cel : k (.reg .cel) = false) (f_r_zl : k (.reg .zl) = false) (f_r_red : k (.reg .red) = false) (f_r_flt : k (.reg .flt) = false) (f_r_pmu : k (.reg .pmu) = false) (k7 : Keeps k s0 a7) :
    Keeps k s0 (frameSent a1 a2 a3 a4 a5 a6 a7) := by
  unfold frameSent
  exact (by lift_lets -underBinder; intro xh1; (try clear_value xh1); intro xh2; have h4 : Keeps k s0 xh2 := (by unfold xh2; exact (keep_each (fun _ _ h3 => (ethStat_keeps f_cmd f_pmu f_r_cmd f_r_eth f_r_pmu h3)) (State.emit_keeps f_out k7))); clear_value xh2; intro xh5; have h6 : Keeps k s0 xh5 := (by unfold xh5; exact (keep_ite (Keeps k s0) (State.count_keeps f_pmu f_r_pmu (ethStat_keeps f_cmd f_pmu f_r_cmd f_r_eth f_r_pmu h4)) (ethStat_keeps f_cmd f_pmu f_r_cmd f_r_eth f_r_pmu h4))); clear_value xh5; exact (by split; exact (by lift_lets -underBinder; intro xh7; have h8 : Keeps k s0 xh7 := (by unfold xh7; exact (hostTxDone_keeps f_cmd f_flw f_pmu f_out f_r_pmu h6)); clear_value xh7; exact (keep_ite (Keeps k s0) (pushTxts_keeps f_cmd f_flt f_xpt f_ptp f_red f_zl f_eng f_cel f_lease f_pmu f_out f_free f_r_cmd f_r_xpt f_r_ptp f_r_eth f_r_cel f_r_zl f_r_red f_r_flt f_r_pmu h8) h8)); exact h6))

theorem hostFlush_keeps {k s0 a1 a2 a3 a4}  (f_cmd : k .cmd = false) (f_flw : k .flw = false) (f_pmu : k .pmu = false) (f_out : k .out = false) (f_r_cmd : k (.reg .cmd) = false) (f_r_eth : k (.reg .eth) = false) (f_r_pmu : k (.reg .pmu) = false) (k4 : Keeps k s0 a4) : Keeps k s0 (hostFlush a1 a2 a3 a4) := by
  induction a3 generalizing a4 with
  | zero => exact k4
  | succ n ih =>
    unfold hostFlush
    dsimp only
    split
    · exact k4
    · refine keep_ite (Keeps k s0) k4 (ih (keep_ite (Keeps k s0) ?_ (enqueue_keeps f_flw (State.p_keeps (.of f_r_eth) (State.setPort_keeps f_flw k4)))))
      split
      · exact ethStat_keeps f_cmd f_pmu f_r_cmd f_r_eth f_r_pmu (hostTxDone_keeps f_cmd f_flw f_pmu f_out f_r_pmu (State.p_keeps (.of f_r_eth) (State.setPort_keeps f_flw k4)))
      · exact State.p_keeps (.of f_r_eth) (State.setPort_keeps f_flw k4)

theorem txGo_keeps {k s0 a1 a2 a3} (f_cmd : k .cmd = false) (f_flw : k .flw = false) (f_pmu : k .pmu = false) (f_out : k .out = false) (f_r_cmd : k (.reg .cmd) = false) (f_r_eth : k (.reg .eth) = false) (f_r_pmu : k (.reg .pmu) = false) (k3 : Keeps k s0 a3) :
    Keeps k s0 (txGo a1 a2 a3) := by
  unfold txGo
  exact (txKick_keeps f_flw (hostFlush_keeps f_cmd f_flw f_pmu f_out f_r_cmd f_r_eth f_r_pmu k3))

theorem hostTake_keeps {k s0 a1 a2 a3} (f_cmd : k .cmd = false) (f_flw : k .flw = false) (f_pmu : k .pmu = false) (f_out : k .out = false) (f_r_cmd : k (.reg .cmd) = false) (f_r_eth : k (.reg .eth) = false) (f_r_pmu : k (.reg .pmu) = false) (k3 : Keeps k s0 a3) :
    Keeps k s0 (hostTake a1 a2 a3) := by
  unfold hostTake
  exact (by lift_lets -underBinder; intro xh1; (try clear_value xh1); intro xh2; (try clear_value xh2); intro xh3; (try clear_value xh3); intro xh4; (try clear_value xh4); intro xh5; (try clear_value xh5); exact (keep_ite (Keeps k s0) k3 (txGo_keeps f_cmd f_flw f_pmu f_out f_r_cmd f_r_eth f_r_pmu (State.setPort_keeps f_flw k3))))

theorem hostRings_keeps {k s0 a1} (f_cmd : k .cmd = false) (f_flw : k .flw = false) (f_pmu : k .pmu = false) (f_out : k .out = false) (f_r_cmd : k (.reg .cmd) = false) (f_r_eth : k (.reg .eth) = false) (f_r_pmu : k (.reg .pmu) = false) (k1 : Keeps k s0 a1) :
    Keeps k s0 (hostRings a1) := by
  unfold hostRings
  exact (keep_each (fun _ _ h1 => (by lift_lets -underBinder; intro xh2; (try clear_value xh2); intro xh3; have h4 : Keeps k s0 xh3 := (by unfold xh3; exact (State.setPort_keeps f_flw h1)); clear_value xh3; exact (hostTake_keeps f_cmd f_flw f_pmu f_out f_r_cmd f_r_eth f_r_pmu (keep_each (fun _ _ h5 => (raiseIrq_keeps f_cmd f_pmu f_out f_r_pmu (State.emit_keeps f_out h5))) h4)))) k1)

theorem txGoAll_keeps {k s0 a1} (f_cmd : k .cmd = false) (f_flw : k .flw = false) (f_pmu : k .pmu = false) (f_out : k .out = false) (f_r_cmd : k (.reg .cmd) = false) (f_r_eth : k (.reg .eth) = false) (f_r_pmu : k (.reg .pmu) = false) (k1 : Keeps k s0 a1) :
    Keeps k s0 (txGoAll a1) := by
  unfold txGoAll
  exact (keep_each (fun _ _ h1 => (txGo_keeps f_cmd f_flw f_pmu f_out f_r_cmd f_r_eth f_r_pmu h1)) k1)

theorem protDone_keeps {k s0 a1 a2} (f_cmd : k .cmd = false) (f_pmu : k .pmu = false) (f_r_hif : k (.reg .hif) = false) (f_r_cmd : k (.reg .cmd) = false) (f_r_pmu : k (.reg .pmu) = false) (k2 : Keeps k s0 a2) :
    Keeps k s0 (protDone a1 a2) := by
  unfold protDone
  exact (by lift_lets -underBinder; intro xh1; have h2 : Keeps k s0 xh1 := (by unfold xh1; exact (State.inc_keeps (.of f_r_hif) k2)); clear_value xh1; exact (raiseEvent_keeps f_cmd f_pmu f_r_cmd f_r_pmu h2))

theorem writeProt_keeps {k s0 a1 a2 a3}  (f_cmd : k .cmd = false) (f_pmu : k .pmu = false) (f_r_hif : k (.reg .hif) = false) (f_r_cmd : k (.reg .cmd) = false) (f_r_aud : k (.reg .aud) = false) (f_r_pmu : k (.reg .pmu) = false) (k3 : Keeps k s0 a3) :
    Keeps k s0 (writeProt a1 a2 a3) := by
  have g : RegFree k (protTarget a1).1 := by
    cases a1 with
    | audSvis b => exact RegFree.of (r := R.AUD_SVIS) f_r_aud
    | dstOwn d => exact RegFree.of (r := R.HIF_DST_OWN) f_r_hif
    | srcVis i => exact RegFree.of (r := R.HIF_SRC_VIS) f_r_hif
    | engAlloc e => exact RegFree.of (r := R.HIF_ENG_ALLOC) f_r_hif
    | partFlow p => exact RegFree.of (r := R.HIF_PART_FLOW) f_r_hif
    | celBase p => exact RegFree.of (r := R.HIF_PART_CEL_BASE) f_r_hif
    | celLimit p => exact RegFree.of (r := R.HIF_PART_CEL_LIMIT) f_r_hif
  unfold writeProt
  dsimp only
  exact keep_ite (Keeps k s0) k3 (protDone_keeps f_cmd f_pmu f_r_hif f_r_cmd f_r_pmu (State.wr_keeps g k3))

theorem execProtectionWrite_keeps {k s0 a1 a2 a3 a4} (f_cmd : k .cmd = false) (f_pmu : k .pmu = false) (f_r_hif : k (.reg .hif) = false) (f_r_cmd : k (.reg .cmd) = false) (f_r_aud : k (.reg .aud) = false) (f_r_pmu : k (.reg .pmu) = false) (f_r_noc : k (.reg .noc) = false) (k4 : Keeps k s0 a4) :
    KeepsOut k s0 (execProtectionWrite a1 a2 a3 a4) := by
  unfold execProtectionWrite
  exact (KeepsOut.next (gate_keeps f_pmu f_r_hif f_r_pmu f_r_noc (fun _ h1 => (writeProt_keeps f_cmd f_pmu f_r_hif f_r_cmd f_r_aud f_r_pmu h1)) k4))

theorem resetRange_in {k s0 a1 a2 a3} (f_latches : k .latches = false) (f_held : k .held = false)
    (g : ∀ a b, a1 ≤ a → a < a2 → blkAt a = some b → k (.reg b) = false) (k3 : Keeps k s0 a3) :
    Keeps k s0 (resetRange a1 a2 a3) := by
  unfold resetRange
  have h := k3.set_regs (rising_filter (fun e => !(decide (a1 ≤ e.1) && decide (e.1 < a2)))) (fun b a hb ha =>
    find?_filter (fun e => !(decide (a1 ≤ e) && decide (e < a2))) (by
      by_cases h1 : a1 ≤ a
      · by_cases h2 : a < a2
        · rw [g a b h1 h2 ha] at hb; cases hb
        · simp [h2]
      · simp [h1]) _)
  exact h.set_many (by intro p hp; cases p <;> first | exact rfl | exact id | exact fun _ _ => rfl | simp [f_latches, f_held] at hp)

theorem resetRange_keeps {k s0 a1 a2 a3}  (f_latches : k .latches = false) (f_held : k .held = false) (f_regs : ∀ b, k (.reg b) = false) (k3 : Keeps k s0 a3) :
    Keeps k s0 (resetRange a1 a2 a3) := resetRange_in f_latches f_held (fun _ b _ _ _ => f_regs b) k3

theorem resetRings_keeps {k s0 a1 a2} (f_cmd : k .cmd = false) (f_flt : k .flt = false) (f_xpt : k .xpt = false) (f_red : k .red = false) (f_zl : k .zl = false) (f_eng : k .eng = false) (f_cel : k .cel = false) (f_lease : k .lease = false) (f_pmu : k .pmu = false) (f_out : k .out = false) (f_free : k .free = false) (f_r_cmd : k (.reg .cmd) = false) (f_r_xpt : k (.reg .xpt) = false) (f_r_eth : k (.reg .eth) = false) (f_r_cel : k (.reg .cel) = false) (f_r_zl : k (.reg .zl) = false) (f_r_red : k (.reg .red) = false) (f_r_flt : k (.reg .flt) = false) (f_r_pmu : k (.reg .pmu) = false) (k2 : Keeps k s0 a2) :
    Keeps k s0 (resetRings a1 a2) := by
  unfold resetRings
  exact (by lift_lets -underBinder; intro xh1; (try clear_value xh1); intro xh2; have h3 : Keeps k s0 xh2 := (by unfold xh2; exact (dropFlights_keeps f_cmd k2)); clear_value xh2; intro xh4; intro xh5; have h6 : Keeps k s0 xh5 := (by unfold xh5; exact (h3.set_cmd f_cmd (by first | exact id | exact live_filter | exact live_up (Nat.le_succ _) | exact live_map (fun y => by (try dsimp only); split <;> rfl) | exact live_up (Nat.le_trans (Nat.le_add_right _ _) (Nat.le_succ _)) | exact live_new rfl))); clear_value xh5; exact (keep_each (fun _ _ h7 => (sample_keeps f_cmd f_flt f_xpt f_red f_zl f_eng f_cel f_lease f_pmu f_out f_free f_r_cmd f_r_xpt f_r_eth f_r_cel f_r_zl f_r_red f_r_flt f_r_pmu h7)) h6))

theorem execBmeClear_keeps {k s0 a1 a2} (f_cmd : k .cmd = false) (f_r_hif : k (.reg .hif) = false) (k2 : Keeps k s0 a2) :
    KeepsOut k s0 (execBmeClear a1 a2) := by
  unfold execBmeClear
  exact (by lift_lets -underBinder; intro xh1; have h2 : Keeps k s0 xh1 := (by unfold xh1; exact (State.p_keeps (.of f_r_hif) k2)); clear_value xh1; intro xh3; exact (KeepsOut.next (h2.set_cmd f_cmd )))

theorem execFlrDrainDone_keeps {k s0 a1 a2} (f_r_hif : k (.reg .hif) = false) (k2 : Keeps k s0 a2) :
    KeepsOut k s0 (execFlrDrainDone a1 a2) := by
  unfold execFlrDrainDone
  exact (KeepsOut.next (keep_ite (Keeps k s0) k2 (State.p_keeps (.of f_r_hif) k2)))

theorem resetPages_keeps {k s0 a1 a2}  (f_latches : k .latches = false) (f_held : k .held = false) (f_r_hif : k (.reg .hif) = false) (f_r_cmd : k (.reg .cmd) = false) (k2 : Keeps k s0 a2) :
    Keeps k s0 (resetPages a1 a2) := by
  have hq : a1 % 8 < 8 := Nat.mod_lt _ (by decide)
  unfold resetPages
  refine resetRange_in f_latches f_held (fun a b h1 h2 h => ?_) (resetRange_in f_latches f_held (fun a b h1 h2 h => ?_) k2)
  · rw [blkAt_range (b := .cmd) (by simp only [blkRange]; omega) (by simp only [blkRange]; omega)] at h
    cases h
    exact f_r_cmd
  · rw [blkAt_range (b := .hif) (by simp only [blkRange]; omega) (by simp only [blkRange]; omega)] at h
    cases h
    exact f_r_hif

theorem flrOne_keeps {k s0 a1 a2} (f_cmd : k .cmd = false) (f_flt : k .flt = false) (f_xpt : k .xpt = false) (f_red : k .red = false) (f_zl : k .zl = false) (f_eng : k .eng = false) (f_cel : k .cel = false) (f_latches : k .latches = false) (f_held : k .held = false) (f_lease : k .lease = false) (f_pmu : k .pmu = false) (f_out : k .out = false) (f_free : k .free = false) (f_r_hif : k (.reg .hif) = false) (f_r_cmd : k (.reg .cmd) = false) (f_r_xpt : k (.reg .xpt) = false) (f_r_eth : k (.reg .eth) = false) (f_r_cel : k (.reg .cel) = false) (f_r_zl : k (.reg .zl) = false) (f_r_red : k (.reg .red) = false) (f_r_flt : k (.reg .flt) = false) (f_r_pmu : k (.reg .pmu) = false) (k2 : Keeps k s0 a2) :
    Keeps k s0 (flrOne a1 a2) := by
  unfold flrOne
  exact (by lift_lets -underBinder; intro xh1; (try clear_value xh1); intro xh2; have h3 : Keeps k s0 xh2 := (by unfold xh2; exact (resetPages_keeps f_latches f_held f_r_hif f_r_cmd (resetRings_keeps f_cmd f_flt f_xpt f_red f_zl f_eng f_cel f_lease f_pmu f_out f_free f_r_cmd f_r_xpt f_r_eth f_r_cel f_r_zl f_r_red f_r_flt f_r_pmu k2))); clear_value xh2; intro xh4; intro xh5; intro xh6; intro xh7; have h8 : Keeps k s0 xh7 := (by unfold xh7; exact (h3.set_many (by intro p hp; cases p <;> first | exact rfl | exact id | exact fun _ _ => rfl | simp [f_latches, f_held, f_cmd, f_cel] at hp))); clear_value xh7; exact (State.p_keeps (.of f_r_hif) h8))

theorem linkDown_keeps {k s0 a1} (f_cmd : k .cmd = false) (f_flt : k .flt = false) (f_xpt : k .xpt = false) (f_red : k .red = false) (f_zl : k .zl = false) (f_eng : k .eng = false) (f_cel : k .cel = false) (f_lease : k .lease = false) (f_pmu : k .pmu = false) (f_out : k .out = false) (f_free : k .free = false) (f_r_hif : k (.reg .hif) = false) (f_r_cmd : k (.reg .cmd) = false) (f_r_xpt : k (.reg .xpt) = false) (f_r_eth : k (.reg .eth) = false) (f_r_cel : k (.reg .cel) = false) (f_r_zl : k (.reg .zl) = false) (f_r_red : k (.reg .red) = false) (f_r_flt : k (.reg .flt) = false) (f_r_pmu : k (.reg .pmu) = false) (k1 : Keeps k s0 a1) :
    Keeps k s0 (linkDown a1) := by
  unfold linkDown
  exact (keep_ite (Keeps k s0) (level_keeps f_cmd f_flt f_xpt f_red f_zl f_eng f_cel f_lease f_pmu f_out f_free f_r_cmd f_r_xpt f_r_eth f_r_cel f_r_zl f_r_red f_r_flt f_r_pmu (State.count_keeps f_pmu f_r_pmu (State.wr_keeps (.of f_r_hif) k1))) k1)

theorem execPerstNAssert_keeps {k s0 a1} (f_cmd : k .cmd = false) (f_flt : k .flt = false) (f_xpt : k .xpt = false) (f_red : k .red = false) (f_zl : k .zl = false) (f_eng : k .eng = false) (f_cel : k .cel = false) (f_latches : k .latches = false) (f_held : k .held = false) (f_lease : k .lease = false) (f_pmu : k .pmu = false) (f_out : k .out = false) (f_free : k .free = false) (f_r_hif : k (.reg .hif) = false) (f_r_cmd : k (.reg .cmd) = false) (f_r_xpt : k (.reg .xpt) = false) (f_r_eth : k (.reg .eth) = false) (f_r_cel : k (.reg .cel) = false) (f_r_zl : k (.reg .zl) = false) (f_r_red : k (.reg .red) = false) (f_r_flt : k (.reg .flt) = false) (f_r_pmu : k (.reg .pmu) = false) (k1 : Keeps k s0 a1) :
    KeepsOut k s0 (execPerstNAssert a1) := by
  unfold execPerstNAssert
  exact (by lift_lets -underBinder; intro xh1; exact (KeepsOut.next (keep_each (fun _ _ h2 => (flrOne_keeps f_cmd f_flt f_xpt f_red f_zl f_eng f_cel f_latches f_held f_lease f_pmu f_out f_free f_r_hif f_r_cmd f_r_xpt f_r_eth f_r_cel f_r_zl f_r_red f_r_flt f_r_pmu h2)) (linkDown_keeps f_cmd f_flt f_xpt f_red f_zl f_eng f_cel f_lease f_pmu f_out f_free f_r_hif f_r_cmd f_r_xpt f_r_eth f_r_cel f_r_zl f_r_red f_r_flt f_r_pmu (k1.set_cmd f_cmd )))))

theorem execMsixVectorUnmask_keeps {k s0 a1 a2 a3} (f_cmd : k .cmd = false) (f_pmu : k .pmu = false) (f_out : k .out = false) (f_r_pmu : k (.reg .pmu) = false) (k3 : Keeps k s0 a3) :
    KeepsOut k s0 (execMsixVectorUnmask a1 a2 a3) := by
  unfold execMsixVectorUnmask
  exact (by lift_lets -underBinder; intro xh1; (try clear_value xh1); intro xh2; intro xh3; have h4 : Keeps k s0 xh3 := (by unfold xh3; exact (k3.set_cmd f_cmd )); clear_value xh3; intro xh5; intro xh6; have h7 : Keeps k s0 xh6 := (by unfold xh6; exact (keep_ite (Keeps k s0) h4 (h4.set_cmd f_cmd ))); clear_value xh6; intro xh8; exact (KeepsOut.next (keep_ite (Keeps k s0) (sendMsix_keeps f_cmd f_pmu f_out f_r_pmu (h7.set_cmd f_cmd )) h7)))

theorem execNocPortIdleEntry_keeps {k s0 a1 a2} (f_r_noc : k (.reg .noc) = false) (k2 : Keeps k s0 a2) :
    KeepsOut k s0 (execNocPortIdleEntry a1 a2) := by
  unfold execNocPortIdleEntry
  exact (KeepsOut.next (State.p_keeps (.of f_r_noc) k2))

theorem execPerstNDeassert_keeps {k s0 a1} (f_cmd : k .cmd = false) (k1 : Keeps k s0 a1) :
    KeepsOut k s0 (execPerstNDeassert a1) := by
  unfold execPerstNDeassert
  exact (by lift_lets -underBinder; intro xh1; exact (KeepsOut.next (k1.set_cmd f_cmd )))

theorem writeBdpStat_keeps {k s0 a1 a2 a3} (f_r_hif : k (.reg .hif) = false) (k3 : Keeps k s0 a3) :
    Keeps k s0 (writeBdpStat a1 a2 a3) := by
  unfold writeBdpStat
  exact (by lift_lets -underBinder; intro xh1; have h2 : Keeps k s0 xh1 := (by unfold xh1; exact (State.write_keeps (.of f_r_hif) k3)); clear_value xh1; exact (keep_ite (Keeps k s0) (State.p_keeps (.of f_r_hif) h2) h2))

theorem execFlr_keeps {k s0 a1 a2} (f_cmd : k .cmd = false) (f_flt : k .flt = false) (f_xpt : k .xpt = false) (f_red : k .red = false) (f_zl : k .zl = false) (f_eng : k .eng = false) (f_cel : k .cel = false) (f_latches : k .latches = false) (f_held : k .held = false) (f_lease : k .lease = false) (f_pmu : k .pmu = false) (f_out : k .out = false) (f_free : k .free = false) (f_r_hif : k (.reg .hif) = false) (f_r_cmd : k (.reg .cmd) = false) (f_r_xpt : k (.reg .xpt) = false) (f_r_eth : k (.reg .eth) = false) (f_r_cel : k (.reg .cel) = false) (f_r_zl : k (.reg .zl) = false) (f_r_red : k (.reg .red) = false) (f_r_flt : k (.reg .flt) = false) (f_r_pmu : k (.reg .pmu) = false) (k2 : Keeps k s0 a2) :
    KeepsOut k s0 (execFlr a1 a2) := by
  unfold execFlr
  exact (by lift_lets -underBinder; intro xh1; exact (KeepsOut.next (keep_ite (Keeps k s0) (keep_each (fun _ _ h2 => (flrOne_keeps f_cmd f_flt f_xpt f_red f_zl f_eng f_cel f_latches f_held f_lease f_pmu f_out f_free f_r_hif f_r_cmd f_r_xpt f_r_eth f_r_cel f_r_zl f_r_red f_r_flt f_r_pmu h2)) (k2.set_cmd f_cmd )) (flrOne_keeps f_cmd f_flt f_xpt f_red f_zl f_eng f_cel f_latches f_held f_lease f_pmu f_out f_free f_r_hif f_r_cmd f_r_xpt f_r_eth f_r_cel f_r_zl f_r_red f_r_flt f_r_pmu k2))))

theorem execIrqHoldoffExpiry_keeps {k s0 a1 a2 a3} (f_cmd : k .cmd = false) (f_pmu : k .pmu = false) (f_out : k .out = false) (f_r_pmu : k (.reg .pmu) = false) (k3 : Keeps k s0 a3) :
    KeepsOut k s0 (execIrqHoldoffExpiry a1 a2 a3) := by
  unfold execIrqHoldoffExpiry
  exact (KeepsOut.next (by split; exact k3; exact (by lift_lets -underBinder; intro xh1; intro xh2; have h3 : Keeps k s0 xh2 := (by unfold xh2; exact (k3.set_cmd f_cmd )); clear_value xh2; exact (keep_ite (Keeps k s0) k3 (keep_ite (Keeps k s0) (raiseIrq_keeps f_cmd f_pmu f_out f_r_pmu h3) h3)))))

theorem execPcieAerError_keeps {k s0 a1 a2} (f_cmd : k .cmd = false) (f_flt : k .flt = false) (f_xpt : k .xpt = false) (f_red : k .red = false) (f_zl : k .zl = false) (f_eng : k .eng = false) (f_cel : k .cel = false) (f_lease : k .lease = false) (f_pmu : k .pmu = false) (f_out : k .out = false) (f_free : k .free = false) (f_r_cmd : k (.reg .cmd) = false) (f_r_xpt : k (.reg .xpt) = false) (f_r_eth : k (.reg .eth) = false) (f_r_cel : k (.reg .cel) = false) (f_r_zl : k (.reg .zl) = false) (f_r_red : k (.reg .red) = false) (f_r_flt : k (.reg .flt) = false) (f_r_pmu : k (.reg .pmu) = false) (k2 : Keeps k s0 a2) :
    KeepsOut k s0 (execPcieAerError a1 a2) := by
  unfold execPcieAerError
  exact (KeepsOut.next (occur_keeps f_cmd f_flt f_xpt f_red f_zl f_eng f_cel f_lease f_pmu f_out f_free f_r_cmd f_r_xpt f_r_eth f_r_cel f_r_zl f_r_red f_r_flt f_r_pmu (State.count_keeps f_pmu f_r_pmu k2)))

theorem writeMgmtStat_keeps {k s0 a1 a2} (f_r_hif : k (.reg .hif) = false) (k2 : Keeps k s0 a2) :
    Keeps k s0 (writeMgmtStat a1 a2) := by
  unfold writeMgmtStat
  exact (keep_ite (Keeps k s0) (State.p_keeps (.of f_r_hif) k2) k2)

theorem execMgmtCmdErrClr_keeps {k s0 a1 a2} (f_pmu : k .pmu = false) (f_r_hif : k (.reg .hif) = false) (f_r_pmu : k (.reg .pmu) = false) (f_r_noc : k (.reg .noc) = false) (k2 : Keeps k s0 a2) :
    KeepsOut k s0 (execMgmtCmdErrClr a1 a2) := by
  unfold execMgmtCmdErrClr
  exact (KeepsOut.next (gate_keeps f_pmu f_r_hif f_r_pmu f_r_noc (fun _ h1 => (writeMgmtStat_keeps f_r_hif h1)) k2))

theorem execPcieLinkDown_keeps {k s0 a1} (f_cmd : k .cmd = false) (f_flt : k .flt = false) (f_xpt : k .xpt = false) (f_red : k .red = false) (f_zl : k .zl = false) (f_eng : k .eng = false) (f_cel : k .cel = false) (f_lease : k .lease = false) (f_pmu : k .pmu = false) (f_out : k .out = false) (f_free : k .free = false) (f_r_hif : k (.reg .hif) = false) (f_r_cmd : k (.reg .cmd) = false) (f_r_xpt : k (.reg .xpt) = false) (f_r_eth : k (.reg .eth) = false) (f_r_cel : k (.reg .cel) = false) (f_r_zl : k (.reg .zl) = false) (f_r_red : k (.reg .red) = false) (f_r_flt : k (.reg .flt) = false) (f_r_pmu : k (.reg .pmu) = false) (k1 : Keeps k s0 a1) :
    KeepsOut k s0 (execPcieLinkDown a1) := by
  unfold execPcieLinkDown
  exact (KeepsOut.next (linkDown_keeps f_cmd f_flt f_xpt f_red f_zl f_eng f_cel f_lease f_pmu f_out f_free f_r_hif f_r_cmd f_r_xpt f_r_eth f_r_cel f_r_zl f_r_red f_r_flt f_r_pmu k1))

theorem execPcieLinkUp_keeps {k s0 a1 a2 a3} (f_cmd : k .cmd = false) (f_flt : k .flt = false) (f_xpt : k .xpt = false) (f_red : k .red = false) (f_zl : k .zl = false) (f_eng : k .eng = false) (f_cel : k .cel = false) (f_lease : k .lease = false) (f_pmu : k .pmu = false) (f_out : k .out = false) (f_free : k .free = false) (f_r_hif : k (.reg .hif) = false) (f_r_cmd : k (.reg .cmd) = false) (f_r_xpt : k (.reg .xpt) = false) (f_r_eth : k (.reg .eth) = false) (f_r_cel : k (.reg .cel) = false) (f_r_zl : k (.reg .zl) = false) (f_r_red : k (.reg .red) = false) (f_r_flt : k (.reg .flt) = false) (f_r_pmu : k (.reg .pmu) = false) (k3 : Keeps k s0 a3) :
    KeepsOut k s0 (execPcieLinkUp a1 a2 a3) := by
  unfold execPcieLinkUp
  exact (KeepsOut.next (keep_ite (Keeps k s0) k3 (level_keeps f_cmd f_flt f_xpt f_red f_zl f_eng f_cel f_lease f_pmu f_out f_free f_r_cmd f_r_xpt f_r_eth f_r_cel f_r_zl f_r_red f_r_flt f_r_pmu (State.p_keeps (.of f_r_hif) (State.p_keeps (.of f_r_hif) (State.p_keeps (.of f_r_hif) k3))))))

theorem writePartStat_keeps {k s0 a1 a2 a3} (f_r_hif : k (.reg .hif) = false) (k3 : Keeps k s0 a3) :
    Keeps k s0 (writePartStat a1 a2 a3) := by
  unfold writePartStat
  exact (keep_ite (Keeps k s0) (State.p_keeps (.of f_r_hif) k3) k3)

theorem execWrDeniedClr_keeps {k s0 a1 a2 a3} (f_pmu : k .pmu = false) (f_r_hif : k (.reg .hif) = false) (f_r_pmu : k (.reg .pmu) = false) (f_r_noc : k (.reg .noc) = false) (k3 : Keeps k s0 a3) :
    KeepsOut k s0 (execWrDeniedClr a1 a2 a3) := by
  unfold execWrDeniedClr
  exact (KeepsOut.next (gatePage_keeps f_pmu f_r_hif f_r_pmu f_r_noc (fun _ h1 => (writePartStat_keeps f_r_hif h1)) k3))

theorem execBmeSet_keeps {k s0 a1 a2} (f_cmd : k .cmd = false) (f_flw : k .flw = false) (f_pmu : k .pmu = false) (f_out : k .out = false) (f_r_hif : k (.reg .hif) = false) (f_r_cmd : k (.reg .cmd) = false) (f_r_eth : k (.reg .eth) = false) (f_r_pmu : k (.reg .pmu) = false) (k2 : Keeps k s0 a2) :
    KeepsOut k s0 (execBmeSet a1 a2) := by
  unfold execBmeSet
  exact (by lift_lets -underBinder; intro xh1; (try clear_value xh1); intro xh2; (try clear_value xh2); intro xh3; have h4 : Keeps k s0 xh3 := (by unfold xh3; exact (State.p_keeps (.of f_r_hif) k2)); clear_value xh3; intro xh5; intro xh6; have h7 : Keeps k s0 xh6 := (by unfold xh6; exact (h4.set_cmd f_cmd )); clear_value xh6; intro xh8; have h10 : Keeps k s0 xh8 := (by unfold xh8; exact (keep_each (fun _ _ h9 => (sendMsix_keeps f_cmd f_pmu f_out f_r_pmu h9)) h7)); clear_value xh8; exact (KeepsOut.next (keep_ite (Keeps k s0) (hostRings_keeps f_cmd f_flw f_pmu f_out f_r_cmd f_r_eth f_r_pmu h10) h10)))

theorem execBdpDeniedClr_keeps {k s0 a1 a2 a3} (f_pmu : k .pmu = false) (f_r_hif : k (.reg .hif) = false) (f_r_pmu : k (.reg .pmu) = false) (f_r_noc : k (.reg .noc) = false) (k3 : Keeps k s0 a3) :
    KeepsOut k s0 (execBdpDeniedClr a1 a2 a3) := by
  unfold execBdpDeniedClr
  exact (KeepsOut.next (gatePage_keeps f_pmu f_r_hif f_r_pmu f_r_noc (fun _ h1 => (writeBdpStat_keeps f_r_hif h1)) k3))

theorem writeHistStat_keeps {k s0 a1 a2 a3} (f_r_pmu : k (.reg .pmu) = false) (k3 : Keeps k s0 a3) :
    Keeps k s0 (writeHistStat a1 a2 a3) := by
  unfold writeHistStat
  exact (keep_ite (Keeps k s0) (State.p_keeps (.of f_r_pmu) k3) (State.write_keeps (.of f_r_pmu) k3))

theorem histClear_keeps {k s0 a1 a2} (f_r_pmu : k (.reg .pmu) = false) (k2 : Keeps k s0 a2) :
    Keeps k s0 (histClear a1 a2) := by
  unfold histClear
  exact (by lift_lets -underBinder; intro xh1; have h3 : Keeps k s0 xh1 := (by unfold xh1; exact (keep_each (fun _ _ h2 => (State.wr_keeps (.of f_r_pmu) h2)) k2)); clear_value xh1; intro xh4; have h5 : Keeps k s0 xh4 := (by unfold xh4; exact (State.restore_keeps (.of f_r_pmu) (State.restore_keeps (.of f_r_pmu) (State.wr_keeps (.of f_r_pmu) h3)))); clear_value xh4; exact (State.p_keeps (.of f_r_pmu) (State.p_keeps (.of f_r_pmu) h5)))

theorem writeHistCfg_keeps {k s0 a1 a2 a3} (f_r_pmu : k (.reg .pmu) = false) (k3 : Keeps k s0 a3) :
    Keeps k s0 (writeHistCfg a1 a2 a3) := by
  unfold writeHistCfg
  exact (by lift_lets -underBinder; intro xh1; (try clear_value xh1); intro xh2; (try clear_value xh2); intro xh3; (try clear_value xh3); intro xh4; have h5 : Keeps k s0 xh4 := (by unfold xh4; exact (State.wr_keeps (.of f_r_pmu) k3)); clear_value xh4; exact (keep_ite (Keeps k s0) (State.p_keeps (.of f_r_pmu) k3) (keep_ite (Keeps k s0) (histClear_keeps f_r_pmu h5) h5)))

theorem writeHistLow_keeps {k s0 a1 a2 a3} (f_r_pmu : k (.reg .pmu) = false) (k3 : Keeps k s0 a3) :
    Keeps k s0 (writeHistLow a1 a2 a3) := by
  unfold writeHistLow
  exact (keep_ite (Keeps k s0) (State.p_keeps (.of f_r_pmu) k3) (State.wr_keeps (.of f_r_pmu) k3))

theorem execHistCfgWrite_keeps {k s0 a1 a2 a3 a4 a5} (f_pmu : k .pmu = false) (f_r_hif : k (.reg .hif) = false) (f_r_pmu : k (.reg .pmu) = false) (f_r_noc : k (.reg .noc) = false) (k5 : Keeps k s0 a5) :
    KeepsOut k s0 (execHistCfgWrite a1 a2 a3 a4 a5) := by
  unfold execHistCfgWrite
  exact (KeepsOut.next (gateUnit_keeps f_pmu f_r_hif f_r_pmu f_r_noc (fun _ h1 => (by split; exact (writeHistCfg_keeps f_r_pmu h1); exact (by split; exact (writeHistLow_keeps f_r_pmu h1); exact (writeHistStat_keeps f_r_pmu h1)))) k5))

theorem writeSampStat_keeps {k s0 a1 a2} (f_r_pmu : k (.reg .pmu) = false) (k2 : Keeps k s0 a2) :
    Keeps k s0 (writeSampStat a1 a2) := by
  unfold writeSampStat
  exact (by lift_lets -underBinder; intro xh1; have h2 : Keeps k s0 xh1 := (by unfold xh1; exact (State.write_keeps (.of f_r_pmu) k2)); clear_value xh1; exact (keep_ite (Keeps k s0) (State.p_keeps (.of f_r_pmu) h2) h2))

theorem snapCopy_keeps {k s0 a1}  (f_r_pmu : k (.reg .pmu) = false) (k1 : Keeps k s0 a1) : Keeps k s0 (snapCopy a1) := by
  have h0 := k1.set_regs (rising_filter (fun e => !(decide (R.PMU_SNAP_LO.base ≤ e.1) && decide (e.1 < R.PMU_TD_LO.base + 65 * 32))))
    (fun b a hb ha => find?_filter (fun e => !(decide (R.PMU_SNAP_LO.base ≤ e) && decide (e < R.PMU_TD_LO.base + 65 * 32))) (by
      by_cases h1 : R.PMU_SNAP_LO.base ≤ a
      · by_cases h2 : a < R.PMU_TD_LO.base + 65 * 32
        · rw [blkAt_range (b := .pmu) (by simp only [blkRange, R.PMU_SNAP_LO] at *; omega) (by simp only [blkRange, R.PMU_TD_LO] at *; omega)] at ha
          cases ha
          rw [f_r_pmu] at hb
          cases hb
        · simp [h2]
      · simp [h1]) _)
  unfold snapCopy
  exact State.inc_keeps (.of f_r_pmu) (State.p_keeps (.of f_r_pmu) (keep_each (fun _ _ h => State.wr_keeps (.of f_r_pmu) (State.wr_keeps (.of f_r_pmu) h))
    (keep_each (fun _ _ h => State.wr_keeps (.of f_r_pmu) (State.wr_keeps (.of f_r_pmu) h)) h0)))

theorem snapDone_keeps {k s0 a1} (f_r_pmu : k (.reg .pmu) = false) (k1 : Keeps k s0 a1) :
    Keeps k s0 (snapDone a1) := by
  unfold snapDone
  exact (keep_ite (Keeps k s0) (snapCopy_keeps f_r_pmu k1) k1)

theorem execHistClear_keeps {k s0 a1 a2 a3} (f_pmu : k .pmu = false) (f_r_hif : k (.reg .hif) = false) (f_r_pmu : k (.reg .pmu) = false) (f_r_noc : k (.reg .noc) = false) (k3 : Keeps k s0 a3) :
    KeepsOut k s0 (execHistClear a1 a2 a3) := by
  unfold execHistClear
  exact (KeepsOut.next (gateUnit_keeps f_pmu f_r_hif f_r_pmu f_r_noc (fun _ h1 => (writeHistCfg_keeps f_r_pmu h1)) k3))

theorem execSampDropsClr_keeps {k s0 a1 a2} (f_pmu : k .pmu = false) (f_r_hif : k (.reg .hif) = false) (f_r_pmu : k (.reg .pmu) = false) (f_r_noc : k (.reg .noc) = false) (k2 : Keeps k s0 a2) :
    KeepsOut k s0 (execSampDropsClr a1 a2) := by
  unfold execSampDropsClr
  exact (KeepsOut.next (gateUnit_keeps f_pmu f_r_hif f_r_pmu f_r_noc (fun _ h1 => (writeSampStat_keeps f_r_pmu h1)) k2))

theorem writeSnap_keeps {k s0 a1 a2} (f_r_pmu : k (.reg .pmu) = false) (k2 : Keeps k s0 a2) :
    Keeps k s0 (writeSnap a1 a2) := by
  unfold writeSnap
  exact (keep_ite (Keeps k s0) (State.p_keeps (.of f_r_pmu) k2) k2)

theorem writeCntCfg_keeps {k s0 a1 a2 a3} (f_pmu : k .pmu = false) (f_r_pmu : k (.reg .pmu) = false) (k3 : Keeps k s0 a3) :
    Keeps k s0 (writeCntCfg a1 a2 a3) := by
  unfold writeCntCfg
  exact (by lift_lets -underBinder; intro xh1; (try clear_value xh1); intro xh2; (try clear_value xh2); intro xh3; have h4 : Keeps k s0 xh3 := (by unfold xh3; exact (State.write_keeps (.of f_r_pmu) k3)); clear_value xh3; intro xh5; exact (h4.set_pmu f_pmu))

theorem execSnapTake_keeps {k s0 a1 a2} (f_pmu : k .pmu = false) (f_r_hif : k (.reg .hif) = false) (f_r_pmu : k (.reg .pmu) = false) (f_r_noc : k (.reg .noc) = false) (k2 : Keeps k s0 a2) :
    KeepsOut k s0 (execSnapTake a1 a2) := by
  unfold execSnapTake
  exact (KeepsOut.next (gate_keeps f_pmu f_r_hif f_r_pmu f_r_noc (fun _ h1 => (writeSnap_keeps f_r_pmu h1)) k2))

theorem tickSlots_keeps {k s0 a1 a2} (f_pmu : k .pmu = false) (k2 : Keeps k s0 a2) :
    Keeps k s0 (tickSlots a1 a2) := by
  unfold tickSlots
  exact (by lift_lets -underBinder; intro xh1; intro xh2; exact (k2.set_pmu f_pmu))

theorem tickLevels_keeps {k s0 a1} (f_pmu : k .pmu = false) (f_r_pmu : k (.reg .pmu) = false) (k1 : Keeps k s0 a1) :
    Keeps k s0 (tickLevels a1) := by
  unfold tickLevels
  exact (by lift_lets -underBinder; intro xh1; (try clear_value xh1); intro xh2; (try clear_value xh2); intro xh3; (try clear_value xh3); intro xh4; (try clear_value xh4); intro xh5; exact (keep_each (fun _ _ h6 => (addCounter_keeps f_pmu f_r_pmu h6)) (k1.set_pmu f_pmu)))

theorem execMonitorTick_keeps {k s0 a1 a2 a3} (f_cmd : k .cmd = false) (f_flt : k .flt = false) (f_xpt : k .xpt = false) (f_red : k .red = false) (f_zl : k .zl = false) (f_eng : k .eng = false) (f_cel : k .cel = false) (f_lease : k .lease = false) (f_pmu : k .pmu = false) (f_out : k .out = false) (f_free : k .free = false) (f_r_cmd : k (.reg .cmd) = false) (f_r_xpt : k (.reg .xpt) = false) (f_r_eth : k (.reg .eth) = false) (f_r_cel : k (.reg .cel) = false) (f_r_zl : k (.reg .zl) = false) (f_r_red : k (.reg .red) = false) (f_r_flt : k (.reg .flt) = false) (f_r_pmu : k (.reg .pmu) = false) (k3 : Keeps k s0 a3) :
    KeepsOut k s0 (execMonitorTick a1 a2 a3) := by
  unfold execMonitorTick
  exact (by lift_lets -underBinder; intro xh1; have h2 : Keeps k s0 xh1 := (by unfold xh1; exact (tickSlots_keeps f_pmu (tickLevels_keeps f_pmu f_r_pmu k3))); clear_value xh1; intro xh3; have h4 : Keeps k s0 xh3 := (by unfold xh3; exact (by split; exact (histSample_keeps f_cmd f_flt f_xpt f_red f_zl f_eng f_cel f_lease f_pmu f_out f_free f_r_cmd f_r_xpt f_r_eth f_r_cel f_r_zl f_r_red f_r_flt f_r_pmu (histSample_keeps f_cmd f_flt f_xpt f_red f_zl f_eng f_cel f_lease f_pmu f_out f_free f_r_cmd f_r_xpt f_r_eth f_r_cel f_r_zl f_r_red f_r_flt f_r_pmu (histSample_keeps f_cmd f_flt f_xpt f_red f_zl f_eng f_cel f_lease f_pmu f_out f_free f_r_cmd f_r_xpt f_r_eth f_r_cel f_r_zl f_r_red f_r_flt f_r_pmu (histSample_keeps f_cmd f_flt f_xpt f_red f_zl f_eng f_cel f_lease f_pmu f_out f_free f_r_cmd f_r_xpt f_r_eth f_r_cel f_r_zl f_r_red f_r_flt f_r_pmu h2)))); exact h2)); clear_value xh3; exact (KeepsOut.next (keep_ite (Keeps k s0) k3 (snapDone_keeps f_r_pmu h4))))

theorem writeSampPtr_keeps {k s0 a1 a2} (f_pmu : k .pmu = false) (f_r_pmu : k (.reg .pmu) = false) (k2 : Keeps k s0 a2) :
    Keeps k s0 (writeSampPtr a1 a2) := by
  unfold writeSampPtr
  exact (by lift_lets -underBinder; intro xh1; have h2 : Keeps k s0 xh1 := (by unfold xh1; exact (State.write_keeps (.of f_r_pmu) k2)); clear_value xh1; intro xh3; exact (keep_ite (Keeps k s0) (h2.set_pmu f_pmu) h2))

theorem execSampReadWrite_keeps {k s0 a1 a2 a3} (f_pmu : k .pmu = false) (f_r_hif : k (.reg .hif) = false) (f_r_pmu : k (.reg .pmu) = false) (f_r_noc : k (.reg .noc) = false) (k3 : Keeps k s0 a3) :
    KeepsOut k s0 (execSampReadWrite a1 a2 a3) := by
  unfold execSampReadWrite
  exact (KeepsOut.next (gateUnit_keeps f_pmu f_r_hif f_r_pmu f_r_noc (fun _ h1 => (writeSampPtr_keeps f_pmu f_r_pmu h1)) k3))

theorem upsetWords_keeps {k s0 a1 a2} (f_cel : k .cel = false) (k2 : Keeps k s0 a2) :
    Keeps k s0 (upsetWords a1 a2) := by
  unfold upsetWords
  exact (keep_each (fun _ _ h1 => (by lift_lets -underBinder; intro xh2; (try clear_value xh2); intro xh3; exact (h1.set_cel f_cel rfl))) k2)

theorem execCellarReadComplete_keeps {k s0 a1 a2 a3} (f_cmd : k .cmd = false) (f_flt : k .flt = false) (f_xpt : k .xpt = false) (f_red : k .red = false) (f_zl : k .zl = false) (f_eng : k .eng = false) (f_cel : k .cel = false) (f_lease : k .lease = false) (f_pmu : k .pmu = false) (f_out : k .out = false) (f_free : k .free = false) (f_r_cmd : k (.reg .cmd) = false) (f_r_xpt : k (.reg .xpt) = false) (f_r_eth : k (.reg .eth) = false) (f_r_cel : k (.reg .cel) = false) (f_r_zl : k (.reg .zl) = false) (f_r_red : k (.reg .red) = false) (f_r_flt : k (.reg .flt) = false) (f_r_pmu : k (.reg .pmu) = false) (k3 : Keeps k s0 a3) :
    KeepsOut k s0 (execCellarReadComplete a1 a2 a3) := by
  unfold execCellarReadComplete
  exact (by lift_lets -underBinder; intro xh1; have h2 : Keeps k s0 xh1 := (by unfold xh1; exact (upsetWords_keeps f_cel k3)); clear_value xh1; exact (KeepsOut.next (keep_ite (Keeps k s0) h2 (by split; exact (keep_ite (Keeps k s0) (by split; (rename_i vh3 vh4 vh5 he; have h6 := KeepsT.of_eq he (celRead_keeps f_cmd f_flt f_xpt f_red f_zl f_eng f_cel f_lease f_pmu f_out f_free f_r_cmd f_r_xpt f_r_eth f_r_cel f_r_zl f_r_red f_r_flt f_r_pmu h2); exact (by lift_lets -underBinder; intro xh7; intro xh8; have h9 : Keeps k s0 xh8 := (by unfold xh8; exact (h6.set_cel f_cel rfl)); clear_value xh8; intro xh10; (try clear_value xh10); intro xh11; exact (keep_ite (Keeps k s0) (State.count_keeps f_pmu f_r_pmu (State.p_keeps (.of f_r_cel) (h9.set_cel f_cel rfl))) h9)))) h2); exact (keep_ite (Keeps k s0) (by split; (rename_i vh12 vh13 vh14 he; have h15 := KeepsT.of_eq he (celRead_keeps f_cmd f_flt f_xpt f_red f_zl f_eng f_cel f_lease f_pmu f_out f_free f_r_cmd f_r_xpt f_r_eth f_r_cel f_r_zl f_r_red f_r_flt f_r_pmu h2); exact (by lift_lets -underBinder; intro xh16; (try clear_value xh16); intro xh17; exact (h15.set_cel f_cel rfl)))) h2); exact h2))))

theorem execSrEntry_keeps {k s0 a1} (f_cel : k .cel = false) (f_pmu : k .pmu = false) (f_r_cel : k (.reg .cel) = false) (f_r_pmu : k (.reg .pmu) = false) (k1 : Keeps k s0 a1) :
    KeepsOut k s0 (execSrEntry a1) := by
  unfold execSrEntry
  exact (by lift_lets -underBinder; intro xh1; (try clear_value xh1); intro xh2; have h3 : Keeps k s0 xh2 := (by unfold xh2; exact (State.count_keeps f_pmu f_r_pmu (State.bump_keeps (.of f_r_cel) (State.p_keeps (.of f_r_cel) k1)))); clear_value xh2; intro xh4; exact (KeepsOut.next (keep_ite (Keeps k s0) (h3.set_cel f_cel rfl) k1)))

theorem writeScrub_keeps {k s0 a1 a2} (f_r_cel : k (.reg .cel) = false) (k2 : Keeps k s0 a2) :
    Keeps k s0 (writeScrub a1 a2) := by
  unfold writeScrub
  exact (by lift_lets -underBinder; intro xh1; (try clear_value xh1); intro xh2; have h3 : Keeps k s0 xh2 := (by unfold xh2; exact (State.write_keeps (.of f_r_cel) k2)); clear_value xh2; exact (keep_ite (Keeps k s0) (State.p_keeps (.of f_r_cel) h3) h3))

theorem execStackTempRead_keeps {k s0 a1 a2} (f_cmd : k .cmd = false) (f_flt : k .flt = false) (f_xpt : k .xpt = false) (f_red : k .red = false) (f_zl : k .zl = false) (f_eng : k .eng = false) (f_cel : k .cel = false) (f_lease : k .lease = false) (f_pmu : k .pmu = false) (f_out : k .out = false) (f_free : k .free = false) (f_r_cmd : k (.reg .cmd) = false) (f_r_xpt : k (.reg .xpt) = false) (f_r_eth : k (.reg .eth) = false) (f_r_cel : k (.reg .cel) = false) (f_r_zl : k (.reg .zl) = false) (f_r_red : k (.reg .red) = false) (f_r_flt : k (.reg .flt) = false) (f_r_pmu : k (.reg .pmu) = false) (k2 : Keeps k s0 a2) :
    KeepsOut k s0 (execStackTempRead a1 a2) := by
  unfold execStackTempRead
  exact (KeepsOut.next (level_keeps f_cmd f_flt f_xpt f_red f_zl f_eng f_cel f_lease f_pmu f_out f_free f_r_cmd f_r_xpt f_r_eth f_r_cel f_r_zl f_r_red f_r_flt f_r_pmu (State.p_keeps (.of f_r_cel) k2)))

theorem writeBudget_keeps {k s0 a1 a2} (f_cmd : k .cmd = false) (f_flt : k .flt = false) (f_xpt : k .xpt = false) (f_red : k .red = false) (f_zl : k .zl = false) (f_eng : k .eng = false) (f_cel : k .cel = false) (f_lease : k .lease = false) (f_pmu : k .pmu = false) (f_out : k .out = false) (f_free : k .free = false) (f_r_cmd : k (.reg .cmd) = false) (f_r_xpt : k (.reg .xpt) = false) (f_r_eth : k (.reg .eth) = false) (f_r_cel : k (.reg .cel) = false) (f_r_zl : k (.reg .zl) = false) (f_r_red : k (.reg .red) = false) (f_r_flt : k (.reg .flt) = false) (f_r_pmu : k (.reg .pmu) = false) (k2 : Keeps k s0 a2) :
    Keeps k s0 (writeBudget a1 a2) := by
  unfold writeBudget
  exact (by lift_lets -underBinder; intro xh1; (try clear_value xh1); intro xh2; have h3 : Keeps k s0 xh2 := (by unfold xh2; exact (State.p_keeps (.of f_r_cel) k2)); clear_value xh2; exact (keep_ite (Keeps k s0) (State.p_keeps (.of f_r_cel) k2) (updateOver_keeps f_cmd f_flt f_xpt f_red f_zl f_eng f_cel f_lease f_pmu f_out f_free f_r_cmd f_r_xpt f_r_eth f_r_cel f_r_zl f_r_red f_r_flt f_r_pmu h3)))

theorem startTraining_keeps {k s0 a1} (f_cel : k .cel = false) (f_pmu : k .pmu = false) (f_r_cel : k (.reg .cel) = false) (f_r_pmu : k (.reg .pmu) = false) (k1 : Keeps k s0 a1) :
    Keeps k s0 (startTraining a1) := by
  unfold startTraining
  exact (by lift_lets -underBinder; intro xh1; have h2 : Keeps k s0 xh1 := (by unfold xh1; exact (State.count_keeps f_pmu f_r_pmu (State.p_keeps (.of f_r_cel) k1))); clear_value xh1; intro xh3; exact (h2.set_cel f_cel rfl))

theorem writeCelTrain_keeps {k s0 a1 a2} (f_cel : k .cel = false) (f_pmu : k .pmu = false) (f_r_cel : k (.reg .cel) = false) (f_r_pmu : k (.reg .pmu) = false) (k2 : Keeps k s0 a2) :
    Keeps k s0 (writeCelTrain a1 a2) := by
  unfold writeCelTrain
  exact (keep_ite (Keeps k s0) (keep_ite (Keeps k s0) (startTraining_keeps f_cel f_pmu f_r_cel f_r_pmu k2) (State.p_keeps (.of f_r_cel) k2)) k2)

theorem execCelTrainStart_keeps {k s0 a1 a2} (f_cel : k .cel = false) (f_pmu : k .pmu = false) (f_r_hif : k (.reg .hif) = false) (f_r_cel : k (.reg .cel) = false) (f_r_pmu : k (.reg .pmu) = false) (f_r_noc : k (.reg .noc) = false) (k2 : Keeps k s0 a2) :
    KeepsOut k s0 (execCelTrainStart a1 a2) := by
  unfold execCelTrainStart
  exact (KeepsOut.next (gate_keeps f_pmu f_r_hif f_r_pmu f_r_noc (fun _ h1 => (writeCelTrain_keeps f_cel f_pmu f_r_cel f_r_pmu h1)) k2))

theorem execRefreshDue_keeps {k s0 a1 a2 a3} (f_cel : k .cel = false) (f_pmu : k .pmu = false) (f_r_pmu : k (.reg .pmu) = false) (k3 : Keeps k s0 a3) :
    KeepsOut k s0 (execRefreshDue a1 a2 a3) := by
  unfold execRefreshDue
  exact (by lift_lets -underBinder; intro xh1; (try clear_value xh1); intro xh2; (try clear_value xh2); intro xh3; intro xh4; have h5 : Keeps k s0 xh4 := (by unfold xh4; exact (k3.set_cel f_cel rfl)); clear_value xh4; intro xh6; exact (KeepsOut.next (keep_ite (Keeps k s0) (keep_ite (Keeps k s0) (State.count_keeps f_pmu f_r_pmu (h5.set_cel f_cel rfl)) (State.count_keeps f_pmu f_r_pmu (h5.set_cel f_cel rfl))) k3)))

theorem writeCelCfg_keeps {k s0 a1 a2} (f_cel : k .cel = false) (f_r_cel : k (.reg .cel) = false) (k2 : Keeps k s0 a2) :
    Keeps k s0 (writeCelCfg a1 a2) := by
  unfold writeCelCfg
  exact (by lift_lets -underBinder; intro xh1; (try clear_value xh1); intro xh2; (try clear_value xh2); intro xh3; (try clear_value xh3); intro xh4; (try clear_value xh4); intro xh5; intro xh6; have h7 : Keeps k s0 xh6 := (by unfold xh6; exact (k2.set_cel f_cel rfl)); clear_value xh6; intro xh8; have h9 : Keeps k s0 xh8 := (by unfold xh8; exact (State.p_keeps (.of f_r_cel) (State.write_keeps (.of f_r_cel) h7))); clear_value xh8; exact (keep_ite (Keeps k s0) h9 (keep_ite (Keeps k s0) (State.p_keeps (.of f_r_cel) h9) (State.p_keeps (.of f_r_cel) h9))))

theorem execCelCfgWrite_keeps {k s0 a1 a2 a3} (f_cel : k .cel = false) (f_pmu : k .pmu = false) (f_r_hif : k (.reg .hif) = false) (f_r_cel : k (.reg .cel) = false) (f_r_pmu : k (.reg .pmu) = false) (f_r_noc : k (.reg .noc) = false) (k3 : Keeps k s0 a3) :
    KeepsOut k s0 (execCelCfgWrite a1 a2 a3) := by
  unfold execCelCfgWrite
  exact (KeepsOut.next (gate_keeps f_pmu f_r_hif f_r_pmu f_r_noc (fun _ h1 => (writeCelCfg_keeps f_cel f_r_cel h1)) k3))

theorem execScrubPeriodEnd_keeps {k s0 a1 a2} (f_cmd : k .cmd = false) (f_flt : k .flt = false) (f_xpt : k .xpt = false) (f_red : k .red = false) (f_zl : k .zl = false) (f_eng : k .eng = false) (f_cel : k .cel = false) (f_lease : k .lease = false) (f_pmu : k .pmu = false) (f_out : k .out = false) (f_free : k .free = false) (f_r_cmd : k (.reg .cmd) = false) (f_r_xpt : k (.reg .xpt) = false) (f_r_eth : k (.reg .eth) = false) (f_r_cel : k (.reg .cel) = false) (f_r_zl : k (.reg .zl) = false) (f_r_red : k (.reg .red) = false) (f_r_flt : k (.reg .flt) = false) (f_r_pmu : k (.reg .pmu) = false) (k2 : Keeps k s0 a2) :
    KeepsOut k s0 (execScrubPeriodEnd a1 a2) := by
  unfold execScrubPeriodEnd
  exact (by lift_lets -underBinder; intro xh1; intro xh2; have h3 : Keeps k s0 xh2 := (by unfold xh2; exact (k2.set_cel f_cel rfl)); clear_value xh2; exact (KeepsOut.next (keep_ite (Keeps k s0) k2 (keep_ite (Keeps k s0) (State.count_keeps f_pmu f_r_pmu (State.bump_keeps (.of f_r_cel) h3)) (occur_keeps f_cmd f_flt f_xpt f_red f_zl f_eng f_cel f_lease f_pmu f_out f_free f_r_cmd f_r_xpt f_r_eth f_r_cel f_r_zl f_r_red f_r_flt f_r_pmu (State.count_keeps f_pmu f_r_pmu (State.p_keeps (.of f_r_cel) h3)))))))

theorem execBudgetWrite_keeps {k s0 a1 a2 a3} (f_cmd : k .cmd = false) (f_flt : k .flt = false) (f_xpt : k .xpt = false) (f_red : k .red = false) (f_zl : k .zl = false) (f_eng : k .eng = false) (f_cel : k .cel = false) (f_lease : k .lease = false) (f_pmu : k .pmu = false) (f_out : k .out = false) (f_free : k .free = false) (f_r_hif : k (.reg .hif) = false) (f_r_cmd : k (.reg .cmd) = false) (f_r_xpt : k (.reg .xpt) = false) (f_r_eth : k (.reg .eth) = false) (f_r_cel : k (.reg .cel) = false) (f_r_zl : k (.reg .zl) = false) (f_r_red : k (.reg .red) = false) (f_r_flt : k (.reg .flt) = false) (f_r_pmu : k (.reg .pmu) = false) (f_r_noc : k (.reg .noc) = false) (k3 : Keeps k s0 a3) :
    KeepsOut k s0 (execBudgetWrite a1 a2 a3) := by
  unfold execBudgetWrite
  exact (KeepsOut.next (gate_keeps f_pmu f_r_hif f_r_pmu f_r_noc (fun _ h1 => (writeBudget_keeps f_cmd f_flt f_xpt f_red f_zl f_eng f_cel f_lease f_pmu f_out f_free f_r_cmd f_r_xpt f_r_eth f_r_cel f_r_zl f_r_red f_r_flt f_r_pmu h1)) k3))

theorem execSrWake_keeps {k s0 a1} (f_cel : k .cel = false) (f_r_cel : k (.reg .cel) = false) (k1 : Keeps k s0 a1) :
    KeepsOut k s0 (execSrWake a1) := by
  unfold execSrWake
  exact (KeepsOut.next (srWake_keeps f_cel f_r_cel k1))

theorem writeEccCtrl_keeps {k s0 a1 a2} (f_r_cel : k (.reg .cel) = false) (k2 : Keeps k s0 a2) :
    Keeps k s0 (writeEccCtrl a1 a2) := by
  unfold writeEccCtrl
  exact (by lift_lets -underBinder; intro xh1; have h2 : Keeps k s0 xh1 := (by unfold xh1; exact (State.p_keeps (.of f_r_cel) k2)); clear_value xh1; exact (keep_ite (Keeps k s0) (State.p_keeps (.of f_r_cel) (State.p_keeps (.of f_r_cel) h2)) h2))

theorem execCelEccClr_keeps {k s0 a1 a2} (f_pmu : k .pmu = false) (f_r_hif : k (.reg .hif) = false) (f_r_cel : k (.reg .cel) = false) (f_r_pmu : k (.reg .pmu) = false) (f_r_noc : k (.reg .noc) = false) (k2 : Keeps k s0 a2) :
    KeepsOut k s0 (execCelEccClr a1 a2) := by
  unfold execCelEccClr
  exact (KeepsOut.next (gate_keeps f_pmu f_r_hif f_r_pmu f_r_noc (fun _ h1 => (writeEccCtrl_keeps f_r_cel h1)) k2))

theorem endMember_keeps {k s0 a1 a2 a3 a4} (f_cmd : k .cmd = false) (f_flt : k .flt = false) (f_xpt : k .xpt = false) (f_red : k .red = false) (f_zl : k .zl = false) (f_eng : k .eng = false) (f_cel : k .cel = false) (f_lease : k .lease = false) (f_pmu : k .pmu = false) (f_out : k .out = false) (f_free : k .free = false) (f_r_cmd : k (.reg .cmd) = false) (f_r_xpt : k (.reg .xpt) = false) (f_r_eth : k (.reg .eth) = false) (f_r_cel : k (.reg .cel) = false) (f_r_zl : k (.reg .zl) = false) (f_r_red : k (.reg .red) = false) (f_r_flt : k (.reg .flt) = false) (f_r_pmu : k (.reg .pmu) = false) (k4 : Keeps k s0 a4) :
    Keeps k s0 (endMember a1 a2 a3 a4) := by
  unfold endMember
  exact (by lift_lets -underBinder; intro xh1; have h2 : Keeps k s0 xh1 := (by unfold xh1; exact (by split; exact (State.count_keeps f_pmu f_r_pmu k4); exact (State.count_keeps f_pmu f_r_pmu (State.count_keeps f_pmu f_r_pmu k4)); exact (State.count_keeps f_pmu f_r_pmu k4); exact (State.count_keeps f_pmu f_r_pmu k4); exact (State.count_keeps f_pmu f_r_pmu k4); exact k4)); clear_value xh1; exact (finish_keeps f_cmd f_flt f_xpt f_red f_zl f_eng f_cel f_lease f_pmu f_out f_free f_r_cmd f_r_xpt f_r_eth f_r_cel f_r_zl f_r_red f_r_flt f_r_pmu h2))

theorem setGroups_keeps {k s0 a1 a2} (f_eng : k .eng = false) (k2 : Keeps k s0 a2) :
    Keeps k s0 (setGroups a1 a2) := by
  unfold setGroups
  exact (by lift_lets -underBinder; intro xh1; exact (k2.set_eng f_eng rfl))

theorem endMembers_keeps {k s0 a1 a2 a3} (f_cmd : k .cmd = false) (f_flt : k .flt = false) (f_xpt : k .xpt = false) (f_red : k .red = false) (f_zl : k .zl = false) (f_eng : k .eng = false) (f_cel : k .cel = false) (f_lease : k .lease = false) (f_pmu : k .pmu = false) (f_out : k .out = false) (f_free : k .free = false) (f_r_cmd : k (.reg .cmd) = false) (f_r_xpt : k (.reg .xpt) = false) (f_r_eth : k (.reg .eth) = false) (f_r_cel : k (.reg .cel) = false) (f_r_zl : k (.reg .zl) = false) (f_r_red : k (.reg .red) = false) (f_r_flt : k (.reg .flt) = false) (f_r_pmu : k (.reg .pmu) = false) (k3 : Keeps k s0 a3) :
    Keeps k s0 (endMembers a1 a2 a3) := by
  unfold endMembers
  exact (by lift_lets -underBinder; intro xh1; have h4 : Keeps k s0 xh1 := (by unfold xh1; exact (keep_each (fun _ _ h2 => (keep_each (fun _ _ h3 => (endMember_keeps f_cmd f_flt f_xpt f_red f_zl f_eng f_cel f_lease f_pmu f_out f_free f_r_cmd f_r_xpt f_r_eth f_r_cel f_r_zl f_r_red f_r_flt f_r_pmu h3)) h2)) k3)); clear_value xh1; exact (setGroups_keeps f_eng h4))

theorem stageFlip_keeps {k s0 a1 a2 a3 a4 a5 a6} (f_cmd : k .cmd = false) (f_flt : k .flt = false) (f_xpt : k .xpt = false) (f_red : k .red = false) (f_zl : k .zl = false) (f_eng : k .eng = false) (f_cel : k .cel = false) (f_lease : k .lease = false) (f_pmu : k .pmu = false) (f_out : k .out = false) (f_free : k .free = false) (f_r_cmd : k (.reg .cmd) = false) (f_r_xpt : k (.reg .xpt) = false) (f_r_eth : k (.reg .eth) = false) (f_r_cel : k (.reg .cel) = false) (f_r_zl : k (.reg .zl) = false) (f_r_red : k (.reg .red) = false) (f_r_flt : k (.reg .flt) = false) (f_r_pmu : k (.reg .pmu) = false) (k6 : Keeps k s0 a6) :
    Keeps k s0 (stageFlip a1 a2 a3 a4 a5 a6) := by
  unfold stageFlip
  exact (by lift_lets -underBinder; intro xh1; have h2 : Keeps k s0 xh1 := (by unfold xh1; exact (keep_ite (Keeps k s0) k6 (endMembers_keeps f_cmd f_flt f_xpt f_red f_zl f_eng f_cel f_lease f_pmu f_out f_free f_r_cmd f_r_xpt f_r_eth f_r_cel f_r_zl f_r_red f_r_flt f_r_pmu k6))); clear_value xh1; intro xh3; (try clear_value xh3); intro xh4; (try clear_value xh4); intro xh5; exact (keep_ite (Keeps k s0) (setGroups_keeps f_eng h2) (by split; exact (setGroups_keeps f_eng h2); exact (setGroups_keeps f_eng h2))))

theorem endEngine_keeps {k s0 a1 a2 a3} (f_cmd : k .cmd = false) (f_flt : k .flt = false) (f_xpt : k .xpt = false) (f_red : k .red = false) (f_zl : k .zl = false) (f_eng : k .eng = false) (f_cel : k .cel = false) (f_lease : k .lease = false) (f_pmu : k .pmu = false) (f_out : k .out = false) (f_free : k .free = false) (f_r_cmd : k (.reg .cmd) = false) (f_r_xpt : k (.reg .xpt) = false) (f_r_eth : k (.reg .eth) = false) (f_r_eng : k (.reg .eng) = false) (f_r_cel : k (.reg .cel) = false) (f_r_zl : k (.reg .zl) = false) (f_r_red : k (.reg .red) = false) (f_r_flt : k (.reg .flt) = false) (f_r_pmu : k (.reg .pmu) = false) (k3 : Keeps k s0 a3) :
    Keeps k s0 (endEngine a1 a2 a3) := by
  unfold endEngine
  exact (by lift_lets -underBinder; intro xh1; intro xh2; have h3 : Keeps k s0 xh2 := (by unfold xh2; exact (engCharge_keeps f_cmd f_flt f_xpt f_red f_zl f_eng f_cel f_lease f_pmu f_out f_free f_r_cmd f_r_xpt f_r_eth f_r_eng f_r_cel f_r_zl f_r_red f_r_flt f_r_pmu (k3.set_eng f_eng rfl))); clear_value xh2; intro xh4; have h5 : Keeps k s0 xh4 := (by unfold xh4; exact (by split; exact (State.count_keeps f_pmu f_r_pmu h3); exact (State.count_keeps f_pmu f_r_pmu h3))); clear_value xh4; exact (finish_keeps f_cmd f_flt f_xpt f_red f_zl f_eng f_cel f_lease f_pmu f_out f_free f_r_cmd f_r_xpt f_r_eth f_r_cel f_r_zl f_r_red f_r_flt f_r_pmu h5))

theorem setSeen_keeps {k s0 a1 a2 a3 a4} (f_r_eng : k (.reg .eng) = false) (k4 : Keeps k s0 a4) :
    Keeps k s0 (setSeen a1 a2 a3 a4) := by
  unfold setSeen
  exact (State.p_keeps (.of f_r_eng) (State.p_keeps (.of f_r_eng) k4))

theorem abortGroup_keeps {k s0 a1 a2 a3} (f_cmd : k .cmd = false) (f_flt : k .flt = false) (f_xpt : k .xpt = false) (f_red : k .red = false) (f_zl : k .zl = false) (f_eng : k .eng = false) (f_cel : k .cel = false) (f_lease : k .lease = false) (f_pmu : k .pmu = false) (f_out : k .out = false) (f_free : k .free = false) (f_r_cmd : k (.reg .cmd) = false) (f_r_xpt : k (.reg .xpt) = false) (f_r_eth : k (.reg .eth) = false) (f_r_cel : k (.reg .cel) = false) (f_r_zl : k (.reg .zl) = false) (f_r_red : k (.reg .red) = false) (f_r_flt : k (.reg .flt) = false) (f_r_pmu : k (.reg .pmu) = false) (k3 : Keeps k s0 a3) :
    Keeps k s0 (abortGroup a1 a2 a3) := by
  unfold abortGroup
  exact (by lift_lets -underBinder; intro xh1; have h2 : Keeps k s0 xh1 := (by unfold xh1; exact (endMembers_keeps f_cmd f_flt f_xpt f_red f_zl f_eng f_cel f_lease f_pmu f_out f_free f_r_cmd f_r_xpt f_r_eth f_r_cel f_r_zl f_r_red f_r_flt f_r_pmu k3)); clear_value xh1; intro xh3; exact (h2.set_eng f_eng rfl))

theorem retireReads_keeps {k s0 a1} (f_eng : k .eng = false) (k1 : Keeps k s0 a1) :
    Keeps k s0 (retireReads a1) := by
  unfold retireReads
  exact (by lift_lets -underBinder; intro xh1; intro xh2; exact (k1.set_eng f_eng rfl))

theorem stageEngine_keeps {k s0 a1 a2} (f_cmd : k .cmd = false) (f_flt : k .flt = false) (f_xpt : k .xpt = false) (f_red : k .red = false) (f_zl : k .zl = false) (f_eng : k .eng = false) (f_cel : k .cel = false) (f_lease : k .lease = false) (f_pmu : k .pmu = false) (f_out : k .out = false) (f_free : k .free = false) (f_r_cmd : k (.reg .cmd) = false) (f_r_xpt : k (.reg .xpt) = false) (f_r_eth : k (.reg .eth) = false) (f_r_eng : k (.reg .eng) = false) (f_r_cel : k (.reg .cel) = false) (f_r_zl : k (.reg .zl) = false) (f_r_red : k (.reg .red) = false) (f_r_flt : k (.reg .flt) = false) (f_r_pmu : k (.reg .pmu) = false) (k2 : Keeps k s0 a2) :
    Keeps k s0 (stageEngine a1 a2) := by
  unfold stageEngine
  exact (by lift_lets -underBinder; intro xh1; have h3 : Keeps k s0 xh1 := (by unfold xh1; exact (keep_each (fun _ _ h2 => (endEngine_keeps f_cmd f_flt f_xpt f_red f_zl f_eng f_cel f_lease f_pmu f_out f_free f_r_cmd f_r_xpt f_r_eth f_r_eng f_r_cel f_r_zl f_r_red f_r_flt f_r_pmu h2)) k2)); clear_value xh1; intro xh4; have h5 : Keeps k s0 xh4 := (by unfold xh4; exact (engCharge_keeps f_cmd f_flt f_xpt f_red f_zl f_eng f_cel f_lease f_pmu f_out f_free f_r_cmd f_r_xpt f_r_eth f_r_eng f_r_cel f_r_zl f_r_red f_r_flt f_r_pmu h3)); clear_value xh4; intro xh6; exact (h5.set_eng f_eng rfl))

theorem sendVerdict_keeps {k s0 a1 a2 a3} (f_red : k .red = false) (f_out : k .out = false) (k3 : Keeps k s0 a3) :
    Keeps k s0 (sendVerdict a1 a2 a3) := by
  unfold sendVerdict
  exact (keep_ite (Keeps k s0) (by split; exact (State.tell_keeps f_red f_out k3); exact k3) k3)

theorem deferGroup_keeps {k s0 a1 a2} (f_cmd : k .cmd = false) (f_flt : k .flt = false) (f_xpt : k .xpt = false) (f_red : k .red = false) (f_zl : k .zl = false) (f_eng : k .eng = false) (f_cel : k .cel = false) (f_lease : k .lease = false) (f_pmu : k .pmu = false) (f_out : k .out = false) (f_free : k .free = false) (f_r_cmd : k (.reg .cmd) = false) (f_r_xpt : k (.reg .xpt) = false) (f_r_eth : k (.reg .eth) = false) (f_r_eng : k (.reg .eng) = false) (f_r_cel : k (.reg .cel) = false) (f_r_zl : k (.reg .zl) = false) (f_r_red : k (.reg .red) = false) (f_r_flt : k (.reg .flt) = false) (f_r_pmu : k (.reg .pmu) = false) (k2 : Keeps k s0 a2) :
    KeepsP k s0 (deferGroup a1 a2) := by
  unfold deferGroup
  exact (by lift_lets -underBinder; intro xh1; (try clear_value xh1); intro xh2; have h4 : Keeps k s0 xh2 := (by unfold xh2; exact (keep_each (fun _ _ h3 => (State.count_keeps f_pmu f_r_pmu (State.bump_keeps (.of f_r_eng) h3))) k2)); clear_value xh2; intro xh5; (try clear_value xh5); intro xh6; (try clear_value xh6); intro xh7; have h9 : Keeps k s0 xh7 := (by unfold xh7; exact (State.count_keeps f_pmu f_r_pmu (keep_each (fun _ _ h8 => (State.bump_keeps (.of f_r_eng) h8)) h4))); clear_value xh7; exact (keep_ite (KeepsP k s0) (keep_each (fun _ _ h10 => (endMember_keeps f_cmd f_flt f_xpt f_red f_zl f_eng f_cel f_lease f_pmu f_out f_free f_r_cmd f_r_xpt f_r_eth f_r_cel f_r_zl f_r_red f_r_flt f_r_pmu h10)) h9) h4))

theorem judgeGroup_keeps {k s0 a1 a2} (f_cmd : k .cmd = false) (f_flt : k .flt = false) (f_xpt : k .xpt = false) (f_red : k .red = false) (f_zl : k .zl = false) (f_eng : k .eng = false) (f_cel : k .cel = false) (f_lease : k .lease = false) (f_pmu : k .pmu = false) (f_out : k .out = false) (f_free : k .free = false) (f_r_cmd : k (.reg .cmd) = false) (f_r_xpt : k (.reg .xpt) = false) (f_r_eth : k (.reg .eth) = false) (f_r_eng : k (.reg .eng) = false) (f_r_cel : k (.reg .cel) = false) (f_r_zl : k (.reg .zl) = false) (f_r_red : k (.reg .red) = false) (f_r_flt : k (.reg .flt) = false) (f_r_pmu : k (.reg .pmu) = false) (k2 : Keeps k s0 a2) :
    KeepsP k s0 (judgeGroup a1 a2) := by
  unfold judgeGroup
  exact (by lift_lets -underBinder; intro xh1; (try clear_value xh1); intro xh2; have h3 : Keeps k s0 xh2 := (by unfold xh2; exact (sendVerdict_keeps f_red f_out k2)); clear_value xh2; exact (keep_ite (KeepsP k s0) (keep_ite (KeepsP k s0) h3 (deferGroup_keeps f_cmd f_flt f_xpt f_red f_zl f_eng f_cel f_lease f_pmu f_out f_free f_r_cmd f_r_xpt f_r_eth f_r_eng f_r_cel f_r_zl f_r_red f_r_flt f_r_pmu h3)) k2))

theorem cancelEngines_keeps {k s0 a1 a2} (f_cmd : k .cmd = false) (f_flt : k .flt = false) (f_xpt : k .xpt = false) (f_red : k .red = false) (f_zl : k .zl = false) (f_eng : k .eng = false) (f_cel : k .cel = false) (f_lease : k .lease = false) (f_mem : k .mem = false) (f_pmu : k .pmu = false) (f_out : k .out = false) (f_free : k .free = false) (f_r_cmd : k (.reg .cmd) = false) (f_r_xpt : k (.reg .xpt) = false) (f_r_eth : k (.reg .eth) = false) (f_r_eng : k (.reg .eng) = false) (f_r_cel : k (.reg .cel) = false) (f_r_zl : k (.reg .zl) = false) (f_r_red : k (.reg .red) = false) (f_r_flt : k (.reg .flt) = false) (f_r_pmu : k (.reg .pmu) = false) (k2 : Keeps k s0 a2) :
    Keeps k s0 (cancelEngines a1 a2) := by
  unfold cancelEngines
  exact (by lift_lets -underBinder; intro xh1; have h3 : Keeps k s0 xh1 := (by unfold xh1; exact (keep_each (fun _ _ h2 => (endEngine_keeps f_cmd f_flt f_xpt f_red f_zl f_eng f_cel f_lease f_pmu f_out f_free f_r_cmd f_r_xpt f_r_eth f_r_eng f_r_cel f_r_zl f_r_red f_r_flt f_r_pmu h2)) k2)); clear_value xh1; intro xh4; have h5 : Keeps k s0 xh4 := (by unfold xh4; exact (endMembers_keeps f_cmd f_flt f_xpt f_red f_zl f_eng f_cel f_lease f_pmu f_out f_free f_r_cmd f_r_xpt f_r_eth f_r_cel f_r_zl f_r_red f_r_flt f_r_pmu h3)); clear_value xh4; intro xh6; intro xh7; have h8 : Keeps k s0 xh7 := (by unfold xh7; exact (h5.set_eng f_eng rfl)); clear_value xh7; exact (keep_each (fun _ _ h9 => (engOff_keeps f_cmd f_flt f_xpt f_red f_zl f_eng f_cel f_lease f_mem f_pmu f_out f_free f_r_cmd f_r_xpt f_r_eth f_r_eng f_r_cel f_r_zl f_r_red f_r_flt f_r_pmu h9)) h8))

theorem actMember_keeps {k s0 a1 a2} (f_cmd : k .cmd = false) (f_flt : k .flt = false) (f_xpt : k .xpt = false) (f_red : k .red = false) (f_zl : k .zl = false) (f_eng : k .eng = false) (f_cel : k .cel = false) (f_lease : k .lease = false) (f_pmu : k .pmu = false) (f_out : k .out = false) (f_free : k .free = false) (f_r_cmd : k (.reg .cmd) = false) (f_r_xpt : k (.reg .xpt) = false) (f_r_eth : k (.reg .eth) = false) (f_r_eng : k (.reg .eng) = false) (f_r_cel : k (.reg .cel) = false) (f_r_zl : k (.reg .zl) = false) (f_r_red : k (.reg .red) = false) (f_r_flt : k (.reg .flt) = false) (f_r_pmu : k (.reg .pmu) = false) (k2 : Keeps k s0 a2) :
    Keeps k s0 (actMember a1 a2) := by
  unfold actMember
  exact (by lift_lets -underBinder; intro xh1; (try clear_value xh1); intro xh2; (try clear_value xh2); intro xh3; (try clear_value xh3); intro xh4; (try clear_value xh4); intro xh5; have h6 : Keeps k s0 xh5 := (by unfold xh5; exact (State.wr_keeps (.of f_r_eng) k2)); clear_value xh5; intro xh7; (try clear_value xh7); exact (keep_ite (Keeps k s0) (State.wr_keeps (.of f_r_eng) k2) (keep_ite (Keeps k s0) (engCharge_keeps f_cmd f_flt f_xpt f_red f_zl f_eng f_cel f_lease f_pmu f_out f_free f_r_cmd f_r_xpt f_r_eth f_r_eng f_r_cel f_r_zl f_r_red f_r_flt f_r_pmu h6) h6)))

theorem sampleMember_keeps {k s0 a1 a2} (f_eng : k .eng = false) (f_cel : k .cel = false) (f_pmu : k .pmu = false) (f_out : k .out = false) (f_r_eng : k (.reg .eng) = false) (f_r_cel : k (.reg .cel) = false) (f_r_pmu : k (.reg .pmu) = false) (f_r_noc : k (.reg .noc) = false) (k2 : Keeps k s0 a2) :
    KeepsP k s0 (sampleMember a1 a2) := by
  unfold sampleMember
  exact (by split; exact k2; exact (by split; exact (by lift_lets -underBinder; intro xh1; (try clear_value xh1); exact (setSeen_keeps f_r_eng k2)); exact (by lift_lets -underBinder; intro xh2; (try clear_value xh2); intro xh3; intro xh4; have h5 : Keeps k s0 xh4 := (by unfold xh4; exact (k2.set_eng f_eng rfl)); clear_value xh4; intro xh6; have h7 : Keeps k s0 xh6 := (by unfold xh6; exact (wakePort_keeps f_pmu f_r_pmu f_r_noc (wakePort_keeps f_pmu f_r_pmu f_r_noc h5))); clear_value xh6; intro xh8; intro xh9; have h10 : Keeps k s0 xh9 := (by unfold xh9; exact (keep_ite (Keeps k s0) k2 (keep_ite (Keeps k s0) (State.emit_keeps f_out h7) (srWake_keeps f_cel f_r_cel (h7.set_cel f_cel rfl))))); clear_value xh9; exact h10)))

theorem sampleGroup_keeps {k s0 a1 a2} (f_eng : k .eng = false) (f_cel : k .cel = false) (f_pmu : k .pmu = false) (f_out : k .out = false) (f_r_eng : k (.reg .eng) = false) (f_r_cel : k (.reg .cel) = false) (f_r_pmu : k (.reg .pmu) = false) (f_r_noc : k (.reg .noc) = false) (k2 : Keeps k s0 a2) :
    KeepsP k s0 (sampleGroup a1 a2) := by
  unfold sampleGroup
  exact (by lift_lets -underBinder; intro xh1; subst xh1; exact (by split; (rename_i vh6 vh7 he; have h8 := KeepsP.of_eq he (keep_foldl (KeepsP k s0) (fun _ _ h2 => (keep_ite (KeepsP k s0) (by split; (rename_i vh3 vh4 he; have h5 := KeepsP.of_eq he (sampleMember_keeps f_eng f_cel f_pmu f_out f_r_eng f_r_cel f_r_pmu f_r_noc h2); exact h5)) h2)) k2); exact h8)))

theorem fenceLines_keeps {k s0 a1 a2} (f_cmd : k .cmd = false) (f_flt : k .flt = false) (f_xpt : k .xpt = false) (f_red : k .red = false) (f_zl : k .zl = false) (f_eng : k .eng = false) (f_cel : k .cel = false) (f_lease : k .lease = false) (f_pmu : k .pmu = false) (f_out : k .out = false) (f_free : k .free = false) (f_r_cmd : k (.reg .cmd) = false) (f_r_xpt : k (.reg .xpt) = false) (f_r_eth : k (.reg .eth) = false) (f_r_eng : k (.reg .eng) = false) (f_r_cel : k (.reg .cel) = false) (f_r_zl : k (.reg .zl) = false) (f_r_red : k (.reg .red) = false) (f_r_flt : k (.reg .flt) = false) (f_r_pmu : k (.reg .pmu) = false) (f_r_noc : k (.reg .noc) = false) (k2 : Keeps k s0 a2) :
    Keeps k s0 (fenceLines a1 a2) := by
  unfold fenceLines
  exact (by lift_lets -underBinder; intro xh1; subst xh1; exact (keep_ite (Keeps k s0) k2 (by split; (rename_i vh9 vh10 he; have h11 := KeepsP.of_eq he (keep_foldl (KeepsP k s0) (fun _ _ h2 => (keep_ite (KeepsP k s0) (by split; (rename_i vh3 vh4 he; have h5 := KeepsP.of_eq he (sampleGroup_keeps f_eng f_cel f_pmu f_out f_r_eng f_r_cel f_r_pmu f_r_noc h2); exact (by split; (rename_i vh6 vh7 he; have h8 := KeepsP.of_eq he (judgeGroup_keeps f_cmd f_flt f_xpt f_red f_zl f_eng f_cel f_lease f_pmu f_out f_free f_r_cmd f_r_xpt f_r_eth f_r_eng f_r_cel f_r_zl f_r_red f_r_flt f_r_pmu h5); exact h8)))) h2)) (retireReads_keeps f_eng k2)); exact (setGroups_keeps f_eng h11)))))

theorem setFence_keeps {k s0 a1 a2 a3 a4 a5} (f_r_eng : k (.reg .eng) = false) (k5 : Keeps k s0 a5) :
    Keeps k s0 (setFence a1 a2 a3 a4 a5) := by
  unfold setFence
  exact (keep_ite (Keeps k s0) (State.p_keeps (.of f_r_eng) (State.p_keeps (.of f_r_eng) k5)) k5)

theorem flipGroupAct_keeps {k s0 a1 a2} (f_cmd : k .cmd = false) (f_flt : k .flt = false) (f_xpt : k .xpt = false) (f_red : k .red = false) (f_zl : k .zl = false) (f_eng : k .eng = false) (f_cel : k .cel = false) (f_lease : k .lease = false) (f_pmu : k .pmu = false) (f_out : k .out = false) (f_free : k .free = false) (f_r_cmd : k (.reg .cmd) = false) (f_r_xpt : k (.reg .xpt) = false) (f_r_eth : k (.reg .eth) = false) (f_r_eng : k (.reg .eng) = false) (f_r_cel : k (.reg .cel) = false) (f_r_zl : k (.reg .zl) = false) (f_r_red : k (.reg .red) = false) (f_r_flt : k (.reg .flt) = false) (f_r_pmu : k (.reg .pmu) = false) (k2 : Keeps k s0 a2) :
    Keeps k s0 (flipGroupAct a1 a2) := by
  unfold flipGroupAct
  exact (by lift_lets -underBinder; intro xh1; intro xh2; have h3 : Keeps k s0 xh2 := (by unfold xh2; exact (k2.set_eng f_eng rfl)); clear_value xh2; intro xh4; (try clear_value xh4); exact (by split; (rename_i vh6 vh7 he; have h8 := KeepsP.of_eq he (keep_ite (KeepsP k s0) (keep_ite (Keeps k s0) (sendVerdict_keeps f_red f_out h3) h3) (by split; exact h3; exact (occur_keeps f_cmd f_flt f_xpt f_red f_zl f_eng f_cel f_lease f_pmu f_out f_free f_r_cmd f_r_xpt f_r_eth f_r_cel f_r_zl f_r_red f_r_flt f_r_pmu (keep_each (fun _ _ h5 => (State.count_keeps f_pmu f_r_pmu (State.p_keeps (.of f_r_eng) h5))) h3)))); exact (keep_ite (Keeps k s0) (keep_each (fun _ _ h9 => (endMember_keeps f_cmd f_flt f_xpt f_red f_zl f_eng f_cel f_lease f_pmu f_out f_free f_r_cmd f_r_xpt f_r_eth f_r_cel f_r_zl f_r_red f_r_flt f_r_pmu (actMember_keeps f_cmd f_flt f_xpt f_red f_zl f_eng f_cel f_lease f_pmu f_out f_free f_r_cmd f_r_xpt f_r_eth f_r_eng f_r_cel f_r_zl f_r_red f_r_flt f_r_pmu h9))) h8) (by split; (rename_i vh10 vh11 he; have h12 := KeepsP.of_eq he (deferGroup_keeps f_cmd f_flt f_xpt f_red f_zl f_eng f_cel f_lease f_pmu f_out f_free f_r_cmd f_r_xpt f_r_eth f_r_eng f_r_cel f_r_zl f_r_red f_r_flt f_r_pmu h8); exact (by lift_lets -underBinder; intro xh13; exact (h12.set_eng f_eng rfl))))))))

theorem flipsDue_keeps {k s0 a1 a2} (f_cmd : k .cmd = false) (f_flt : k .flt = false) (f_xpt : k .xpt = false) (f_red : k .red = false) (f_zl : k .zl = false) (f_eng : k .eng = false) (f_cel : k .cel = false) (f_lease : k .lease = false) (f_pmu : k .pmu = false) (f_out : k .out = false) (f_free : k .free = false) (f_r_cmd : k (.reg .cmd) = false) (f_r_xpt : k (.reg .xpt) = false) (f_r_eth : k (.reg .eth) = false) (f_r_eng : k (.reg .eng) = false) (f_r_cel : k (.reg .cel) = false) (f_r_zl : k (.reg .zl) = false) (f_r_red : k (.reg .red) = false) (f_r_flt : k (.reg .flt) = false) (f_r_pmu : k (.reg .pmu) = false) (k2 : Keeps k s0 a2) :
    Keeps k s0 (flipsDue a1 a2) := by
  unfold flipsDue
  exact (keep_each (fun _ _ h1 => (flipGroupAct_keeps f_cmd f_flt f_xpt f_red f_zl f_eng f_cel f_lease f_pmu f_out f_free f_r_cmd f_r_xpt f_r_eth f_r_eng f_r_cel f_r_zl f_r_red f_r_flt f_r_pmu h1)) k2)

theorem commitEngines_keeps {k s0 a1 a2} (f_cmd : k .cmd = false) (f_flt : k .flt = false) (f_xpt : k .xpt = false) (f_red : k .red = false) (f_zl : k .zl = false) (f_eng : k .eng = false) (f_cel : k .cel = false) (f_lease : k .lease = false) (f_mem : k .mem = false) (f_pmu : k .pmu = false) (f_out : k .out = false) (f_free : k .free = false) (f_r_cmd : k (.reg .cmd) = false) (f_r_xpt : k (.reg .xpt) = false) (f_r_eth : k (.reg .eth) = false) (f_r_eng : k (.reg .eng) = false) (f_r_cel : k (.reg .cel) = false) (f_r_zl : k (.reg .zl) = false) (f_r_red : k (.reg .red) = false) (f_r_flt : k (.reg .flt) = false) (f_r_pmu : k (.reg .pmu) = false) (k2 : Keeps k s0 a2) :
    Keeps k s0 (commitEngines a1 a2) := by
  unfold commitEngines
  exact (keep_each (fun _ _ h1 => (by lift_lets -underBinder; intro xh2; (try clear_value xh2); intro xh3; intro xh4; have h5 : Keeps k s0 xh4 := (by unfold xh4; exact (h1.set_eng f_eng rfl)); clear_value xh4; intro xh6; have h7 : Keeps k s0 xh6 := (by unfold xh6; exact (endMembers_keeps f_cmd f_flt f_xpt f_red f_zl f_eng f_cel f_lease f_pmu f_out f_free f_r_cmd f_r_xpt f_r_eth f_r_cel f_r_zl f_r_red f_r_flt f_r_pmu h5)); clear_value xh6; intro xh8; have h9 : Keeps k s0 xh8 := (by unfold xh8; exact (engCharge_keeps f_cmd f_flt f_xpt f_red f_zl f_eng f_cel f_lease f_pmu f_out f_free f_r_cmd f_r_xpt f_r_eth f_r_eng f_r_cel f_r_zl f_r_red f_r_flt f_r_pmu (engApply_keeps f_cmd f_flt f_xpt f_red f_zl f_eng f_cel f_lease f_mem f_pmu f_out f_free f_r_cmd f_r_xpt f_r_eth f_r_eng f_r_cel f_r_zl f_r_red f_r_flt f_r_pmu h7))); clear_value xh8; exact (finish_keeps f_cmd f_flt f_xpt f_red f_zl f_eng f_cel f_lease f_pmu f_out f_free f_r_cmd f_r_xpt f_r_eth f_r_cel f_r_zl f_r_red f_r_flt f_r_pmu (State.count_keeps f_pmu f_r_pmu h9)))) k2)

theorem hostReadFails_keeps {k s0 a1 a2 a3} (f_cmd : k .cmd = false) (f_flt : k .flt = false) (f_xpt : k .xpt = false) (f_red : k .red = false) (f_zl : k .zl = false) (f_eng : k .eng = false) (f_cel : k .cel = false) (f_lease : k .lease = false) (f_pmu : k .pmu = false) (f_out : k .out = false) (f_free : k .free = false) (f_r_cmd : k (.reg .cmd) = false) (f_r_xpt : k (.reg .xpt) = false) (f_r_eth : k (.reg .eth) = false) (f_r_cel : k (.reg .cel) = false) (f_r_zl : k (.reg .zl) = false) (f_r_red : k (.reg .red) = false) (f_r_flt : k (.reg .flt) = false) (f_r_pmu : k (.reg .pmu) = false) (k3 : Keeps k s0 a3) :
    Keeps k s0 (hostReadFails a1 a2 a3) := by
  unfold hostReadFails
  exact (by split; exact k3; exact (refuse_keeps f_cmd f_flt f_xpt f_red f_zl f_eng f_cel f_lease f_pmu f_out f_free f_r_cmd f_r_xpt f_r_eth f_r_cel f_r_zl f_r_red f_r_flt f_r_pmu (dropRead_keeps f_cmd k3)))

theorem writeFlipStat_keeps {k s0 a1 a2 a3} (f_r_eng : k (.reg .eng) = false) (k3 : Keeps k s0 a3) :
    Keeps k s0 (writeFlipStat a1 a2 a3) := by
  unfold writeFlipStat
  exact (by lift_lets -underBinder; intro xh1; have h2 : Keeps k s0 xh1 := (by unfold xh1; exact (State.write_keeps (.of f_r_eng) k3)); clear_value xh1; exact (keep_ite (Keeps k s0) (State.p_keeps (.of f_r_eng) (State.p_keeps (.of f_r_eng) h2)) h2))

theorem execEngineSet_keeps {k s0 a1 a2 a3} (f_cmd : k .cmd = false) (f_flt : k .flt = false) (f_xpt : k .xpt = false) (f_red : k .red = false) (f_zl : k .zl = false) (f_eng : k .eng = false) (f_cel : k .cel = false) (f_lease : k .lease = false) (f_pmu : k .pmu = false) (f_out : k .out = false) (f_free : k .free = false) (f_r_cmd : k (.reg .cmd) = false) (f_r_xpt : k (.reg .xpt) = false) (f_r_eth : k (.reg .eth) = false) (f_r_cel : k (.reg .cel) = false) (f_r_zl : k (.reg .zl) = false) (f_r_red : k (.reg .red) = false) (f_r_flt : k (.reg .flt) = false) (f_r_pmu : k (.reg .pmu) = false) (f_r_noc : k (.reg .noc) = false) (k3 : Keeps k s0 a3) :
    KeepsOut k s0 (execEngineSet a1 a2 a3) := by
  unfold execEngineSet
  exact (KeepsOut.next (presentRead_keeps f_cmd f_flt f_xpt f_red f_zl f_eng f_cel f_lease f_pmu f_out f_free f_r_cmd f_r_xpt f_r_eth f_r_cel f_r_zl f_r_red f_r_flt f_r_pmu f_r_noc k3))

theorem execFenceSet_keeps {k s0 a1 a2 a3} (f_cmd : k .cmd = false) (f_flt : k .flt = false) (f_xpt : k .xpt = false) (f_red : k .red = false) (f_zl : k .zl = false) (f_eng : k .eng = false) (f_cel : k .cel = false) (f_lease : k .lease = false) (f_pmu : k .pmu = false) (f_out : k .out = false) (f_free : k .free = false) (f_r_cmd : k (.reg .cmd) = false) (f_r_xpt : k (.reg .xpt) = false) (f_r_eth : k (.reg .eth) = false) (f_r_cel : k (.reg .cel) = false) (f_r_zl : k (.reg .zl) = false) (f_r_red : k (.reg .red) = false) (f_r_flt : k (.reg .flt) = false) (f_r_pmu : k (.reg .pmu) = false) (k3 : Keeps k s0 a3) :
    KeepsOut k s0 (execFenceSet a1 a2 a3) := by
  unfold execFenceSet
  exact (KeepsOut.next (present_keeps f_cmd f_flt f_xpt f_red f_zl f_eng f_cel f_lease f_pmu f_out f_free f_r_cmd f_r_xpt f_r_eth f_r_cel f_r_zl f_r_red f_r_flt f_r_pmu (fun _ _ _ _ h1 => (by lift_lets -underBinder; intro xh2; exact (forward_keeps f_red f_pmu f_out f_r_red f_r_pmu (h1.set_cmd f_cmd )))) k3))

theorem execEngInputLost_keeps {k s0 a1 a2 a3} (f_cmd : k .cmd = false) (f_flt : k .flt = false) (f_xpt : k .xpt = false) (f_red : k .red = false) (f_zl : k .zl = false) (f_eng : k .eng = false) (f_cel : k .cel = false) (f_lease : k .lease = false) (f_pmu : k .pmu = false) (f_out : k .out = false) (f_free : k .free = false) (f_r_cmd : k (.reg .cmd) = false) (f_r_xpt : k (.reg .xpt) = false) (f_r_eth : k (.reg .eth) = false) (f_r_eng : k (.reg .eng) = false) (f_r_cel : k (.reg .cel) = false) (f_r_zl : k (.reg .zl) = false) (f_r_red : k (.reg .red) = false) (f_r_flt : k (.reg .flt) = false) (f_r_pmu : k (.reg .pmu) = false) (k3 : Keeps k s0 a3) :
    KeepsOut k s0 (execEngInputLost a1 a2 a3) := by
  unfold execEngInputLost
  exact (by lift_lets -underBinder; intro xh1; (try clear_value xh1); exact (KeepsOut.next (keep_ite (Keeps k s0) (occur_keeps f_cmd f_flt f_xpt f_red f_zl f_eng f_cel f_lease f_pmu f_out f_free f_r_cmd f_r_xpt f_r_eth f_r_cel f_r_zl f_r_red f_r_flt f_r_pmu (State.count_keeps f_pmu f_r_pmu (updateLost_keeps f_r_eng (State.setFsc_keeps f_eng k3)))) k3)))

theorem judgeRegion_keeps {k s0 a1 a2 a3} (f_cmd : k .cmd = false) (f_flt : k .flt = false) (f_xpt : k .xpt = false) (f_red : k .red = false) (f_zl : k .zl = false) (f_eng : k .eng = false) (f_cel : k .cel = false) (f_lease : k .lease = false) (f_pmu : k .pmu = false) (f_out : k .out = false) (f_free : k .free = false) (f_r_cmd : k (.reg .cmd) = false) (f_r_xpt : k (.reg .xpt) = false) (f_r_eth : k (.reg .eth) = false) (f_r_eng : k (.reg .eng) = false) (f_r_cel : k (.reg .cel) = false) (f_r_zl : k (.reg .zl) = false) (f_r_red : k (.reg .red) = false) (f_r_flt : k (.reg .flt) = false) (f_r_pmu : k (.reg .pmu) = false) (k3 : Keeps k s0 a3) :
    Keeps k s0 (judgeRegion a1 a2 a3) := by
  unfold judgeRegion
  exact (by lift_lets -underBinder; intro xh1; (try clear_value xh1); intro xh2; (try clear_value xh2); intro xh3; (try clear_value xh3); intro xh4; (try clear_value xh4); intro xh5; (try clear_value xh5); intro xh6; (try clear_value xh6); intro xh7; (try clear_value xh7); intro xh8; have h9 : Keeps k s0 xh8 := (by unfold xh8; exact (keep_ite (Keeps k s0) (State.count_keeps f_pmu f_r_pmu (State.wr_keeps (.of f_r_eng) (State.wr_keeps (.of f_r_eng) k3))) k3)); clear_value xh8; intro xh10; (try clear_value xh10); intro xh11; (try clear_value xh11); intro xh12; intro xh13; have h14 : Keeps k s0 xh13 := (by unfold xh13; exact (h9.set_eng f_eng rfl)); clear_value xh13; intro xh15; have h16 : Keeps k s0 xh15 := (by unfold xh15; exact (State.p_keeps (.of f_r_eng) (State.p_keeps (.of f_r_eng) h14))); clear_value xh15; intro xh17; have h18 : Keeps k s0 xh17 := (by unfold xh17; exact (State.count_keeps f_pmu f_r_pmu (State.bump_keeps (.of f_r_eng) h16))); clear_value xh17; exact (keep_ite (Keeps k s0) (keep_ite (Keeps k s0) (occur_keeps f_cmd f_flt f_xpt f_red f_zl f_eng f_cel f_lease f_pmu f_out f_free f_r_cmd f_r_xpt f_r_eth f_r_cel f_r_zl f_r_red f_r_flt f_r_pmu (State.count_keeps f_pmu f_r_pmu h18)) h18) h16))

theorem writeSigStat_keeps {k s0 a1 a2 a3 a4} (f_r_eng : k (.reg .eng) = false) (k4 : Keeps k s0 a4) :
    Keeps k s0 (writeSigStat a1 a2 a3 a4) := by
  unfold writeSigStat
  exact (keep_ite (Keeps k s0) (State.p_keeps (.of f_r_eng) k4) k4)

theorem writeFsStat_keeps {k s0 a1 a2} (f_r_eng : k (.reg .eng) = false) (k2 : Keeps k s0 a2) :
    Keeps k s0 (writeFsStat a1 a2) := by
  unfold writeFsStat
  exact (State.wr_keeps (.of f_r_eng) (State.wr_keeps (.of f_r_eng) k2))

theorem execFsStatClear_keeps {k s0 a1 a2 a3} (f_pmu : k .pmu = false) (f_r_hif : k (.reg .hif) = false) (f_r_eng : k (.reg .eng) = false) (f_r_pmu : k (.reg .pmu) = false) (f_r_noc : k (.reg .noc) = false) (k3 : Keeps k s0 a3) :
    KeepsOut k s0 (execFsStatClear a1 a2 a3) := by
  unfold execFsStatClear
  exact (KeepsOut.next (gate_keeps f_pmu f_r_hif f_r_pmu f_r_noc (fun _ h1 => (writeFsStat_keeps f_r_eng h1)) k3))

theorem writeEngStat_keeps {k s0 a1 a2 a3} (f_r_eng : k (.reg .eng) = false) (k3 : Keeps k s0 a3) :
    Keeps k s0 (writeEngStat a1 a2 a3) := by
  unfold writeEngStat
  exact (by lift_lets -underBinder; intro xh1; have h2 : Keeps k s0 xh1 := (by unfold xh1; exact (State.write_keeps (.of f_r_eng) k3)); clear_value xh1; exact (keep_ite (Keeps k s0) (State.p_keeps (.of f_r_eng) h2) h2))

theorem execSigMismatchClr_keeps {k s0 a1 a2 a3 a4} (f_pmu : k .pmu = false) (f_r_hif : k (.reg .hif) = false) (f_r_eng : k (.reg .eng) = false) (f_r_pmu : k (.reg .pmu) = false) (f_r_noc : k (.reg .noc) = false) (k4 : Keeps k s0 a4) :
    KeepsOut k s0 (execSigMismatchClr a1 a2 a3 a4) := by
  unfold execSigMismatchClr
  exact (KeepsOut.next (gate_keeps f_pmu f_r_hif f_r_pmu f_r_noc (fun _ h1 => (writeSigStat_keeps f_r_eng h1)) k4))

theorem flipGo_keeps {k s0 a1 a2 a3 a4 a5 a6 a7 a8} (f_cmd : k .cmd = false) (f_flt : k .flt = false) (f_xpt : k .xpt = false) (f_red : k .red = false) (f_zl : k .zl = false) (f_eng : k .eng = false) (f_cel : k .cel = false) (f_lease : k .lease = false) (f_pmu : k .pmu = false) (f_out : k .out = false) (f_free : k .free = false) (f_r_cmd : k (.reg .cmd) = false) (f_r_xpt : k (.reg .xpt) = false) (f_r_eth : k (.reg .eth) = false) (f_r_cel : k (.reg .cel) = false) (f_r_zl : k (.reg .zl) = false) (f_r_red : k (.reg .red) = false) (f_r_flt : k (.reg .flt) = false) (f_r_pmu : k (.reg .pmu) = false) (k8 : Keeps k s0 a8) :
    Keeps k s0 (flipGo a1 a2 a3 a4 a5 a6 a7 a8) := by
  unfold flipGo
  exact (by lift_lets -underBinder; intro xh1; (try clear_value xh1); exact (keep_ite (Keeps k s0) (finish_keeps f_cmd f_flt f_xpt f_red f_zl f_eng f_cel f_lease f_pmu f_out f_free f_r_cmd f_r_xpt f_r_eth f_r_cel f_r_zl f_r_red f_r_flt f_r_pmu (State.count_keeps f_pmu f_r_pmu (forward_keeps f_red f_pmu f_out f_r_red f_r_pmu (keep_ite (Keeps k s0) k8 (abortGroup_keeps f_cmd f_flt f_xpt f_red f_zl f_eng f_cel f_lease f_pmu f_out f_free f_r_cmd f_r_xpt f_r_eth f_r_cel f_r_zl f_r_red f_r_flt f_r_pmu k8))))) (keep_ite (Keeps k s0) (by split; exact k8; exact (forward_keeps f_red f_pmu f_out f_r_red f_r_pmu (stageFlip_keeps f_cmd f_flt f_xpt f_red f_zl f_eng f_cel f_lease f_pmu f_out f_free f_r_cmd f_r_xpt f_r_eth f_r_cel f_r_zl f_r_red f_r_flt f_r_pmu k8))) (forward_keeps f_red f_pmu f_out f_r_red f_r_pmu (stageFlip_keeps f_cmd f_flt f_xpt f_red f_zl f_eng f_cel f_lease f_pmu f_out f_free f_r_cmd f_r_xpt f_r_eth f_r_cel f_r_zl f_r_red f_r_flt f_r_pmu k8)))))

theorem execSigExpect_keeps {k s0 a1 a2 a3} (f_cmd : k .cmd = false) (f_flt : k .flt = false) (f_xpt : k .xpt = false) (f_red : k .red = false) (f_zl : k .zl = false) (f_eng : k .eng = false) (f_cel : k .cel = false) (f_lease : k .lease = false) (f_pmu : k .pmu = false) (f_out : k .out = false) (f_free : k .free = false) (f_r_cmd : k (.reg .cmd) = false) (f_r_xpt : k (.reg .xpt) = false) (f_r_eth : k (.reg .eth) = false) (f_r_eng : k (.reg .eng) = false) (f_r_cel : k (.reg .cel) = false) (f_r_zl : k (.reg .zl) = false) (f_r_red : k (.reg .red) = false) (f_r_flt : k (.reg .flt) = false) (f_r_pmu : k (.reg .pmu) = false) (f_r_noc : k (.reg .noc) = false) (k3 : Keeps k s0 a3) :
    KeepsOut k s0 (execSigExpect a1 a2 a3) := by
  unfold execSigExpect
  exact (KeepsOut.next (present_keeps f_cmd f_flt f_xpt f_red f_zl f_eng f_cel f_lease f_pmu f_out f_free f_r_cmd f_r_xpt f_r_eth f_r_cel f_r_zl f_r_red f_r_flt f_r_pmu (fun _ _ _ _ h1 => (fenceLines_keeps f_cmd f_flt f_xpt f_red f_zl f_eng f_cel f_lease f_pmu f_out f_free f_r_cmd f_r_xpt f_r_eth f_r_eng f_r_cel f_r_zl f_r_red f_r_flt f_r_pmu f_r_noc (flipGo_keeps f_cmd f_flt f_xpt f_red f_zl f_eng f_cel f_lease f_pmu f_out f_free f_r_cmd f_r_xpt f_r_eth f_r_cel f_r_zl f_r_red f_r_flt f_r_pmu h1))) k3))

theorem execLayerFlip_keeps {k s0 a1 a2 a3} (f_cmd : k .cmd = false) (f_flt : k .flt = false) (f_xpt : k .xpt = false) (f_red : k .red = false) (f_zl : k .zl = false) (f_eng : k .eng = false) (f_cel : k .cel = false) (f_lease : k .lease = false) (f_pmu : k .pmu = false) (f_out : k .out = false) (f_free : k .free = false) (f_r_cmd : k (.reg .cmd) = false) (f_r_xpt : k (.reg .xpt) = false) (f_r_eth : k (.reg .eth) = false) (f_r_cel : k (.reg .cel) = false) (f_r_zl : k (.reg .zl) = false) (f_r_red : k (.reg .red) = false) (f_r_flt : k (.reg .flt) = false) (f_r_pmu : k (.reg .pmu) = false) (k3 : Keeps k s0 a3) :
    KeepsOut k s0 (execLayerFlip a1 a2 a3) := by
  unfold execLayerFlip
  exact (KeepsOut.next (present_keeps f_cmd f_flt f_xpt f_red f_zl f_eng f_cel f_lease f_pmu f_out f_free f_r_cmd f_r_xpt f_r_eth f_r_cel f_r_zl f_r_red f_r_flt f_r_pmu (fun _ _ _ _ h1 => (flipGo_keeps f_cmd f_flt f_xpt f_red f_zl f_eng f_cel f_lease f_pmu f_out f_free f_r_cmd f_r_xpt f_r_eth f_r_cel f_r_zl f_r_red f_r_flt f_r_pmu h1)) k3))

theorem engineGo_keeps {k s0 a1 a2 a3 a4 a5 a6 a7} (f_cmd : k .cmd = false) (f_flt : k .flt = false) (f_xpt : k .xpt = false) (f_red : k .red = false) (f_zl : k .zl = false) (f_eng : k .eng = false) (f_cel : k .cel = false) (f_lease : k .lease = false) (f_pmu : k .pmu = false) (f_out : k .out = false) (f_free : k .free = false) (f_r_cmd : k (.reg .cmd) = false) (f_r_xpt : k (.reg .xpt) = false) (f_r_eth : k (.reg .eth) = false) (f_r_eng : k (.reg .eng) = false) (f_r_cel : k (.reg .cel) = false) (f_r_zl : k (.reg .zl) = false) (f_r_red : k (.reg .red) = false) (f_r_flt : k (.reg .flt) = false) (f_r_pmu : k (.reg .pmu) = false) (k7 : Keeps k s0 a7) :
    Keeps k s0 (engineGo a1 a2 a3 a4 a5 a6 a7) := by
  unfold engineGo
  exact (forward_keeps f_red f_pmu f_out f_r_red f_r_pmu (stageEngine_keeps f_cmd f_flt f_xpt f_red f_zl f_eng f_cel f_lease f_pmu f_out f_free f_r_cmd f_r_xpt f_r_eth f_r_eng f_r_cel f_r_zl f_r_red f_r_flt f_r_pmu k7))

theorem execEcbReadComplete_keeps {k s0 a1 a2 a3 a4} (f_cmd : k .cmd = false) (f_flt : k .flt = false) (f_xpt : k .xpt = false) (f_red : k .red = false) (f_zl : k .zl = false) (f_eng : k .eng = false) (f_cel : k .cel = false) (f_lease : k .lease = false) (f_pmu : k .pmu = false) (f_out : k .out = false) (f_free : k .free = false) (f_r_cmd : k (.reg .cmd) = false) (f_r_xpt : k (.reg .xpt) = false) (f_r_eth : k (.reg .eth) = false) (f_r_eng : k (.reg .eng) = false) (f_r_cel : k (.reg .cel) = false) (f_r_zl : k (.reg .zl) = false) (f_r_red : k (.reg .red) = false) (f_r_flt : k (.reg .flt) = false) (f_r_pmu : k (.reg .pmu) = false) (k4 : Keeps k s0 a4) :
    KeepsOut k s0 (execEcbReadComplete a1 a2 a3 a4) := by
  unfold execEcbReadComplete
  exact (KeepsOut.next (by split; exact k4; exact (by lift_lets -underBinder; intro xh1; (try clear_value xh1); intro xh2; (try clear_value xh2); intro xh3; intro xh4; have h5 : Keeps k s0 xh4 := (by unfold xh4; exact (dropRead_keeps f_cmd k4)); clear_value xh4; exact (keep_ite (Keeps k s0) (refuse_keeps f_cmd f_flt f_xpt f_red f_zl f_eng f_cel f_lease f_pmu f_out f_free f_r_cmd f_r_xpt f_r_eth f_r_cel f_r_zl f_r_red f_r_flt f_r_pmu h5) (by split; exact (refuse_keeps f_cmd f_flt f_xpt f_red f_zl f_eng f_cel f_lease f_pmu f_out f_free f_r_cmd f_r_xpt f_r_eth f_r_cel f_r_zl f_r_red f_r_flt f_r_pmu (keep_ite (Keeps k s0) (State.count_keeps f_pmu f_r_pmu h5) h5)); exact (by split; (rename_i vh6 vh7 he; have h8 := KeepsP.of_eq he (accept_keeps f_cmd f_pmu f_r_pmu h5); exact (engineGo_keeps f_cmd f_flt f_xpt f_red f_zl f_eng f_cel f_lease f_pmu f_out f_free f_r_cmd f_r_xpt f_r_eth f_r_eng f_r_cel f_r_zl f_r_red f_r_flt f_r_pmu h8))))))))

theorem execFenceSetExecute_keeps {k s0 a1} (f_cmd : k .cmd = false) (f_flt : k .flt = false) (f_xpt : k .xpt = false) (f_red : k .red = false) (f_zl : k .zl = false) (f_eng : k .eng = false) (f_cel : k .cel = false) (f_lease : k .lease = false) (f_pmu : k .pmu = false) (f_out : k .out = false) (f_free : k .free = false) (f_r_cmd : k (.reg .cmd) = false) (f_r_xpt : k (.reg .xpt) = false) (f_r_eth : k (.reg .eth) = false) (f_r_eng : k (.reg .eng) = false) (f_r_cel : k (.reg .cel) = false) (f_r_zl : k (.reg .zl) = false) (f_r_red : k (.reg .red) = false) (f_r_flt : k (.reg .flt) = false) (f_r_pmu : k (.reg .pmu) = false) (k1 : Keeps k s0 a1) :
    KeepsOut k s0 (execFenceSetExecute a1) := by
  unfold execFenceSetExecute
  exact (KeepsOut.next (by split; exact k1; exact (by lift_lets -underBinder; intro xh1; intro xh2; have h3 : Keeps k s0 xh2 := (by unfold xh2; exact (setFence_keeps f_r_eng (k1.set_cmd f_cmd ))); clear_value xh2; exact (finish_keeps f_cmd f_flt f_xpt f_red f_zl f_eng f_cel f_lease f_pmu f_out f_free f_r_cmd f_r_xpt f_r_eth f_r_cel f_r_zl f_r_red f_r_flt f_r_pmu (State.count_keeps f_pmu f_r_pmu h3)))))

theorem execEngBLateClr_keeps {k s0 a1 a2 a3} (f_pmu : k .pmu = false) (f_r_hif : k (.reg .hif) = false) (f_r_eng : k (.reg .eng) = false) (f_r_pmu : k (.reg .pmu) = false) (f_r_noc : k (.reg .noc) = false) (k3 : Keeps k s0 a3) :
    KeepsOut k s0 (execEngBLateClr a1 a2 a3) := by
  unfold execEngBLateClr
  exact (KeepsOut.next (gate_keeps f_pmu f_r_hif f_r_pmu f_r_noc (fun _ h1 => (writeEngStat_keeps f_r_eng h1)) k3))

theorem execFlipStatClr_keeps {k s0 a1 a2 a3} (f_pmu : k .pmu = false) (f_r_hif : k (.reg .hif) = false) (f_r_eng : k (.reg .eng) = false) (f_r_pmu : k (.reg .pmu) = false) (f_r_noc : k (.reg .noc) = false) (k3 : Keeps k s0 a3) :
    KeepsOut k s0 (execFlipStatClr a1 a2 a3) := by
  unfold execFlipStatClr
  exact (KeepsOut.next (gate_keeps f_pmu f_r_hif f_r_pmu f_r_noc (fun _ h1 => (writeFlipStat_keeps f_r_eng h1)) k3))

theorem execSigRegionJudge_keeps {k s0 a1 a2 a3} (f_cmd : k .cmd = false) (f_flt : k .flt = false) (f_xpt : k .xpt = false) (f_red : k .red = false) (f_zl : k .zl = false) (f_eng : k .eng = false) (f_cel : k .cel = false) (f_lease : k .lease = false) (f_mem : k .mem = false) (f_pmu : k .pmu = false) (f_out : k .out = false) (f_free : k .free = false) (f_r_cmd : k (.reg .cmd) = false) (f_r_xpt : k (.reg .xpt) = false) (f_r_eth : k (.reg .eth) = false) (f_r_eng : k (.reg .eng) = false) (f_r_cel : k (.reg .cel) = false) (f_r_zl : k (.reg .zl) = false) (f_r_red : k (.reg .red) = false) (f_r_flt : k (.reg .flt) = false) (f_r_pmu : k (.reg .pmu) = false) (k3 : Keeps k s0 a3) :
    KeepsOut k s0 (execSigRegionJudge a1 a2 a3) := by
  unfold execSigRegionJudge
  exact (by lift_lets -underBinder; intro xh1; (try clear_value xh1); intro xh2; (try clear_value xh2); exact (KeepsOut.next (keep_ite (Keeps k s0) (judgeRegion_keeps f_cmd f_flt f_xpt f_red f_zl f_eng f_cel f_lease f_pmu f_out f_free f_r_cmd f_r_xpt f_r_eth f_r_eng f_r_cel f_r_zl f_r_red f_r_flt f_r_pmu (engFlushAll_keeps f_cmd f_flt f_xpt f_red f_zl f_eng f_cel f_lease f_mem f_pmu f_out f_free f_r_cmd f_r_xpt f_r_eth f_r_eng f_r_cel f_r_zl f_r_red f_r_flt f_r_pmu k3)) k3)))

theorem execHostReadTimeout_keeps {k s0 a1 a2 a3} (f_cmd : k .cmd = false) (f_flt : k .flt = false) (f_xpt : k .xpt = false) (f_red : k .red = false) (f_zl : k .zl = false) (f_eng : k .eng = false) (f_cel : k .cel = false) (f_lease : k .lease = false) (f_pmu : k .pmu = false) (f_out : k .out = false) (f_free : k .free = false) (f_r_cmd : k (.reg .cmd) = false) (f_r_xpt : k (.reg .xpt) = false) (f_r_eth : k (.reg .eth) = false) (f_r_cel : k (.reg .cel) = false) (f_r_zl : k (.reg .zl) = false) (f_r_red : k (.reg .red) = false) (f_r_flt : k (.reg .flt) = false) (f_r_pmu : k (.reg .pmu) = false) (k3 : Keeps k s0 a3) :
    KeepsOut k s0 (execHostReadTimeout a1 a2 a3) := by
  unfold execHostReadTimeout
  exact (KeepsOut.next (hostReadFails_keeps f_cmd f_flt f_xpt f_red f_zl f_eng f_cel f_lease f_pmu f_out f_free f_r_cmd f_r_xpt f_r_eth f_r_cel f_r_zl f_r_red f_r_flt f_r_pmu k3))

theorem execWbFrameComplete_keeps {k s0 a1 a2 a3} (f_cmd : k .cmd = false) (f_flt : k .flt = false) (f_xpt : k .xpt = false) (f_red : k .red = false) (f_zl : k .zl = false) (f_eng : k .eng = false) (f_cel : k .cel = false) (f_lease : k .lease = false) (f_mem : k .mem = false) (f_pmu : k .pmu = false) (f_out : k .out = false) (f_free : k .free = false) (f_r_cmd : k (.reg .cmd) = false) (f_r_xpt : k (.reg .xpt) = false) (f_r_eth : k (.reg .eth) = false) (f_r_eng : k (.reg .eng) = false) (f_r_cel : k (.reg .cel) = false) (f_r_zl : k (.reg .zl) = false) (f_r_red : k (.reg .red) = false) (f_r_flt : k (.reg .flt) = false) (f_r_pmu : k (.reg .pmu) = false) (k3 : Keeps k s0 a3) :
    KeepsOut k s0 (execWbFrameComplete a1 a2 a3) := by
  unfold execWbFrameComplete
  exact (KeepsOut.next (by split; exact k3; exact (by lift_lets -underBinder; intro xh1; (try clear_value xh1); intro xh2; have h3 : Keeps k s0 xh2 := (by unfold xh2; exact (engFlushAll_keeps f_cmd f_flt f_xpt f_red f_zl f_eng f_cel f_lease f_mem f_pmu f_out f_free f_r_cmd f_r_xpt f_r_eth f_r_eng f_r_cel f_r_zl f_r_red f_r_flt f_r_pmu k3)); clear_value xh2; intro xh4; have h5 : Keeps k s0 xh4 := (by unfold xh4; exact (State.wr_keeps (.of f_r_eng) (State.p_keeps (.of f_r_eng) (State.p_keeps (.of f_r_eng) h3)))); clear_value xh4; intro xh6; exact (keep_ite (Keeps k s0) (State.count_keeps f_pmu f_r_pmu (h5.set_eng f_eng rfl)) (wbSkip_keeps f_cmd f_flt f_xpt f_red f_zl f_eng f_cel f_lease f_pmu f_out f_free f_r_cmd f_r_xpt f_r_eth f_r_eng f_r_cel f_r_zl f_r_red f_r_flt f_r_pmu k3)))))

theorem fenceReturn_keeps {k s0 a1 a2 a3 a4} (f_cmd : k .cmd = false) (f_flt : k .flt = false) (f_xpt : k .xpt = false) (f_red : k .red = false) (f_zl : k .zl = false) (f_eng : k .eng = false) (f_cel : k .cel = false) (f_lease : k .lease = false) (f_pmu : k .pmu = false) (f_out : k .out = false) (f_free : k .free = false) (f_r_cmd : k (.reg .cmd) = false) (f_r_xpt : k (.reg .xpt) = false) (f_r_eth : k (.reg .eth) = false) (f_r_eng : k (.reg .eng) = false) (f_r_cel : k (.reg .cel) = false) (f_r_zl : k (.reg .zl) = false) (f_r_red : k (.reg .red) = false) (f_r_flt : k (.reg .flt) = false) (f_r_pmu : k (.reg .pmu) = false) (k4 : Keeps k s0 a4) :
    Keeps k s0 (fenceReturn a1 a2 a3 a4) := by
  unfold fenceReturn
  exact (by lift_lets -underBinder; intro xh1; intro xh2; (try clear_value xh2); intro xh3; subst xh3; exact (by split; (rename_i vh8 vh9 he; have h10 := KeepsP.of_eq he (keep_foldl (KeepsP k s0) (fun _ _ h4 => (keep_ite (KeepsP k s0) (by split; (rename_i vh5 vh6 he; have h7 := KeepsP.of_eq he (judgeGroup_keeps f_cmd f_flt f_xpt f_red f_zl f_eng f_cel f_lease f_pmu f_out f_free f_r_cmd f_r_xpt f_r_eth f_r_eng f_r_cel f_r_zl f_r_red f_r_flt f_r_pmu h4); exact h7)) h4)) k4); exact (setGroups_keeps f_eng h10))))

theorem execFenceReadComplete_keeps {k s0 a1 a2 a3 a4} (f_cmd : k .cmd = false) (f_flt : k .flt = false) (f_xpt : k .xpt = false) (f_red : k .red = false) (f_zl : k .zl = false) (f_eng : k .eng = false) (f_cel : k .cel = false) (f_lease : k .lease = false) (f_pmu : k .pmu = false) (f_out : k .out = false) (f_free : k .free = false) (f_r_cmd : k (.reg .cmd) = false) (f_r_xpt : k (.reg .xpt) = false) (f_r_eth : k (.reg .eth) = false) (f_r_eng : k (.reg .eng) = false) (f_r_cel : k (.reg .cel) = false) (f_r_zl : k (.reg .zl) = false) (f_r_red : k (.reg .red) = false) (f_r_flt : k (.reg .flt) = false) (f_r_pmu : k (.reg .pmu) = false) (k4 : Keeps k s0 a4) :
    KeepsOut k s0 (execFenceReadComplete a1 a2 a3 a4) := by
  unfold execFenceReadComplete
  exact (by lift_lets -underBinder; intro xh1; (try clear_value xh1); intro xh2; (try clear_value xh2); intro xh3; (try clear_value xh3); intro xh4; (try clear_value xh4); intro xh5; intro xh6; intro xh7; have h8 : Keeps k s0 xh7 := (by unfold xh7; exact (k4.set_many (by intro p hp; cases p <;> first | exact rfl | exact id | exact fun _ _ => rfl | simp [f_eng, f_cel] at hp))); clear_value xh7; exact (KeepsOut.next (keep_ite (Keeps k s0) k4 (keep_ite (Keeps k s0) (srWake_keeps f_cel f_r_cel k4) (by split; (rename_i vh13 vh14 he; have h15 := KeepsP.of_eq he (keep_ite (KeepsP k s0) (by split; (rename_i vh9 vh10 vh11 he; have h12 := KeepsT.of_eq he (celRead_keeps f_cmd f_flt f_xpt f_red f_zl f_eng f_cel f_lease f_pmu f_out f_free f_r_cmd f_r_xpt f_r_eth f_r_cel f_r_zl f_r_red f_r_flt f_r_pmu h8); exact (keep_ite (Keeps k s0) h8 h12))) h8); exact (by lift_lets -underBinder; intro xh16; subst xh16; exact (by split; exact (keep_ite (Keeps k s0) (setSeen_keeps f_r_eng h15) (fenceReturn_keeps f_cmd f_flt f_xpt f_red f_zl f_eng f_cel f_lease f_pmu f_out f_free f_r_cmd f_r_xpt f_r_eth f_r_eng f_r_cel f_r_zl f_r_red f_r_flt f_r_pmu (setSeen_keeps f_r_eng h15))); exact (keep_ite (Keeps k s0) (State.count_keeps f_pmu f_r_pmu h15) (fenceReturn_keeps f_cmd f_flt f_xpt f_red f_zl f_eng f_cel f_lease f_pmu f_out f_free f_r_cmd f_r_xpt f_r_eth f_r_eng f_r_cel f_r_zl f_r_red f_r_flt f_r_pmu (State.count_keeps f_pmu f_r_pmu h15)))))))))))

theorem answer_keeps {k s0 a1 a2 a3 a4} (f_out : k .out = false) (k4 : Keeps k s0 a4) :
    Keeps k s0 (answer a1 a2 a3 a4) := by
  unfold answer
  exact (State.emit_keeps f_out k4)

theorem readHeld_keeps {k s0 a1 a2 a3 a4 a5} (f_pmu : k .pmu = false) (f_out : k .out = false) (f_r_pmu : k (.reg .pmu) = false) (f_r_noc : k (.reg .noc) = false) (k4 : ∀ x0, Keeps k s0 x0 → Keeps k s0 (a4 x0)) (k5 : Keeps k s0 a5) :
    Keeps k s0 (readHeld a1 a2 a3 a4 a5) := by
  unfold readHeld
  exact (by lift_lets -underBinder; intro xh1; have h2 : Keeps k s0 xh1 := (by unfold xh1; exact (wakeBus_keeps f_pmu f_r_pmu f_r_noc k5)); clear_value xh1; exact (keep_ite (Keeps k s0) (answer_keeps f_out h2) (k4 _ h2)))

theorem hold_keeps {k s0 a1 a2 a3 a4} (f_held : k .held = false) (k4 : Keeps k s0 a4) :
    Keeps k s0 (hold a1 a2 a3 a4) := by
  unfold hold
  exact (k4.set_held f_held)

theorem unhold_keeps {k s0 a1 a2 a3} (f_held : k .held = false) (k3 : Keeps k s0 a3) :
    Keeps k s0 (unhold a1 a2 a3) := by
  unfold unhold
  exact (k3.set_held f_held)

theorem latch_keeps {k s0 a1 a2 a3 a4 a5} (f_latches : k .latches = false) (k5 : Keeps k s0 a5) :
    Keeps k s0 (latch a1 a2 a3 a4 a5) := by
  unfold latch
  exact (by lift_lets -underBinder; intro xh1; (try clear_value xh1); exact (k5.set_latches f_latches))

theorem deError_keeps {k s0 a1 a2 a3 a4} (f_cmd : k .cmd = false) (f_flt : k .flt = false) (f_xpt : k .xpt = false) (f_red : k .red = false) (f_zl : k .zl = false) (f_eng : k .eng = false) (f_cel : k .cel = false) (f_lease : k .lease = false) (f_pmu : k .pmu = false) (f_out : k .out = false) (f_free : k .free = false) (f_r_cmd : k (.reg .cmd) = false) (f_r_xpt : k (.reg .xpt) = false) (f_r_eth : k (.reg .eth) = false) (f_r_cel : k (.reg .cel) = false) (f_r_zl : k (.reg .zl) = false) (f_r_red : k (.reg .red) = false) (f_r_flt : k (.reg .flt) = false) (f_r_pmu : k (.reg .pmu) = false) (g1 : RegFree k a1.reg) (k4 : Keeps k s0 a4) :
    Keeps k s0 (deError a1 a2 a3 a4) := by
  unfold deError
  exact (occur_keeps f_cmd f_flt f_xpt f_red f_zl f_eng f_cel f_lease f_pmu f_out f_free f_r_cmd f_r_xpt f_r_eth f_r_cel f_r_zl f_r_red f_r_flt f_r_pmu (State.count_keeps f_pmu f_r_pmu (State.p_keeps g1 k4)))

theorem State.setDeg_keeps {k s0 a1 a2 a3 a4} (f_aud : k .aud = false) (k1 : Keeps k s0 a1) :
    Keeps k s0 (State.setDeg a1 a2 a3 a4) := by
  unfold State.setDeg
  exact (by lift_lets -underBinder; intro xh1; exact (k1.set_aud f_aud))

theorem deSlip_keeps {k s0 a1 a2} (f_cmd : k .cmd = false) (f_flt : k .flt = false) (f_xpt : k .xpt = false) (f_red : k .red = false) (f_zl : k .zl = false) (f_eng : k .eng = false) (f_cel : k .cel = false) (f_lease : k .lease = false) (f_pmu : k .pmu = false) (f_out : k .out = false) (f_free : k .free = false) (f_r_cmd : k (.reg .cmd) = false) (f_r_xpt : k (.reg .xpt) = false) (f_r_eth : k (.reg .eth) = false) (f_r_aud : k (.reg .aud) = false) (f_r_cel : k (.reg .cel) = false) (f_r_zl : k (.reg .zl) = false) (f_r_red : k (.reg .red) = false) (f_r_flt : k (.reg .flt) = false) (f_r_pmu : k (.reg .pmu) = false) (k2 : Keeps k s0 a2) :
    Keeps k s0 (deSlip a1 a2) := by
  unfold deSlip
  exact (occur_keeps f_cmd f_flt f_xpt f_red f_zl f_eng f_cel f_lease f_pmu f_out f_free f_r_cmd f_r_xpt f_r_eth f_r_cel f_r_zl f_r_red f_r_flt f_r_pmu (State.count_keeps f_pmu f_r_pmu (State.bump_keeps (.of f_r_aud) k2)))

theorem dePush_keeps {k s0 a1 a2 a3 a4} (f_cmd : k .cmd = false) (f_flt : k .flt = false) (f_xpt : k .xpt = false) (f_red : k .red = false) (f_aud : k .aud = false) (f_zl : k .zl = false) (f_eng : k .eng = false) (f_cel : k .cel = false) (f_lease : k .lease = false) (f_pmu : k .pmu = false) (f_out : k .out = false) (f_free : k .free = false) (f_r_cmd : k (.reg .cmd) = false) (f_r_xpt : k (.reg .xpt) = false) (f_r_eth : k (.reg .eth) = false) (f_r_aud : k (.reg .aud) = false) (f_r_cel : k (.reg .cel) = false) (f_r_zl : k (.reg .zl) = false) (f_r_red : k (.reg .red) = false) (f_r_flt : k (.reg .flt) = false) (f_r_pmu : k (.reg .pmu) = false) (k4 : Keeps k s0 a4) :
    Keeps k s0 (dePush a1 a2 a3 a4) := by
  unfold dePush
  exact (by lift_lets -underBinder; intro xh1; (try clear_value xh1); exact (keep_ite (Keeps k s0) k4 (keep_ite (Keeps k s0) (deSlip_keeps f_cmd f_flt f_xpt f_red f_zl f_eng f_cel f_lease f_pmu f_out f_free f_r_cmd f_r_xpt f_r_eth f_r_aud f_r_cel f_r_zl f_r_red f_r_flt f_r_pmu (State.setDeg_keeps f_aud k4)) (State.setDeg_keeps f_aud k4))))

theorem deRunning_keeps {k s0 a1 a2} (f_r_aud : k (.reg .aud) = false) (k2 : Keeps k s0 a2) :
    Keeps k s0 (deRunning a1 a2) := by
  unfold deRunning
  exact (State.p_keeps (.of f_r_aud) k2)

theorem dePacket_keeps {k s0 a1 a2 a3} (f_cmd : k .cmd = false) (f_flt : k .flt = false) (f_xpt : k .xpt = false) (f_red : k .red = false) (f_aud : k .aud = false) (f_zl : k .zl = false) (f_eng : k .eng = false) (f_cel : k .cel = false) (f_lease : k .lease = false) (f_pmu : k .pmu = false) (f_out : k .out = false) (f_free : k .free = false) (f_r_cmd : k (.reg .cmd) = false) (f_r_xpt : k (.reg .xpt) = false) (f_r_eth : k (.reg .eth) = false) (f_r_aud : k (.reg .aud) = false) (f_r_cel : k (.reg .cel) = false) (f_r_zl : k (.reg .zl) = false) (f_r_red : k (.reg .red) = false) (f_r_flt : k (.reg .flt) = false) (f_r_pmu : k (.reg .pmu) = false) (k3 : Keeps k s0 a3) :
    Keeps k s0 (dePacket a1 a2 a3) := by
  unfold dePacket
  exact (by lift_lets -underBinder; intro xh1; (try clear_value xh1); exact (by split; exact (keep_ite (Keeps k s0) k3 (keep_ite (Keeps k s0) (deError_keeps f_cmd f_flt f_xpt f_red f_zl f_eng f_cel f_lease f_pmu f_out f_free f_r_cmd f_r_xpt f_r_eth f_r_cel f_r_zl f_r_red f_r_flt f_r_pmu (.of f_r_aud) k3) (by split; exact (deError_keeps f_cmd f_flt f_xpt f_red f_zl f_eng f_cel f_lease f_pmu f_out f_free f_r_cmd f_r_xpt f_r_eth f_r_cel f_r_zl f_r_red f_r_flt f_r_pmu (.of f_r_aud) k3); exact (by lift_lets -underBinder; intro xh2; intro xh3; have h5 : Keeps k s0 xh3 := (by unfold xh3; exact (keep_when (fun _ h4 => (State.count_keeps f_pmu f_r_pmu h4)) (State.setDeg_keeps f_aud k3))); clear_value xh3; intro xh6; (try clear_value xh6); intro xh7; have h10 : Keeps k s0 xh7 := (by unfold xh7; exact (keep_when (fun _ h8 => (by lift_lets -underBinder; intro xh9; exact (h8.set_aud f_aud))) h5)); clear_value xh7; exact (dePush_keeps f_cmd f_flt f_xpt f_red f_aud f_zl f_eng f_cel f_lease f_pmu f_out f_free f_r_cmd f_r_xpt f_r_eth f_r_aud f_r_cel f_r_zl f_r_red f_r_flt f_r_pmu h10))))); exact (by lift_lets -underBinder; intro xh11; (try clear_value xh11); intro xh12; (try clear_value xh12); exact (keep_ite (Keeps k s0) k3 (keep_ite (Keeps k s0) (deRunning_keeps f_r_aud (deError_keeps f_cmd f_flt f_xpt f_red f_zl f_eng f_cel f_lease f_pmu f_out f_free f_r_cmd f_r_xpt f_r_eth f_r_cel f_r_zl f_r_red f_r_flt f_r_pmu (.of f_r_aud) (State.setDeg_keeps f_aud k3))) (State.setDeg_keeps f_aud k3)))); exact k3))

theorem deRecord_keeps {k s0 a1 a2 a3} (f_cmd : k .cmd = false) (f_flt : k .flt = false) (f_xpt : k .xpt = false) (f_red : k .red = false) (f_aud : k .aud = false) (f_zl : k .zl = false) (f_eng : k .eng = false) (f_cel : k .cel = false) (f_lease : k .lease = false) (f_pmu : k .pmu = false) (f_out : k .out = false) (f_free : k .free = false) (f_r_cmd : k (.reg .cmd) = false) (f_r_xpt : k (.reg .xpt) = false) (f_r_eth : k (.reg .eth) = false) (f_r_aud : k (.reg .aud) = false) (f_r_cel : k (.reg .cel) = false) (f_r_zl : k (.reg .zl) = false) (f_r_red : k (.reg .red) = false) (f_r_flt : k (.reg .flt) = false) (f_r_pmu : k (.reg .pmu) = false) (k3 : Keeps k s0 a3) :
    Keeps k s0 (deRecord a1 a2 a3) := by
  unfold deRecord
  exact (by lift_lets -underBinder; intro xh1; have h2 : Keeps k s0 xh1 := (by unfold xh1; exact (State.p_keeps (.of f_r_aud) k3)); intro xh3; intro xh4; have h5 : Keeps k s0 xh4 := (by unfold xh4; exact (keep_ite (Keeps k s0) (h2.set_aud f_aud) k3)); clear_value xh4; exact (keep_ite (Keeps k s0) k3 (keep_each (fun _ _ h6 => (dePacket_keeps f_cmd f_flt f_xpt f_red f_aud f_zl f_eng f_cel f_lease f_pmu f_out f_free f_r_cmd f_r_xpt f_r_eth f_r_aud f_r_cel f_r_zl f_r_red f_r_flt f_r_pmu h6)) h5)))

theorem State.setTdm_keeps {k s0 a1 a2 a3} (f_aud : k .aud = false) (k1 : Keeps k s0 a1) :
    Keeps k s0 (State.setTdm a1 a2 a3) := by
  unfold State.setTdm
  exact (by lift_lets -underBinder; intro xh1; exact (k1.set_aud f_aud))

theorem tdmSend_keeps {k s0 a1 a2 a3 a4} (f_aud : k .aud = false) (f_out : k .out = false) (k4 : Keeps k s0 a4) :
    Keeps k s0 (tdmSend a1 a2 a3 a4) := by
  unfold tdmSend
  exact (by lift_lets -underBinder; intro xh1; (try clear_value xh1); intro xh2; (try clear_value xh2); intro xh3; (try clear_value xh3); intro xh4; (try clear_value xh4); intro xh5; have h6 : Keeps k s0 xh5 := (by unfold xh5; exact (State.setTdm_keeps f_aud k4)); clear_value xh5; exact (keep_when (fun _ h7 => (State.emit_keeps f_out h7)) h6))

theorem deRelease_keeps {k s0 a1 a2 a3} (f_cmd : k .cmd = false) (f_flt : k .flt = false) (f_xpt : k .xpt = false) (f_red : k .red = false) (f_aud : k .aud = false) (f_zl : k .zl = false) (f_eng : k .eng = false) (f_cel : k .cel = false) (f_lease : k .lease = false) (f_pmu : k .pmu = false) (f_out : k .out = false) (f_free : k .free = false) (f_r_cmd : k (.reg .cmd) = false) (f_r_xpt : k (.reg .xpt) = false) (f_r_eth : k (.reg .eth) = false) (f_r_aud : k (.reg .aud) = false) (f_r_cel : k (.reg .cel) = false) (f_r_zl : k (.reg .zl) = false) (f_r_red : k (.reg .red) = false) (f_r_flt : k (.reg .flt) = false) (f_r_pmu : k (.reg .pmu) = false) (k3 : Keeps k s0 a3) :
    KeepsP k s0 (deRelease a1 a2 a3) := by
  unfold deRelease
  exact (by lift_lets -underBinder; intro xh1; (try clear_value xh1); intro xh2; have h3 : Keeps k s0 xh2 := (by unfold xh2; exact (keep_ite (Keeps k s0) k3 (deRunning_keeps f_r_aud (State.count_keeps f_pmu f_r_pmu (State.setDeg_keeps f_aud k3))))); clear_value xh2; exact (keep_ite (KeepsP k s0) k3 (by split; exact (State.setDeg_keeps f_aud h3); exact (keep_ite (Keeps k s0) h3 (deSlip_keeps f_cmd f_flt f_xpt f_red f_zl f_eng f_cel f_lease f_pmu f_out f_free f_r_cmd f_r_xpt f_r_eth f_r_aud f_r_cel f_r_zl f_r_red f_r_flt f_r_pmu (State.setDeg_keeps f_aud h3))))))

theorem rePacket_keeps {k s0 a1 a2 a3} (f_free : k .free = false) (k3 : Keeps k s0 a3) :
    KeepsP k s0 (rePacket a1 a2 a3) := by
  unfold rePacket
  exact (by split; (rename_i vh1 vh2 he; have h3 := KeepsP.of_eq he (State.freeNat_keeps f_free k3); exact (by lift_lets -underBinder; intro xh4; intro xh5; (try clear_value xh5); intro xh6; (try clear_value xh6); intro xh7; (try clear_value xh7); intro xh8; (try clear_value xh8); intro xh9; (try clear_value xh9); intro xh10; (try clear_value xh10); exact (keep_ite (KeepsP k s0) h3 h3))))

theorem rePlace_keeps {k s0 a1 a2 a3 a4}  (f_free : k .free = false) (k4 : Keeps k s0 a4) : KeepsT k s0 (rePlace a1 a2 a3 a4) := by
  induction a3 generalizing a2 a4 with
  | nil => exact k4
  | cons x l ih =>
    unfold rePlace
    exact keep_ite (KeepsT k s0) (ih (rePacket_keeps f_free k4)) (ih k4)

theorem reembed_keeps {k s0 a1 a2 a3 a4} (f_cmd : k .cmd = false) (f_flt : k .flt = false) (f_xpt : k .xpt = false) (f_red : k .red = false) (f_aud : k .aud = false) (f_zl : k .zl = false) (f_eng : k .eng = false) (f_cel : k .cel = false) (f_lease : k .lease = false) (f_pmu : k .pmu = false) (f_out : k .out = false) (f_free : k .free = false) (f_r_cmd : k (.reg .cmd) = false) (f_r_xpt : k (.reg .xpt) = false) (f_r_eth : k (.reg .eth) = false) (f_r_aud : k (.reg .aud) = false) (f_r_cel : k (.reg .cel) = false) (f_r_zl : k (.reg .zl) = false) (f_r_red : k (.reg .red) = false) (f_r_flt : k (.reg .flt) = false) (f_r_pmu : k (.reg .pmu) = false) (k4 : Keeps k s0 a4) :
    KeepsP k s0 (reembed a1 a2 a3 a4) := by
  unfold reembed
  exact (by lift_lets -underBinder; intro xh1; (try clear_value xh1); intro xh2; (try clear_value xh2); intro xh3; (try clear_value xh3); intro xh4; (try clear_value xh4); intro xh5; intro xh6; (try clear_value xh6); intro xh7; (try clear_value xh7); intro xh8; (try clear_value xh8); intro xh9; (try clear_value xh9); intro xh10; (try clear_value xh10); exact (keep_ite (KeepsP k s0) k4 (by split; (rename_i vh11 vh12 vh13 he; have h14 := KeepsT.of_eq he (rePlace_keeps f_free k4); exact (by lift_lets -underBinder; intro xh15; (try clear_value xh15); intro xh16; (try clear_value xh16); intro xh17; intro xh18; have h19 : Keeps k s0 xh18 := (by unfold xh18; exact (h14.set_aud f_aud)); clear_value xh18; intro xh20; have h22 : Keeps k s0 xh20 := (by unfold xh20; exact (keep_when (fun _ h21 => (State.count_keeps f_pmu f_r_pmu h21)) h19)); clear_value xh20; intro xh23; have h25 : Keeps k s0 xh23 := (by unfold xh23; exact (keep_each (fun _ _ h24 => (occur_keeps f_cmd f_flt f_xpt f_red f_zl f_eng f_cel f_lease f_pmu f_out f_free f_r_cmd f_r_xpt f_r_eth f_r_cel f_r_zl f_r_red f_r_flt f_r_pmu (State.count_keeps f_pmu f_r_pmu (State.bump_keeps (.of f_r_aud) h24)))) h22)); clear_value xh23; intro xh26; (try clear_value xh26); exact h25)))))

theorem deStop_keeps {k s0 a1 a2 a3} (f_aud : k .aud = false) (f_pmu : k .pmu = false) (f_r_aud : k (.reg .aud) = false) (f_r_pmu : k (.reg .pmu) = false) (k3 : Keeps k s0 a3) :
    Keeps k s0 (deStop a1 a2 a3) := by
  unfold deStop
  exact (by lift_lets -underBinder; intro xh1; (try clear_value xh1); intro xh2; (try clear_value xh2); intro xh3; have h5 : Keeps k s0 xh3 := (by unfold xh3; exact (keep_when (fun _ h4 => (State.p_keeps (.of f_r_aud) h4)) k3)); clear_value xh3; intro xh6; intro xh7; have h8 : Keeps k s0 xh7 := (by unfold xh7; exact (deRunning_keeps f_r_aud (State.setDeg_keeps f_aud (h5.set_aud f_aud)))); clear_value xh7; exact (keep_when (fun _ h9 => (State.count_keeps f_pmu f_r_pmu h9)) h8))

theorem flowInstant_keeps {k s0 a1 a2} (f_flw : k .flw = false) (f_pmu : k .pmu = false) (f_r_flw : k (.reg .flw) = false) (f_r_pmu : k (.reg .pmu) = false) (k2 : KeepsP k s0 a2) :
    KeepsP k s0 (flowInstant a1 a2) := by
  unfold flowInstant
  exact (by lift_lets -underBinder; intro xh1; (try clear_value xh1); exact (keep_foldl (KeepsP k s0) (fun _ _ h2 => (by lift_lets -underBinder; intro xh3; (try clear_value xh3); intro xh4; (try clear_value xh4); intro xh5; have h6 : Keeps k s0 xh5 := (by unfold xh5; exact h2); clear_value xh5; intro xh7; (try clear_value xh7); intro xh8; (try clear_value xh8); intro xh9; (try clear_value xh9); intro xh10; (try clear_value xh10); intro xh11; (try clear_value xh11); intro xh12; have h13 : Keeps k s0 xh12 := (by unfold xh12; exact (State.setRx_keeps f_flw h6)); clear_value xh12; exact (keep_ite (KeepsP k s0) h2 (by split; exact h13; exact (by lift_lets -underBinder; intro xh14; intro xh15; have h16 : Keeps k s0 xh15 := (by unfold xh15; exact (keep_ite (Keeps k s0) h13 (flowCount_keeps f_pmu f_r_pmu (.of f_r_flw) (State.setRx_keeps f_flw h13)))); clear_value xh15; exact h16))))) k2))

theorem audioTx_keeps {k s0 a1 a2} (f_flw : k .flw = false) (k2 : Keeps k s0 a2) :
    Keeps k s0 (audioTx a1 a2) := by
  unfold audioTx
  exact (by lift_lets -underBinder; intro xh1; (try clear_value xh1); intro xh2; have h15 : Keeps k s0 xh2 := (by unfold xh2; exact (keep_each (fun _ _ h3 => (by lift_lets -underBinder; intro xh4; (try clear_value xh4); intro xh5; (try clear_value xh5); intro xh6; (try clear_value xh6); intro xh7; (try clear_value xh7); intro xh8; (try clear_value xh8); intro xh9; (try clear_value xh9); intro xh10; (try clear_value xh10); intro xh11; subst xh11; intro xh12; have h13 : Keeps k s0 xh12 := (by unfold xh12; exact (upTx_keeps f_flw h3)); clear_value xh12; exact (keep_ite (Keeps k s0) h3 (keep_ite (Keeps k s0) (upTx_keeps f_flw h3) (keep_each (fun _ _ h14 => (keep_ite (Keeps k s0) (upTx_keeps f_flw h14) h14)) h13))))) k2)); clear_value xh2; intro xh16; exact (h15.set_flw f_flw (.inr rfl)))

theorem reInstant_keeps {k s0 a1 a2} (f_aud : k .aud = false) (k2 : Keeps k s0 a2) :
    Keeps k s0 (reInstant a1 a2) := by
  unfold reInstant
  exact (by lift_lets -underBinder; intro xh1; intro xh2; exact (k2.set_aud f_aud))

theorem endFades_keeps {k s0 a1 a2} (f_aud : k .aud = false) (f_r_aud : k (.reg .aud) = false) (k2 : Keeps k s0 a2) :
    Keeps k s0 (endFades a1 a2) := by
  unfold endFades
  exact (by lift_lets -underBinder; intro xh1; (try clear_value xh1); intro xh2; exact (keep_each (fun _ _ h3 => (State.p_keeps (.of f_r_aud) h3)) (k2.set_aud f_aud)))

theorem startChannel_keeps {k s0 a1 a2 a3 a4} (f_aud : k .aud = false) (f_pmu : k .pmu = false) (f_r_aud : k (.reg .aud) = false) (f_r_pmu : k (.reg .pmu) = false) (k4 : Keeps k s0 a4) :
    KeepsP k s0 (startChannel a1 a2 a3 a4) := by
  unfold startChannel
  exact (by lift_lets -underBinder; intro xh1; have h2 : Keeps k s0 xh1 := (by unfold xh1; exact (endFades_keeps f_aud f_r_aud k4)); clear_value xh1; intro xh3; exact (keep_ite (KeepsP k s0) h2 (keep_ite (KeepsP k s0) (State.count_keeps f_pmu f_r_pmu (State.p_keeps (.of f_r_aud) (h2.set_aud f_aud))) (State.count_keeps f_pmu f_r_pmu (State.bump_keeps (.of f_r_aud) h2)))))

theorem commitSamples_keeps {k s0 a1} (f_cmd : k .cmd = false) (f_flt : k .flt = false) (f_xpt : k .xpt = false) (f_red : k .red = false) (f_aud : k .aud = false) (f_zl : k .zl = false) (f_eng : k .eng = false) (f_cel : k .cel = false) (f_lease : k .lease = false) (f_pmu : k .pmu = false) (f_out : k .out = false) (f_free : k .free = false) (f_r_cmd : k (.reg .cmd) = false) (f_r_xpt : k (.reg .xpt) = false) (f_r_eth : k (.reg .eth) = false) (f_r_aud : k (.reg .aud) = false) (f_r_cel : k (.reg .cel) = false) (f_r_zl : k (.reg .zl) = false) (f_r_red : k (.reg .red) = false) (f_r_flt : k (.reg .flt) = false) (f_r_pmu : k (.reg .pmu) = false) (k1 : Keeps k s0 a1) :
    Keeps k s0 (commitSamples a1) := by
  unfold commitSamples
  exact (by lift_lets -underBinder; intro xh1; (try clear_value xh1); intro xh2; (try clear_value xh2); intro xh3; (try clear_value xh3); intro xh4; (try clear_value xh4); intro xh5; subst xh5; intro xh6; exact (by split; (rename_i vh11 vh12 he; have h13 := KeepsP.of_eq he (keep_foldl (KeepsP k s0) (fun _ _ h7 => (by split; (rename_i vh8 vh9 he; have h10 := KeepsP.of_eq he (startChannel_keeps f_aud f_pmu f_r_aud f_r_pmu h7); exact h10))) (k1.set_aud f_aud)); exact (by lift_lets -underBinder; intro xh14; have h20 : Keeps k s0 xh14 := (by unfold xh14; exact (keep_each (fun _ _ h15 => (by lift_lets -underBinder; intro xh16; (try clear_value xh16); intro xh17; (try clear_value xh17); exact (by split; exact (finish_keeps f_cmd f_flt f_xpt f_red f_zl f_eng f_cel f_lease f_pmu f_out f_free f_r_cmd f_r_xpt f_r_eth f_r_cel f_r_zl f_r_red f_r_flt f_r_pmu h15); exact (by lift_lets -underBinder; intro xh18; (try clear_value xh18); intro xh19; exact (finish_keeps f_cmd f_flt f_xpt f_red f_zl f_eng f_cel f_lease f_pmu f_out f_free f_r_cmd f_r_xpt f_r_eth f_r_cel f_r_zl f_r_red f_r_flt f_r_pmu (h15.set_xpt f_xpt)))))) h13)); clear_value xh14; exact (closeSalvos_keeps f_cmd f_flt f_xpt f_red f_zl f_eng f_cel f_lease f_pmu f_out f_free f_r_cmd f_r_xpt f_r_eth f_r_cel f_r_zl f_r_red f_r_flt f_r_pmu h20)))))

theorem poolUsed_keeps {k s0 a1} (f_r_aud : k (.reg .aud) = false) (k1 : Keeps k s0 a1) :
    Keeps k s0 (poolUsed a1) := by
  unfold poolUsed
  exact (by lift_lets -underBinder; intro xh1; (try clear_value xh1); exact (keep_when (fun _ h2 => (State.p_keeps (.of f_r_aud) h2)) (State.p_keeps (.of f_r_aud) k1)))

theorem tdmSlip_keeps {k s0 a1 a2} (f_cmd : k .cmd = false) (f_flt : k .flt = false) (f_xpt : k .xpt = false) (f_red : k .red = false) (f_zl : k .zl = false) (f_eng : k .eng = false) (f_cel : k .cel = false) (f_lease : k .lease = false) (f_pmu : k .pmu = false) (f_out : k .out = false) (f_free : k .free = false) (f_r_cmd : k (.reg .cmd) = false) (f_r_xpt : k (.reg .xpt) = false) (f_r_eth : k (.reg .eth) = false) (f_r_aud : k (.reg .aud) = false) (f_r_cel : k (.reg .cel) = false) (f_r_zl : k (.reg .zl) = false) (f_r_red : k (.reg .red) = false) (f_r_flt : k (.reg .flt) = false) (f_r_pmu : k (.reg .pmu) = false) (k2 : Keeps k s0 a2) :
    Keeps k s0 (tdmSlip a1 a2) := by
  unfold tdmSlip
  exact (occur_keeps f_cmd f_flt f_xpt f_red f_zl f_eng f_cel f_lease f_pmu f_out f_free f_r_cmd f_r_xpt f_r_eth f_r_cel f_r_zl f_r_red f_r_flt f_r_pmu (State.count_keeps f_pmu f_r_pmu (State.bump_keeps (.of f_r_aud) k2)))

theorem tdmInstant_keeps {k s0 a1 a2} (f_cmd : k .cmd = false) (f_flt : k .flt = false) (f_xpt : k .xpt = false) (f_red : k .red = false) (f_aud : k .aud = false) (f_zl : k .zl = false) (f_eng : k .eng = false) (f_cel : k .cel = false) (f_lease : k .lease = false) (f_pmu : k .pmu = false) (f_out : k .out = false) (f_free : k .free = false) (f_r_cmd : k (.reg .cmd) = false) (f_r_xpt : k (.reg .xpt) = false) (f_r_eth : k (.reg .eth) = false) (f_r_aud : k (.reg .aud) = false) (f_r_cel : k (.reg .cel) = false) (f_r_zl : k (.reg .zl) = false) (f_r_red : k (.reg .red) = false) (f_r_flt : k (.reg .flt) = false) (f_r_pmu : k (.reg .pmu) = false) (k2 : KeepsP k s0 a2) :
    KeepsP k s0 (tdmInstant a1 a2) := by
  unfold tdmInstant
  exact (keep_foldl (KeepsP k s0) (fun _ _ h1 => (by lift_lets -underBinder; intro xh2; have h3 : Keeps k s0 xh2 := (by unfold xh2; exact h1); clear_value xh2; intro xh4; (try clear_value xh4); intro xh5; (try clear_value xh5); intro xh6; (try clear_value xh6); intro xh7; (try clear_value xh7); exact (keep_ite (KeepsP k s0) h1 (keep_ite (KeepsP k s0) (State.setTdm_keeps f_aud h3) (by split; exact (by lift_lets -underBinder; intro xh8; (try clear_value xh8); intro xh9; have h11 : Keeps k s0 xh9 := (by unfold xh9; exact (keep_when (fun _ h10 => (tdmSlip_keeps f_cmd f_flt f_xpt f_red f_zl f_eng f_cel f_lease f_pmu f_out f_free f_r_cmd f_r_xpt f_r_eth f_r_aud f_r_cel f_r_zl f_r_red f_r_flt f_r_pmu h10)) h3)); clear_value xh9; intro xh12; (try clear_value xh12); exact (keep_ite (KeepsP k s0) (tdmSlip_keeps f_cmd f_flt f_xpt f_red f_zl f_eng f_cel f_lease f_pmu f_out f_free f_r_cmd f_r_xpt f_r_eth f_r_aud f_r_cel f_r_zl f_r_red f_r_flt f_r_pmu (State.setTdm_keeps f_aud h11)) (State.setTdm_keeps f_aud h11)))))))) k2)

theorem deInstant_keeps {k s0 a1} (f_cmd : k .cmd = false) (f_flt : k .flt = false) (f_xpt : k .xpt = false) (f_red : k .red = false) (f_aud : k .aud = false) (f_zl : k .zl = false) (f_eng : k .eng = false) (f_cel : k .cel = false) (f_lease : k .lease = false) (f_pmu : k .pmu = false) (f_out : k .out = false) (f_free : k .free = false) (f_r_cmd : k (.reg .cmd) = false) (f_r_xpt : k (.reg .xpt) = false) (f_r_eth : k (.reg .eth) = false) (f_r_aud : k (.reg .aud) = false) (f_r_cel : k (.reg .cel) = false) (f_r_zl : k (.reg .zl) = false) (f_r_red : k (.reg .red) = false) (f_r_flt : k (.reg .flt) = false) (f_r_pmu : k (.reg .pmu) = false) (k1 : KeepsP k s0 a1) :
    KeepsP k s0 (deInstant a1) := by
  unfold deInstant
  exact (keep_foldl (KeepsP k s0) (fun _ _ h1 => (by lift_lets -underBinder; intro xh2; (try clear_value xh2); intro xh3; (try clear_value xh3); exact (by split; (rename_i vh4 vh5 he; have h6 := KeepsP.of_eq he (deRelease_keeps f_cmd f_flt f_xpt f_red f_aud f_zl f_eng f_cel f_lease f_pmu f_out f_free f_r_cmd f_r_xpt f_r_eth f_r_aud f_r_cel f_r_zl f_r_red f_r_flt f_r_pmu h1); exact (by split; exact h6; exact h6))))) k1)

theorem audInstant_keeps {k s0 a1} (f_cmd : k .cmd = false) (f_flt : k .flt = false) (f_xpt : k .xpt = false) (f_red : k .red = false) (f_flw : k .flw = false) (f_aud : k .aud = false) (f_zl : k .zl = false) (f_eng : k .eng = false) (f_cel : k .cel = false) (f_lease : k .lease = false) (f_pmu : k .pmu = false) (f_out : k .out = false) (f_free : k .free = false) (f_r_cmd : k (.reg .cmd) = false) (f_r_xpt : k (.reg .xpt) = false) (f_r_eth : k (.reg .eth) = false) (f_r_flw : k (.reg .flw) = false) (f_r_aud : k (.reg .aud) = false) (f_r_cel : k (.reg .cel) = false) (f_r_zl : k (.reg .zl) = false) (f_r_red : k (.reg .red) = false) (f_r_flt : k (.reg .flt) = false) (f_r_pmu : k (.reg .pmu) = false) (k1 : Keeps k s0 a1) :
    Keeps k s0 (audInstant a1) := by
  unfold audInstant
  exact (by lift_lets -underBinder; intro xh1; (try clear_value xh1); intro xh2; intro xh3; have h4 : Keeps k s0 xh3 := (by unfold xh3; exact (endFades_keeps f_aud f_r_aud (k1.set_aud f_aud))); clear_value xh3; intro xh5; have h6 : Keeps k s0 xh5 := (by unfold xh5; exact (poolUsed_keeps f_r_aud (commitSamples_keeps f_cmd f_flt f_xpt f_red f_aud f_zl f_eng f_cel f_lease f_pmu f_out f_free f_r_cmd f_r_xpt f_r_eth f_r_aud f_r_cel f_r_zl f_r_red f_r_flt f_r_pmu h4))); clear_value xh5; intro xh7; (try clear_value xh7); intro xh8; (try clear_value xh8); intro xh9; intro xh10; have h11 : Keeps k s0 xh10 := (by unfold xh10; exact (reInstant_keeps f_aud (h6.set_aud f_aud))); clear_value xh10; exact (by split; (rename_i vh12 vh13 he; have h14 := KeepsP.of_eq he (tdmInstant_keeps f_cmd f_flt f_xpt f_red f_aud f_zl f_eng f_cel f_lease f_pmu f_out f_free f_r_cmd f_r_xpt f_r_eth f_r_aud f_r_cel f_r_zl f_r_red f_r_flt f_r_pmu (flowInstant_keeps f_flw f_pmu f_r_flw f_r_pmu (deInstant_keeps f_cmd f_flt f_xpt f_red f_aud f_zl f_eng f_cel f_lease f_pmu f_out f_free f_r_cmd f_r_xpt f_r_eth f_r_aud f_r_cel f_r_zl f_r_red f_r_flt f_r_pmu h11))); exact (by lift_lets -underBinder; intro xh15; exact (audioTx_keeps f_flw (h14.set_aud f_aud))))))

theorem audStep_keeps {k s0 a1} (f_aud : k .aud = false) (k1 : Keeps k s0 a1) :
    Keeps k s0 (audStep a1) := by
  unfold audStep
  exact (by lift_lets -underBinder; intro xh1; (try clear_value xh1); intro xh2; intro xh3; exact (k1.set_aud f_aud))

theorem mapErr_keeps {k s0 a1} (f_r_aud : k (.reg .aud) = false) (k1 : Keeps k s0 a1) :
    Keeps k s0 (mapErr a1) := by
  unfold mapErr
  exact (State.p_keeps (.of f_r_aud) k1)

theorem writeReemb_keeps {k s0 a1 a2 a3} (f_aud : k .aud = false) (f_r_aud : k (.reg .aud) = false) (k3 : Keeps k s0 a3) :
    Keeps k s0 (writeReemb a1 a2 a3) := by
  unfold writeReemb
  exact (by lift_lets -underBinder; intro xh1; (try clear_value xh1); intro xh2; (try clear_value xh2); intro xh3; have h4 : Keeps k s0 xh3 := (by unfold xh3; exact (State.wr_keeps (.of f_r_aud) k3)); clear_value xh3; intro xh5; exact (keep_ite (Keeps k s0) (mapErr_keeps f_r_aud k3) (keep_ite (Keeps k s0) (h4.set_aud f_aud) h4)))

theorem tdmFrame_keeps {k s0 a1 a2 a3} (f_cmd : k .cmd = false) (f_flt : k .flt = false) (f_xpt : k .xpt = false) (f_red : k .red = false) (f_aud : k .aud = false) (f_zl : k .zl = false) (f_eng : k .eng = false) (f_cel : k .cel = false) (f_lease : k .lease = false) (f_pmu : k .pmu = false) (f_out : k .out = false) (f_free : k .free = false) (f_r_cmd : k (.reg .cmd) = false) (f_r_xpt : k (.reg .xpt) = false) (f_r_eth : k (.reg .eth) = false) (f_r_aud : k (.reg .aud) = false) (f_r_cel : k (.reg .cel) = false) (f_r_zl : k (.reg .zl) = false) (f_r_red : k (.reg .red) = false) (f_r_flt : k (.reg .flt) = false) (f_r_pmu : k (.reg .pmu) = false) (k3 : Keeps k s0 a3) :
    Keeps k s0 (tdmFrame a1 a2 a3) := by
  unfold tdmFrame
  exact (by lift_lets -underBinder; intro xh1; (try clear_value xh1); intro xh2; (try clear_value xh2); intro xh3; (try clear_value xh3); intro xh4; (try clear_value xh4); intro xh5; (try clear_value xh5); intro xh6; (try clear_value xh6); intro xh7; (try clear_value xh7); intro xh8; (try clear_value xh8); intro xh9; have h10 : Keeps k s0 xh9 := (by unfold xh9; exact (State.p_keeps (.of f_r_aud) k3)); clear_value xh9; intro xh11; (try clear_value xh11); intro xh12; (try clear_value xh12); exact (keep_ite (Keeps k s0) (tdmSend_keeps f_aud f_out (State.setTdm_keeps f_aud h10)) (by split; exact (by lift_lets -underBinder; intro xh13; (try clear_value xh13); intro xh14; (try clear_value xh14); exact (tdmSend_keeps f_aud f_out (keep_when (fun _ h15 => (tdmSlip_keeps f_cmd f_flt f_xpt f_red f_zl f_eng f_cel f_lease f_pmu f_out f_free f_r_cmd f_r_xpt f_r_eth f_r_aud f_r_cel f_r_zl f_r_red f_r_flt f_r_pmu h15)) (keep_when (fun _ h16 => (tdmSlip_keeps f_cmd f_flt f_xpt f_red f_zl f_eng f_cel f_lease f_pmu f_out f_free f_r_cmd f_r_xpt f_r_eth f_r_aud f_r_cel f_r_zl f_r_red f_r_flt f_r_pmu h16)) (State.setTdm_keeps f_aud h10))))))))

theorem execTdmFrame_keeps {k s0 a1 a2 a3} (f_cmd : k .cmd = false) (f_flt : k .flt = false) (f_xpt : k .xpt = false) (f_red : k .red = false) (f_aud : k .aud = false) (f_zl : k .zl = false) (f_eng : k .eng = false) (f_cel : k .cel = false) (f_lease : k .lease = false) (f_pmu : k .pmu = false) (f_out : k .out = false) (f_free : k .free = false) (f_r_cmd : k (.reg .cmd) = false) (f_r_xpt : k (.reg .xpt) = false) (f_r_eth : k (.reg .eth) = false) (f_r_aud : k (.reg .aud) = false) (f_r_cel : k (.reg .cel) = false) (f_r_zl : k (.reg .zl) = false) (f_r_red : k (.reg .red) = false) (f_r_flt : k (.reg .flt) = false) (f_r_pmu : k (.reg .pmu) = false) (k3 : Keeps k s0 a3) :
    KeepsOut k s0 (execTdmFrame a1 a2 a3) := by
  unfold execTdmFrame
  exact (by lift_lets -underBinder; intro xh1; (try clear_value xh1); intro xh2; (try clear_value xh2); intro xh3; have h4 : Keeps k s0 xh3 := (by unfold xh3; exact (State.setTdm_keeps f_aud k3)); clear_value xh3; intro xh5; have h7 : Keeps k s0 xh5 := (by unfold xh5; exact (keep_when (fun _ h6 => (State.p_keeps (.of f_r_aud) h6)) h4)); clear_value xh5; exact (KeepsOut.next (keep_ite (Keeps k s0) k3 (keep_ite (Keeps k s0) (tdmFrame_keeps f_cmd f_flt f_xpt f_red f_aud f_zl f_eng f_cel f_lease f_pmu f_out f_free f_r_cmd f_r_xpt f_r_eth f_r_aud f_r_cel f_r_zl f_r_red f_r_flt f_r_pmu h7) h7))))

theorem writePool_keeps {k s0 a1 a2} (f_r_aud : k (.reg .aud) = false) (k2 : Keeps k s0 a2) :
    Keeps k s0 (writePool a1 a2) := by
  unfold writePool
  exact (keep_ite (Keeps k s0) (State.p_keeps (.of f_r_aud) (State.p_keeps (.of f_r_aud) k2)) k2)

theorem execAudPoolClr_keeps {k s0 a1 a2} (f_pmu : k .pmu = false) (f_r_hif : k (.reg .hif) = false) (f_r_aud : k (.reg .aud) = false) (f_r_pmu : k (.reg .pmu) = false) (f_r_noc : k (.reg .noc) = false) (k2 : Keeps k s0 a2) :
    KeepsOut k s0 (execAudPoolClr a1 a2) := by
  unfold execAudPoolClr
  exact (KeepsOut.next (gate_keeps f_pmu f_r_hif f_r_pmu f_r_noc (fun _ h1 => (writePool_keeps f_r_aud h1)) k2))

theorem writeDeembStat_keeps {k s0 a1 a2 a3} (f_r_aud : k (.reg .aud) = false) (k3 : Keeps k s0 a3) :
    Keeps k s0 (writeDeembStat a1 a2 a3) := by
  unfold writeDeembStat
  exact (by lift_lets -underBinder; intro xh1; have h2 : Keeps k s0 xh1 := (by unfold xh1; exact (State.write_keeps (.of f_r_aud) k3)); clear_value xh1; exact (keep_ite (Keeps k s0) (State.p_keeps (.of f_r_aud) h2) h2))

theorem execDeembSlipsClr_keeps {k s0 a1 a2 a3} (f_pmu : k .pmu = false) (f_r_hif : k (.reg .hif) = false) (f_r_aud : k (.reg .aud) = false) (f_r_pmu : k (.reg .pmu) = false) (f_r_noc : k (.reg .noc) = false) (k3 : Keeps k s0 a3) :
    KeepsOut k s0 (execDeembSlipsClr a1 a2 a3) := by
  unfold execDeembSlipsClr
  exact (KeepsOut.next (gate_keeps f_pmu f_r_hif f_r_pmu f_r_noc (fun _ h1 => (writeDeembStat_keeps f_r_aud h1)) k3))

theorem execAudioSampleInstant_keeps {k s0 a1} (f_cmd : k .cmd = false) (f_flt : k .flt = false) (f_xpt : k .xpt = false) (f_red : k .red = false) (f_flw : k .flw = false) (f_aud : k .aud = false) (f_zl : k .zl = false) (f_eng : k .eng = false) (f_cel : k .cel = false) (f_lease : k .lease = false) (f_pmu : k .pmu = false) (f_out : k .out = false) (f_free : k .free = false) (f_r_cmd : k (.reg .cmd) = false) (f_r_xpt : k (.reg .xpt) = false) (f_r_eth : k (.reg .eth) = false) (f_r_flw : k (.reg .flw) = false) (f_r_aud : k (.reg .aud) = false) (f_r_cel : k (.reg .cel) = false) (f_r_zl : k (.reg .zl) = false) (f_r_red : k (.reg .red) = false) (f_r_flt : k (.reg .flt) = false) (f_r_pmu : k (.reg .pmu) = false) (k1 : Keeps k s0 a1) :
    KeepsOut k s0 (execAudioSampleInstant a1) := by
  unfold execAudioSampleInstant
  exact (KeepsOut.next (keep_ite (Keeps k s0) (audInstant_keeps f_cmd f_flt f_xpt f_red f_flw f_aud f_zl f_eng f_cel f_lease f_pmu f_out f_free f_r_cmd f_r_xpt f_r_eth f_r_flw f_r_aud f_r_cel f_r_zl f_r_red f_r_flt f_r_pmu k1) k1))

theorem writeTdmCfg_keeps {k s0 a1 a2 a3} (f_r_aud : k (.reg .aud) = false) (k3 : Keeps k s0 a3) :
    Keeps k s0 (writeTdmCfg a1 a2 a3) := by
  unfold writeTdmCfg
  exact (by lift_lets -underBinder; intro xh1; (try clear_value xh1); intro xh2; (try clear_value xh2); intro xh3; (try clear_value xh3); intro xh4; (try clear_value xh4); intro xh5; (try clear_value xh5); intro xh6; (try clear_value xh6); exact (keep_ite (Keeps k s0) (State.p_keeps (.of f_r_aud) k3) (State.wr_keeps (.of f_r_aud) k3)))

theorem writeDcad_keeps {k s0 a1 a2 a3} (f_cmd : k .cmd = false) (f_pmu : k .pmu = false) (f_r_hif : k (.reg .hif) = false) (f_r_cmd : k (.reg .cmd) = false) (f_r_aud : k (.reg .aud) = false) (f_r_pmu : k (.reg .pmu) = false) (k3 : Keeps k s0 a3) :
    Keeps k s0 (writeDcad a1 a2 a3) := by
  unfold writeDcad
  exact (by lift_lets -underBinder; intro xh1; (try clear_value xh1); intro xh2; (try clear_value xh2); intro xh3; (try clear_value xh3); intro xh4; have h5 : Keeps k s0 xh4 := (by unfold xh4; exact (State.wr_keeps (.of f_r_aud) k3)); clear_value xh4; intro xh6; (try clear_value xh6); exact (keep_ite (Keeps k s0) k3 (keep_ite (Keeps k s0) (keep_when (fun _ h7 => (mapErr_keeps f_r_aud h7)) (keep_when (fun _ h8 => (State.p_keeps (.of f_r_aud) h8)) k3)) (keep_ite (Keeps k s0) h5 (protDone_keeps f_cmd f_pmu f_r_hif f_r_cmd f_r_pmu h5)))))

theorem execAudDcadWrite_keeps {k s0 a1 a2 a3 a4} (f_cmd : k .cmd = false) (f_pmu : k .pmu = false) (f_r_hif : k (.reg .hif) = false) (f_r_cmd : k (.reg .cmd) = false) (f_r_aud : k (.reg .aud) = false) (f_r_pmu : k (.reg .pmu) = false) (f_r_noc : k (.reg .noc) = false) (k4 : Keeps k s0 a4) :
    KeepsOut k s0 (execAudDcadWrite a1 a2 a3 a4) := by
  unfold execAudDcadWrite
  exact (KeepsOut.next (gate_keeps f_pmu f_r_hif f_r_pmu f_r_noc (fun _ h1 => (writeDcad_keeps f_cmd f_pmu f_r_hif f_r_cmd f_r_aud f_r_pmu h1)) k4))

theorem execTdmBlockStart_keeps {k s0 a1 a2} (f_aud : k .aud = false) (f_pmu : k .pmu = false) (f_r_aud : k (.reg .aud) = false) (f_r_pmu : k (.reg .pmu) = false) (k2 : Keeps k s0 a2) :
    KeepsOut k s0 (execTdmBlockStart a1 a2) := by
  unfold execTdmBlockStart
  exact (by lift_lets -underBinder; intro xh1; (try clear_value xh1); exact (KeepsOut.next (by split; exact k2; exact (by lift_lets -underBinder; intro xh2; have h3 : Keeps k s0 xh2 := (by unfold xh2; exact (State.p_keeps (.of f_r_aud) (State.p_keeps (.of f_r_aud) (State.p_keeps (.of f_r_aud) k2)))); clear_value xh2; exact (State.count_keeps f_pmu f_r_pmu (State.setTdm_keeps f_aud (State.p_keeps (.of f_r_aud) h3)))))))

theorem execTdmPortStop_keeps {k s0 a1 a2} (f_aud : k .aud = false) (f_r_aud : k (.reg .aud) = false) (k2 : Keeps k s0 a2) :
    KeepsOut k s0 (execTdmPortStop a1 a2) := by
  unfold execTdmPortStop
  exact (KeepsOut.next (keep_ite (Keeps k s0) (State.setTdm_keeps f_aud (State.p_keeps (.of f_r_aud) (State.p_keeps (.of f_r_aud) k2))) k2))

theorem execTdmClkLoss_keeps {k s0 a1 a2} (f_cmd : k .cmd = false) (f_flt : k .flt = false) (f_xpt : k .xpt = false) (f_red : k .red = false) (f_aud : k .aud = false) (f_zl : k .zl = false) (f_eng : k .eng = false) (f_cel : k .cel = false) (f_lease : k .lease = false) (f_pmu : k .pmu = false) (f_out : k .out = false) (f_free : k .free = false) (f_r_cmd : k (.reg .cmd) = false) (f_r_xpt : k (.reg .xpt) = false) (f_r_eth : k (.reg .eth) = false) (f_r_aud : k (.reg .aud) = false) (f_r_cel : k (.reg .cel) = false) (f_r_zl : k (.reg .zl) = false) (f_r_red : k (.reg .red) = false) (f_r_flt : k (.reg .flt) = false) (f_r_pmu : k (.reg .pmu) = false) (k2 : Keeps k s0 a2) :
    KeepsOut k s0 (execTdmClkLoss a1 a2) := by
  unfold execTdmClkLoss
  exact (by lift_lets -underBinder; intro xh1; (try clear_value xh1); intro xh2; intro xh3; have h4 : Keeps k s0 xh3 := (by unfold xh3; exact (State.count_keeps f_pmu f_r_pmu (State.p_keeps (.of f_r_aud) (State.setTdm_keeps f_aud k2)))); clear_value xh3; exact (KeepsOut.next (keep_ite (Keeps k s0) (occur_keeps f_cmd f_flt f_xpt f_red f_zl f_eng f_cel f_lease f_pmu f_out f_free f_r_cmd f_r_xpt f_r_eth f_r_cel f_r_zl f_r_red f_r_flt f_r_pmu h4) h4)))

theorem writeDeemb_keeps {k s0 a1 a2 a3} (f_aud : k .aud = false) (f_pmu : k .pmu = false) (f_r_aud : k (.reg .aud) = false) (f_r_pmu : k (.reg .pmu) = false) (k3 : Keeps k s0 a3) :
    Keeps k s0 (writeDeemb a1 a2 a3) := by
  unfold writeDeemb
  exact (by lift_lets -underBinder; intro xh1; (try clear_value xh1); intro xh2; (try clear_value xh2); intro xh3; have h5 : Keeps k s0 xh3 := (by unfold xh3; exact (keep_each (fun _ _ h4 => (deStop_keeps f_aud f_pmu f_r_aud f_r_pmu h4)) k3)); clear_value xh3; exact (keep_ite (Keeps k s0) (mapErr_keeps f_r_aud k3) (keep_ite (Keeps k s0) k3 (State.wr_keeps (.of f_r_aud) h5))))

theorem writeTdmMap_keeps {k s0 a1 a2 a3} (f_r_aud : k (.reg .aud) = false) (k3 : Keeps k s0 a3) :
    Keeps k s0 (writeTdmMap a1 a2 a3) := by
  unfold writeTdmMap
  exact (by lift_lets -underBinder; intro xh1; (try clear_value xh1); intro xh2; (try clear_value xh2); intro xh3; (try clear_value xh3); intro xh4; (try clear_value xh4); exact (keep_ite (Keeps k s0) (mapErr_keeps f_r_aud k3) (State.wr_keeps (.of f_r_aud) k3)))

theorem execAudioMapWrite_keeps {k s0 a1 a2 a3 a4 a5} (f_aud : k .aud = false) (f_pmu : k .pmu = false) (f_r_hif : k (.reg .hif) = false) (f_r_aud : k (.reg .aud) = false) (f_r_pmu : k (.reg .pmu) = false) (f_r_noc : k (.reg .noc) = false) (k5 : Keeps k s0 a5) :
    KeepsOut k s0 (execAudioMapWrite a1 a2 a3 a4 a5) := by
  unfold execAudioMapWrite
  exact (KeepsOut.next (gate_keeps f_pmu f_r_hif f_r_pmu f_r_noc (fun _ h1 => (by split; exact (writeDeemb_keeps f_aud f_pmu f_r_aud f_r_pmu h1); exact (keep_ite (Keeps k s0) (writeReemb_keeps f_aud f_r_aud h1) h1); exact (keep_ite (Keeps k s0) (writeTdmMap_keeps f_r_aud h1) h1))) k5))

theorem execDeembGroupStop_keeps {k s0 a1 a2 a3} (f_aud : k .aud = false) (f_pmu : k .pmu = false) (f_r_aud : k (.reg .aud) = false) (f_r_pmu : k (.reg .pmu) = false) (k3 : Keeps k s0 a3) :
    KeepsOut k s0 (execDeembGroupStop a1 a2 a3) := by
  unfold execDeembGroupStop
  exact (by lift_lets -underBinder; intro xh1; (try clear_value xh1); intro xh2; (try clear_value xh2); intro xh3; (try clear_value xh3); exact (KeepsOut.next (keep_ite (Keeps k s0) (deStop_keeps f_aud f_pmu f_r_aud f_r_pmu k3) k3)))

theorem writeReembStat_keeps {k s0 a1 a2 a3} (f_r_aud : k (.reg .aud) = false) (k3 : Keeps k s0 a3) :
    Keeps k s0 (writeReembStat a1 a2 a3) := by
  unfold writeReembStat
  exact (keep_ite (Keeps k s0) (State.p_keeps (.of f_r_aud) k3) k3)

theorem execReembSkippedClr_keeps {k s0 a1 a2 a3} (f_pmu : k .pmu = false) (f_r_hif : k (.reg .hif) = false) (f_r_aud : k (.reg .aud) = false) (f_r_pmu : k (.reg .pmu) = false) (f_r_noc : k (.reg .noc) = false) (k3 : Keeps k s0 a3) :
    KeepsOut k s0 (execReembSkippedClr a1 a2 a3) := by
  unfold execReembSkippedClr
  exact (KeepsOut.next (gate_keeps f_pmu f_r_hif f_r_pmu f_r_noc (fun _ h1 => (writeReembStat_keeps f_r_aud h1)) k3))

theorem execTdmCfgWrite_keeps {k s0 a1 a2 a3 a4} (f_pmu : k .pmu = false) (f_r_hif : k (.reg .hif) = false) (f_r_aud : k (.reg .aud) = false) (f_r_pmu : k (.reg .pmu) = false) (f_r_noc : k (.reg .noc) = false) (k4 : Keeps k s0 a4) :
    KeepsOut k s0 (execTdmCfgWrite a1 a2 a3 a4) := by
  unfold execTdmCfgWrite
  exact (KeepsOut.next (gate_keeps f_pmu f_r_hif f_r_pmu f_r_noc (fun _ h1 => (writeTdmCfg_keeps f_r_aud h1)) k4))

theorem execTdmFsyncError_keeps {k s0 a1 a2} (f_cmd : k .cmd = false) (f_flt : k .flt = false) (f_xpt : k .xpt = false) (f_red : k .red = false) (f_aud : k .aud = false) (f_zl : k .zl = false) (f_eng : k .eng = false) (f_cel : k .cel = false) (f_lease : k .lease = false) (f_pmu : k .pmu = false) (f_out : k .out = false) (f_free : k .free = false) (f_r_cmd : k (.reg .cmd) = false) (f_r_xpt : k (.reg .xpt) = false) (f_r_eth : k (.reg .eth) = false) (f_r_aud : k (.reg .aud) = false) (f_r_cel : k (.reg .cel) = false) (f_r_zl : k (.reg .zl) = false) (f_r_red : k (.reg .red) = false) (f_r_flt : k (.reg .flt) = false) (f_r_pmu : k (.reg .pmu) = false) (k2 : Keeps k s0 a2) :
    KeepsOut k s0 (execTdmFsyncError a1 a2) := by
  unfold execTdmFsyncError
  exact (by lift_lets -underBinder; intro xh1; (try clear_value xh1); intro xh2; (try clear_value xh2); intro xh3; have h4 : Keeps k s0 xh3 := (by unfold xh3; exact (State.p_keeps (.of f_r_aud) (State.setTdm_keeps f_aud k2))); clear_value xh3; intro xh5; have h6 : Keeps k s0 xh5 := (by unfold xh5; exact (State.count_keeps f_pmu f_r_pmu (State.p_keeps (.of f_r_aud) h4))); clear_value xh5; exact (KeepsOut.next (keep_ite (Keeps k s0) k2 (keep_ite (Keeps k s0) (occur_keeps f_cmd f_flt f_xpt f_red f_zl f_eng f_cel f_lease f_pmu f_out f_free f_r_cmd f_r_xpt f_r_eth f_r_cel f_r_zl f_r_red f_r_flt f_r_pmu h6) h6))))

theorem readTdmTs_keeps {k s0 a1 a2 a3} (f_latches : k .latches = false) (f_out : k .out = false) (k3 : Keeps k s0 a3) :
    Keeps k s0 (readTdmTs a1 a2 a3) := by
  unfold readTdmTs
  exact (by lift_lets -underBinder; intro xh1; have h2 : Keeps k s0 xh1 := (by unfold xh1; exact (latch_keeps f_latches k3)); clear_value xh1; intro xh3; have h4 : Keeps k s0 xh3 := (by unfold xh3; exact (latch_keeps f_latches h2)); clear_value xh3; exact (answer_keeps f_out (latch_keeps f_latches h4)))

theorem execTdmTsRead_keeps {k s0 a1 a2 a3} (f_latches : k .latches = false) (f_pmu : k .pmu = false) (f_out : k .out = false) (f_r_pmu : k (.reg .pmu) = false) (f_r_noc : k (.reg .noc) = false) (k3 : Keeps k s0 a3) :
    KeepsOut k s0 (execTdmTsRead a1 a2 a3) := by
  unfold execTdmTsRead
  exact (KeepsOut.next (readHeld_keeps f_pmu f_out f_r_pmu f_r_noc (fun _ h1 => (readTdmTs_keeps f_latches f_out h1)) k3))

theorem audGo_keeps {k s0 a1 a2 a3 a4} (f_cmd : k .cmd = false) (f_flt : k .flt = false) (f_xpt : k .xpt = false) (f_red : k .red = false) (f_aud : k .aud = false) (f_zl : k .zl = false) (f_eng : k .eng = false) (f_cel : k .cel = false) (f_lease : k .lease = false) (f_pmu : k .pmu = false) (f_out : k .out = false) (f_free : k .free = false) (f_r_cmd : k (.reg .cmd) = false) (f_r_xpt : k (.reg .xpt) = false) (f_r_eth : k (.reg .eth) = false) (f_r_aud : k (.reg .aud) = false) (f_r_cel : k (.reg .cel) = false) (f_r_zl : k (.reg .zl) = false) (f_r_red : k (.reg .red) = false) (f_r_flt : k (.reg .flt) = false) (f_r_pmu : k (.reg .pmu) = false) (k4 : Keeps k s0 a4) :
    Keeps k s0 (audGo a1 a2 a3 a4) := by
  unfold audGo
  exact (by lift_lets -underBinder; intro xh1; exact (by split; exact k4; exact (forward_keeps f_red f_pmu f_out f_r_red f_r_pmu (stageAud_keeps f_cmd f_flt f_xpt f_red f_aud f_zl f_eng f_cel f_lease f_pmu f_out f_free f_r_cmd f_r_xpt f_r_eth f_r_aud f_r_cel f_r_zl f_r_red f_r_flt f_r_pmu k4)); exact (forward_keeps f_red f_pmu f_out f_r_red f_r_pmu (stageAud_keeps f_cmd f_flt f_xpt f_red f_aud f_zl f_eng f_cel f_lease f_pmu f_out f_free f_r_cmd f_r_xpt f_r_eth f_r_aud f_r_cel f_r_zl f_r_red f_r_flt f_r_pmu k4))))

theorem writeAudCfg_keeps {k s0 a1 a2} (f_aud : k .aud = false) (f_pmu : k .pmu = false) (f_r_aud : k (.reg .aud) = false) (f_r_pmu : k (.reg .pmu) = false) (k2 : Keeps k s0 a2) :
    Keeps k s0 (writeAudCfg a1 a2) := by
  unfold writeAudCfg
  exact (by lift_lets -underBinder; intro xh1; (try clear_value xh1); intro xh2; (try clear_value xh2); exact (keep_ite (Keeps k s0) k2 (keep_ite (Keeps k s0) (State.count_keeps f_pmu f_r_pmu (State.p_keeps (.of f_r_aud) k2)) (audStep_keeps f_aud (State.p_keeps (.of f_r_aud) k2)))))

theorem execTdmPortStart_keeps {k s0 a1 a2} (f_aud : k .aud = false) (f_r_aud : k (.reg .aud) = false) (k2 : Keeps k s0 a2) :
    KeepsOut k s0 (execTdmPortStart a1 a2) := by
  unfold execTdmPortStart
  exact (KeepsOut.next (keep_ite (Keeps k s0) (State.setTdm_keeps f_aud (State.p_keeps (.of f_r_aud) k2)) k2))

theorem writeTdmStat_keeps {k s0 a1 a2 a3} (f_r_aud : k (.reg .aud) = false) (k3 : Keeps k s0 a3) :
    Keeps k s0 (writeTdmStat a1 a2 a3) := by
  unfold writeTdmStat
  exact (by lift_lets -underBinder; intro xh1; have h2 : Keeps k s0 xh1 := (by unfold xh1; exact (State.write_keeps (.of f_r_aud) k3)); clear_value xh1; exact (keep_ite (Keeps k s0) (State.p_keeps (.of f_r_aud) h2) h2))

theorem execTdmSlipsClr_keeps {k s0 a1 a2 a3} (f_pmu : k .pmu = false) (f_r_hif : k (.reg .hif) = false) (f_r_aud : k (.reg .aud) = false) (f_r_pmu : k (.reg .pmu) = false) (f_r_noc : k (.reg .noc) = false) (k3 : Keeps k s0 a3) :
    KeepsOut k s0 (execTdmSlipsClr a1 a2 a3) := by
  unfold execTdmSlipsClr
  exact (KeepsOut.next (gate_keeps f_pmu f_r_hif f_r_pmu f_r_noc (fun _ h1 => (writeTdmStat_keeps f_r_aud h1)) k3))

theorem execAudioTake_keeps {k s0 a1 a2 a3} (f_cmd : k .cmd = false) (f_flt : k .flt = false) (f_xpt : k .xpt = false) (f_red : k .red = false) (f_aud : k .aud = false) (f_zl : k .zl = false) (f_eng : k .eng = false) (f_cel : k .cel = false) (f_lease : k .lease = false) (f_pmu : k .pmu = false) (f_out : k .out = false) (f_free : k .free = false) (f_r_cmd : k (.reg .cmd) = false) (f_r_xpt : k (.reg .xpt) = false) (f_r_eth : k (.reg .eth) = false) (f_r_aud : k (.reg .aud) = false) (f_r_cel : k (.reg .cel) = false) (f_r_zl : k (.reg .zl) = false) (f_r_red : k (.reg .red) = false) (f_r_flt : k (.reg .flt) = false) (f_r_pmu : k (.reg .pmu) = false) (k3 : Keeps k s0 a3) :
    KeepsOut k s0 (execAudioTake a1 a2 a3) := by
  unfold execAudioTake
  exact (KeepsOut.next (present_keeps f_cmd f_flt f_xpt f_red f_zl f_eng f_cel f_lease f_pmu f_out f_free f_r_cmd f_r_xpt f_r_eth f_r_cel f_r_zl f_r_red f_r_flt f_r_pmu (fun _ _ _ _ h1 => (audGo_keeps f_cmd f_flt f_xpt f_red f_aud f_zl f_eng f_cel f_lease f_pmu f_out f_free f_r_cmd f_r_xpt f_r_eth f_r_aud f_r_cel f_r_zl f_r_red f_r_flt f_r_pmu h1)) k3))

theorem execAudioRateWrite_keeps {k s0 a1 a2 a3} (f_aud : k .aud = false) (f_pmu : k .pmu = false) (f_r_hif : k (.reg .hif) = false) (f_r_aud : k (.reg .aud) = false) (f_r_pmu : k (.reg .pmu) = false) (f_r_noc : k (.reg .noc) = false) (k3 : Keeps k s0 a3) :
    KeepsOut k s0 (execAudioRateWrite a1 a2 a3) := by
  unfold execAudioRateWrite
  exact (KeepsOut.next (gate_keeps f_pmu f_r_hif f_r_pmu f_r_noc (fun _ h1 => (writeAudCfg_keeps f_aud f_pmu f_r_aud f_r_pmu h1)) k3))

theorem State.setFlow_keeps {k s0 a1 a2 a3} (f_flw : k .flw = false) (f_table : k .table = false) (k1 : Keeps k s0 a1) :
    Keeps k s0 (State.setFlow a1 a2 a3) := by
  unfold State.setFlow
  exact (by lift_lets -underBinder; intro xh1; exact (k1.set_flw f_flw (.inl f_table)))

theorem dropFlow_keeps {k s0 a1 a2} (f_cmd : k .cmd = false) (f_flt : k .flt = false) (f_xpt : k .xpt = false) (f_red : k .red = false) (f_flw : k .flw = false) (f_zl : k .zl = false) (f_eng : k .eng = false) (f_cel : k .cel = false) (f_lease : k .lease = false) (f_table : k .table = false) (f_pmu : k .pmu = false) (f_out : k .out = false) (f_free : k .free = false) (f_r_cmd : k (.reg .cmd) = false) (f_r_xpt : k (.reg .xpt) = false) (f_r_eth : k (.reg .eth) = false) (f_r_flw : k (.reg .flw) = false) (f_r_cel : k (.reg .cel) = false) (f_r_zl : k (.reg .zl) = false) (f_r_red : k (.reg .red) = false) (f_r_flt : k (.reg .flt) = false) (f_r_pmu : k (.reg .pmu) = false) (k2 : Keeps k s0 a2) :
    Keeps k s0 (dropFlow a1 a2) := by
  unfold dropFlow
  exact (by lift_lets -underBinder; intro xh1; (try clear_value xh1); intro xh2; intro xh3; have h4 : Keeps k s0 xh3 := (by unfold xh3; exact (keep_ite (Keeps k s0) (k2.set_flw f_flw (.inr rfl)) (charge_keeps f_cmd f_flt f_xpt f_red f_zl f_eng f_cel f_lease f_pmu f_out f_free f_r_cmd f_r_xpt f_r_eth f_r_cel f_r_zl f_r_red f_r_flt f_r_pmu (k2.set_flw f_flw (.inr rfl))))); clear_value xh3; intro xh5; have h6 : Keeps k s0 xh5 := (by unfold xh5; exact (State.wr_keeps (.of f_r_flw) h4)); intro xh7; exact (h6.set_flw f_flw (.inl f_table)))

theorem flowTotals_keeps {k s0 a1} (f_r_flw : k (.reg .flw) = false) (k1 : Keeps k s0 a1) :
    Keeps k s0 (flowTotals a1) := by
  unfold flowTotals
  exact (by lift_lets -underBinder; intro xh1; (try clear_value xh1); exact (State.p_keeps (.of f_r_flw) (State.p_keeps (.of f_r_flw) (State.p_keeps (.of f_r_flw) k1))))

theorem delFlow_keeps {k s0 a1 a2} (f_cmd : k .cmd = false) (f_flt : k .flt = false) (f_xpt : k .xpt = false) (f_red : k .red = false) (f_flw : k .flw = false) (f_zl : k .zl = false) (f_eng : k .eng = false) (f_cel : k .cel = false) (f_lease : k .lease = false) (f_table : k .table = false) (f_pmu : k .pmu = false) (f_out : k .out = false) (f_free : k .free = false) (f_r_cmd : k (.reg .cmd) = false) (f_r_xpt : k (.reg .xpt) = false) (f_r_eth : k (.reg .eth) = false) (f_r_flw : k (.reg .flw) = false) (f_r_cel : k (.reg .cel) = false) (f_r_zl : k (.reg .zl) = false) (f_r_red : k (.reg .red) = false) (f_r_flt : k (.reg .flt) = false) (f_r_pmu : k (.reg .pmu) = false) (k2 : Keeps k s0 a2) :
    Keeps k s0 (delFlow a1 a2) := by
  unfold delFlow
  exact (by lift_lets -underBinder; intro xh1; (try clear_value xh1); intro xh2; (try clear_value xh2); intro xh3; have h4 : Keeps k s0 xh3 := (by unfold xh3; exact (State.p_keeps (.of f_r_flw) (State.setFlow_keeps f_flw f_table k2))); clear_value xh3; intro xh5; (try clear_value xh5); intro xh6; (try clear_value xh6); intro xh7; have h8 : Keeps k s0 xh7 := (by unfold xh7; exact (keep_ite (Keeps k s0) (keep_ite (Keeps k s0) (dropFlow_keeps f_cmd f_flt f_xpt f_red f_flw f_zl f_eng f_cel f_lease f_table f_pmu f_out f_free f_r_cmd f_r_xpt f_r_eth f_r_flw f_r_cel f_r_zl f_r_red f_r_flt f_r_pmu (keep_ite (Keeps k s0) h4 (State.setLeg_keeps f_flw (State.setRx_keeps f_flw h4)))) (dropFlow_keeps f_cmd f_flt f_xpt f_red f_flw f_zl f_eng f_cel f_lease f_table f_pmu f_out f_free f_r_cmd f_r_xpt f_r_eth f_r_flw f_r_cel f_r_zl f_r_red f_r_flt f_r_pmu (dropFlow_keeps f_cmd f_flt f_xpt f_red f_flw f_zl f_eng f_cel f_lease f_table f_pmu f_out f_free f_r_cmd f_r_xpt f_r_eth f_r_flw f_r_cel f_r_zl f_r_red f_r_flt f_r_pmu k2))) (dropFlow_keeps f_cmd f_flt f_xpt f_red f_flw f_zl f_eng f_cel f_lease f_table f_pmu f_out f_free f_r_cmd f_r_xpt f_r_eth f_r_flw f_r_cel f_r_zl f_r_red f_r_flt f_r_pmu k2))); clear_value xh7; exact (flowTotals_keeps f_r_flw (State.count_keeps f_pmu f_r_pmu h8)))

theorem execFlowDel_keeps {k s0 a1 a2 a3} (f_cmd : k .cmd = false) (f_flt : k .flt = false) (f_xpt : k .xpt = false) (f_red : k .red = false) (f_flw : k .flw = false) (f_zl : k .zl = false) (f_eng : k .eng = false) (f_cel : k .cel = false) (f_lease : k .lease = false) (f_table : k .table = false) (f_pmu : k .pmu = false) (f_out : k .out = false) (f_free : k .free = false) (f_r_cmd : k (.reg .cmd) = false) (f_r_xpt : k (.reg .xpt) = false) (f_r_eth : k (.reg .eth) = false) (f_r_flw : k (.reg .flw) = false) (f_r_cel : k (.reg .cel) = false) (f_r_zl : k (.reg .zl) = false) (f_r_red : k (.reg .red) = false) (f_r_flt : k (.reg .flt) = false) (f_r_pmu : k (.reg .pmu) = false) (k3 : Keeps k s0 a3) :
    KeepsOut k s0 (execFlowDel a1 a2 a3) := by
  unfold execFlowDel
  exact (KeepsOut.next (present_keeps f_cmd f_flt f_xpt f_red f_zl f_eng f_cel f_lease f_pmu f_out f_free f_r_cmd f_r_xpt f_r_eth f_r_cel f_r_zl f_r_red f_r_flt f_r_pmu (fun _ _ _ _ h1 => (finish_keeps f_cmd f_flt f_xpt f_red f_zl f_eng f_cel f_lease f_pmu f_out f_free f_r_cmd f_r_xpt f_r_eth f_r_cel f_r_zl f_r_red f_r_flt f_r_pmu (forward_keeps f_red f_pmu f_out f_r_red f_r_pmu (delFlow_keeps f_cmd f_flt f_xpt f_red f_flw f_zl f_eng f_cel f_lease f_table f_pmu f_out f_free f_r_cmd f_r_xpt f_r_eth f_r_flw f_r_cel f_r_zl f_r_red f_r_flt f_r_pmu h1)))) k3))

theorem writeFlowCnt_keeps {k s0 a1 a2} (f_r_flw : k (.reg .flw) = false) (k2 : Keeps k s0 a2) :
    Keeps k s0 (writeFlowCnt a1 a2) := by
  unfold writeFlowCnt
  exact (State.wr_keeps (.of f_r_flw) (State.wr_keeps (.of f_r_flw) (State.wr_keeps (.of f_r_flw) k2)))

theorem execFlowAdd_keeps {k s0 a1 a2 a3} (f_cmd : k .cmd = false) (f_flt : k .flt = false) (f_xpt : k .xpt = false) (f_red : k .red = false) (f_zl : k .zl = false) (f_eng : k .eng = false) (f_cel : k .cel = false) (f_lease : k .lease = false) (f_pmu : k .pmu = false) (f_out : k .out = false) (f_free : k .free = false) (f_r_cmd : k (.reg .cmd) = false) (f_r_xpt : k (.reg .xpt) = false) (f_r_eth : k (.reg .eth) = false) (f_r_cel : k (.reg .cel) = false) (f_r_zl : k (.reg .zl) = false) (f_r_red : k (.reg .red) = false) (f_r_flt : k (.reg .flt) = false) (f_r_pmu : k (.reg .pmu) = false) (f_r_noc : k (.reg .noc) = false) (k3 : Keeps k s0 a3) :
    KeepsOut k s0 (execFlowAdd a1 a2 a3) := by
  unfold execFlowAdd
  exact (KeepsOut.next (presentRead_keeps f_cmd f_flt f_xpt f_red f_zl f_eng f_cel f_lease f_pmu f_out f_free f_r_cmd f_r_xpt f_r_eth f_r_cel f_r_zl f_r_red f_r_flt f_r_pmu f_r_noc k3))

theorem execFlowCountersClear_keeps {k s0 a1 a2 a3} (f_pmu : k .pmu = false) (f_r_hif : k (.reg .hif) = false) (f_r_flw : k (.reg .flw) = false) (f_r_pmu : k (.reg .pmu) = false) (f_r_noc : k (.reg .noc) = false) (k3 : Keeps k s0 a3) :
    KeepsOut k s0 (execFlowCountersClear a1 a2 a3) := by
  unfold execFlowCountersClear
  exact (KeepsOut.next (gate_keeps f_pmu f_r_hif f_r_pmu f_r_noc (fun _ h1 => (writeFlowCnt_keeps f_r_flw h1)) k3))

theorem execExtFlowMatchStart_keeps {k s0 a1 a2} (f_flw : k .flw = false) (k2 : Keeps k s0 a2) :
    KeepsOut k s0 (execExtFlowMatchStart a1 a2) := by
  unfold execExtFlowMatchStart
  exact (KeepsOut.next (by split; exact (by lift_lets -underBinder; intro xh1; exact (keep_ite (Keeps k s0) (State.setRx_keeps f_flw k2) k2)); exact k2))

theorem execLarderRecordPlayout_keeps {k s0 a1 a2 a3} (f_cmd : k .cmd = false) (f_flt : k .flt = false) (f_xpt : k .xpt = false) (f_red : k .red = false) (f_flw : k .flw = false) (f_zl : k .zl = false) (f_eng : k .eng = false) (f_cel : k .cel = false) (f_lease : k .lease = false) (f_pmu : k .pmu = false) (f_out : k .out = false) (f_free : k .free = false) (f_r_cmd : k (.reg .cmd) = false) (f_r_xpt : k (.reg .xpt) = false) (f_r_eth : k (.reg .eth) = false) (f_r_flw : k (.reg .flw) = false) (f_r_cel : k (.reg .cel) = false) (f_r_zl : k (.reg .zl) = false) (f_r_red : k (.reg .red) = false) (f_r_flt : k (.reg .flt) = false) (f_r_pmu : k (.reg .pmu) = false) (k3 : Keeps k s0 a3) :
    KeepsOut k s0 (execLarderRecordPlayout a1 a2 a3) := by
  unfold execLarderRecordPlayout
  exact (by lift_lets -underBinder; intro xh1; (try clear_value xh1); intro xh2; (try clear_value xh2); exact (KeepsOut.next (keep_ite (Keeps k s0) (by split; exact k3; exact (keep_ite (Keeps k s0) (playRecord_keeps f_cmd f_flt f_xpt f_red f_flw f_zl f_eng f_cel f_lease f_pmu f_out f_free f_r_cmd f_r_xpt f_r_eth f_r_flw f_r_cel f_r_zl f_r_red f_r_flt f_r_pmu k3) k3)) k3)))

theorem addFlow_keeps {k s0 a1 a2 a3} (f_cmd : k .cmd = false) (f_flt : k .flt = false) (f_xpt : k .xpt = false) (f_red : k .red = false) (f_flw : k .flw = false) (f_zl : k .zl = false) (f_eng : k .eng = false) (f_cel : k .cel = false) (f_lease : k .lease = false) (f_table : k .table = false) (f_pmu : k .pmu = false) (f_out : k .out = false) (f_free : k .free = false) (f_r_cmd : k (.reg .cmd) = false) (f_r_xpt : k (.reg .xpt) = false) (f_r_eth : k (.reg .eth) = false) (f_r_flw : k (.reg .flw) = false) (f_r_cel : k (.reg .cel) = false) (f_r_zl : k (.reg .zl) = false) (f_r_red : k (.reg .red) = false) (f_r_flt : k (.reg .flt) = false) (f_r_pmu : k (.reg .pmu) = false) (k3 : Keeps k s0 a3) :
    Keeps k s0 (addFlow a1 a2 a3) := by
  unfold addFlow
  exact (by lift_lets -underBinder; intro xh1; have h2 : Keeps k s0 xh1 := (by unfold xh1; exact (State.wr_keeps (.of f_r_flw) (State.wr_keeps (.of f_r_flw) (State.wr_keeps (.of f_r_flw) (State.setFlow_keeps f_flw f_table k3))))); clear_value xh1; intro xh3; have h4 : Keeps k s0 xh3 := (by unfold xh3; exact (State.p_keeps (.of f_r_flw) (State.wr_keeps (.of f_r_flw) h2))); clear_value xh3; intro xh5; (try clear_value xh5); intro xh6; have h7 : Keeps k s0 xh6 := (by unfold xh6; exact (keep_ite (Keeps k s0) (State.setFlow_keeps f_flw f_table h4) h4)); clear_value xh6; intro xh8; (try clear_value xh8); intro xh9; have h13 : Keeps k s0 xh9 := (by unfold xh9; exact (keep_ite (Keeps k s0) (by split; (rename_i vh10 vh11 he; have h12 := KeepsP.of_eq he (State.freeNat_keeps f_free h7); exact (keep_ite (Keeps k s0) (State.setTx_keeps f_flw h12) (State.setTx_keeps f_flw h12)))) (keep_ite (Keeps k s0) (State.p_keeps (.of f_r_flw) (State.setRx_keeps f_flw h7)) (enterLost_keeps f_cmd f_flt f_xpt f_red f_flw f_zl f_eng f_cel f_lease f_pmu f_out f_free f_r_cmd f_r_xpt f_r_eth f_r_flw f_r_cel f_r_zl f_r_red f_r_flt f_r_pmu (charge_keeps f_cmd f_flt f_xpt f_red f_zl f_eng f_cel f_lease f_pmu f_out f_free f_r_cmd f_r_xpt f_r_eth f_r_cel f_r_zl f_r_red f_r_flt f_r_pmu (State.setRx_keeps f_flw h7)))))); clear_value xh9; exact (flowTotals_keeps f_r_flw (State.count_keeps f_pmu f_r_pmu (keep_ite (Keeps k s0) h13 (State.setLeg_keeps f_flw h13)))))

theorem execFlowEntryReadComplete_keeps {k s0 a1 a2 a3 a4} (f_cmd : k .cmd = false) (f_flt : k .flt = false) (f_xpt : k .xpt = false) (f_red : k .red = false) (f_flw : k .flw = false) (f_zl : k .zl = false) (f_eng : k .eng = false) (f_cel : k .cel = false) (f_lease : k .lease = false) (f_table : k .table = false) (f_pmu : k .pmu = false) (f_out : k .out = false) (f_free : k .free = false) (f_r_cmd : k (.reg .cmd) = false) (f_r_xpt : k (.reg .xpt) = false) (f_r_eth : k (.reg .eth) = false) (f_r_flw : k (.reg .flw) = false) (f_r_cel : k (.reg .cel) = false) (f_r_zl : k (.reg .zl) = false) (f_r_red : k (.reg .red) = false) (f_r_flt : k (.reg .flt) = false) (f_r_pmu : k (.reg .pmu) = false) (k4 : Keeps k s0 a4) :
    KeepsOut k s0 (execFlowEntryReadComplete a1 a2 a3 a4) := by
  unfold execFlowEntryReadComplete
  exact (KeepsOut.next (by split; exact k4; exact (by lift_lets -underBinder; intro xh1; (try clear_value xh1); intro xh2; (try clear_value xh2); intro xh3; (try clear_value xh3); intro xh4; have h5 : Keeps k s0 xh4 := (by unfold xh4; exact (dropRead_keeps f_cmd k4)); clear_value xh4; exact (keep_ite (Keeps k s0) (refuse_keeps f_cmd f_flt f_xpt f_red f_zl f_eng f_cel f_lease f_pmu f_out f_free f_r_cmd f_r_xpt f_r_eth f_r_cel f_r_zl f_r_red f_r_flt f_r_pmu h5) (by split; exact (refuse_keeps f_cmd f_flt f_xpt f_red f_zl f_eng f_cel f_lease f_pmu f_out f_free f_r_cmd f_r_xpt f_r_eth f_r_cel f_r_zl f_r_red f_r_flt f_r_pmu (keep_when (fun _ h6 => (State.count_keeps f_pmu f_r_pmu h6)) (State.count_keeps f_pmu f_r_pmu h5))); exact (by split; (rename_i vh7 vh8 he; have h9 := KeepsP.of_eq he (accept_keeps f_cmd f_pmu f_r_pmu h5); exact (by lift_lets -underBinder; intro xh10; have h11 : Keeps k s0 xh10 := (by unfold xh10; exact (addFlow_keeps f_cmd f_flt f_xpt f_red f_flw f_zl f_eng f_cel f_lease f_table f_pmu f_out f_free f_r_cmd f_r_xpt f_r_eth f_r_flw f_r_cel f_r_zl f_r_red f_r_flt f_r_pmu h9)); clear_value xh10; exact (finish_keeps f_cmd f_flt f_xpt f_red f_zl f_eng f_cel f_lease f_pmu f_out f_free f_r_cmd f_r_xpt f_r_eth f_r_cel f_r_zl f_r_red f_r_flt f_r_pmu (forward_keeps f_red f_pmu f_out f_r_red f_r_pmu h11))))))))))

theorem execAudioPacketEnqueue_keeps {k s0 a1 a2} (f_cmd : k .cmd = false) (f_flw : k .flw = false) (f_pmu : k .pmu = false) (f_free : k .free = false) (f_r_cmd : k (.reg .cmd) = false) (f_r_eth : k (.reg .eth) = false) (f_r_flw : k (.reg .flw) = false) (f_r_pmu : k (.reg .pmu) = false) (k2 : Keeps k s0 a2) :
    KeepsOut k s0 (execAudioPacketEnqueue a1 a2) := by
  unfold execAudioPacketEnqueue
  exact (KeepsOut.next (sendNext_keeps f_cmd f_flw f_pmu f_free f_r_cmd f_r_eth f_r_flw f_r_pmu k2))

theorem execFlowLostEnter_keeps {k s0 a1 a2} (f_cmd : k .cmd = false) (f_flt : k .flt = false) (f_xpt : k .xpt = false) (f_red : k .red = false) (f_flw : k .flw = false) (f_zl : k .zl = false) (f_eng : k .eng = false) (f_cel : k .cel = false) (f_lease : k .lease = false) (f_pmu : k .pmu = false) (f_out : k .out = false) (f_free : k .free = false) (f_r_cmd : k (.reg .cmd) = false) (f_r_xpt : k (.reg .xpt) = false) (f_r_eth : k (.reg .eth) = false) (f_r_flw : k (.reg .flw) = false) (f_r_cel : k (.reg .cel) = false) (f_r_zl : k (.reg .zl) = false) (f_r_red : k (.reg .red) = false) (f_r_flt : k (.reg .flt) = false) (f_r_pmu : k (.reg .pmu) = false) (k2 : Keeps k s0 a2) :
    KeepsOut k s0 (execFlowLostEnter a1 a2) := by
  unfold execFlowLostEnter
  exact (by lift_lets -underBinder; intro xh1; (try clear_value xh1); exact (KeepsOut.next (keep_ite (Keeps k s0) (enterLost_keeps f_cmd f_flt f_xpt f_red f_flw f_zl f_eng f_cel f_lease f_pmu f_out f_free f_r_cmd f_r_xpt f_r_eth f_r_flw f_r_cel f_r_zl f_r_red f_r_flt f_r_pmu k2) k2)))

theorem execFlowPacketEnqueue_keeps {k s0 a1 a2} (f_cmd : k .cmd = false) (f_flw : k .flw = false) (f_pmu : k .pmu = false) (f_free : k .free = false) (f_r_cmd : k (.reg .cmd) = false) (f_r_eth : k (.reg .eth) = false) (f_r_flw : k (.reg .flw) = false) (f_r_pmu : k (.reg .pmu) = false) (k2 : Keeps k s0 a2) :
    KeepsOut k s0 (execFlowPacketEnqueue a1 a2) := by
  unfold execFlowPacketEnqueue
  exact (KeepsOut.next (sendNext_keeps f_cmd f_flw f_pmu f_free f_r_cmd f_r_eth f_r_flw f_r_pmu k2))

theorem execPairLegTimeout_keeps {k s0 a1 a2} (f_cmd : k .cmd = false) (f_flt : k .flt = false) (f_xpt : k .xpt = false) (f_red : k .red = false) (f_zl : k .zl = false) (f_eng : k .eng = false) (f_cel : k .cel = false) (f_lease : k .lease = false) (f_pmu : k .pmu = false) (f_out : k .out = false) (f_free : k .free = false) (f_r_cmd : k (.reg .cmd) = false) (f_r_xpt : k (.reg .xpt) = false) (f_r_eth : k (.reg .eth) = false) (f_r_flw : k (.reg .flw) = false) (f_r_cel : k (.reg .cel) = false) (f_r_zl : k (.reg .zl) = false) (f_r_red : k (.reg .red) = false) (f_r_flt : k (.reg .flt) = false) (f_r_pmu : k (.reg .pmu) = false) (k2 : Keeps k s0 a2) :
    KeepsOut k s0 (execPairLegTimeout a1 a2) := by
  unfold execPairLegTimeout
  exact (by lift_lets -underBinder; intro xh1; (try clear_value xh1); intro xh2; (try clear_value xh2); intro xh3; (try clear_value xh3); intro xh4; (try clear_value xh4); intro xh5; (try clear_value xh5); intro xh6; (try clear_value xh6); intro xh7; have h8 : Keeps k s0 xh7 := (by unfold xh7; exact (State.count_keeps f_pmu f_r_pmu (State.p_keeps (.of f_r_flw) k2))); clear_value xh7; exact (KeepsOut.next (keep_ite (Keeps k s0) (keep_ite (Keeps k s0) (occur_keeps f_cmd f_flt f_xpt f_red f_zl f_eng f_cel f_lease f_pmu f_out f_free f_r_cmd f_r_xpt f_r_eth f_r_cel f_r_zl f_r_red f_r_flt f_r_pmu h8) h8) k2)))

theorem writeHringCfg_keeps {k s0 a1 a2 a3 a4} (f_flw : k .flw = false) (f_r_eth : k (.reg .eth) = false) (k4 : Keeps k s0 a4) :
    Keeps k s0 (writeHringCfg a1 a2 a3 a4) := by
  unfold writeHringCfg
  exact (by lift_lets -underBinder; intro xh1; have h2 : Keeps k s0 xh1 := (by unfold xh1; exact (State.write_keeps (.of f_r_eth) k4)); clear_value xh1; intro xh3; intro xh4; intro xh5; have h6 : Keeps k s0 xh5 := (by unfold xh5; exact (keep_ite (Keeps k s0) (State.p_keeps (.of f_r_eth) (State.p_keeps (.of f_r_eth) (State.setPort_keeps f_flw h2))) h2)); clear_value xh5; intro xh7; exact (keep_ite (Keeps k s0) (State.p_keeps (.of f_r_eth) (State.p_keeps (.of f_r_eth) (State.setPort_keeps f_flw h6))) h6))

theorem goodStats_keeps {k s0 a1 a2 a3 a4} (f_cmd : k .cmd = false) (f_pmu : k .pmu = false) (f_r_cmd : k (.reg .cmd) = false) (f_r_eth : k (.reg .eth) = false) (f_r_pmu : k (.reg .pmu) = false) (k4 : Keeps k s0 a4) :
    Keeps k s0 (goodStats a1 a2 a3 a4) := by
  unfold goodStats
  exact (by lift_lets -underBinder; intro xh1; (try clear_value xh1); intro xh2; have h4 : Keeps k s0 xh2 := (by unfold xh2; exact (keep_each (fun _ _ h3 => (ethStat_keeps f_cmd f_pmu f_r_cmd f_r_eth f_r_pmu h3)) k4)); clear_value xh2; exact (keep_when (fun _ h5 => (ethStat_keeps f_cmd f_pmu f_r_cmd f_r_eth f_r_pmu h5)) h4))

theorem pausePriority_keeps {k s0 a1 a2 a3 a4 a5} (f_cmd : k .cmd = false) (f_flw : k .flw = false) (f_pmu : k .pmu = false) (f_r_cmd : k (.reg .cmd) = false) (f_r_eth : k (.reg .eth) = false) (f_r_pmu : k (.reg .pmu) = false) (k5 : Keeps k s0 a5) :
    Keeps k s0 (pausePriority a1 a2 a3 a4 a5) := by
  unfold pausePriority
  exact (by lift_lets -underBinder; intro xh1; (try clear_value xh1); intro xh2; (try clear_value xh2); exact (keep_each (fun _ _ h3 => (by lift_lets -underBinder; intro xh4; (try clear_value xh4); intro xh5; (try clear_value xh5); intro xh6; (try clear_value xh6); intro xh7; have h8 : Keeps k s0 xh7 := (by unfold xh7; exact (State.setPort_keeps f_flw h3)); clear_value xh7; exact (ethStat_keeps f_cmd f_pmu f_r_cmd f_r_eth f_r_pmu (State.p_keeps (.of f_r_eth) h8)))) k5))

theorem pfcApply_keeps {k s0 a1 a2 a3 a4 a5} (f_cmd : k .cmd = false) (f_flw : k .flw = false) (f_pmu : k .pmu = false) (f_out : k .out = false) (f_r_cmd : k (.reg .cmd) = false) (f_r_eth : k (.reg .eth) = false) (f_r_pmu : k (.reg .pmu) = false) (k5 : Keeps k s0 a5) :
    Keeps k s0 (pfcApply a1 a2 a3 a4 a5) := by
  unfold pfcApply
  exact (by lift_lets -underBinder; intro xh1; have h2 : Keeps k s0 xh1 := (by unfold xh1; exact (ethStat_keeps f_cmd f_pmu f_r_cmd f_r_eth f_r_pmu k5)); clear_value xh1; exact (keep_ite (Keeps k s0) (txGo_keeps f_cmd f_flw f_pmu f_out f_r_cmd f_r_eth f_r_pmu (keep_each (fun _ _ h3 => (pausePriority_keeps f_cmd f_flw f_pmu f_r_cmd f_r_eth f_r_pmu h3)) h2)) h2))

theorem hostDeliver_keeps {k s0 a1 a2 a3 a4 a5 a6 a7} (f_cmd : k .cmd = false) (f_pmu : k .pmu = false) (f_out : k .out = false) (f_r_cmd : k (.reg .cmd) = false) (f_r_eth : k (.reg .eth) = false) (f_r_pmu : k (.reg .pmu) = false) (k7 : Keeps k s0 a7) :
    Keeps k s0 (hostDeliver a1 a2 a3 a4 a5 a6 a7) := by
  unfold hostDeliver
  exact (by lift_lets -underBinder; intro xh1; (try clear_value xh1); intro xh2; (try clear_value xh2); intro xh3; (try clear_value xh3); intro xh4; (try clear_value xh4); exact (keep_ite (Keeps k s0) (ethStat_keeps f_cmd f_pmu f_r_cmd f_r_eth f_r_pmu k7) (by split; exact (by lift_lets -underBinder; intro xh5; (try clear_value xh5); intro xh6; have h7 : Keeps k s0 xh6 := (by unfold xh6; exact (State.emit_keeps f_out (dmaWrite_keeps f_out k7))); clear_value xh6; intro xh8; have h9 : Keeps k s0 xh8 := (by unfold xh8; exact (State.emit_keeps f_out h7)); clear_value xh8; intro xh10; have h11 : Keeps k s0 xh10 := (by unfold xh10; exact (State.p_keeps (.of f_r_eth) h9)); clear_value xh10; exact (raiseIrq_keeps f_cmd f_pmu f_out f_r_pmu (ethStat_keeps f_cmd f_pmu f_r_cmd f_r_eth f_r_pmu (keep_when (fun _ h12 => (State.count_keeps f_pmu f_r_pmu h12)) h11)))))))

theorem execEthFrameReceive_keeps {k s0 a1 a2 a3 a4 a5 a6 a7} (f_cmd : k .cmd = false) (f_red : k .red = false) (f_flw : k .flw = false) (f_cel : k .cel = false) (f_mem : k .mem = false) (f_pmu : k .pmu = false) (f_out : k .out = false) (f_r_cmd : k (.reg .cmd) = false) (f_r_eth : k (.reg .eth) = false) (f_r_flw : k (.reg .flw) = false) (f_r_cel : k (.reg .cel) = false) (f_r_pmu : k (.reg .pmu) = false) (k7 : Keeps k s0 a7) :
    KeepsOut k s0 (execEthFrameReceive a1 a2 a3 a4 a5 a6 a7) := by
  unfold execEthFrameReceive
  exact (KeepsOut.next (keep_ite (Keeps k s0) k7 (by split; exact (ethStat_keeps f_cmd f_pmu f_r_cmd f_r_eth f_r_pmu (ethStat_keeps f_cmd f_pmu f_r_cmd f_r_eth f_r_pmu k7)); exact (by lift_lets -underBinder; intro xh1; have h2 : Keeps k s0 xh1 := (by unfold xh1; exact (goodStats_keeps f_cmd f_pmu f_r_cmd f_r_eth f_r_pmu k7)); clear_value xh1; intro xh3; (try clear_value xh3); exact (keep_ite (Keeps k s0) (ethStat_keeps f_cmd f_pmu f_r_cmd f_r_eth f_r_pmu h2) (keep_ite (Keeps k s0) (pfcApply_keeps f_cmd f_flw f_pmu f_out f_r_cmd f_r_eth f_r_pmu h2) (by split; exact (flowReceive_keeps f_cmd f_red f_flw f_cel f_mem f_pmu f_r_cmd f_r_eth f_r_flw f_r_cel f_r_pmu h2); exact (by split; exact (hostDeliver_keeps f_cmd f_pmu f_out f_r_cmd f_r_eth f_r_pmu h2); exact (ethStat_keeps f_cmd f_pmu f_r_cmd f_r_eth f_r_pmu h2)))))))))

theorem execHostRingEnable_keeps {k s0 a1 a2 a3 a4 a5} (f_flw : k .flw = false) (f_pmu : k .pmu = false) (f_r_hif : k (.reg .hif) = false) (f_r_eth : k (.reg .eth) = false) (f_r_pmu : k (.reg .pmu) = false) (f_r_noc : k (.reg .noc) = false) (k5 : Keeps k s0 a5) :
    KeepsOut k s0 (execHostRingEnable a1 a2 a3 a4 a5) := by
  unfold execHostRingEnable
  exact (KeepsOut.next (gate_keeps f_pmu f_r_hif f_r_pmu f_r_noc (fun _ h1 => (keep_ite (Keeps k s0) (writeHringCfg_keeps f_flw f_r_eth h1) h1)) k5))

theorem execPfcFrameReceive_keeps {k s0 a1 a2 a3 a4 a5} (f_cmd : k .cmd = false) (f_flw : k .flw = false) (f_pmu : k .pmu = false) (f_out : k .out = false) (f_r_cmd : k (.reg .cmd) = false) (f_r_eth : k (.reg .eth) = false) (f_r_pmu : k (.reg .pmu) = false) (k5 : Keeps k s0 a5) :
    KeepsOut k s0 (execPfcFrameReceive a1 a2 a3 a4 a5) := by
  unfold execPfcFrameReceive
  exact (by lift_lets -underBinder; intro xh1; (try clear_value xh1); intro xh2; exact (KeepsOut.next (keep_ite (Keeps k s0) k5 (pfcApply_keeps f_cmd f_flw f_pmu f_out f_r_cmd f_r_eth f_r_pmu (goodStats_keeps f_cmd f_pmu f_r_cmd f_r_eth f_r_pmu k5)))))

theorem execEthLinkChange_keeps {k s0 a1 a2 a3 a4 a5 a6 a7} (f_cmd : k .cmd = false) (f_flt : k .flt = false) (f_xpt : k .xpt = false) (f_red : k .red = false) (f_zl : k .zl = false) (f_eng : k .eng = false) (f_cel : k .cel = false) (f_lease : k .lease = false) (f_pmu : k .pmu = false) (f_out : k .out = false) (f_free : k .free = false) (f_r_cmd : k (.reg .cmd) = false) (f_r_xpt : k (.reg .xpt) = false) (f_r_eth : k (.reg .eth) = false) (f_r_cel : k (.reg .cel) = false) (f_r_zl : k (.reg .zl) = false) (f_r_red : k (.reg .red) = false) (f_r_flt : k (.reg .flt) = false) (f_r_pmu : k (.reg .pmu) = false) (k7 : Keeps k s0 a7) :
    KeepsOut k s0 (execEthLinkChange a1 a2 a3 a4 a5 a6 a7) := by
  unfold execEthLinkChange
  exact (by lift_lets -underBinder; intro xh1; have h2 : Keeps k s0 xh1 := (by unfold xh1; exact (State.p_keeps (.of f_r_eth) (State.p_keeps (.of f_r_eth) (State.p_keeps (.of f_r_eth) k7)))); clear_value xh1; exact (KeepsOut.next (keep_ite (Keeps k s0) k7 (setLink_keeps f_cmd f_pmu f_r_cmd f_r_eth f_r_pmu (fun _ _ _ h3 => (occur_keeps f_cmd f_flt f_xpt f_red f_zl f_eng f_cel f_lease f_pmu f_out f_free f_r_cmd f_r_xpt f_r_eth f_r_cel f_r_zl f_r_red f_r_flt f_r_pmu h3)) h2))))

theorem execPfcPauseExpiry_keeps {k s0 a1 a2 a3 a4} (f_cmd : k .cmd = false) (f_flw : k .flw = false) (f_pmu : k .pmu = false) (f_out : k .out = false) (f_r_cmd : k (.reg .cmd) = false) (f_r_eth : k (.reg .eth) = false) (f_r_pmu : k (.reg .pmu) = false) (k4 : Keeps k s0 a4) :
    KeepsOut k s0 (execPfcPauseExpiry a1 a2 a3 a4) := by
  unfold execPfcPauseExpiry
  exact (by lift_lets -underBinder; intro xh1; (try clear_value xh1); exact (KeepsOut.next (by split; exact (by lift_lets -underBinder; intro xh2; (try clear_value xh2); intro xh3; have h4 : Keeps k s0 xh3 := (by unfold xh3; exact (State.setPort_keeps f_flw k4)); clear_value xh3; exact (keep_ite (Keeps k s0) (txGo_keeps f_cmd f_flw f_pmu f_out f_r_cmd f_r_eth f_r_pmu (State.p_keeps (.of f_r_eth) h4)) k4)); exact k4)))

theorem writeHringTail_keeps {k s0 a1 a2 a3 a4 a5} (f_cmd : k .cmd = false) (f_flw : k .flw = false) (f_pmu : k .pmu = false) (f_out : k .out = false) (f_r_cmd : k (.reg .cmd) = false) (f_r_eth : k (.reg .eth) = false) (f_r_pmu : k (.reg .pmu) = false) (k5 : Keeps k s0 a5) :
    Keeps k s0 (writeHringTail a1 a2 a3 a4 a5) := by
  unfold writeHringTail
  exact (by lift_lets -underBinder; intro xh1; have h2 : Keeps k s0 xh1 := (by unfold xh1; exact (State.write_keeps (.of f_r_eth) k5)); clear_value xh1; intro xh3; exact (keep_ite (Keeps k s0) h2 (hostTake_keeps f_cmd f_flw f_pmu f_out f_r_cmd f_r_eth f_r_pmu (State.setPort_keeps f_flw h2))))

theorem execHostRingTailWrite_keeps {k s0 a1 a2 a3 a4 a5 a6} (f_cmd : k .cmd = false) (f_flw : k .flw = false) (f_pmu : k .pmu = false) (f_out : k .out = false) (f_r_hif : k (.reg .hif) = false) (f_r_cmd : k (.reg .cmd) = false) (f_r_eth : k (.reg .eth) = false) (f_r_pmu : k (.reg .pmu) = false) (f_r_noc : k (.reg .noc) = false) (k6 : Keeps k s0 a6) :
    KeepsOut k s0 (execHostRingTailWrite a1 a2 a3 a4 a5 a6) := by
  unfold execHostRingTailWrite
  exact (KeepsOut.next (gate_keeps f_pmu f_r_hif f_r_pmu f_r_noc (fun _ h1 => (keep_ite (Keeps k s0) (writeHringTail_keeps f_cmd f_flw f_pmu f_out f_r_cmd f_r_eth f_r_pmu h1) h1)) k6))

theorem execEthTxFrameEnd_keeps {k s0 a1 a2 a3} (f_cmd : k .cmd = false) (f_flt : k .flt = false) (f_xpt : k .xpt = false) (f_ptp : k .ptp = false) (f_red : k .red = false) (f_flw : k .flw = false) (f_zl : k .zl = false) (f_eng : k .eng = false) (f_cel : k .cel = false) (f_lease : k .lease = false) (f_pmu : k .pmu = false) (f_out : k .out = false) (f_free : k .free = false) (f_r_cmd : k (.reg .cmd) = false) (f_r_xpt : k (.reg .xpt) = false) (f_r_ptp : k (.reg .ptp) = false) (f_r_eth : k (.reg .eth) = false) (f_r_cel : k (.reg .cel) = false) (f_r_zl : k (.reg .zl) = false) (f_r_red : k (.reg .red) = false) (f_r_flt : k (.reg .flt) = false) (f_r_pmu : k (.reg .pmu) = false) (k3 : Keeps k s0 a3) :
    KeepsOut k s0 (execEthTxFrameEnd a1 a2 a3) := by
  unfold execEthTxFrameEnd
  exact (by lift_lets -underBinder; intro xh1; (try clear_value xh1); exact (KeepsOut.next (by split; exact (txGo_keeps f_cmd f_flw f_pmu f_out f_r_cmd f_r_eth f_r_pmu (frameSent_keeps f_cmd f_flt f_xpt f_ptp f_red f_flw f_zl f_eng f_cel f_lease f_pmu f_out f_free f_r_cmd f_r_xpt f_r_ptp f_r_eth f_r_cel f_r_zl f_r_red f_r_flt f_r_pmu (State.setPort_keeps f_flw k3))); exact k3)))

theorem writeMacCfg_keeps {k s0 a1 a2 a3 a4} (f_cmd : k .cmd = false) (f_flw : k .flw = false) (f_pmu : k .pmu = false) (f_out : k .out = false) (f_r_cmd : k (.reg .cmd) = false) (f_r_eth : k (.reg .eth) = false) (f_r_pmu : k (.reg .pmu) = false) (k4 : Keeps k s0 a4) :
    Keeps k s0 (writeMacCfg a1 a2 a3 a4) := by
  unfold writeMacCfg
  exact (by lift_lets -underBinder; intro xh1; (try clear_value xh1); intro xh2; (try clear_value xh2); intro xh3; have h4 : Keeps k s0 xh3 := (by unfold xh3; exact (State.write_keeps (.of f_r_eth) k4)); clear_value xh3; exact (txGo_keeps f_cmd f_flw f_pmu f_out f_r_cmd f_r_eth f_r_pmu (keep_ite (Keeps k s0) h4 (State.p_keeps (.of f_r_eth) h4))))

theorem execFecCodewordReceive_keeps {k s0 a1 a2 a3 a4} (f_cmd : k .cmd = false) (f_flt : k .flt = false) (f_xpt : k .xpt = false) (f_red : k .red = false) (f_zl : k .zl = false) (f_eng : k .eng = false) (f_cel : k .cel = false) (f_lease : k .lease = false) (f_pmu : k .pmu = false) (f_out : k .out = false) (f_free : k .free = false) (f_r_cmd : k (.reg .cmd) = false) (f_r_xpt : k (.reg .xpt) = false) (f_r_eth : k (.reg .eth) = false) (f_r_cel : k (.reg .cel) = false) (f_r_zl : k (.reg .zl) = false) (f_r_red : k (.reg .red) = false) (f_r_flt : k (.reg .flt) = false) (f_r_pmu : k (.reg .pmu) = false) (k4 : Keeps k s0 a4) :
    KeepsOut k s0 (execFecCodewordReceive a1 a2 a3 a4) := by
  unfold execFecCodewordReceive
  exact (KeepsOut.next (keep_ite (Keeps k s0) k4 (by split; exact (ethStat_keeps f_cmd f_pmu f_r_cmd f_r_eth f_r_pmu k4); exact (occur_keeps f_cmd f_flt f_xpt f_red f_zl f_eng f_cel f_lease f_pmu f_out f_free f_r_cmd f_r_xpt f_r_eth f_r_cel f_r_zl f_r_red f_r_flt f_r_pmu (ethStat_keeps f_cmd f_pmu f_r_cmd f_r_eth f_r_pmu k4)); exact (ethStat_keeps f_cmd f_pmu f_r_cmd f_r_eth f_r_pmu k4))))

theorem State.setLane_keeps {k s0 a1 a2 a3} (f_zl : k .zl = false) (k1 : Keeps k s0 a1) :
    Keeps k s0 (State.setLane a1 a2 a3) := by
  unfold State.setLane
  exact (by lift_lets -underBinder; intro xh1; exact (k1.set_zl f_zl))

theorem laneErr_keeps {k s0 a1 a2 a3 a4} (f_pmu : k .pmu = false) (f_r_pmu : k (.reg .pmu) = false) (g2 : RegFree k a2.reg) (k4 : Keeps k s0 a4) :
    Keeps k s0 (laneErr a1 a2 a3 a4) := by
  unfold laneErr
  exact (State.count_keeps f_pmu f_r_pmu (State.bump_keeps g2 k4))

theorem prbsReceive_keeps {k s0 a1 a2 a3} (f_zl : k .zl = false) (f_pmu : k .pmu = false) (f_r_zl : k (.reg .zl) = false) (f_r_pmu : k (.reg .pmu) = false) (k3 : Keeps k s0 a3) :
    Keeps k s0 (prbsReceive a1 a2 a3) := by
  unfold prbsReceive
  exact (keep_ite (Keeps k s0) k3 (by split; exact (by lift_lets -underBinder; intro xh1; intro xh2; have h3 : Keeps k s0 xh2 := (by unfold xh2; exact (State.setLane_keeps f_zl k3)); clear_value xh2; exact (State.count_keeps f_pmu f_r_pmu (State.bump_keeps (.of f_r_zl) (State.p_keeps (.of f_r_zl) h3))))))

theorem echo_keeps {k s0 a1 a2 a3} (f_pmu : k .pmu = false) (f_r_zl : k (.reg .zl) = false) (f_r_red : k (.reg .red) = false) (f_r_pmu : k (.reg .pmu) = false) (k3 : Keeps k s0 a3) :
    Keeps k s0 (echo a1 a2 a3) := by
  unfold echo
  exact (by lift_lets -underBinder; intro xh1; (try clear_value xh1); exact (keep_ite (Keeps k s0) (seeEpoch_keeps f_r_red (State.count_keeps f_pmu f_r_pmu (State.p_keeps (.of f_r_zl) (State.p_keeps (.of f_r_zl) (State.p_keeps (.of f_r_zl) k3))))) (keep_ite (Keeps k s0) (State.p_keeps (.of f_r_zl) k3) k3)))

theorem rxHeader_keeps {k s0 a1 a2 a3} (f_cmd : k .cmd = false) (f_flt : k .flt = false) (f_xpt : k .xpt = false) (f_red : k .red = false) (f_zl : k .zl = false) (f_eng : k .eng = false) (f_cel : k .cel = false) (f_lease : k .lease = false) (f_pmu : k .pmu = false) (f_out : k .out = false) (f_free : k .free = false) (f_r_cmd : k (.reg .cmd) = false) (f_r_xpt : k (.reg .xpt) = false) (f_r_eth : k (.reg .eth) = false) (f_r_cel : k (.reg .cel) = false) (f_r_zl : k (.reg .zl) = false) (f_r_red : k (.reg .red) = false) (f_r_flt : k (.reg .flt) = false) (f_r_pmu : k (.reg .pmu) = false) (k3 : Keeps k s0 a3) :
    Keeps k s0 (rxHeader a1 a2 a3) := by
  unfold rxHeader
  exact (by lift_lets -underBinder; intro xh1; intro xh2; (try clear_value xh2); intro xh3; (try clear_value xh3); intro xh4; (try clear_value xh4); exact (by split; exact (State.setLane_keeps f_zl k3); exact (by lift_lets -underBinder; intro xh5; (try clear_value xh5); intro xh6; (try clear_value xh6); exact (keep_ite (Keeps k s0) (State.setLane_keeps f_zl k3) (State.setLane_keeps f_zl k3))); exact (by lift_lets -underBinder; intro xh7; (try clear_value xh7); intro xh8; have h9 : Keeps k s0 xh8 := (by unfold xh8; exact (State.wr_keeps (.of f_r_zl) (State.wr_keeps (.of f_r_zl) k3))); clear_value xh8; exact (keep_ite (Keeps k s0) (leaveUp_keeps f_xpt f_red f_zl f_pmu f_r_xpt f_r_zl f_r_red f_r_pmu (fun _ _ _ h10 => (occur_keeps f_cmd f_flt f_xpt f_red f_zl f_eng f_cel f_lease f_pmu f_out f_free f_r_cmd f_r_xpt f_r_eth f_r_cel f_r_zl f_r_red f_r_flt f_r_pmu h10)) (State.count_keeps f_pmu f_r_pmu k3)) (keep_when (fun _ h11 => (echo_keeps f_pmu f_r_zl f_r_red f_r_pmu h11)) h9))); exact k3))

theorem showFcrc_keeps {k s0 a1 a2} (f_r_zl : k (.reg .zl) = false) (k2 : Keeps k s0 a2) :
    Keeps k s0 (showFcrc a1 a2) := by
  unfold showFcrc
  exact (by lift_lets -underBinder; intro xh1; exact (State.p_keeps (.of f_r_zl) k2))

theorem State.setRxSig_keeps {k s0 a1 a2 a3 a4} (f_zl : k .zl = false) (k1 : Keeps k s0 a1) :
    Keeps k s0 (State.setRxSig a1 a2 a3 a4) := by
  unfold State.setRxSig
  exact (by lift_lets -underBinder; intro xh1; exact (k1.set_zl f_zl))

theorem closeRecord_keeps {k s0 a1 a2 a3 a4} (f_zl : k .zl = false) (k4 : Keeps k s0 a4) :
    Keeps k s0 (closeRecord a1 a2 a3 a4) := by
  unfold closeRecord
  exact (by lift_lets -underBinder; intro xh1; have h2 : Keeps k s0 xh1 := (by unfold xh1; exact (State.setRxSig_keeps f_zl k4)); clear_value xh1; intro xh3; exact (keep_ite (Keeps k s0) h2 (h2.set_zl f_zl)))

theorem rxDescriptor_keeps {k s0 a1 a2 a3 a4 a5 a6} (f_zl : k .zl = false) (f_pmu : k .pmu = false) (f_r_zl : k (.reg .zl) = false) (f_r_pmu : k (.reg .pmu) = false) (k6 : Keeps k s0 a6) :
    Keeps k s0 (rxDescriptor a1 a2 a3 a4 a5 a6) := by
  unfold rxDescriptor
  exact (by lift_lets -underBinder; intro xh1; (try clear_value xh1); intro xh2; have h3 : Keeps k s0 xh2 := (by unfold xh2; exact (keep_ite (Keeps k s0) (closeRecord_keeps f_zl (laneErr_keeps f_pmu f_r_pmu (.of f_r_zl) k6)) k6)); clear_value xh2; intro xh4; have h6 : Keeps k s0 xh4 := (by unfold xh4; exact (keep_when (fun _ h5 => (laneErr_keeps f_pmu f_r_pmu (.of f_r_zl) h5)) h3)); clear_value xh4; intro xh7; (try clear_value xh7); intro xh8; (try clear_value xh8); intro xh9; have h11 : Keeps k s0 xh9 := (by unfold xh9; exact (keep_when (fun _ h10 => (laneErr_keeps f_pmu f_r_pmu (.of f_r_zl) h10)) h6)); clear_value xh9; exact (keep_ite (Keeps k s0) (laneErr_keeps f_pmu f_r_pmu (.of f_r_zl) k6) (State.setRxSig_keeps f_zl h11)))

theorem rxWord_keeps {k s0 a1 a2 a3 a4 a5 a6 a7} (f_cmd : k .cmd = false) (f_flt : k .flt = false) (f_xpt : k .xpt = false) (f_red : k .red = false) (f_zl : k .zl = false) (f_eng : k .eng = false) (f_cel : k .cel = false) (f_lease : k .lease = false) (f_pmu : k .pmu = false) (f_out : k .out = false) (f_free : k .free = false) (f_r_cmd : k (.reg .cmd) = false) (f_r_xpt : k (.reg .xpt) = false) (f_r_eth : k (.reg .eth) = false) (f_r_cel : k (.reg .cel) = false) (f_r_zl : k (.reg .zl) = false) (f_r_red : k (.reg .red) = false) (f_r_flt : k (.reg .flt) = false) (f_r_pmu : k (.reg .pmu) = false) (k7 : Keeps k s0 a7) :
    Keeps k s0 (rxWord a1 a2 a3 a4 a5 a6 a7) := by
  unfold rxWord
  exact (by lift_lets -underBinder; intro xh1; (try clear_value xh1); intro xh2; have h3 : Keeps k s0 xh2 := (by unfold xh2; exact (State.count_keeps f_pmu f_r_pmu k7)); clear_value xh2; intro xh4; (try clear_value xh4); intro xh5; (try clear_value xh5); intro xh6; (try clear_value xh6); intro xh7; (try clear_value xh7); intro xh8; (try clear_value xh8); intro xh9; have h11 : Keeps k s0 xh9 := (by unfold xh9; exact (keep_when (fun _ h10 => (occur_keeps f_cmd f_flt f_xpt f_red f_zl f_eng f_cel f_lease f_pmu f_out f_free f_r_cmd f_r_xpt f_r_eth f_r_cel f_r_zl f_r_red f_r_flt f_r_pmu (laneErr_keeps f_pmu f_r_pmu (.of f_r_zl) h10))) (State.setRxSig_keeps f_zl h3))); clear_value xh9; exact (keep_ite (Keeps k s0) (laneErr_keeps f_pmu f_r_pmu (.of f_r_zl) k7) (keep_ite (Keeps k s0) (laneErr_keeps f_pmu f_r_pmu (.of f_r_zl) k7) (keep_ite (Keeps k s0) (closeRecord_keeps f_zl h11) h11))))

theorem rxBlock_keeps {k s0 a1 a2 a3 a4} (f_cmd : k .cmd = false) (f_flt : k .flt = false) (f_xpt : k .xpt = false) (f_red : k .red = false) (f_zl : k .zl = false) (f_eng : k .eng = false) (f_cel : k .cel = false) (f_lease : k .lease = false) (f_pmu : k .pmu = false) (f_out : k .out = false) (f_free : k .free = false) (f_r_cmd : k (.reg .cmd) = false) (f_r_xpt : k (.reg .xpt) = false) (f_r_eth : k (.reg .eth) = false) (f_r_cel : k (.reg .cel) = false) (f_r_zl : k (.reg .zl) = false) (f_r_red : k (.reg .red) = false) (f_r_flt : k (.reg .flt) = false) (f_r_pmu : k (.reg .pmu) = false) (k4 : Keeps k s0 a4) :
    Keeps k s0 (rxBlock a1 a2 a3 a4) := by
  unfold rxBlock
  exact (by lift_lets -underBinder; intro xh1; (try clear_value xh1); intro xh2; (try clear_value xh2); intro xh3; (try clear_value xh3); intro xh4; (try clear_value xh4); exact (keep_ite (Keeps k s0) k4 (keep_ite (Keeps k s0) (laneErr_keeps f_pmu f_r_pmu (.of f_r_zl) k4) (by split; exact (laneErr_keeps f_pmu f_r_pmu (.of f_r_zl) k4); exact (by lift_lets -underBinder; intro xh5; (try clear_value xh5); intro xh6; have h7 : Keeps k s0 xh6 := (by unfold xh6; exact (keep_ite (Keeps k s0) (occur_keeps f_cmd f_flt f_xpt f_red f_zl f_eng f_cel f_lease f_pmu f_out f_free f_r_cmd f_r_xpt f_r_eth f_r_cel f_r_zl f_r_red f_r_flt f_r_pmu (laneErr_keeps f_pmu f_r_pmu (.of f_r_zl) k4)) k4)); clear_value xh6; exact (keep_ite (Keeps k s0) (rxDescriptor_keeps f_zl f_pmu f_r_zl f_r_pmu k4) (rxWord_keeps f_cmd f_flt f_xpt f_red f_zl f_eng f_cel f_lease f_pmu f_out f_free f_r_cmd f_r_xpt f_r_eth f_r_cel f_r_zl f_r_red f_r_flt f_r_pmu h7)))))))

theorem zlReceive_keeps {k s0 a1 a2 a3 a4} (f_cmd : k .cmd = false) (f_flt : k .flt = false) (f_xpt : k .xpt = false) (f_red : k .red = false) (f_zl : k .zl = false) (f_eng : k .eng = false) (f_cel : k .cel = false) (f_lease : k .lease = false) (f_pmu : k .pmu = false) (f_out : k .out = false) (f_free : k .free = false) (f_r_cmd : k (.reg .cmd) = false) (f_r_xpt : k (.reg .xpt) = false) (f_r_eth : k (.reg .eth) = false) (f_r_cel : k (.reg .cel) = false) (f_r_zl : k (.reg .zl) = false) (f_r_red : k (.reg .red) = false) (f_r_flt : k (.reg .flt) = false) (f_r_pmu : k (.reg .pmu) = false) (k4 : Keeps k s0 a4) :
    Keeps k s0 (zlReceive a1 a2 a3 a4) := by
  unfold zlReceive
  exact (by split; exact (by lift_lets -underBinder; intro xh1; (try clear_value xh1); intro xh2; (try clear_value xh2); intro xh3; (try clear_value xh3); intro xh4; have h6 : Keeps k s0 xh4 := (by unfold xh4; exact (keep_each (fun _ _ h5 => (laneErr_keeps f_pmu f_r_pmu (.of f_r_zl) h5)) k4)); clear_value xh4; intro xh7; intro xh8; (try clear_value xh8); intro xh9; (try clear_value xh9); intro xh10; (try clear_value xh10); intro xh11; have h12 : Keeps k s0 xh11 := (by unfold xh11; exact (State.setLane_keeps f_zl h6)); clear_value xh11; intro xh13; have h14 : Keeps k s0 xh13 := (by unfold xh13; exact (keep_ite (Keeps k s0) (State.setLane_keeps f_zl h6) (keep_ite (Keeps k s0) (rxHeader_keeps f_cmd f_flt f_xpt f_red f_zl f_eng f_cel f_lease f_pmu f_out f_free f_r_cmd f_r_xpt f_r_eth f_r_cel f_r_zl f_r_red f_r_flt f_r_pmu h12) (laneErr_keeps f_pmu f_r_pmu (.of f_r_zl) h12)))); clear_value xh13; intro xh15; have h16 : Keeps k s0 xh15 := (by unfold xh15; exact (showFcrc_keeps f_r_zl h14)); clear_value xh15; exact (keep_ite (Keeps k s0) (State.setLane_keeps f_zl h6) (keep_ite (Keeps k s0) (keep_each (fun _ _ h17 => (rxBlock_keeps f_cmd f_flt f_xpt f_red f_zl f_eng f_cel f_lease f_pmu f_out f_free f_r_cmd f_r_xpt f_r_eth f_r_cel f_r_zl f_r_red f_r_flt f_r_pmu h17)) h16) h16))))

theorem partnerBlock_keeps {k s0 a1 a2} (f_red : k .red = false) (f_free : k .free = false) (k2 : Keeps k s0 a2) :
    KeepsP k s0 (partnerBlock a1 a2) := by
  unfold partnerBlock
  exact (by lift_lets -underBinder; intro xh1; (try clear_value xh1); intro xh2; exact (by split; exact k2; exact (by split; (rename_i vh3 vh4 he; have h5 := KeepsP.of_eq he (State.freeNat_keeps f_free k2); exact (by lift_lets -underBinder; intro xh6; (try clear_value xh6); intro xh7; exact (h5.set_red f_red rfl (.inr rfl)))))))

theorem partnerFrame_keeps {k s0 a1 a2} (f_red : k .red = false) (f_free : k .free = false) (k2 : Keeps k s0 a2) :
    KeepsP k s0 (partnerFrame a1 a2) := by
  unfold partnerFrame
  exact (keep_foldl (KeepsP k s0) (fun _ _ h1 => (by split; (rename_i vh2 vh3 he; have h4 := KeepsP.of_eq he (partnerBlock_keeps f_red f_free h1); exact h4))) k2)

theorem txDiscard_keeps {k s0 a1 a2 a3} (f_zl : k .zl = false) (f_pmu : k .pmu = false) (f_r_zl : k (.reg .zl) = false) (f_r_pmu : k (.reg .pmu) = false) (k3 : Keeps k s0 a3) :
    Keeps k s0 (txDiscard a1 a2 a3) := by
  unfold txDiscard
  exact (by lift_lets -underBinder; intro xh1; intro xh2; (try clear_value xh2); exact (laneErr_keeps f_pmu f_r_pmu (.of f_r_zl) (State.setLane_keeps f_zl k3)))

theorem txArrive_keeps {k s0 a1 a2 a3}  (f_zl : k .zl = false) (f_pmu : k .pmu = false) (f_r_zl : k (.reg .zl) = false) (f_r_pmu : k (.reg .pmu) = false) (k3 : Keeps k s0 a3) : Keeps k s0 (txArrive a1 a2 a3) := by
  induction a2 generalizing a3 with
  | zero => exact k3
  | succ n ih =>
    unfold txArrive
    dsimp only
    split
    · exact k3
    · exact ih (keep_ite (Keeps k s0) (txDiscard_keeps f_zl f_pmu f_r_zl f_r_pmu (State.setLane_keeps f_zl k3))
        (State.setLane_keeps f_zl (State.setLane_keeps f_zl k3)))

theorem txBlock_keeps {k s0 a1 a2 a3} (f_zl : k .zl = false) (f_pmu : k .pmu = false) (f_r_pmu : k (.reg .pmu) = false) (k3 : Keeps k s0 a3) :
    KeepsP k s0 (txBlock a1 a2 a3) := by
  unfold txBlock
  exact (by lift_lets -underBinder; intro xh1; exact (by split; exact k3; exact (by split; exact (keep_ite (KeepsP k s0) k3 (State.setLane_keeps f_zl k3)); exact (by lift_lets -underBinder; intro xh2; (try clear_value xh2); intro xh3; (try clear_value xh3); exact (State.count_keeps f_pmu f_r_pmu (State.setLane_keeps f_zl k3))))))

theorem txBlocks_keeps {k s0 a1 a2 a3} (f_zl : k .zl = false) (f_pmu : k .pmu = false) (f_r_zl : k (.reg .zl) = false) (f_r_pmu : k (.reg .pmu) = false) (k3 : Keeps k s0 a3) :
    KeepsP k s0 (txBlocks a1 a2 a3) := by
  unfold txBlocks
  exact (by lift_lets -underBinder; intro xh1; have h2 : Keeps k s0 xh1 := (by unfold xh1; exact (txArrive_keeps f_zl f_pmu f_r_zl f_r_pmu k3)); clear_value xh1; exact (keep_foldl (KeepsP k s0) (fun _ _ h3 => (by split; (rename_i vh4 vh5 he; have h6 := KeepsP.of_eq he (txBlock_keeps f_zl f_pmu f_r_pmu (txArrive_keeps f_zl f_pmu f_r_zl f_r_pmu h3)); exact h6))) h2))

theorem prbsSend_keeps {k s0 a1 a2}  (f_zl : k .zl = false) (f_out : k .out = false) (f_free : k .free = false) (k2 : Keeps k s0 a2) : Keeps k s0 (prbsSend a1 a2) := by
  unfold prbsSend
  generalize frameBits = w
  dsimp only
  refine State.emit_keeps f_out (State.setLane_keeps f_zl ?_)
  split
  · exact k2
  · exact State.freeNat_keeps (a2 := 31) f_free k2

theorem zlTransmit_keeps {k s0 a1 a2 a3} (f_red : k .red = false) (f_zl : k .zl = false) (f_pmu : k .pmu = false) (f_out : k .out = false) (f_free : k .free = false) (f_r_zl : k (.reg .zl) = false) (f_r_pmu : k (.reg .pmu) = false) (k3 : Keeps k s0 a3) :
    Keeps k s0 (zlTransmit a1 a2 a3) := by
  unfold zlTransmit
  exact (by lift_lets -underBinder; intro xh1; (try clear_value xh1); exact (by split; (rename_i vh2 vh3 he; have h4 := KeepsP.of_eq he (keep_ite (KeepsP k s0) (txBlocks_keeps f_zl f_pmu f_r_zl f_r_pmu k3) (partnerFrame_keeps f_red f_free k3)); exact (by split; (rename_i vh5 vh6 he; have h7 := KeepsP.of_eq he (by split; exact h4; exact (State.freeNat_keeps f_free h4)); exact (by lift_lets -underBinder; intro xh8; (try clear_value xh8); exact (by split; exact (by lift_lets -underBinder; intro xh9; (try clear_value xh9); intro xh10; intro xh11; have h12 : Keeps k s0 xh11 := (by unfold xh11; exact (State.count_keeps f_pmu f_r_pmu (State.setLane_keeps f_zl h7))); clear_value xh11; exact (keep_ite (Keeps k s0) (prbsSend_keeps f_zl f_out f_free h12) (keep_ite (Keeps k s0) h12 (State.emit_keeps f_out h12)))))))))))

theorem laneOut_keeps {k s0 a1 a2 a3 a4} (f_zl : k .zl = false) (f_free : k .free = false) (k4 : Keeps k s0 a4) :
    Keeps k s0 (laneOut a1 a2 a3 a4) := by
  unfold laneOut
  exact (by lift_lets -underBinder; intro xh1; (try clear_value xh1); intro xh2; (try clear_value xh2); exact (keep_ite (Keeps k s0) k4 (by split; (rename_i vh3 vh4 he; have h5 := KeepsP.of_eq he (by split; exact k4; exact (State.freeNat_keeps f_free k4)); exact (by lift_lets -underBinder; intro xh6; (try clear_value xh6); intro xh7; (try clear_value xh7); intro xh8; (try clear_value xh8); intro xh9; intro xh10; have h11 : Keeps k s0 xh10 := (by unfold xh10; exact (State.setLane_keeps f_zl h5)); clear_value xh10; intro xh12; exact (h11.set_zl f_zl))))))

theorem nextRecord_keeps {k s0 a1 a2 a3} (f_cmd : k .cmd = false) (f_flt : k .flt = false) (f_xpt : k .xpt = false) (f_red : k .red = false) (f_flw : k .flw = false) (f_zl : k .zl = false) (f_eng : k .eng = false) (f_cel : k .cel = false) (f_lease : k .lease = false) (f_mem : k .mem = false) (f_pmu : k .pmu = false) (f_out : k .out = false) (f_free : k .free = false) (f_r_cmd : k (.reg .cmd) = false) (f_r_xpt : k (.reg .xpt) = false) (f_r_eth : k (.reg .eth) = false) (f_r_eng : k (.reg .eng) = false) (f_r_cel : k (.reg .cel) = false) (f_r_zl : k (.reg .zl) = false) (f_r_red : k (.reg .red) = false) (f_r_flt : k (.reg .flt) = false) (f_r_pmu : k (.reg .pmu) = false) (k1 : Keeps k s0 a1) :
    KeepsP k s0 (nextRecord a1 a2 a3) := by
  unfold nextRecord
  exact (by lift_lets -underBinder; intro xh1; (try clear_value xh1); intro xh2; (try clear_value xh2); intro xh3; have h4 : Keeps k s0 xh3 := (by unfold xh3; exact (engFlush_keeps f_cmd f_flt f_xpt f_red f_zl f_eng f_cel f_lease f_mem f_pmu f_out f_free f_r_cmd f_r_xpt f_r_eth f_r_eng f_r_cel f_r_zl f_r_red f_r_flt f_r_pmu k1)); clear_value xh3; intro xh5; intro xh6; intro xh7; exact (keep_ite (KeepsP k s0) (by split; exact k1; exact k1) (keep_ite (KeepsP k s0) (h4.set_eng f_eng rfl) (keep_ite (KeepsP k s0) (k1.set_flw f_flw (.inr rfl)) (keep_ite (KeepsP k s0) k1 (k1.set_zl f_zl))))))

theorem probeSource_keeps {k s0 a1 a2 a3 a4} (f_xpt : k .xpt = false) (k4 : Keeps k s0 a4) :
    Keeps k s0 (probeSource a1 a2 a3 a4) := by
  unfold probeSource
  exact (by lift_lets -underBinder; intro xh1; (try clear_value xh1); intro xh2; exact (keep_ite (Keeps k s0) (k4.set_xpt f_xpt) k4))

theorem alignSample_keeps {k s0 a1 a2 a3 a4 a5} (f_cmd : k .cmd = false) (f_flt : k .flt = false) (f_xpt : k .xpt = false) (f_red : k .red = false) (f_zl : k .zl = false) (f_eng : k .eng = false) (f_cel : k .cel = false) (f_lease : k .lease = false) (f_pmu : k .pmu = false) (f_out : k .out = false) (f_free : k .free = false) (f_r_cmd : k (.reg .cmd) = false) (f_r_xpt : k (.reg .xpt) = false) (f_r_eth : k (.reg .eth) = false) (f_r_cel : k (.reg .cel) = false) (f_r_zl : k (.reg .zl) = false) (f_r_red : k (.reg .red) = false) (f_r_flt : k (.reg .flt) = false) (f_r_pmu : k (.reg .pmu) = false) (k5 : Keeps k s0 a5) :
    Keeps k s0 (alignSample a1 a2 a3 a4 a5) := by
  unfold alignSample
  exact (by lift_lets -underBinder; intro xh1; (try clear_value xh1); intro xh2; (try clear_value xh2); intro xh3; (try clear_value xh3); exact (by split; exact (by lift_lets -underBinder; intro xh4; (try clear_value xh4); intro xh5; (try clear_value xh5); intro xh6; have h7 : Keeps k s0 xh6 := (by unfold xh6; exact (State.p_keeps (.of f_r_xpt) (State.p_keeps (.of f_r_xpt) (State.p_keeps (.of f_r_xpt) k5)))); clear_value xh6; intro xh8; have h10 : Keeps k s0 xh8 := (by unfold xh8; exact (keep_when (fun _ h9 => (State.count_keeps f_pmu f_r_pmu h9)) h7)); clear_value xh8; intro xh11; exact (histSample_keeps f_cmd f_flt f_xpt f_red f_zl f_eng f_cel f_lease f_pmu f_out f_free f_r_cmd f_r_xpt f_r_eth f_r_cel f_r_zl f_r_red f_r_flt f_r_pmu (h10.set_xpt f_xpt))); exact k5))

theorem genLines_keeps {k s0 a1 a2} (f_cmd : k .cmd = false) (f_flt : k .flt = false) (f_xpt : k .xpt = false) (f_red : k .red = false) (f_zl : k .zl = false) (f_eng : k .eng = false) (f_cel : k .cel = false) (f_lease : k .lease = false) (f_pmu : k .pmu = false) (f_out : k .out = false) (f_free : k .free = false) (f_r_cmd : k (.reg .cmd) = false) (f_r_xpt : k (.reg .xpt) = false) (f_r_eth : k (.reg .eth) = false) (f_r_cel : k (.reg .cel) = false) (f_r_zl : k (.reg .zl) = false) (f_r_red : k (.reg .red) = false) (f_r_flt : k (.reg .flt) = false) (f_r_pmu : k (.reg .pmu) = false) (k2 : Keeps k s0 a2) :
    Keeps k s0 (genLines a1 a2) := by
  unfold genLines
  exact (by lift_lets -underBinder; intro xh1; (try clear_value xh1); intro xh2; (try clear_value xh2); exact (by split; exact k2; exact (keep_each (fun _ _ h3 => (by lift_lets -underBinder; intro xh4; exact (by split; exact (by lift_lets -underBinder; intro xh5; intro xh6; exact (h3.set_many (by intro p hp; cases p <;> first | exact rfl | exact id | exact fun _ _ => rfl | simp [f_xpt, f_cel] at hp))); exact (occur_keeps f_cmd f_flt f_xpt f_red f_zl f_eng f_cel f_lease f_pmu f_out f_free f_r_cmd f_r_xpt f_r_eth f_r_cel f_r_zl f_r_red f_r_flt f_r_pmu (State.count_keeps f_pmu f_r_pmu (State.bump_keeps (.of f_r_xpt) h3)))))) k2)))

theorem enterBus_keeps {k s0 a1 a2 a3 a4 a5} (f_cmd : k .cmd = false) (f_flt : k .flt = false) (f_xpt : k .xpt = false) (f_red : k .red = false) (f_aud : k .aud = false) (f_zl : k .zl = false) (f_eng : k .eng = false) (f_cel : k .cel = false) (f_lease : k .lease = false) (f_pmu : k .pmu = false) (f_out : k .out = false) (f_free : k .free = false) (f_r_cmd : k (.reg .cmd) = false) (f_r_xpt : k (.reg .xpt) = false) (f_r_eth : k (.reg .eth) = false) (f_r_aud : k (.reg .aud) = false) (f_r_cel : k (.reg .cel) = false) (f_r_zl : k (.reg .zl) = false) (f_r_red : k (.reg .red) = false) (f_r_flt : k (.reg .flt) = false) (f_r_pmu : k (.reg .pmu) = false) (k5 : Keeps k s0 a5) :
    Keeps k s0 (enterBus a1 a2 a3 a4 a5) := by
  unfold enterBus
  exact (by lift_lets -underBinder; intro xh1; (try clear_value xh1); intro xh2; have h3 : Keeps k s0 xh2 := (by unfold xh2; exact (probeSource_keeps f_xpt (alignSample_keeps f_cmd f_flt f_xpt f_red f_zl f_eng f_cel f_lease f_pmu f_out f_free f_r_cmd f_r_xpt f_r_eth f_r_cel f_r_zl f_r_red f_r_flt f_r_pmu k5))); clear_value xh2; intro xh4; exact (deRecord_keeps f_cmd f_flt f_xpt f_red f_aud f_zl f_eng f_cel f_lease f_pmu f_out f_free f_r_cmd f_r_xpt f_r_eth f_r_aud f_r_cel f_r_zl f_r_red f_r_flt f_r_pmu (h3.set_xpt f_xpt)))

theorem probeDest_keeps {k s0 a1 a2 a3 a4} (f_xpt : k .xpt = false) (k4 : Keeps k s0 a4) :
    Keeps k s0 (probeDest a1 a2 a3 a4) := by
  unfold probeDest
  exact (by lift_lets -underBinder; intro xh1; exact (keep_ite (Keeps k s0) (k4.set_xpt f_xpt) k4))

theorem showQl_keeps {k s0 a1} (f_r_ref : k (.reg .ref) = false) (k1 : Keeps k s0 a1) :
    Keeps k s0 (showQl a1) := by
  unfold showQl
  exact (State.p_keeps (.of f_r_ref) k1)

theorem measured_keeps {k s0 a1 a2 a3} (f_ref : k .ref = false) (f_pmu : k .pmu = false) (f_r_pmu : k (.reg .pmu) = false) (k3 : Keeps k s0 a3) :
    Keeps k s0 (measured a1 a2 a3) := by
  unfold measured
  exact (by lift_lets -underBinder; intro xh1; (try clear_value xh1); intro xh2; (try clear_value xh2); intro xh3; (try clear_value xh3); intro xh4; intro xh5; have h6 : Keeps k s0 xh5 := (by unfold xh5; exact (k3.set_ref f_ref (.inr rfl))); clear_value xh5; intro xh7; intro xh8; have h9 : Keeps k s0 xh8 := (by unfold xh8; exact (keep_ite (Keeps k s0) (State.count_keeps f_pmu f_r_pmu (h6.set_ref f_ref (.inr rfl))) h6)); clear_value xh8; intro xh10; exact (keep_ite (Keeps k s0) (h9.set_ref f_ref (.inr rfl)) h9))

theorem averageSample_keeps {k s0 a1 a2} (f_ref : k .ref = false) (f_r_ref : k (.reg .ref) = false) (k2 : Keeps k s0 a2) :
    Keeps k s0 (averageSample a1 a2) := by
  unfold averageSample
  exact (by lift_lets -underBinder; intro xh1; intro xh2; (try clear_value xh2); intro xh3; (try clear_value xh3); intro xh4; (try clear_value xh4); intro xh5; (try clear_value xh5); intro xh6; have h7 : Keeps k s0 xh6 := (by unfold xh6; exact (k2.set_ref f_ref (.inr rfl))); clear_value xh6; exact (keep_ite (Keeps k s0) (k2.set_ref f_ref (.inr rfl)) (State.p_keeps (.of f_r_ref) (State.p_keeps (.of f_r_ref) h7))))

theorem setFreq_keeps {k s0 a1 a2} (f_r_ref : k (.reg .ref) = false) (k2 : Keeps k s0 a2) :
    Keeps k s0 (setFreq a1 a2) := by
  unfold setFreq
  exact (State.p_keeps (.of f_r_ref) k2)

theorem lockSample_keeps {k s0 a1 a2} (f_ref : k .ref = false) (k2 : Keeps k s0 a2) :
    Keeps k s0 (lockSample a1 a2) := by
  unfold lockSample
  exact (by lift_lets -underBinder; intro xh1; intro xh2; (try clear_value xh2); exact (keep_ite (Keeps k s0) (k2.set_ref f_ref (.inr rfl)) (k2.set_ref f_ref (.inr rfl))))

theorem setDpll_keeps {k s0 a1 a2} (f_cmd : k .cmd = false) (f_flt : k .flt = false) (f_xpt : k .xpt = false) (f_red : k .red = false) (f_zl : k .zl = false) (f_eng : k .eng = false) (f_cel : k .cel = false) (f_ref : k .ref = false) (f_lease : k .lease = false) (f_pmu : k .pmu = false) (f_out : k .out = false) (f_free : k .free = false) (f_r_cmd : k (.reg .cmd) = false) (f_r_xpt : k (.reg .xpt) = false) (f_r_ref : k (.reg .ref) = false) (f_r_eth : k (.reg .eth) = false) (f_r_cel : k (.reg .cel) = false) (f_r_zl : k (.reg .zl) = false) (f_r_red : k (.reg .red) = false) (f_r_flt : k (.reg .flt) = false) (f_r_pmu : k (.reg .pmu) = false) (k2 : Keeps k s0 a2) :
    Keeps k s0 (setDpll a1 a2) := by
  unfold setDpll
  exact (by lift_lets -underBinder; intro xh1; (try clear_value xh1); intro xh2; have h3 : Keeps k s0 xh2 := (by unfold xh2; exact (State.p_keeps (.of f_r_ref) k2)); clear_value xh2; intro xh4; have h5 : Keeps k s0 xh4 := (by unfold xh4; exact (keep_ite (Keeps k s0) h3 (State.count_keeps f_pmu f_r_pmu h3))); clear_value xh4; intro xh6; intro xh7; have h8 : Keeps k s0 xh7 := (by unfold xh7; exact (keep_ite (Keeps k s0) (h5.set_ref f_ref (.inr rfl)) (keep_ite (Keeps k s0) (setFreq_keeps f_r_ref h5) h5))); clear_value xh7; intro xh9; intro xh10; have h11 : Keeps k s0 xh10 := (by unfold xh10; exact (h8.set_ref f_ref (.inr rfl))); clear_value xh10; exact (level_keeps f_cmd f_flt f_xpt f_red f_zl f_eng f_cel f_lease f_pmu f_out f_free f_r_cmd f_r_xpt f_r_eth f_r_cel f_r_zl f_r_red f_r_flt f_r_pmu (level_keeps f_cmd f_flt f_xpt f_red f_zl f_eng f_cel f_lease f_pmu f_out f_free f_r_cmd f_r_xpt f_r_eth f_r_cel f_r_zl f_r_red f_r_flt f_r_pmu (showQl_keeps f_r_ref h11))))

theorem restartPulse_keeps {k s0 a1 a2} (f_ref : k .ref = false) (k2 : Keeps k s0 a2) :
    Keeps k s0 (restartPulse a1 a2) := by
  unfold restartPulse
  exact (by lift_lets -underBinder; intro xh1; exact (k2.set_ref f_ref (.inr rfl)))

theorem restartCadPulses_keeps {k s0 a1 a2} (f_ref : k .ref = false) (k2 : Keeps k s0 a2) :
    Keeps k s0 (restartCadPulses a1 a2) := by
  unfold restartCadPulses
  exact (keep_each (fun _ _ h1 => (restartPulse_keeps f_ref h1)) k2)

theorem slewPhase_keeps {k s0 a1} (f_ref : k .ref = false) (k1 : Keeps k s0 a1) :
    Keeps k s0 (slewPhase a1) := by
  unfold slewPhase
  exact (by lift_lets -underBinder; intro xh1; (try clear_value xh1); intro xh2; (try clear_value xh2); intro xh3; exact (k1.set_ref f_ref (.inr rfl)))

theorem passPulses_keeps {k s0 a1} (f_ref : k .ref = false) (k1 : Keeps k s0 a1) :
    Keeps k s0 (passPulses a1) := by
  unfold passPulses
  exact (by lift_lets -underBinder; intro xh1; exact (k1.set_ref f_ref (.inr rfl)))

theorem stepH_keeps {k s0 a1 a2} (f_aud : k .aud = false) (f_ref : k .ref = false) (f_house : k .house = false) (k2 : Keeps k s0 a2) :
    Keeps k s0 (stepH a1 a2) := by
  unfold stepH
  exact (by lift_lets -underBinder; intro xh1; intro xh2; have h3 : Keeps k s0 xh2 := (by unfold xh2; exact (k2.set_ref f_ref (.inl f_house))); clear_value xh2; exact (audStep_keeps f_aud (passPulses_keeps f_ref h3)))

theorem nextDate_keeps {k s0 a1} (f_pmu : k .pmu = false) (f_r_ref : k (.reg .ref) = false) (f_r_pmu : k (.reg .pmu) = false) (k1 : Keeps k s0 a1) :
    Keeps k s0 (nextDate a1) := by
  unfold nextDate
  exact (by lift_lets -underBinder; intro xh1; (try clear_value xh1); intro xh2; (try clear_value xh2); intro xh3; (try clear_value xh3); intro xh4; subst xh4; intro xh5; have h6 : Keeps k s0 xh5 := (by unfold xh5; exact (State.count_keeps f_pmu f_r_pmu k1)); clear_value xh5; exact (keep_ite (Keeps k s0) (State.p_keeps (.of f_r_ref) (State.p_keeps (.of f_r_ref) (State.p_keeps (.of f_r_ref) h6))) (keep_ite (Keeps k s0) (State.p_keeps (.of f_r_ref) (State.p_keeps (.of f_r_ref) (State.p_keeps (.of f_r_ref) h6))) (keep_ite (Keeps k s0) (State.p_keeps (.of f_r_ref) (State.p_keeps (.of f_r_ref) (State.p_keeps (.of f_r_ref) h6))) (State.p_keeps (.of f_r_ref) h6)))))

theorem passMidnights_keeps {k s0 a1} (f_ref : k .ref = false) (f_pmu : k .pmu = false) (f_r_ref : k (.reg .ref) = false) (f_r_pmu : k (.reg .pmu) = false) (k1 : Keeps k s0 a1) :
    Keeps k s0 (passMidnights a1) := by
  unfold passMidnights
  exact (by lift_lets -underBinder; intro xh1; (try clear_value xh1); intro xh2; intro xh3; have h4 : Keeps k s0 xh3 := (by unfold xh3; exact (k1.set_ref f_ref (.inr rfl))); clear_value xh3; exact (keep_each (fun _ _ h5 => (nextDate_keeps f_pmu f_r_ref f_r_pmu h5)) h4))

theorem markFailed_keeps {k s0 a1 a2} (f_cmd : k .cmd = false) (f_flt : k .flt = false) (f_xpt : k .xpt = false) (f_red : k .red = false) (f_zl : k .zl = false) (f_eng : k .eng = false) (f_cel : k .cel = false) (f_ref : k .ref = false) (f_lease : k .lease = false) (f_pmu : k .pmu = false) (f_out : k .out = false) (f_free : k .free = false) (f_r_cmd : k (.reg .cmd) = false) (f_r_xpt : k (.reg .xpt) = false) (f_r_ref : k (.reg .ref) = false) (f_r_eth : k (.reg .eth) = false) (f_r_cel : k (.reg .cel) = false) (f_r_zl : k (.reg .zl) = false) (f_r_red : k (.reg .red) = false) (f_r_flt : k (.reg .flt) = false) (f_r_pmu : k (.reg .pmu) = false) (k2 : Keeps k s0 a2) :
    Keeps k s0 (markFailed a1 a2) := by
  unfold markFailed
  exact (by lift_lets -underBinder; intro xh1; have h2 : Keeps k s0 xh1 := (by unfold xh1; exact (State.p_keeps (.of f_r_ref) (State.p_keeps (.of f_r_ref) k2))); clear_value xh1; intro xh3; intro xh4; have h5 : Keeps k s0 xh4 := (by unfold xh4; exact (h2.set_ref f_ref (.inr rfl))); clear_value xh4; exact (occur_keeps f_cmd f_flt f_xpt f_red f_zl f_eng f_cel f_lease f_pmu f_out f_free f_r_cmd f_r_xpt f_r_eth f_r_cel f_r_zl f_r_red f_r_flt f_r_pmu (State.count_keeps f_pmu f_r_pmu h5)))

theorem refChanged_keeps {k s0 a1 a2 a3} (f_cmd : k .cmd = false) (f_pmu : k .pmu = false) (f_r_cmd : k (.reg .cmd) = false) (f_r_ref : k (.reg .ref) = false) (f_r_pmu : k (.reg .pmu) = false) (k3 : Keeps k s0 a3) :
    Keeps k s0 (refChanged a1 a2 a3) := by
  unfold refChanged
  exact (by lift_lets -underBinder; intro xh1; (try clear_value xh1); intro xh2; (try clear_value xh2); exact (keep_ite (Keeps k s0) k3 (raiseEvent_keeps f_cmd f_pmu f_r_cmd f_r_pmu (State.p_keeps (.of f_r_ref) k3))))

theorem syncEdge_keeps {k s0 a1 a2} (f_ref : k .ref = false) (f_pmu : k .pmu = false) (f_r_pmu : k (.reg .pmu) = false) (k2 : Keeps k s0 a2) :
    Keeps k s0 (syncEdge a1 a2) := by
  unfold syncEdge
  exact (by lift_lets -underBinder; intro xh1; (try clear_value xh1); intro xh2; (try clear_value xh2); intro xh3; (try clear_value xh3); exact (keep_ite (Keeps k s0) (measured_keeps f_ref f_pmu f_r_pmu k2) (by split; exact (measured_keeps f_ref f_pmu f_r_pmu k2))))

theorem State.setTc_keeps {k s0 a1 a2 a3} (f_ptp : k .ptp = false) (k1 : Keeps k s0 a1) :
    Keeps k s0 (State.setTc a1 a2 a3) := by
  unfold State.setTc
  exact (by lift_lets -underBinder; intro xh1; exact (keep_ite (Keeps k s0) (k1.set_ptp f_ptp) (k1.set_ptp f_ptp)))

theorem showPhase_keeps {k s0 a1} (f_r_ref : k (.reg .ref) = false) (k1 : Keeps k s0 a1) :
    Keeps k s0 (showPhase a1) := by
  unfold showPhase
  exact (by lift_lets -underBinder; intro xh1; (try clear_value xh1); intro xh2; (try clear_value xh2); exact (State.p_keeps (.of f_r_ref) (State.p_keeps (.of f_r_ref) k1)))

theorem timeTick_keeps {k s0 a1} (f_ptp : k .ptp = false) (f_ref : k .ref = false) (f_ticks : k .ticks = false) (f_house : k .house = false) (k1 : Keeps k s0 a1) :
    Keeps k s0 (timeTick a1) := by
  unfold timeTick
  exact (by lift_lets -underBinder; intro xh1; have h2 : Keeps k s0 xh1 := (by unfold xh1; exact (k1.set_ticks f_ticks)); clear_value xh1; intro xh3; (try clear_value xh3); intro xh4; intro xh5; exact (keep_ite (Keeps k s0) h2 (h2.set_many (by intro p hp; cases p <;> first | exact rfl | exact id | exact fun _ _ => rfl | simp [f_ptp, f_ref, f_house] at hp))))

theorem zlMeasure_keeps {k s0 a1 a2 a3 a4} (f_ref : k .ref = false) (f_pmu : k .pmu = false) (f_r_pmu : k (.reg .pmu) = false) (k4 : Keeps k s0 a4) :
    Keeps k s0 (zlMeasure a1 a2 a3 a4) := by
  unfold zlMeasure
  exact (keep_each (fun _ _ h1 => (by lift_lets -underBinder; intro xh2; (try clear_value xh2); exact (keep_ite (Keeps k s0) (by split; exact (measured_keeps f_ref f_pmu f_r_pmu h1)) h1))) k4)

theorem newLocalTime_keeps {k s0 a1} (f_ref : k .ref = false) (k1 : Keeps k s0 a1) :
    Keeps k s0 (newLocalTime a1) := by
  unfold newLocalTime
  exact (by lift_lets -underBinder; intro xh1; exact (k1.set_ref f_ref (.inr rfl)))

theorem trackStep_keeps {k s0 a1 a2 a3} (f_ref : k .ref = false) (f_r_ref : k (.reg .ref) = false) (k3 : Keeps k s0 a3) :
    Keeps k s0 (trackStep a1 a2 a3) := by
  unfold trackStep
  exact (by lift_lets -underBinder; intro xh1; (try clear_value xh1); intro xh2; have h3 : Keeps k s0 xh2 := (by unfold xh2; exact (setFreq_keeps f_r_ref (slewPhase_keeps f_ref k3))); clear_value xh2; exact (lockSample_keeps f_ref h3))

theorem track_keeps {k s0 a1 a2} (f_cmd : k .cmd = false) (f_flt : k .flt = false) (f_xpt : k .xpt = false) (f_red : k .red = false) (f_aud : k .aud = false) (f_zl : k .zl = false) (f_eng : k .eng = false) (f_cel : k .cel = false) (f_ref : k .ref = false) (f_lease : k .lease = false) (f_house : k .house = false) (f_pmu : k .pmu = false) (f_out : k .out = false) (f_free : k .free = false) (f_r_cmd : k (.reg .cmd) = false) (f_r_xpt : k (.reg .xpt) = false) (f_r_ref : k (.reg .ref) = false) (f_r_eth : k (.reg .eth) = false) (f_r_cel : k (.reg .cel) = false) (f_r_zl : k (.reg .zl) = false) (f_r_red : k (.reg .red) = false) (f_r_flt : k (.reg .flt) = false) (f_r_pmu : k (.reg .pmu) = false) (k2 : Keeps k s0 a2) :
    Keeps k s0 (track a1 a2) := by
  unfold track
  exact (by lift_lets -underBinder; intro xh1; (try clear_value xh1); intro xh2; (try clear_value xh2); intro xh3; intro xh4; have h5 : Keeps k s0 xh4 := (by unfold xh4; exact (k2.set_ref f_ref (.inr rfl))); clear_value xh4; intro xh6; have h7 : Keeps k s0 xh6 := (by unfold xh6; exact (State.count_keeps f_pmu f_r_pmu (State.p_keeps (.of f_r_ref) h5))); clear_value xh6; intro xh8; intro xh9; have h10 : Keeps k s0 xh9 := (by unfold xh9; exact (keep_ite (Keeps k s0) (stepH_keeps f_aud f_ref f_house (h7.set_ref f_ref (.inr rfl))) h7)); clear_value xh9; intro xh11; exact (showPhase_keeps f_r_ref (setDpll_keeps f_cmd f_flt f_xpt f_red f_zl f_eng f_cel f_ref f_lease f_pmu f_out f_free f_r_cmd f_r_xpt f_r_ref f_r_eth f_r_cel f_r_zl f_r_red f_r_flt f_r_pmu (h10.set_ref f_ref (.inr rfl)))))

theorem selectRef_keeps {k s0 a1} (f_cmd : k .cmd = false) (f_flt : k .flt = false) (f_xpt : k .xpt = false) (f_red : k .red = false) (f_aud : k .aud = false) (f_zl : k .zl = false) (f_eng : k .eng = false) (f_cel : k .cel = false) (f_ref : k .ref = false) (f_lease : k .lease = false) (f_house : k .house = false) (f_pmu : k .pmu = false) (f_out : k .out = false) (f_free : k .free = false) (f_r_cmd : k (.reg .cmd) = false) (f_r_xpt : k (.reg .xpt) = false) (f_r_ref : k (.reg .ref) = false) (f_r_eth : k (.reg .eth) = false) (f_r_cel : k (.reg .cel) = false) (f_r_zl : k (.reg .zl) = false) (f_r_red : k (.reg .red) = false) (f_r_flt : k (.reg .flt) = false) (f_r_pmu : k (.reg .pmu) = false) (k1 : Keeps k s0 a1) :
    Keeps k s0 (selectRef a1) := by
  unfold selectRef
  exact (by lift_lets -underBinder; intro xh1; (try clear_value xh1); intro xh2; (try clear_value xh2); intro xh3; have h8 : Keeps k s0 xh3 := (by unfold xh3; exact (by split; exact (by lift_lets -underBinder; intro xh4; intro xh5; have h6 : Keeps k s0 xh5 := (by unfold xh5; exact (k1.set_ref f_ref (.inr rfl))); clear_value xh5; exact (setDpll_keeps f_cmd f_flt f_xpt f_red f_zl f_eng f_cel f_ref f_lease f_pmu f_out f_free f_r_cmd f_r_xpt f_r_ref f_r_eth f_r_cel f_r_zl f_r_red f_r_flt f_r_pmu h6)); exact (by lift_lets -underBinder; intro xh7; exact (keep_ite (Keeps k s0) (showQl_keeps f_r_ref (k1.set_ref f_ref (.inr rfl))) (track_keeps f_cmd f_flt f_xpt f_red f_aud f_zl f_eng f_cel f_ref f_lease f_house f_pmu f_out f_free f_r_cmd f_r_xpt f_r_ref f_r_eth f_r_cel f_r_zl f_r_red f_r_flt f_r_pmu k1))))); clear_value xh3; exact (keep_ite (Keeps k s0) k1 (refChanged_keeps f_cmd f_pmu f_r_cmd f_r_ref f_r_pmu h8)))

theorem writeErrclr_keeps {k s0 a1 a2 a3}  (f_r_zl : k (.reg .zl) = false) (k3 : Keeps k s0 a3) :
    Keeps k s0 (writeErrclr a1 a2 a3) := by
  unfold writeErrclr
  exact keep_ite (Keeps k s0) (State.p_keeps (.of f_r_zl) (State.wr_keeps (.of f_r_zl) (State.wr_keeps (.of f_r_zl)
    (State.wr_keeps (.of f_r_zl) (State.wr_keeps (.of f_r_zl) k3))))) k3

theorem execLaneErrClr_keeps {k s0 a1 a2 a3} (f_pmu : k .pmu = false) (f_r_hif : k (.reg .hif) = false) (f_r_zl : k (.reg .zl) = false) (f_r_pmu : k (.reg .pmu) = false) (f_r_noc : k (.reg .noc) = false) (k3 : Keeps k s0 a3) :
    KeepsOut k s0 (execLaneErrClr a1 a2 a3) := by
  unfold execLaneErrClr
  exact (KeepsOut.next (gate_keeps f_pmu f_r_hif f_r_pmu f_r_noc (fun _ h1 => (writeErrclr_keeps f_r_zl h1)) k3))

theorem writeEyeCtrl_keeps {k s0 a1 a2 a3} (f_pmu : k .pmu = false) (f_r_zl : k (.reg .zl) = false) (f_r_pmu : k (.reg .pmu) = false) (k3 : Keeps k s0 a3) :
    Keeps k s0 (writeEyeCtrl a1 a2 a3) := by
  unfold writeEyeCtrl
  exact (by lift_lets -underBinder; intro xh1; have h2 : Keeps k s0 xh1 := (by unfold xh1; exact (State.write_keeps (.of f_r_zl) k3)); clear_value xh1; exact (keep_ite (Keeps k s0) (State.count_keeps f_pmu f_r_pmu (State.p_keeps (.of f_r_zl) h2)) h2))

theorem quadPower_keeps {k s0 a1 a2} (f_r_zl : k (.reg .zl) = false) (k2 : Keeps k s0 a2) :
    Keeps k s0 (quadPower a1 a2) := by
  unfold quadPower
  exact (keep_ite (Keeps k s0) k2 (State.p_keeps (.of f_r_zl) k2))

theorem laneReachesUp_keeps {k s0 a1 a2 a3} (f_xpt : k .xpt = false) (f_zl : k .zl = false) (f_pmu : k .pmu = false) (f_r_xpt : k (.reg .xpt) = false) (f_r_zl : k (.reg .zl) = false) (f_r_red : k (.reg .red) = false) (f_r_pmu : k (.reg .pmu) = false) (k3 : Keeps k s0 a3) :
    Keeps k s0 (laneReachesUp a1 a2 a3) := by
  unfold laneReachesUp
  exact (by lift_lets -underBinder; intro xh1; (try clear_value xh1); intro xh2; (try clear_value xh2); intro xh3; have h4 : Keeps k s0 xh3 := (by unfold xh3; exact (State.count_keeps f_pmu f_r_pmu (State.p_keeps (.of f_r_zl) (setTrain_keeps f_zl f_r_zl k3)))); clear_value xh3; intro xh5; have h6 : Keeps k s0 xh5 := (by unfold xh5; exact (showFcrc_keeps f_r_zl h4)); clear_value xh5; intro xh7; have h8 : Keeps k s0 xh7 := (by unfold xh7; exact (State.p_keeps (.of f_r_xpt) (State.p_keeps (.of f_r_xpt) h6))); clear_value xh7; intro xh9; exact (keep_ite (Keeps k s0) (State.p_keeps (.of f_r_red) h6) (keep_ite (Keeps k s0) (h8.set_xpt f_xpt) h8)))

theorem execPrbsChkLock_keeps {k s0 a1 a2 a3} (f_zl : k .zl = false) (f_pmu : k .pmu = false) (f_r_zl : k (.reg .zl) = false) (f_r_pmu : k (.reg .pmu) = false) (k3 : Keeps k s0 a3) :
    KeepsOut k s0 (execPrbsChkLock a1 a2 a3) := by
  unfold execPrbsChkLock
  exact (KeepsOut.next (prbsReceive_keeps f_zl f_pmu f_r_zl f_r_pmu k3))

theorem execZlFrameTransmit_keeps {k s0 a1 a2 a3} (f_red : k .red = false) (f_zl : k .zl = false) (f_pmu : k .pmu = false) (f_out : k .out = false) (f_free : k .free = false) (f_r_zl : k (.reg .zl) = false) (f_r_pmu : k (.reg .pmu) = false) (k3 : Keeps k s0 a3) :
    KeepsOut k s0 (execZlFrameTransmit a1 a2 a3) := by
  unfold execZlFrameTransmit
  exact (KeepsOut.next (keep_ite (Keeps k s0) (zlTransmit_keeps f_red f_zl f_pmu f_out f_free f_r_zl f_r_pmu k3) k3))

theorem execQuadPllRelock_keeps {k s0 a1 a2} (f_r_zl : k (.reg .zl) = false) (k2 : Keeps k s0 a2) :
    KeepsOut k s0 (execQuadPllRelock a1 a2) := by
  unfold execQuadPllRelock
  exact (KeepsOut.next (keep_when (fun _ h1 => (State.p_keeps (.of f_r_zl) h1)) k2))

theorem execCdrLossOfLock_keeps {k s0 a1 a2} (f_cmd : k .cmd = false) (f_flt : k .flt = false) (f_xpt : k .xpt = false) (f_red : k .red = false) (f_zl : k .zl = false) (f_eng : k .eng = false) (f_cel : k .cel = false) (f_lease : k .lease = false) (f_pmu : k .pmu = false) (f_out : k .out = false) (f_free : k .free = false) (f_r_cmd : k (.reg .cmd) = false) (f_r_xpt : k (.reg .xpt) = false) (f_r_eth : k (.reg .eth) = false) (f_r_cel : k (.reg .cel) = false) (f_r_zl : k (.reg .zl) = false) (f_r_red : k (.reg .red) = false) (f_r_flt : k (.reg .flt) = false) (f_r_pmu : k (.reg .pmu) = false) (k2 : Keeps k s0 a2) :
    KeepsOut k s0 (execCdrLossOfLock a1 a2) := by
  unfold execCdrLossOfLock
  exact (KeepsOut.next (keep_ite (Keeps k s0) (leaveUp_keeps f_xpt f_red f_zl f_pmu f_r_xpt f_r_zl f_r_red f_r_pmu (fun _ _ _ h1 => (occur_keeps f_cmd f_flt f_xpt f_red f_zl f_eng f_cel f_lease f_pmu f_out f_free f_r_cmd f_r_xpt f_r_eth f_r_cel f_r_zl f_r_red f_r_flt f_r_pmu h1)) (State.count_keeps f_pmu f_r_pmu k2)) k2))

theorem quadLoss_keeps {k s0 a1 a2} (f_cmd : k .cmd = false) (f_flt : k .flt = false) (f_xpt : k .xpt = false) (f_red : k .red = false) (f_zl : k .zl = false) (f_eng : k .eng = false) (f_cel : k .cel = false) (f_lease : k .lease = false) (f_pmu : k .pmu = false) (f_out : k .out = false) (f_free : k .free = false) (f_r_cmd : k (.reg .cmd) = false) (f_r_xpt : k (.reg .xpt) = false) (f_r_eth : k (.reg .eth) = false) (f_r_cel : k (.reg .cel) = false) (f_r_zl : k (.reg .zl) = false) (f_r_red : k (.reg .red) = false) (f_r_flt : k (.reg .flt) = false) (f_r_pmu : k (.reg .pmu) = false) (k2 : Keeps k s0 a2) :
    Keeps k s0 (quadLoss a1 a2) := by
  unfold quadLoss
  exact (keep_ite (Keeps k s0) (keep_each (fun _ _ h1 => (keep_ite (Keeps k s0) (leaveUp_keeps f_xpt f_red f_zl f_pmu f_r_xpt f_r_zl f_r_red f_r_pmu (fun _ _ _ h2 => (occur_keeps f_cmd f_flt f_xpt f_red f_zl f_eng f_cel f_lease f_pmu f_out f_free f_r_cmd f_r_xpt f_r_eth f_r_cel f_r_zl f_r_red f_r_flt f_r_pmu h2)) h1) h1)) (State.count_keeps f_pmu f_r_pmu (State.p_keeps (.of f_r_zl) k2))) k2)

theorem execRetrain_keeps {k s0 a1 a2 a3} (f_cmd : k .cmd = false) (f_flt : k .flt = false) (f_xpt : k .xpt = false) (f_red : k .red = false) (f_zl : k .zl = false) (f_eng : k .eng = false) (f_cel : k .cel = false) (f_lease : k .lease = false) (f_pmu : k .pmu = false) (f_out : k .out = false) (f_free : k .free = false) (f_r_hif : k (.reg .hif) = false) (f_r_cmd : k (.reg .cmd) = false) (f_r_xpt : k (.reg .xpt) = false) (f_r_eth : k (.reg .eth) = false) (f_r_cel : k (.reg .cel) = false) (f_r_zl : k (.reg .zl) = false) (f_r_red : k (.reg .red) = false) (f_r_flt : k (.reg .flt) = false) (f_r_pmu : k (.reg .pmu) = false) (f_r_noc : k (.reg .noc) = false) (k3 : Keeps k s0 a3) :
    KeepsOut k s0 (execRetrain a1 a2 a3) := by
  unfold execRetrain
  exact (KeepsOut.next (gate_keeps f_pmu f_r_hif f_r_pmu f_r_noc (fun _ h1 => (retrain_keeps f_xpt f_red f_zl f_pmu f_r_xpt f_r_zl f_r_red f_r_pmu (fun _ _ _ h2 => (occur_keeps f_cmd f_flt f_xpt f_red f_zl f_eng f_cel f_lease f_pmu f_out f_free f_r_cmd f_r_xpt f_r_eth f_r_cel f_r_zl f_r_red f_r_flt f_r_pmu h2)) h1)) k3))

theorem execTrainTimeout_keeps {k s0 a1 a2} (f_zl : k .zl = false) (f_pmu : k .pmu = false) (f_r_zl : k (.reg .zl) = false) (f_r_pmu : k (.reg .pmu) = false) (k2 : Keeps k s0 a2) :
    KeepsOut k s0 (execTrainTimeout a1 a2) := by
  unfold execTrainTimeout
  exact (by lift_lets -underBinder; intro xh1; (try clear_value xh1); exact (KeepsOut.next (by split; exact (keep_ite (Keeps k s0) (setTrain_keeps f_zl f_r_zl (State.count_keeps f_pmu f_r_pmu (State.p_keeps (.of f_r_zl) (State.bump_keeps (.of f_r_zl) k2)))) k2); exact k2)))

theorem execEyeRun_keeps {k s0 a1 a2 a3 a4} (f_pmu : k .pmu = false) (f_r_hif : k (.reg .hif) = false) (f_r_zl : k (.reg .zl) = false) (f_r_pmu : k (.reg .pmu) = false) (f_r_noc : k (.reg .noc) = false) (k4 : Keeps k s0 a4) :
    KeepsOut k s0 (execEyeRun a1 a2 a3 a4) := by
  unfold execEyeRun
  exact (KeepsOut.next (gateUnit_keeps f_pmu f_r_hif f_r_pmu f_r_noc (fun _ h1 => (writeEyeCtrl_keeps f_pmu f_r_zl f_r_pmu h1)) k4))

theorem writeQuadCfg_keeps {k s0 a1 a2 a3} (f_cmd : k .cmd = false) (f_flt : k .flt = false) (f_xpt : k .xpt = false) (f_red : k .red = false) (f_zl : k .zl = false) (f_eng : k .eng = false) (f_cel : k .cel = false) (f_lease : k .lease = false) (f_pmu : k .pmu = false) (f_out : k .out = false) (f_free : k .free = false) (f_r_cmd : k (.reg .cmd) = false) (f_r_xpt : k (.reg .xpt) = false) (f_r_eth : k (.reg .eth) = false) (f_r_cel : k (.reg .cel) = false) (f_r_zl : k (.reg .zl) = false) (f_r_red : k (.reg .red) = false) (f_r_flt : k (.reg .flt) = false) (f_r_pmu : k (.reg .pmu) = false) (k3 : Keeps k s0 a3) :
    Keeps k s0 (writeQuadCfg a1 a2 a3) := by
  unfold writeQuadCfg
  exact (by lift_lets -underBinder; intro xh1; (try clear_value xh1); intro xh2; have h3 : Keeps k s0 xh2 := (by unfold xh2; exact (State.write_keeps (.of f_r_zl) k3)); clear_value xh2; intro xh4; (try clear_value xh4); intro xh5; (try clear_value xh5); exact (keep_ite (Keeps k s0) (keep_when (fun _ h6 => (quadLoss_keeps f_cmd f_flt f_xpt f_red f_zl f_eng f_cel f_lease f_pmu f_out f_free f_r_cmd f_r_xpt f_r_eth f_r_cel f_r_zl f_r_red f_r_flt f_r_pmu h6)) h3) (keep_ite (Keeps k s0) (State.count_keeps f_pmu f_r_pmu (State.p_keeps (.of f_r_zl) (State.p_keeps (.of f_r_zl) h3))) h3)))

theorem refclkLost_keeps {k s0 a1 a2} (f_cmd : k .cmd = false) (f_flt : k .flt = false) (f_xpt : k .xpt = false) (f_red : k .red = false) (f_zl : k .zl = false) (f_eng : k .eng = false) (f_cel : k .cel = false) (f_lease : k .lease = false) (f_pmu : k .pmu = false) (f_out : k .out = false) (f_free : k .free = false) (f_r_cmd : k (.reg .cmd) = false) (f_r_xpt : k (.reg .xpt) = false) (f_r_eth : k (.reg .eth) = false) (f_r_cel : k (.reg .cel) = false) (f_r_zl : k (.reg .zl) = false) (f_r_red : k (.reg .red) = false) (f_r_flt : k (.reg .flt) = false) (f_r_pmu : k (.reg .pmu) = false) (k2 : Keeps k s0 a2) :
    Keeps k s0 (refclkLost a1 a2) := by
  unfold refclkLost
  exact (keep_each (fun _ _ h1 => (quadLoss_keeps f_cmd f_flt f_xpt f_red f_zl f_eng f_cel f_lease f_pmu f_out f_free f_r_cmd f_r_xpt f_r_eth f_r_cel f_r_zl f_r_red f_r_flt f_r_pmu h1)) k2)

theorem execPrbsChkUnlock_keeps {k s0 a1 a2 a3} (f_zl : k .zl = false) (f_pmu : k .pmu = false) (f_r_zl : k (.reg .zl) = false) (f_r_pmu : k (.reg .pmu) = false) (k3 : Keeps k s0 a3) :
    KeepsOut k s0 (execPrbsChkUnlock a1 a2 a3) := by
  unfold execPrbsChkUnlock
  exact (KeepsOut.next (keep_when (fun _ h1 => (prbsReceive_keeps f_zl f_pmu f_r_zl f_r_pmu h1)) k3))

theorem writeLaneCtrl_keeps {k s0 a1 a2 a3} (f_cmd : k .cmd = false) (f_flt : k .flt = false) (f_xpt : k .xpt = false) (f_red : k .red = false) (f_zl : k .zl = false) (f_eng : k .eng = false) (f_cel : k .cel = false) (f_lease : k .lease = false) (f_pmu : k .pmu = false) (f_out : k .out = false) (f_free : k .free = false) (f_r_cmd : k (.reg .cmd) = false) (f_r_xpt : k (.reg .xpt) = false) (f_r_eth : k (.reg .eth) = false) (f_r_cel : k (.reg .cel) = false) (f_r_zl : k (.reg .zl) = false) (f_r_red : k (.reg .red) = false) (f_r_flt : k (.reg .flt) = false) (f_r_pmu : k (.reg .pmu) = false) (k3 : Keeps k s0 a3) :
    Keeps k s0 (writeLaneCtrl a1 a2 a3) := by
  unfold writeLaneCtrl
  exact (by lift_lets -underBinder; intro xh1; have h2 : Keeps k s0 xh1 := (by unfold xh1; exact (State.write_keeps (.of f_r_zl) k3)); clear_value xh1; intro xh3; (try clear_value xh3); intro xh4; have h5 : Keeps k s0 xh4 := (by unfold xh4; exact (keep_ite (Keeps k s0) (State.count_keeps f_pmu f_r_pmu (State.p_keeps (.of f_r_zl) (State.p_keeps (.of f_r_zl) h2))) h2)); clear_value xh4; intro xh6; have h8 : Keeps k s0 xh6 := (by unfold xh6; exact (keep_when (fun _ h7 => (State.p_keeps (.of f_r_zl) h7)) h5)); clear_value xh6; intro xh9; have h12 : Keeps k s0 xh9 := (by unfold xh9; exact (keep_when (fun _ h10 => (by lift_lets -underBinder; intro xh11; exact (State.setLane_keeps f_zl h10))) h8)); clear_value xh9; intro xh13; have h14 : Keeps k s0 xh13 := (by unfold xh13; exact (quadPower_keeps f_r_zl h12)); clear_value xh13; intro xh15; (try clear_value xh15); exact (keep_ite (Keeps k s0) (keep_when (fun _ h16 => (leaveUp_keeps f_xpt f_red f_zl f_pmu f_r_xpt f_r_zl f_r_red f_r_pmu (fun _ _ _ h17 => (occur_keeps f_cmd f_flt f_xpt f_red f_zl f_eng f_cel f_lease f_pmu f_out f_free f_r_cmd f_r_xpt f_r_eth f_r_cel f_r_zl f_r_red f_r_flt f_r_pmu h17)) h16)) h14) (keep_ite (Keeps k s0) (setTrain_keeps f_zl f_r_zl h14) (keep_when (fun _ h18 => (retrain_keeps f_xpt f_red f_zl f_pmu f_r_xpt f_r_zl f_r_red f_r_pmu (fun _ _ _ h19 => (occur_keeps f_cmd f_flt f_xpt f_red f_zl f_eng f_cel f_lease f_pmu f_out f_free f_r_cmd f_r_xpt f_r_eth f_r_cel f_r_zl f_r_red f_r_flt f_r_pmu h19)) h18)) h14))))

theorem execLaneCtrlWrite_keeps {k s0 a1 a2 a3 a4} (f_cmd : k .cmd = false) (f_flt : k .flt = false) (f_xpt : k .xpt = false) (f_red : k .red = false) (f_zl : k .zl = false) (f_eng : k .eng = false) (f_cel : k .cel = false) (f_lease : k .lease = false) (f_pmu : k .pmu = false) (f_out : k .out = false) (f_free : k .free = false) (f_r_hif : k (.reg .hif) = false) (f_r_cmd : k (.reg .cmd) = false) (f_r_xpt : k (.reg .xpt) = false) (f_r_eth : k (.reg .eth) = false) (f_r_cel : k (.reg .cel) = false) (f_r_zl : k (.reg .zl) = false) (f_r_red : k (.reg .red) = false) (f_r_flt : k (.reg .flt) = false) (f_r_pmu : k (.reg .pmu) = false) (f_r_noc : k (.reg .noc) = false) (k4 : Keeps k s0 a4) :
    KeepsOut k s0 (execLaneCtrlWrite a1 a2 a3 a4) := by
  unfold execLaneCtrlWrite
  exact (KeepsOut.next (gate_keeps f_pmu f_r_hif f_r_pmu f_r_noc (fun _ h1 => (writeLaneCtrl_keeps f_cmd f_flt f_xpt f_red f_zl f_eng f_cel f_lease f_pmu f_out f_free f_r_cmd f_r_xpt f_r_eth f_r_cel f_r_zl f_r_red f_r_flt f_r_pmu h1)) k4))

theorem writePrbs_keeps {k s0 a1 a2 a3} (f_zl : k .zl = false) (f_r_zl : k (.reg .zl) = false) (k3 : Keeps k s0 a3) :
    Keeps k s0 (writePrbs a1 a2 a3) := by
  unfold writePrbs
  exact (by lift_lets -underBinder; intro xh1; have h2 : Keeps k s0 xh1 := (by unfold xh1; exact (State.write_keeps (.of f_r_zl) k3)); clear_value xh1; intro xh3; have h6 : Keeps k s0 xh3 := (by unfold xh3; exact (keep_when (fun _ h4 => (by lift_lets -underBinder; intro xh5; exact (State.p_keeps (.of f_r_zl) (State.setLane_keeps f_zl h4)))) h2)); clear_value xh3; exact (keep_ite (Keeps k s0) (State.wr_keeps (.of f_r_zl) h6) h6))

theorem execEyeMarginUpdate_keeps {k s0 a1 a2 a3 a4 a5 a6} (f_cmd : k .cmd = false) (f_flt : k .flt = false) (f_xpt : k .xpt = false) (f_red : k .red = false) (f_zl : k .zl = false) (f_eng : k .eng = false) (f_cel : k .cel = false) (f_lease : k .lease = false) (f_pmu : k .pmu = false) (f_out : k .out = false) (f_free : k .free = false) (f_r_cmd : k (.reg .cmd) = false) (f_r_xpt : k (.reg .xpt) = false) (f_r_eth : k (.reg .eth) = false) (f_r_cel : k (.reg .cel) = false) (f_r_zl : k (.reg .zl) = false) (f_r_red : k (.reg .red) = false) (f_r_flt : k (.reg .flt) = false) (f_r_pmu : k (.reg .pmu) = false) (k6 : Keeps k s0 a6) :
    KeepsOut k s0 (execEyeMarginUpdate a1 a2 a3 a4 a5 a6) := by
  unfold execEyeMarginUpdate
  exact (by lift_lets -underBinder; intro xh1; have h2 : Keeps k s0 xh1 := (by unfold xh1; exact (State.wr_keeps (.of f_r_zl) k6)); clear_value xh1; exact (KeepsOut.next (keep_ite (Keeps k s0) k6 (keep_ite (Keeps k s0) (keep_each (fun _ _ h3 => (histSample_keeps f_cmd f_flt f_xpt f_red f_zl f_eng f_cel f_lease f_pmu f_out f_free f_r_cmd f_r_xpt f_r_eth f_r_cel f_r_zl f_r_red f_r_flt f_r_pmu h3)) h2) h2))))

theorem execLineRecordRx_keeps {k s0 a1 a2 a3 a4} (f_cmd : k .cmd = false) (f_flt : k .flt = false) (f_xpt : k .xpt = false) (f_red : k .red = false) (f_flw : k .flw = false) (f_aud : k .aud = false) (f_zl : k .zl = false) (f_eng : k .eng = false) (f_cel : k .cel = false) (f_ref : k .ref = false) (f_lease : k .lease = false) (f_mem : k .mem = false) (f_pmu : k .pmu = false) (f_out : k .out = false) (f_free : k .free = false) (f_r_cmd : k (.reg .cmd) = false) (f_r_xpt : k (.reg .xpt) = false) (f_r_eth : k (.reg .eth) = false) (f_r_aud : k (.reg .aud) = false) (f_r_eng : k (.reg .eng) = false) (f_r_cel : k (.reg .cel) = false) (f_r_zl : k (.reg .zl) = false) (f_r_red : k (.reg .red) = false) (f_r_flt : k (.reg .flt) = false) (f_r_pmu : k (.reg .pmu) = false) (k4 : Keeps k s0 a4) :
    KeepsOut k s0 (execLineRecordRx a1 a2 a3 a4) := by
  unfold execLineRecordRx
  exact (KeepsOut.next (by split; (rename_i vh1 vh2 he; have h3 := KeepsP.of_eq he (nextRecord_keeps f_cmd f_flt f_xpt f_red f_flw f_zl f_eng f_cel f_lease f_mem f_pmu f_out f_free f_r_cmd f_r_xpt f_r_eth f_r_eng f_r_cel f_r_zl f_r_red f_r_flt f_r_pmu k4); exact (by lift_lets -underBinder; intro xh4; (try clear_value xh4); exact (zlMeasure_keeps f_ref f_pmu f_r_pmu (enterBus_keeps f_cmd f_flt f_xpt f_red f_aud f_zl f_eng f_cel f_lease f_pmu f_out f_free f_r_cmd f_r_xpt f_r_eth f_r_aud f_r_cel f_r_zl f_r_red f_r_flt f_r_pmu h3)))); (rename_i vh5 he; have h6 := KeepsP.of_eq he (nextRecord_keeps f_cmd f_flt f_xpt f_red f_flw f_zl f_eng f_cel f_lease f_mem f_pmu f_out f_free f_r_cmd f_r_xpt f_r_eth f_r_eng f_r_cel f_r_zl f_r_red f_r_flt f_r_pmu k4); exact k4)))

theorem execTrainStateAdvance_keeps {k s0 a1 a2 a3 a4} (f_xpt : k .xpt = false) (f_zl : k .zl = false) (f_pmu : k .pmu = false) (f_r_xpt : k (.reg .xpt) = false) (f_r_zl : k (.reg .zl) = false) (f_r_red : k (.reg .red) = false) (f_r_pmu : k (.reg .pmu) = false) (k4 : Keeps k s0 a4) :
    KeepsOut k s0 (execTrainStateAdvance a1 a2 a3 a4) := by
  unfold execTrainStateAdvance
  exact (by lift_lets -underBinder; intro xh1; (try clear_value xh1); intro xh2; exact (KeepsOut.next (keep_ite (Keeps k s0) k4 (by split; exact (keep_ite (Keeps k s0) (setTrain_keeps f_zl f_r_zl (State.p_keeps (.of f_r_zl) k4)) (keep_ite (Keeps k s0) (setTrain_keeps f_zl f_r_zl (State.p_keeps (.of f_r_zl) k4)) k4)); exact (keep_ite (Keeps k s0) k4 (keep_ite (Keeps k s0) (setTrain_keeps f_zl f_r_zl k4) (laneReachesUp_keeps f_xpt f_zl f_pmu f_r_xpt f_r_zl f_r_red f_r_pmu k4))); exact (by lift_lets -underBinder; intro xh3; have h4 : Keeps k s0 xh3 := (by unfold xh3; exact (setTrain_keeps f_zl f_r_zl k4)); clear_value xh3; intro xh5; exact (keep_ite (Keeps k s0) (State.setLane_keeps f_zl h4) k4)); exact (by lift_lets -underBinder; intro xh6; have h7 : Keeps k s0 xh6 := (by unfold xh6; exact (setTrain_keeps f_zl f_r_zl k4)); clear_value xh6; intro xh8; exact (keep_ite (Keeps k s0) (State.setLane_keeps f_zl h7) k4)); exact (keep_ite (Keeps k s0) (laneReachesUp_keeps f_xpt f_zl f_pmu f_r_xpt f_r_zl f_r_red f_r_pmu k4) k4); exact k4))))

theorem execPeerWindowClose_keeps {k s0 a1 a2} (f_cmd : k .cmd = false) (f_flt : k .flt = false) (f_xpt : k .xpt = false) (f_red : k .red = false) (f_zl : k .zl = false) (f_eng : k .eng = false) (f_cel : k .cel = false) (f_lease : k .lease = false) (f_pmu : k .pmu = false) (f_out : k .out = false) (f_free : k .free = false) (f_r_cmd : k (.reg .cmd) = false) (f_r_xpt : k (.reg .xpt) = false) (f_r_eth : k (.reg .eth) = false) (f_r_cel : k (.reg .cel) = false) (f_r_zl : k (.reg .zl) = false) (f_r_red : k (.reg .red) = false) (f_r_flt : k (.reg .flt) = false) (f_r_pmu : k (.reg .pmu) = false) (k2 : Keeps k s0 a2) :
    KeepsOut k s0 (execPeerWindowClose a1 a2) := by
  unfold execPeerWindowClose
  exact (KeepsOut.next (by split; exact (by lift_lets -underBinder; intro xh1; exact (keep_ite (Keeps k s0) (keep_each (fun _ _ h2 => (occur_keeps f_cmd f_flt f_xpt f_red f_zl f_eng f_cel f_lease f_pmu f_out f_free f_r_cmd f_r_xpt f_r_eth f_r_cel f_r_zl f_r_red f_r_flt f_r_pmu (State.count_keeps f_pmu f_r_pmu h2))) (k2.set_zl f_zl)) k2)); exact k2))

theorem execPrbsErrClr_keeps {k s0 a1 a2 a3} (f_pmu : k .pmu = false) (f_r_hif : k (.reg .hif) = false) (f_r_zl : k (.reg .zl) = false) (f_r_pmu : k (.reg .pmu) = false) (f_r_noc : k (.reg .noc) = false) (k3 : Keeps k s0 a3) :
    KeepsOut k s0 (execPrbsErrClr a1 a2 a3) := by
  unfold execPrbsErrClr
  exact (KeepsOut.next (gate_keeps f_pmu f_r_hif f_r_pmu f_r_noc (fun _ h1 => (State.wr_keeps (.of f_r_zl) h1)) k3))

theorem execZlFrameReceive_keeps {k s0 a1 a2 a3 a4} (f_cmd : k .cmd = false) (f_flt : k .flt = false) (f_xpt : k .xpt = false) (f_red : k .red = false) (f_zl : k .zl = false) (f_eng : k .eng = false) (f_cel : k .cel = false) (f_lease : k .lease = false) (f_pmu : k .pmu = false) (f_out : k .out = false) (f_free : k .free = false) (f_r_cmd : k (.reg .cmd) = false) (f_r_xpt : k (.reg .xpt) = false) (f_r_eth : k (.reg .eth) = false) (f_r_cel : k (.reg .cel) = false) (f_r_zl : k (.reg .zl) = false) (f_r_red : k (.reg .red) = false) (f_r_flt : k (.reg .flt) = false) (f_r_pmu : k (.reg .pmu) = false) (k4 : Keeps k s0 a4) :
    KeepsOut k s0 (execZlFrameReceive a1 a2 a3 a4) := by
  unfold execZlFrameReceive
  exact (by lift_lets -underBinder; intro xh1; (try clear_value xh1); exact (KeepsOut.next (keep_ite (Keeps k s0) (by split; exact k4; exact (by lift_lets -underBinder; intro xh2; intro xh3; have h4 : Keeps k s0 xh3 := (by unfold xh3; exact (State.setLane_keeps f_zl k4)); clear_value xh3; intro xh5; have h6 : Keeps k s0 xh5 := (by unfold xh5; exact (keep_ite (Keeps k s0) (State.emit_keeps f_out h4) h4)); clear_value xh5; exact (zlReceive_keeps f_cmd f_flt f_xpt f_red f_zl f_eng f_cel f_lease f_pmu f_out f_free f_r_cmd f_r_xpt f_r_eth f_r_cel f_r_zl f_r_red f_r_flt f_r_pmu h6))) k4)))

theorem execQuadModeWrite_keeps {k s0 a1 a2 a3 a4} (f_cmd : k .cmd = false) (f_flt : k .flt = false) (f_xpt : k .xpt = false) (f_red : k .red = false) (f_zl : k .zl = false) (f_eng : k .eng = false) (f_cel : k .cel = false) (f_lease : k .lease = false) (f_pmu : k .pmu = false) (f_out : k .out = false) (f_free : k .free = false) (f_r_hif : k (.reg .hif) = false) (f_r_cmd : k (.reg .cmd) = false) (f_r_xpt : k (.reg .xpt) = false) (f_r_eth : k (.reg .eth) = false) (f_r_cel : k (.reg .cel) = false) (f_r_zl : k (.reg .zl) = false) (f_r_red : k (.reg .red) = false) (f_r_flt : k (.reg .flt) = false) (f_r_pmu : k (.reg .pmu) = false) (f_r_noc : k (.reg .noc) = false) (k4 : Keeps k s0 a4) :
    KeepsOut k s0 (execQuadModeWrite a1 a2 a3 a4) := by
  unfold execQuadModeWrite
  exact (KeepsOut.next (gate_keeps f_pmu f_r_hif f_r_pmu f_r_noc (fun _ h1 => (writeQuadCfg_keeps f_cmd f_flt f_xpt f_red f_zl f_eng f_cel f_lease f_pmu f_out f_free f_r_cmd f_r_xpt f_r_eth f_r_cel f_r_zl f_r_red f_r_flt f_r_pmu h1)) k4))

theorem execEyeDone_keeps {k s0 a1 a2 a3} (f_r_zl : k (.reg .zl) = false) (k3 : Keeps k s0 a3) :
    KeepsOut k s0 (execEyeDone a1 a2 a3) := by
  unfold execEyeDone
  exact (KeepsOut.next (keep_ite (Keeps k s0) (State.p_keeps (.of f_r_zl) (State.p_keeps (.of f_r_zl) (State.p_keeps (.of f_r_zl) k3))) k3))

theorem execBackoffExpiry_keeps {k s0 a1 a2} (f_zl : k .zl = false) (f_r_zl : k (.reg .zl) = false) (k2 : Keeps k s0 a2) :
    KeepsOut k s0 (execBackoffExpiry a1 a2) := by
  unfold execBackoffExpiry
  exact (KeepsOut.next (keep_ite (Keeps k s0) (setTrain_keeps f_zl f_r_zl k2) k2))

theorem execQuadPllLoss_keeps {k s0 a1 a2} (f_cmd : k .cmd = false) (f_flt : k .flt = false) (f_xpt : k .xpt = false) (f_red : k .red = false) (f_zl : k .zl = false) (f_eng : k .eng = false) (f_cel : k .cel = false) (f_lease : k .lease = false) (f_pmu : k .pmu = false) (f_out : k .out = false) (f_free : k .free = false) (f_r_cmd : k (.reg .cmd) = false) (f_r_xpt : k (.reg .xpt) = false) (f_r_eth : k (.reg .eth) = false) (f_r_cel : k (.reg .cel) = false) (f_r_zl : k (.reg .zl) = false) (f_r_red : k (.reg .red) = false) (f_r_flt : k (.reg .flt) = false) (f_r_pmu : k (.reg .pmu) = false) (k2 : Keeps k s0 a2) :
    KeepsOut k s0 (execQuadPllLoss a1 a2) := by
  unfold execQuadPllLoss
  exact (KeepsOut.next (quadLoss_keeps f_cmd f_flt f_xpt f_red f_zl f_eng f_cel f_lease f_pmu f_out f_free f_r_cmd f_r_xpt f_r_eth f_r_cel f_r_zl f_r_red f_r_flt f_r_pmu k2))

theorem execCommaLoss_keeps {k s0 a1 a2} (f_cmd : k .cmd = false) (f_flt : k .flt = false) (f_xpt : k .xpt = false) (f_red : k .red = false) (f_zl : k .zl = false) (f_eng : k .eng = false) (f_cel : k .cel = false) (f_lease : k .lease = false) (f_pmu : k .pmu = false) (f_out : k .out = false) (f_free : k .free = false) (f_r_cmd : k (.reg .cmd) = false) (f_r_xpt : k (.reg .xpt) = false) (f_r_eth : k (.reg .eth) = false) (f_r_cel : k (.reg .cel) = false) (f_r_zl : k (.reg .zl) = false) (f_r_red : k (.reg .red) = false) (f_r_flt : k (.reg .flt) = false) (f_r_pmu : k (.reg .pmu) = false) (k2 : Keeps k s0 a2) :
    KeepsOut k s0 (execCommaLoss a1 a2) := by
  unfold execCommaLoss
  exact (KeepsOut.next (keep_ite (Keeps k s0) (leaveUp_keeps f_xpt f_red f_zl f_pmu f_r_xpt f_r_zl f_r_red f_r_pmu (fun _ _ _ h1 => (occur_keeps f_cmd f_flt f_xpt f_red f_zl f_eng f_cel f_lease f_pmu f_out f_free f_r_cmd f_r_xpt f_r_eth f_r_cel f_r_zl f_r_red f_r_flt f_r_pmu h1)) (State.count_keeps f_pmu f_r_pmu k2)) k2))

theorem writeCadLag_keeps {k s0 a1 a2 a3} (f_ref : k .ref = false) (f_r_ref : k (.reg .ref) = false) (k3 : Keeps k s0 a3) :
    Keeps k s0 (writeCadLag a1 a2 a3) := by
  unfold writeCadLag
  exact (by split; exact (keep_ite (Keeps k s0) (State.p_keeps (.of f_r_ref) k3) (restartCadPulses_keeps f_ref (State.write_keeps (.of f_r_ref) k3))))

theorem writePpsOut_keeps {k s0 a1 a2} (f_ref : k .ref = false) (f_r_ref : k (.reg .ref) = false) (k2 : Keeps k s0 a2) :
    Keeps k s0 (writePpsOut a1 a2) := by
  unfold writePpsOut
  exact (by lift_lets -underBinder; intro xh1; have h2 : Keeps k s0 xh1 := (by unfold xh1; exact (State.write_keeps (.of f_r_ref) k2)); clear_value xh1; exact (keep_ite (Keeps k s0) (restartPulse_keeps f_ref h2) h2))

theorem writeAdj_keeps {k s0 a1 a2 a3} (f_ptp : k .ptp = false) (f_ref : k .ref = false) (f_pmu : k .pmu = false) (f_r_ref : k (.reg .ref) = false) (f_r_pmu : k (.reg .pmu) = false) (k3 : Keeps k s0 a3) :
    Keeps k s0 (writeAdj a1 a2 a3) := by
  unfold writeAdj
  exact (by lift_lets -underBinder; intro xh1; (try clear_value xh1); intro xh2; (try clear_value xh2); exact (by split; exact (by lift_lets -underBinder; intro xh3; have h4 : Keeps k s0 xh3 := (by unfold xh3; exact (State.count_keeps f_pmu f_r_pmu (State.setTc_keeps f_ptp k3))); clear_value xh3; intro xh5; intro xh6; have h7 : Keeps k s0 xh6 := (by unfold xh6; exact (keep_ite (Keeps k s0) (showPhase_keeps f_r_ref (State.count_keeps f_pmu f_r_pmu (h4.set_ref f_ref (.inr rfl)))) h4)); clear_value xh6; exact (keep_ite (Keeps k s0) h7 (keep_ite (Keeps k s0) (passMidnights_keeps f_ref f_pmu f_r_ref f_r_pmu h7) (newLocalTime_keeps f_ref h7))))))

theorem execSyncOutPulse_keeps {k s0 a1 a2} (f_ref : k .ref = false) (f_out : k .out = false) (k2 : Keeps k s0 a2) :
    KeepsOut k s0 (execSyncOutPulse a1 a2) := by
  unfold execSyncOutPulse
  exact (by lift_lets -underBinder; intro xh1; (try clear_value xh1); intro xh2; exact (KeepsOut.next (keep_ite (Keeps k s0) (State.emit_keeps f_out (k2.set_ref f_ref (.inr rfl))) k2)))

theorem refLost_keeps {k s0 a1 a2} (f_cmd : k .cmd = false) (f_flt : k .flt = false) (f_xpt : k .xpt = false) (f_red : k .red = false) (f_zl : k .zl = false) (f_eng : k .eng = false) (f_cel : k .cel = false) (f_ref : k .ref = false) (f_lease : k .lease = false) (f_pmu : k .pmu = false) (f_out : k .out = false) (f_free : k .free = false) (f_r_cmd : k (.reg .cmd) = false) (f_r_xpt : k (.reg .xpt) = false) (f_r_ref : k (.reg .ref) = false) (f_r_eth : k (.reg .eth) = false) (f_r_cel : k (.reg .cel) = false) (f_r_zl : k (.reg .zl) = false) (f_r_red : k (.reg .red) = false) (f_r_flt : k (.reg .flt) = false) (f_r_pmu : k (.reg .pmu) = false) (k2 : Keeps k s0 a2) :
    Keeps k s0 (refLost a1 a2) := by
  unfold refLost
  exact (by lift_lets -underBinder; intro xh1; have h2 : Keeps k s0 xh1 := (by unfold xh1; exact (State.p_keeps (.of f_r_ref) (State.p_keeps (.of f_r_ref) k2))); clear_value xh1; intro xh3; have h4 : Keeps k s0 xh3 := (by unfold xh3; exact (State.p_keeps (.of f_r_ref) h2)); intro xh5; intro xh6; have h7 : Keeps k s0 xh6 := (by unfold xh6; exact (h4.set_ref f_ref (.inr rfl))); clear_value xh6; intro xh8; have h9 : Keeps k s0 xh8 := (by unfold xh8; exact (State.count_keeps f_pmu f_r_pmu (State.p_keeps (.of f_r_ref) (State.p_keeps (.of f_r_ref) h7)))); clear_value xh8; intro xh10; exact (keep_ite (Keeps k s0) (h9.set_ref f_ref (.inr rfl)) (markFailed_keeps f_cmd f_flt f_xpt f_red f_zl f_eng f_cel f_ref f_lease f_pmu f_out f_free f_r_cmd f_r_xpt f_r_ref f_r_eth f_r_cel f_r_zl f_r_red f_r_flt f_r_pmu h7)))

theorem execRefInvalid_keeps {k s0 a1 a2 a3} (f_cmd : k .cmd = false) (f_flt : k .flt = false) (f_xpt : k .xpt = false) (f_red : k .red = false) (f_zl : k .zl = false) (f_eng : k .eng = false) (f_cel : k .cel = false) (f_ref : k .ref = false) (f_lease : k .lease = false) (f_pmu : k .pmu = false) (f_out : k .out = false) (f_free : k .free = false) (f_r_cmd : k (.reg .cmd) = false) (f_r_xpt : k (.reg .xpt) = false) (f_r_ref : k (.reg .ref) = false) (f_r_eth : k (.reg .eth) = false) (f_r_cel : k (.reg .cel) = false) (f_r_zl : k (.reg .zl) = false) (f_r_red : k (.reg .red) = false) (f_r_flt : k (.reg .flt) = false) (f_r_pmu : k (.reg .pmu) = false) (k3 : Keeps k s0 a3) :
    KeepsOut k s0 (execRefInvalid a1 a2 a3) := by
  unfold execRefInvalid
  exact (KeepsOut.next (keep_ite (Keeps k s0) k3 (refLost_keeps f_cmd f_flt f_xpt f_red f_zl f_eng f_cel f_ref f_lease f_pmu f_out f_free f_r_cmd f_r_xpt f_r_ref f_r_eth f_r_cel f_r_zl f_r_red f_r_flt f_r_pmu (keep_ite (Keeps k s0) (State.count_keeps f_pmu f_r_pmu k3) k3))))

theorem writeTxtsStat_keeps {k s0 a1 a2 a3 a4} (f_r_ptp : k (.reg .ptp) = false) (k4 : Keeps k s0 a4) :
    Keeps k s0 (writeTxtsStat a1 a2 a3 a4) := by
  unfold writeTxtsStat
  exact (by lift_lets -underBinder; intro xh1; have h2 : Keeps k s0 xh1 := (by unfold xh1; exact (State.write_keeps (.of f_r_ptp) k4)); clear_value xh1; exact (keep_ite (Keeps k s0) (State.p_keeps (.of f_r_ptp) h2) h2))

theorem execLeapApply_keeps {k s0 a1} (f_pmu : k .pmu = false) (f_r_ref : k (.reg .ref) = false) (f_r_pmu : k (.reg .pmu) = false) (k1 : Keeps k s0 a1) :
    KeepsOut k s0 (execLeapApply a1) := by
  unfold execLeapApply
  exact (by lift_lets -underBinder; intro xh1; (try clear_value xh1); intro xh2; (try clear_value xh2); intro xh3; subst xh3; exact (KeepsOut.next (by split; exact (keep_ite (Keeps k s0) (State.count_keeps f_pmu f_r_pmu (State.p_keeps (.of f_r_ref) (State.p_keeps (.of f_r_ref) k1))) k1); exact (keep_ite (Keeps k s0) (State.count_keeps f_pmu f_r_pmu (State.p_keeps (.of f_r_ref) (State.p_keeps (.of f_r_ref) k1))) k1); exact k1)))

theorem execPpsInEdge_keeps {k s0 a1} (f_pmu : k .pmu = false) (f_r_ptp : k (.reg .ptp) = false) (f_r_pmu : k (.reg .pmu) = false) (k1 : Keeps k s0 a1) :
    KeepsOut k s0 (execPpsInEdge a1) := by
  unfold execPpsInEdge
  exact (KeepsOut.next (keep_each (fun _ _ h1 => (State.count_keeps f_pmu f_r_pmu (State.p_keeps (.of f_r_ptp) (State.p_keeps (.of f_r_ptp) h1)))) k1))

theorem writeLocal_keeps {k s0 a1 a2 a3} (f_ref : k .ref = false) (g1 : RegFree k a1) (k3 : Keeps k s0 a3) :
    Keeps k s0 (writeLocal a1 a2 a3) := by
  unfold writeLocal
  exact (newLocalTime_keeps f_ref (State.write_keeps g1 k3))

theorem execHoldoffExpiry_keeps {k s0 a1} (f_cmd : k .cmd = false) (f_flt : k .flt = false) (f_xpt : k .xpt = false) (f_red : k .red = false) (f_aud : k .aud = false) (f_zl : k .zl = false) (f_eng : k .eng = false) (f_cel : k .cel = false) (f_ref : k .ref = false) (f_lease : k .lease = false) (f_house : k .house = false) (f_pmu : k .pmu = false) (f_out : k .out = false) (f_free : k .free = false) (f_r_cmd : k (.reg .cmd) = false) (f_r_xpt : k (.reg .xpt) = false) (f_r_ref : k (.reg .ref) = false) (f_r_eth : k (.reg .eth) = false) (f_r_cel : k (.reg .cel) = false) (f_r_zl : k (.reg .zl) = false) (f_r_red : k (.reg .red) = false) (f_r_flt : k (.reg .flt) = false) (f_r_pmu : k (.reg .pmu) = false) (k1 : Keeps k s0 a1) :
    KeepsOut k s0 (execHoldoffExpiry a1) := by
  unfold execHoldoffExpiry
  exact (KeepsOut.next (by split; exact (by lift_lets -underBinder; intro xh1; have h2 : Keeps k s0 xh1 := (by unfold xh1; exact (State.p_keeps (.of f_r_ref) (State.p_keeps (.of f_r_ref) k1))); clear_value xh1; intro xh3; exact (keep_ite (Keeps k s0) (selectRef_keeps f_cmd f_flt f_xpt f_red f_aud f_zl f_eng f_cel f_ref f_lease f_house f_pmu f_out f_free f_r_cmd f_r_xpt f_r_ref f_r_eth f_r_cel f_r_zl f_r_red f_r_flt f_r_pmu (markFailed_keeps f_cmd f_flt f_xpt f_red f_zl f_eng f_cel f_ref f_lease f_pmu f_out f_free f_r_cmd f_r_xpt f_r_ref f_r_eth f_r_cel f_r_zl f_r_red f_r_flt f_r_pmu (h2.set_ref f_ref (.inr rfl)))) k1)); exact k1))

theorem execHoldoverUpdate_keeps {k s0 a1 a2} (f_ref : k .ref = false) (f_r_ref : k (.reg .ref) = false) (k2 : Keeps k s0 a2) :
    KeepsOut k s0 (execHoldoverUpdate a1 a2) := by
  unfold execHoldoverUpdate
  exact (by lift_lets -underBinder; intro xh1; exact (KeepsOut.next (keep_ite (Keeps k s0) (setFreq_keeps f_r_ref (k2.set_ref f_ref (.inr rfl))) k2)))

theorem execSyncInEdge_keeps {k s0 a1 a2 a3} (f_ref : k .ref = false) (f_pmu : k .pmu = false) (f_r_ref : k (.reg .ref) = false) (f_r_pmu : k (.reg .pmu) = false) (k3 : Keeps k s0 a3) :
    KeepsOut k s0 (execSyncInEdge a1 a2 a3) := by
  unfold execSyncInEdge
  exact (by lift_lets -underBinder; intro xh1; (try clear_value xh1); exact (KeepsOut.next (keep_ite (Keeps k s0) (showPhase_keeps f_r_ref (syncEdge_keeps f_ref f_pmu f_r_pmu k3)) k3)))

theorem execRefValidRestore_keeps {k s0 a1 a2} (f_ref : k .ref = false) (f_pmu : k .pmu = false) (f_r_ref : k (.reg .ref) = false) (f_r_pmu : k (.reg .pmu) = false) (k2 : Keeps k s0 a2) :
    KeepsOut k s0 (execRefValidRestore a1 a2) := by
  unfold execRefValidRestore
  exact (by lift_lets -underBinder; intro xh1; (try clear_value xh1); intro xh2; have h3 : Keeps k s0 xh2 := (by unfold xh2; exact (State.p_keeps (.of f_r_ref) k2)); clear_value xh2; intro xh4; have h5 : Keeps k s0 xh4 := (by unfold xh4; exact (State.count_keeps f_pmu f_r_pmu (State.p_keeps (.of f_r_ref) (State.p_keeps (.of f_r_ref) h3)))); clear_value xh4; intro xh6; have h7 : Keeps k s0 xh6 := (by unfold xh6; exact (State.p_keeps (.of f_r_ref) h5)); intro xh8; intro xh9; have h10 : Keeps k s0 xh9 := (by unfold xh9; exact (State.p_keeps (.of f_r_ref) h3)); intro xh11; exact (KeepsOut.next (keep_ite (Keeps k s0) k2 (keep_ite (Keeps k s0) (h7.set_ref f_ref (.inr rfl)) (keep_ite (Keeps k s0) (h10.set_ref f_ref (.inr rfl)) (State.p_keeps (.of f_r_ref) h3))))))

theorem writeCalSet_keeps {k s0 a1 a2} (f_ref : k .ref = false) (f_pmu : k .pmu = false) (f_r_ref : k (.reg .ref) = false) (f_r_pmu : k (.reg .pmu) = false) (k2 : Keeps k s0 a2) :
    Keeps k s0 (writeCalSet a1 a2) := by
  unfold writeCalSet
  exact (by lift_lets -underBinder; intro xh1; have h2 : Keeps k s0 xh1 := (by unfold xh1; exact (State.write_keeps (.of f_r_ref) k2)); clear_value xh1; intro xh3; (try clear_value xh3); intro xh4; (try clear_value xh4); intro xh5; (try clear_value xh5); exact (keep_ite (Keeps k s0) (newLocalTime_keeps f_ref (State.p_keeps (.of f_r_ref) (State.p_keeps (.of f_r_ref) (State.p_keeps (.of f_r_ref) (State.p_keeps (.of f_r_ref) h2))))) (State.count_keeps f_pmu f_r_pmu (State.p_keeps (.of f_r_ref) h2))))

theorem execCalSetWrite_keeps {k s0 a1 a2 a3} (f_ref : k .ref = false) (f_pmu : k .pmu = false) (f_r_hif : k (.reg .hif) = false) (f_r_ref : k (.reg .ref) = false) (f_r_pmu : k (.reg .pmu) = false) (f_r_noc : k (.reg .noc) = false) (k3 : Keeps k s0 a3) :
    KeepsOut k s0 (execCalSetWrite a1 a2 a3) := by
  unfold execCalSetWrite
  exact (KeepsOut.next (gate_keeps f_pmu f_r_hif f_r_pmu f_r_noc (fun _ h1 => (writeCalSet_keeps f_ref f_pmu f_r_ref f_r_pmu h1)) k3))

theorem writeTcStat_keeps {k s0 a1 a2} (f_r_ref : k (.reg .ref) = false) (k2 : Keeps k s0 a2) :
    Keeps k s0 (writeTcStat a1 a2) := by
  unfold writeTcStat
  exact (keep_ite (Keeps k s0) (State.p_keeps (.of f_r_ref) k2) k2)

theorem execAdjStep_keeps {k s0 a1 a2 a3 a4} (f_ptp : k .ptp = false) (f_ref : k .ref = false) (f_pmu : k .pmu = false) (f_r_hif : k (.reg .hif) = false) (f_r_ref : k (.reg .ref) = false) (f_r_pmu : k (.reg .pmu) = false) (f_r_noc : k (.reg .noc) = false) (k4 : Keeps k s0 a4) :
    KeepsOut k s0 (execAdjStep a1 a2 a3 a4) := by
  unfold execAdjStep
  exact (KeepsOut.next (gate_keeps f_pmu f_r_hif f_r_pmu f_r_noc (fun _ h1 => (writeAdj_keeps f_ptp f_ref f_pmu f_r_ref f_r_pmu h1)) k4))

theorem readTime_keeps {k s0 a1 a2 a3} (f_latches : k .latches = false) (f_out : k .out = false) (k3 : Keeps k s0 a3) :
    Keeps k s0 (readTime a1 a2 a3) := by
  unfold readTime
  exact (by lift_lets -underBinder; intro xh1; (try clear_value xh1); exact (answer_keeps f_out (latch_keeps f_latches (latch_keeps f_latches k3))))

theorem execPtpTimeRead_keeps {k s0 a1 a2 a3} (f_latches : k .latches = false) (f_pmu : k .pmu = false) (f_out : k .out = false) (f_r_pmu : k (.reg .pmu) = false) (f_r_noc : k (.reg .noc) = false) (k3 : Keeps k s0 a3) :
    KeepsOut k s0 (execPtpTimeRead a1 a2 a3) := by
  unfold execPtpTimeRead
  exact (KeepsOut.next (readHeld_keeps f_pmu f_out f_r_pmu f_r_noc (fun _ h1 => (readTime_keeps f_latches f_out h1)) k3))

theorem execDpllLocked_keeps {k s0 a1} (f_cmd : k .cmd = false) (f_flt : k .flt = false) (f_xpt : k .xpt = false) (f_red : k .red = false) (f_zl : k .zl = false) (f_eng : k .eng = false) (f_cel : k .cel = false) (f_ref : k .ref = false) (f_lease : k .lease = false) (f_pmu : k .pmu = false) (f_out : k .out = false) (f_free : k .free = false) (f_r_cmd : k (.reg .cmd) = false) (f_r_xpt : k (.reg .xpt) = false) (f_r_ref : k (.reg .ref) = false) (f_r_eth : k (.reg .eth) = false) (f_r_cel : k (.reg .cel) = false) (f_r_zl : k (.reg .zl) = false) (f_r_red : k (.reg .red) = false) (f_r_flt : k (.reg .flt) = false) (f_r_pmu : k (.reg .pmu) = false) (k1 : Keeps k s0 a1) :
    KeepsOut k s0 (execDpllLocked a1) := by
  unfold execDpllLocked
  exact (KeepsOut.next (keep_ite (Keeps k s0) (refChanged_keeps f_cmd f_pmu f_r_cmd f_r_ref f_r_pmu (setDpll_keeps f_cmd f_flt f_xpt f_red f_zl f_eng f_cel f_ref f_lease f_pmu f_out f_free f_r_cmd f_r_xpt f_r_ref f_r_eth f_r_cel f_r_zl f_r_red f_r_flt f_r_pmu k1)) k1))

theorem execHoValidSet_keeps {k s0 a1} (f_r_ref : k (.reg .ref) = false) (k1 : Keeps k s0 a1) :
    KeepsOut k s0 (execHoValidSet a1) := by
  unfold execHoValidSet
  exact (KeepsOut.next (keep_ite (Keeps k s0) (State.p_keeps (.of f_r_ref) k1) k1))

theorem writeIncr_keeps {k s0 a1 a2 a3} (f_ptp : k .ptp = false) (f_pmu : k .pmu = false) (f_r_ptp : k (.reg .ptp) = false) (f_r_pmu : k (.reg .pmu) = false) (k3 : Keeps k s0 a3) :
    Keeps k s0 (writeIncr a1 a2 a3) := by
  unfold writeIncr
  exact (by lift_lets -underBinder; intro xh1; (try clear_value xh1); intro xh2; have h3 : Keeps k s0 xh2 := (by unfold xh2; exact (State.p_keeps (.of f_r_ptp) (State.p_keeps (.of f_r_ptp) k3))); clear_value xh2; intro xh4; exact (keep_ite (Keeps k s0) (State.count_keeps f_pmu f_r_pmu (State.setTc_keeps f_ptp h3)) (State.count_keeps f_pmu f_r_pmu (State.p_keeps (.of f_r_ptp) k3))))

theorem execIncrWrite_keeps {k s0 a1 a2 a3 a4} (f_ptp : k .ptp = false) (f_pmu : k .pmu = false) (f_r_hif : k (.reg .hif) = false) (f_r_ptp : k (.reg .ptp) = false) (f_r_pmu : k (.reg .pmu) = false) (f_r_noc : k (.reg .noc) = false) (k4 : Keeps k s0 a4) :
    KeepsOut k s0 (execIncrWrite a1 a2 a3 a4) := by
  unfold execIncrWrite
  exact (KeepsOut.next (gate_keeps f_pmu f_r_hif f_r_pmu f_r_noc (fun _ h1 => (writeIncr_keeps f_ptp f_pmu f_r_ptp f_r_pmu h1)) k4))

theorem execMidnight_keeps {k s0 a1} (f_ref : k .ref = false) (f_pmu : k .pmu = false) (f_r_ref : k (.reg .ref) = false) (f_r_pmu : k (.reg .pmu) = false) (k1 : Keeps k s0 a1) :
    KeepsOut k s0 (execMidnight a1) := by
  unfold execMidnight
  exact (KeepsOut.next (keep_ite (Keeps k s0) k1 (passMidnights_keeps f_ref f_pmu f_r_ref f_r_pmu k1)))

theorem execRefSelection_keeps {k s0 a1 a2 a3} (f_cmd : k .cmd = false) (f_flt : k .flt = false) (f_xpt : k .xpt = false) (f_red : k .red = false) (f_aud : k .aud = false) (f_zl : k .zl = false) (f_eng : k .eng = false) (f_cel : k .cel = false) (f_ref : k .ref = false) (f_lease : k .lease = false) (f_house : k .house = false) (f_pmu : k .pmu = false) (f_out : k .out = false) (f_free : k .free = false) (f_r_cmd : k (.reg .cmd) = false) (f_r_xpt : k (.reg .xpt) = false) (f_r_ref : k (.reg .ref) = false) (f_r_eth : k (.reg .eth) = false) (f_r_cel : k (.reg .cel) = false) (f_r_zl : k (.reg .zl) = false) (f_r_red : k (.reg .red) = false) (f_r_flt : k (.reg .flt) = false) (f_r_pmu : k (.reg .pmu) = false) (k3 : Keeps k s0 a3) :
    KeepsOut k s0 (execRefSelection a1 a2 a3) := by
  unfold execRefSelection
  exact (by lift_lets -underBinder; intro xh1; intro xh2; have h3 : Keeps k s0 xh2 := (by unfold xh2; exact (k3.set_ref f_ref (.inr rfl))); clear_value xh2; intro xh4; have h6 : Keeps k s0 xh4 := (by unfold xh4; exact (by split; exact (keep_when (fun _ h5 => (trackStep_keeps f_ref f_r_ref h5)) h3); exact h3)); clear_value xh4; intro xh7; have h9 : Keeps k s0 xh7 := (by unfold xh7; exact (keep_when (fun _ h8 => (averageSample_keeps f_ref f_r_ref h8)) h6)); clear_value xh7; intro xh10; have h12 : Keeps k s0 xh10 := (by unfold xh10; exact (keep_each (fun _ _ h11 => (State.p_keeps (.of f_r_ref) h11)) h9)); clear_value xh10; intro xh13; have h14 : Keeps k s0 xh13 := (by unfold xh13; exact (showPhase_keeps f_r_ref (selectRef_keeps f_cmd f_flt f_xpt f_red f_aud f_zl f_eng f_cel f_ref f_lease f_house f_pmu f_out f_free f_r_cmd f_r_xpt f_r_ref f_r_eth f_r_cel f_r_zl f_r_red f_r_flt f_r_pmu h12))); clear_value xh13; intro xh15; intro xh16; have h17 : Keeps k s0 xh16 := (by unfold xh16; exact (h14.set_ref f_ref (.inr rfl))); clear_value xh16; intro xh18; have h19 : Keeps k s0 xh18 := (by unfold xh18; exact (histSample_keeps f_cmd f_flt f_xpt f_red f_zl f_eng f_cel f_lease f_pmu f_out f_free f_r_cmd f_r_xpt f_r_eth f_r_cel f_r_zl f_r_red f_r_flt f_r_pmu h17)); clear_value xh18; exact (KeepsOut.next (keep_ite (Keeps k s0) k3 (keep_each (fun _ _ h20 => (keep_ite (Keeps k s0) (histSample_keeps f_cmd f_flt f_xpt f_red f_zl f_eng f_cel f_lease f_pmu f_out f_free f_r_cmd f_r_xpt f_r_eth f_r_cel f_r_zl f_r_red f_r_flt f_r_pmu h20) h20)) h19))))

theorem execHistoryEntry_keeps {k s0 a1 a2} (f_ref : k .ref = false) (f_r_ref : k (.reg .ref) = false) (k2 : Keeps k s0 a2) :
    KeepsOut k s0 (execHistoryEntry a1 a2) := by
  unfold execHistoryEntry
  exact (by lift_lets -underBinder; intro xh1; (try clear_value xh1); intro xh2; (try clear_value xh2); intro xh3; (try clear_value xh3); intro xh4; (try clear_value xh4); intro xh5; (try clear_value xh5); intro xh6; have h7 : Keeps k s0 xh6 := (by unfold xh6; exact (State.wr_keeps (.of f_r_ref) (State.wr_keeps (.of f_r_ref) k2))); clear_value xh6; intro xh8; have h9 : Keeps k s0 xh8 := (by unfold xh8; exact (State.p_keeps (.of f_r_ref) (State.p_keeps (.of f_r_ref) h7))); clear_value xh8; intro xh10; exact (KeepsOut.next (keep_ite (Keeps k s0) k2 (h9.set_ref f_ref (.inr rfl)))))

theorem readTxts_keeps {k s0 a1 a2 a3 a4} (f_ptp : k .ptp = false) (f_latches : k .latches = false) (f_pmu : k .pmu = false) (f_out : k .out = false) (f_r_ptp : k (.reg .ptp) = false) (f_r_pmu : k (.reg .pmu) = false) (k4 : Keeps k s0 a4) :
    Keeps k s0 (readTxts a1 a2 a3 a4) := by
  unfold readTxts
  exact (by lift_lets -underBinder; intro xh1; (try clear_value xh1); exact (by split; exact (answer_keeps f_out k4); exact (by lift_lets -underBinder; intro xh2; intro xh3; have h4 : Keeps k s0 xh3 := (by unfold xh3; exact (k4.set_ptp f_ptp)); clear_value xh3; intro xh5; have h6 : Keeps k s0 xh5 := (by unfold xh5; exact (State.count_keeps f_pmu f_r_pmu (State.p_keeps (.of f_r_ptp) h4))); clear_value xh5; intro xh7; have h8 : Keeps k s0 xh7 := (by unfold xh7; exact (latch_keeps f_latches (latch_keeps f_latches h6))); clear_value xh7; exact (answer_keeps f_out (latch_keeps f_latches h8)))))

theorem execWtrExpiry_keeps {k s0 a1 a2} (f_ref : k .ref = false) (f_r_ref : k (.reg .ref) = false) (k2 : Keeps k s0 a2) :
    KeepsOut k s0 (execWtrExpiry a1 a2) := by
  unfold execWtrExpiry
  exact (KeepsOut.next (by split; exact (by lift_lets -underBinder; intro xh1; intro xh2; have h3 : Keeps k s0 xh2 := (by unfold xh2; exact (k2.set_ref f_ref (.inr rfl))); clear_value xh2; exact (keep_ite (Keeps k s0) (State.p_keeps (.of f_r_ref) (State.p_keeps (.of f_r_ref) h3)) k2)); exact k2))

theorem writeDpllCfg_keeps {k s0 a1 a2} (f_r_ref : k (.reg .ref) = false) (k2 : Keeps k s0 a2) :
    Keeps k s0 (writeDpllCfg a1 a2) := by
  unfold writeDpllCfg
  exact (by lift_lets -underBinder; intro xh1; exact (keep_ite (Keeps k s0) (State.write_keeps (.of f_r_ref) k2) (State.p_keeps (.of f_r_ref) k2)))

theorem writeSyncOut_keeps {k s0 a1 a2 a3 a4} (f_ref : k .ref = false) (g1 : RegFree k a1) (k4 : Keeps k s0 a4) :
    Keeps k s0 (writeSyncOut a1 a2 a3 a4) := by
  unfold writeSyncOut
  exact (restartPulse_keeps f_ref (State.write_keeps g1 k4))

theorem execTimeCounterTick_keeps {k s0 a1} (f_ptp : k .ptp = false) (f_ref : k .ref = false) (f_ticks : k .ticks = false) (f_house : k .house = false) (k1 : Keeps k s0 a1) :
    KeepsOut k s0 (execTimeCounterTick a1) := by
  unfold execTimeCounterTick
  exact (KeepsOut.next (timeTick_keeps f_ptp f_ref f_ticks f_house k1))

theorem execCadLagWrite_keeps {k s0 a1 a2 a3 a4} (f_ref : k .ref = false) (f_pmu : k .pmu = false) (f_r_hif : k (.reg .hif) = false) (f_r_ref : k (.reg .ref) = false) (f_r_pmu : k (.reg .pmu) = false) (f_r_noc : k (.reg .noc) = false) (k4 : Keeps k s0 a4) :
    KeepsOut k s0 (execCadLagWrite a1 a2 a3 a4) := by
  unfold execCadLagWrite
  exact (KeepsOut.next (gate_keeps f_pmu f_r_hif f_r_pmu f_r_noc (fun _ h1 => (writeCadLag_keeps f_ref f_r_ref h1)) k4))

theorem execTxtsIdRead_keeps {k s0 a1 a2 a3 a4} (f_ptp : k .ptp = false) (f_latches : k .latches = false) (f_pmu : k .pmu = false) (f_out : k .out = false) (f_r_ptp : k (.reg .ptp) = false) (f_r_pmu : k (.reg .pmu) = false) (f_r_noc : k (.reg .noc) = false) (k4 : Keeps k s0 a4) :
    KeepsOut k s0 (execTxtsIdRead a1 a2 a3 a4) := by
  unfold execTxtsIdRead
  exact (KeepsOut.next (readHeld_keeps f_pmu f_out f_r_pmu f_r_noc (fun _ h1 => (readTxts_keeps f_ptp f_latches f_pmu f_out f_r_ptp f_r_pmu h1)) k4))

theorem execDpllLockLost_keeps {k s0 a1} (f_cmd : k .cmd = false) (f_flt : k .flt = false) (f_xpt : k .xpt = false) (f_red : k .red = false) (f_zl : k .zl = false) (f_eng : k .eng = false) (f_cel : k .cel = false) (f_ref : k .ref = false) (f_lease : k .lease = false) (f_pmu : k .pmu = false) (f_out : k .out = false) (f_free : k .free = false) (f_r_cmd : k (.reg .cmd) = false) (f_r_xpt : k (.reg .xpt) = false) (f_r_ref : k (.reg .ref) = false) (f_r_eth : k (.reg .eth) = false) (f_r_cel : k (.reg .cel) = false) (f_r_zl : k (.reg .zl) = false) (f_r_red : k (.reg .red) = false) (f_r_flt : k (.reg .flt) = false) (f_r_pmu : k (.reg .pmu) = false) (k1 : Keeps k s0 a1) :
    KeepsOut k s0 (execDpllLockLost a1) := by
  unfold execDpllLockLost
  exact (KeepsOut.next (keep_ite (Keeps k s0) (refChanged_keeps f_cmd f_pmu f_r_cmd f_r_ref f_r_pmu (setDpll_keeps f_cmd f_flt f_xpt f_red f_zl f_eng f_cel f_ref f_lease f_pmu f_out f_free f_r_cmd f_r_xpt f_r_ref f_r_eth f_r_cel f_r_zl f_r_red f_r_flt f_r_pmu k1)) k1))

theorem execTcSkippedClr_keeps {k s0 a1 a2} (f_pmu : k .pmu = false) (f_r_hif : k (.reg .hif) = false) (f_r_ref : k (.reg .ref) = false) (f_r_pmu : k (.reg .pmu) = false) (f_r_noc : k (.reg .noc) = false) (k2 : Keeps k s0 a2) :
    KeepsOut k s0 (execTcSkippedClr a1 a2) := by
  unfold execTcSkippedClr
  exact (KeepsOut.next (gate_keeps f_pmu f_r_hif f_r_pmu f_r_noc (fun _ h1 => (writeTcStat_keeps f_r_ref h1)) k2))

theorem execTxtsDropsClr_keeps {k s0 a1 a2 a3 a4} (f_pmu : k .pmu = false) (f_r_hif : k (.reg .hif) = false) (f_r_ptp : k (.reg .ptp) = false) (f_r_pmu : k (.reg .pmu) = false) (f_r_noc : k (.reg .noc) = false) (k4 : Keeps k s0 a4) :
    KeepsOut k s0 (execTxtsDropsClr a1 a2 a3 a4) := by
  unfold execTxtsDropsClr
  exact (KeepsOut.next (gate_keeps f_pmu f_r_hif f_r_pmu f_r_noc (fun _ h1 => (writeTxtsStat_keeps f_r_ptp h1)) k4))

theorem execPpsOutPulse_keeps {k s0 a1} (f_ref : k .ref = false) (f_out : k .out = false) (k1 : Keeps k s0 a1) :
    KeepsOut k s0 (execPpsOutPulse a1) := by
  unfold execPpsOutPulse
  exact (by lift_lets -underBinder; intro xh1; (try clear_value xh1); intro xh2; exact (KeepsOut.next (keep_ite (Keeps k s0) (State.emit_keeps f_out (k1.set_ref f_ref (.inr rfl))) k1)))

theorem serveSnapshot_keeps {k s0 a1 a2} (f_red : k .red = false) (f_out : k .out = false) (k2 : Keeps k s0 a2) :
    Keeps k s0 (serveSnapshot a1 a2) := by
  unfold serveSnapshot
  exact (by lift_lets -underBinder; intro xh1; exact (keep_ite (Keeps k s0) (State.tell_keeps f_red f_out (k2.set_red f_red rfl (.inr rfl))) k2))

theorem dropDecisions_keeps {k s0 a1 a2 a3} (f_eng : k .eng = false) (k3 : Keeps k s0 a3) :
    Keeps k s0 (dropDecisions a1 a2 a3) := by
  unfold dropDecisions
  exact (by lift_lets -underBinder; intro xh1; intro xh2; exact (k3.set_eng f_eng rfl))

theorem stopFlows_keeps {k s0 a1 a2} (f_cmd : k .cmd = false) (f_flt : k .flt = false) (f_xpt : k .xpt = false) (f_red : k .red = false) (f_flw : k .flw = false) (f_zl : k .zl = false) (f_eng : k .eng = false) (f_cel : k .cel = false) (f_lease : k .lease = false) (f_pmu : k .pmu = false) (f_out : k .out = false) (f_free : k .free = false) (f_r_cmd : k (.reg .cmd) = false) (f_r_xpt : k (.reg .xpt) = false) (f_r_eth : k (.reg .eth) = false) (f_r_flw : k (.reg .flw) = false) (f_r_cel : k (.reg .cel) = false) (f_r_zl : k (.reg .zl) = false) (f_r_red : k (.reg .red) = false) (f_r_flt : k (.reg .flt) = false) (f_r_pmu : k (.reg .pmu) = false) (k2 : Keeps k s0 a2) :
    Keeps k s0 (stopFlows a1 a2) := by
  unfold stopFlows
  exact (by lift_lets -underBinder; intro xh1; intro xh2; have h4 : Keeps k s0 xh2 := (by unfold xh2; exact (keep_each (fun _ _ h3 => (keep_ite (Keeps k s0) h3 (enterLost_keeps f_cmd f_flt f_xpt f_red f_flw f_zl f_eng f_cel f_lease f_pmu f_out f_free f_r_cmd f_r_xpt f_r_eth f_r_flw f_r_cel f_r_zl f_r_red f_r_flt f_r_pmu h3))) k2)); clear_value xh2; intro xh5; have h8 : Keeps k s0 xh5 := (by unfold xh5; exact (keep_each (fun _ _ h6 => (by lift_lets -underBinder; intro xh7; (try clear_value xh7); exact (State.setTx_keeps f_flw h6))) h4)); clear_value xh5; intro xh9; exact (h8.set_flw f_flw (.inr rfl)))

theorem ageSamples_keeps {k s0 a1 a2} (f_xpt : k .xpt = false) (k2 : Keeps k s0 a2) :
    Keeps k s0 (ageSamples a1 a2) := by
  unfold ageSamples
  exact (keep_each (fun _ _ h1 => (by lift_lets -underBinder; intro xh2; exact (keep_ite (Keeps k s0) (h1.set_xpt f_xpt) h1))) k2)

theorem endCadence_keeps {k s0 a1 a2} (f_cmd : k .cmd = false) (f_flt : k .flt = false) (f_xpt : k .xpt = false) (f_red : k .red = false) (f_flw : k .flw = false) (f_aud : k .aud = false) (f_zl : k .zl = false) (f_eng : k .eng = false) (f_cel : k .cel = false) (f_lease : k .lease = false) (f_mem : k .mem = false) (f_pmu : k .pmu = false) (f_out : k .out = false) (f_free : k .free = false) (f_r_cmd : k (.reg .cmd) = false) (f_r_xpt : k (.reg .xpt) = false) (f_r_eth : k (.reg .eth) = false) (f_r_flw : k (.reg .flw) = false) (f_r_aud : k (.reg .aud) = false) (f_r_eng : k (.reg .eng) = false) (f_r_cel : k (.reg .cel) = false) (f_r_zl : k (.reg .zl) = false) (f_r_red : k (.reg .red) = false) (f_r_flt : k (.reg .flt) = false) (f_r_pmu : k (.reg .pmu) = false) (k2 : Keeps k s0 a2) :
    Keeps k s0 (endCadence a1 a2) := by
  unfold endCadence
  exact (by lift_lets -underBinder; intro xh1; have h2 : Keeps k s0 xh1 := (by unfold xh1; exact (dropDecisions_keeps f_eng (judgeLine_keeps f_cmd f_flt f_xpt f_red f_zl f_eng f_cel f_lease f_pmu f_out f_free f_r_cmd f_r_xpt f_r_eth f_r_cel f_r_zl f_r_red f_r_flt f_r_pmu k2))); clear_value xh1; intro xh3; have h4 : Keeps k s0 xh3 := (by unfold xh3; exact (cancelEngines_keeps f_cmd f_flt f_xpt f_red f_zl f_eng f_cel f_lease f_mem f_pmu f_out f_free f_r_cmd f_r_xpt f_r_eth f_r_eng f_r_cel f_r_zl f_r_red f_r_flt f_r_pmu (cancelCadOps_keeps f_cmd f_flt f_xpt f_red f_zl f_eng f_cel f_lease f_pmu f_out f_free f_r_cmd f_r_xpt f_r_eth f_r_cel f_r_zl f_r_red f_r_flt f_r_pmu (cancelSalvos_keeps f_cmd f_flt f_xpt f_red f_aud f_zl f_eng f_cel f_lease f_pmu f_out f_free f_r_cmd f_r_xpt f_r_eth f_r_aud f_r_cel f_r_zl f_r_red f_r_flt f_r_pmu (cancelTakes_keeps f_cmd f_flt f_xpt f_red f_aud f_zl f_eng f_cel f_lease f_pmu f_out f_free f_r_cmd f_r_xpt f_r_eth f_r_aud f_r_cel f_r_zl f_r_red f_r_flt f_r_pmu h2))))); clear_value xh3; intro xh5; have h6 : Keeps k s0 xh5 := (by unfold xh5; exact (stopFlows_keeps f_cmd f_flt f_xpt f_red f_flw f_zl f_eng f_cel f_lease f_pmu f_out f_free f_r_cmd f_r_xpt f_r_eth f_r_flw f_r_cel f_r_zl f_r_red f_r_flt f_r_pmu (clearCadAlign_keeps f_xpt f_r_xpt h4))); clear_value xh5; intro xh7; (try clear_value xh7); exact (State.setCad_keeps f_xpt h6))

theorem applyRealign_keeps {k s0 a1 a2} (f_cmd : k .cmd = false) (f_flt : k .flt = false) (f_xpt : k .xpt = false) (f_red : k .red = false) (f_aud : k .aud = false) (f_zl : k .zl = false) (f_eng : k .eng = false) (f_cel : k .cel = false) (f_ref : k .ref = false) (f_lease : k .lease = false) (f_house : k .house = false) (f_pmu : k .pmu = false) (f_out : k .out = false) (f_free : k .free = false) (f_r_cmd : k (.reg .cmd) = false) (f_r_xpt : k (.reg .xpt) = false) (f_r_ref : k (.reg .ref) = false) (f_r_eth : k (.reg .eth) = false) (f_r_cel : k (.reg .cel) = false) (f_r_zl : k (.reg .zl) = false) (f_r_red : k (.reg .red) = false) (f_r_flt : k (.reg .flt) = false) (f_r_pmu : k (.reg .pmu) = false) (k2 : Keeps k s0 a2) :
    Keeps k s0 (applyRealign a1 a2) := by
  unfold applyRealign
  exact (by lift_lets -underBinder; intro xh1; (try clear_value xh1); intro xh2; (try clear_value xh2); intro xh3; intro xh4; have h5 : Keeps k s0 xh4 := (by unfold xh4; exact (k2.set_aud f_aud)); clear_value xh4; intro xh6; intro xh7; have h8 : Keeps k s0 xh7 := (by unfold xh7; exact (showPhase_keeps f_r_ref (stepH_keeps f_aud f_ref f_house (h5.set_ref f_ref (.inr rfl))))); clear_value xh7; intro xh9; have h13 : Keeps k s0 xh9 := (by unfold xh9; exact (keep_when (fun _ h10 => (keep_each (fun _ _ h11 => (by lift_lets -underBinder; intro xh12; exact (keep_ite (Keeps k s0) (State.setCad_keeps f_xpt h11) h11))) h10)) h8)); clear_value xh9; exact (keep_ite (Keeps k s0) (finish_keeps f_cmd f_flt f_xpt f_red f_zl f_eng f_cel f_lease f_pmu f_out f_free f_r_cmd f_r_xpt f_r_eth f_r_cel f_r_zl f_r_red f_r_flt f_r_pmu k2) (finish_keeps f_cmd f_flt f_xpt f_red f_zl f_eng f_cel f_lease f_pmu f_out f_free f_r_cmd f_r_xpt f_r_eth f_r_cel f_r_zl f_r_red f_r_flt f_r_pmu (State.count_keeps f_pmu f_r_pmu h13))))

theorem adjustFrame_keeps {k s0 a1 a2} (f_cmd : k .cmd = false) (f_flt : k .flt = false) (f_xpt : k .xpt = false) (f_red : k .red = false) (f_zl : k .zl = false) (f_eng : k .eng = false) (f_cel : k .cel = false) (f_lease : k .lease = false) (f_pmu : k .pmu = false) (f_out : k .out = false) (f_free : k .free = false) (f_r_cmd : k (.reg .cmd) = false) (f_r_xpt : k (.reg .xpt) = false) (f_r_eth : k (.reg .eth) = false) (f_r_cel : k (.reg .cel) = false) (f_r_zl : k (.reg .zl) = false) (f_r_red : k (.reg .red) = false) (f_r_flt : k (.reg .flt) = false) (f_r_pmu : k (.reg .pmu) = false) (k2 : Keeps k s0 a2) :
    Keeps k s0 (adjustFrame a1 a2) := by
  unfold adjustFrame
  exact (by lift_lets -underBinder; intro xh1; (try clear_value xh1); intro xh2; (try clear_value xh2); exact (by split; exact (State.setCad_keeps f_xpt k2); exact (by lift_lets -underBinder; intro xh3; intro xh4; (try clear_value xh4); intro xh5; have h6 : Keeps k s0 xh5 := (by unfold xh5; exact (State.setCad_keeps f_xpt k2)); clear_value xh5; exact (keep_ite (Keeps k s0) h6 (State.count_keeps f_pmu f_r_pmu (State.bump_keeps (.of f_r_red) h6)))); exact (by lift_lets -underBinder; intro xh7; have h8 : Keeps k s0 xh7 := (by unfold xh7; exact (State.bump_keeps (.of f_r_red) (State.setCad_keeps f_xpt k2))); clear_value xh7; exact (keep_ite (Keeps k s0) h8 (occur_keeps f_cmd f_flt f_xpt f_red f_zl f_eng f_cel f_lease f_pmu f_out f_free f_r_cmd f_r_xpt f_r_eth f_r_cel f_r_zl f_r_red f_r_flt f_r_pmu h8)))))

theorem setCadCfg_keeps {k s0 a1 a2 a3} (f_cmd : k .cmd = false) (f_flt : k .flt = false) (f_xpt : k .xpt = false) (f_red : k .red = false) (f_zl : k .zl = false) (f_eng : k .eng = false) (f_cel : k .cel = false) (f_ref : k .ref = false) (f_lease : k .lease = false) (f_pmu : k .pmu = false) (f_out : k .out = false) (f_free : k .free = false) (f_r_cmd : k (.reg .cmd) = false) (f_r_xpt : k (.reg .xpt) = false) (f_r_eth : k (.reg .eth) = false) (f_r_cel : k (.reg .cel) = false) (f_r_zl : k (.reg .zl) = false) (f_r_red : k (.reg .red) = false) (f_r_flt : k (.reg .flt) = false) (f_r_pmu : k (.reg .pmu) = false) (k3 : Keeps k s0 a3) :
    Keeps k s0 (setCadCfg a1 a2 a3) := by
  unfold setCadCfg
  exact (by lift_lets -underBinder; intro xh1; have h2 : Keeps k s0 xh1 := (by unfold xh1; exact (State.wr_keeps (.of f_r_xpt) k3)); clear_value xh1; intro xh3; (try clear_value xh3); exact (keep_when (fun _ h4 => (restartCadPulses_keeps f_ref h4)) (charge_keeps f_cmd f_flt f_xpt f_red f_zl f_eng f_cel f_lease f_pmu f_out f_free f_r_cmd f_r_xpt f_r_eth f_r_cel f_r_zl f_r_red f_r_flt f_r_pmu h2)))

theorem newGrid_keeps {k s0 a1 a2 a3} (f_xpt : k .xpt = false) (k3 : Keeps k s0 a3) :
    Keeps k s0 (newGrid a1 a2 a3) := by
  unfold newGrid
  exact (by lift_lets -underBinder; intro xh1; (try clear_value xh1); intro xh2; (try clear_value xh2); intro xh3; (try clear_value xh3); intro xh4; (try clear_value xh4); intro xh5; (try clear_value xh5); intro xh6; (try clear_value xh6); intro xh7; (try clear_value xh7); intro xh8; (try clear_value xh8); intro xh9; (try clear_value xh9); intro xh10; (try clear_value xh10); exact (keep_ite (Keeps k s0) (State.setCad_keeps f_xpt k3) (State.setCad_keeps f_xpt k3)))

theorem applyCadSet_keeps {k s0 a1 a2} (f_cmd : k .cmd = false) (f_flt : k .flt = false) (f_xpt : k .xpt = false) (f_red : k .red = false) (f_aud : k .aud = false) (f_zl : k .zl = false) (f_eng : k .eng = false) (f_cel : k .cel = false) (f_ref : k .ref = false) (f_lease : k .lease = false) (f_mem : k .mem = false) (f_pmu : k .pmu = false) (f_out : k .out = false) (f_free : k .free = false) (f_r_cmd : k (.reg .cmd) = false) (f_r_xpt : k (.reg .xpt) = false) (f_r_eth : k (.reg .eth) = false) (f_r_aud : k (.reg .aud) = false) (f_r_eng : k (.reg .eng) = false) (f_r_cel : k (.reg .cel) = false) (f_r_zl : k (.reg .zl) = false) (f_r_red : k (.reg .red) = false) (f_r_flt : k (.reg .flt) = false) (f_r_pmu : k (.reg .pmu) = false) (k2 : Keeps k s0 a2) :
    Keeps k s0 (applyCadSet a1 a2) := by
  unfold applyCadSet
  exact (by lift_lets -underBinder; intro xh1; (try clear_value xh1); intro xh2; (try clear_value xh2); intro xh3; (try clear_value xh3); intro xh4; (try clear_value xh4); intro xh5; (try clear_value xh5); intro xh6; (try clear_value xh6); intro xh7; (try clear_value xh7); intro xh8; intro xh9; (try clear_value xh9); intro xh10; have h11 : Keeps k s0 xh10 := (by unfold xh10; exact (cancelSalvos_keeps f_cmd f_flt f_xpt f_red f_aud f_zl f_eng f_cel f_lease f_pmu f_out f_free f_r_cmd f_r_xpt f_r_eth f_r_aud f_r_cel f_r_zl f_r_red f_r_flt f_r_pmu (cancelTakes_keeps f_cmd f_flt f_xpt f_red f_aud f_zl f_eng f_cel f_lease f_pmu f_out f_free f_r_cmd f_r_xpt f_r_eth f_r_aud f_r_cel f_r_zl f_r_red f_r_flt f_r_pmu k2))); clear_value xh10; intro xh12; have h14 : Keeps k s0 xh12 := (by unfold xh12; exact (keep_when (fun _ h13 => (cancelEngines_keeps f_cmd f_flt f_xpt f_red f_zl f_eng f_cel f_lease f_mem f_pmu f_out f_free f_r_cmd f_r_xpt f_r_eth f_r_eng f_r_cel f_r_zl f_r_red f_r_flt f_r_pmu h13)) h11)); clear_value xh12; intro xh15; (try clear_value xh15); intro xh16; (try clear_value xh16); intro xh17; have h18 : Keeps k s0 xh17 := (by unfold xh17; exact (clearCadAlign_keeps f_xpt f_r_xpt (dropDecisions_keeps f_eng (State.setCad_keeps f_xpt h14)))); clear_value xh17; intro xh19; (try clear_value xh19); intro xh20; (try clear_value xh20); intro xh21; have h22 : Keeps k s0 xh21 := (by unfold xh21; exact (setCadCfg_keeps f_cmd f_flt f_xpt f_red f_zl f_eng f_cel f_ref f_lease f_pmu f_out f_free f_r_cmd f_r_xpt f_r_eth f_r_cel f_r_zl f_r_red f_r_flt f_r_pmu h18)); clear_value xh21; intro xh23; have h25 : Keeps k s0 xh23 := (by unfold xh23; exact (keep_when (fun _ h24 => (newGrid_keeps f_xpt h24)) h22)); clear_value xh23; exact (finish_keeps f_cmd f_flt f_xpt f_red f_zl f_eng f_cel f_lease f_pmu f_out f_free f_r_cmd f_r_xpt f_r_eth f_r_cel f_r_zl f_r_red f_r_flt f_r_pmu (State.count_keeps f_pmu f_r_pmu h25)))

theorem cadOpsDue_keeps {k s0 a1 a2 a3} (f_cmd : k .cmd = false) (f_flt : k .flt = false) (f_xpt : k .xpt = false) (f_red : k .red = false) (f_aud : k .aud = false) (f_zl : k .zl = false) (f_eng : k .eng = false) (f_cel : k .cel = false) (f_ref : k .ref = false) (f_lease : k .lease = false) (f_mem : k .mem = false) (f_house : k .house = false) (f_pmu : k .pmu = false) (f_out : k .out = false) (f_free : k .free = false) (f_r_cmd : k (.reg .cmd) = false) (f_r_xpt : k (.reg .xpt) = false) (f_r_ref : k (.reg .ref) = false) (f_r_eth : k (.reg .eth) = false) (f_r_aud : k (.reg .aud) = false) (f_r_eng : k (.reg .eng) = false) (f_r_cel : k (.reg .cel) = false) (f_r_zl : k (.reg .zl) = false) (f_r_red : k (.reg .red) = false) (f_r_flt : k (.reg .flt) = false) (f_r_pmu : k (.reg .pmu) = false) (k3 : Keeps k s0 a3) :
    Keeps k s0 (cadOpsDue a1 a2 a3) := by
  unfold cadOpsDue
  exact (keep_each (fun _ _ h1 => (by lift_lets -underBinder; intro xh2; intro xh3; have h4 : Keeps k s0 xh3 := (by unfold xh3; exact (h1.set_xpt f_xpt)); clear_value xh3; exact (keep_ite (Keeps k s0) (applyRealign_keeps f_cmd f_flt f_xpt f_red f_aud f_zl f_eng f_cel f_ref f_lease f_house f_pmu f_out f_free f_r_cmd f_r_xpt f_r_ref f_r_eth f_r_cel f_r_zl f_r_red f_r_flt f_r_pmu h4) (applyCadSet_keeps f_cmd f_flt f_xpt f_red f_aud f_zl f_eng f_cel f_ref f_lease f_mem f_pmu f_out f_free f_r_cmd f_r_xpt f_r_eth f_r_aud f_r_eng f_r_cel f_r_zl f_r_red f_r_flt f_r_pmu h4)))) k3)

theorem atLine_keeps {k s0 a1 a2 a3} (f_cmd : k .cmd = false) (f_flt : k .flt = false) (f_xpt : k .xpt = false) (f_red : k .red = false) (f_flw : k .flw = false) (f_aud : k .aud = false) (f_zl : k .zl = false) (f_eng : k .eng = false) (f_cel : k .cel = false) (f_ref : k .ref = false) (f_lease : k .lease = false) (f_mem : k .mem = false) (f_house : k .house = false) (f_pmu : k .pmu = false) (f_out : k .out = false) (f_free : k .free = false) (f_r_cmd : k (.reg .cmd) = false) (f_r_xpt : k (.reg .xpt) = false) (f_r_ref : k (.reg .ref) = false) (f_r_eth : k (.reg .eth) = false) (f_r_flw : k (.reg .flw) = false) (f_r_aud : k (.reg .aud) = false) (f_r_eng : k (.reg .eng) = false) (f_r_cel : k (.reg .cel) = false) (f_r_zl : k (.reg .zl) = false) (f_r_red : k (.reg .red) = false) (f_r_flt : k (.reg .flt) = false) (f_r_pmu : k (.reg .pmu) = false) (f_r_noc : k (.reg .noc) = false) (k3 : Keeps k s0 a3) :
    Keeps k s0 (atLine a1 a2 a3) := by
  unfold atLine
  exact (by lift_lets -underBinder; intro xh1; intro xh2; have h3 : Keeps k s0 xh2 := (by unfold xh2; exact (keep_ite (Keeps k s0) (cadOpsDue_keeps f_cmd f_flt f_xpt f_red f_aud f_zl f_eng f_cel f_ref f_lease f_mem f_house f_pmu f_out f_free f_r_cmd f_r_xpt f_r_ref f_r_eth f_r_aud f_r_eng f_r_cel f_r_zl f_r_red f_r_flt f_r_pmu (ageSamples_keeps f_xpt (adjustFrame_keeps f_cmd f_flt f_xpt f_red f_zl f_eng f_cel f_lease f_pmu f_out f_free f_r_cmd f_r_xpt f_r_eth f_r_cel f_r_zl f_r_red f_r_flt f_r_pmu k3))) k3)); clear_value xh2; exact (by split; (rename_i vh4 vh6 he; have h5 := KeepsQ.of_eq he (resolveAtLine_keeps f_cmd f_flt f_xpt f_red f_aud f_zl f_eng f_cel f_lease f_pmu f_out f_free f_r_cmd f_r_xpt f_r_eth f_r_cel f_r_zl f_r_red f_r_flt f_r_pmu h3); exact (by lift_lets -underBinder; intro xh7; have h8 : Keeps k s0 xh7 := (by unfold xh7; exact (commitDue_keeps f_cmd f_flt f_xpt f_red f_aud f_zl f_eng f_cel f_lease f_pmu f_out f_free f_r_cmd f_r_xpt f_r_eth f_r_aud f_r_cel f_r_zl f_r_red f_r_flt f_r_pmu (keep_ite (Keeps k s0) (cadOpsDue_keeps f_cmd f_flt f_xpt f_red f_aud f_zl f_eng f_cel f_ref f_lease f_mem f_house f_pmu f_out f_free f_r_cmd f_r_xpt f_r_ref f_r_eth f_r_aud f_r_eng f_r_cel f_r_zl f_r_red f_r_flt f_r_pmu h5) h5))); clear_value xh7; intro xh9; have h10 : Keeps k s0 xh9 := (by unfold xh9; exact (keep_ite (Keeps k s0) (flowLine1_keeps f_flw (flipsDue_keeps f_cmd f_flt f_xpt f_red f_zl f_eng f_cel f_lease f_pmu f_out f_free f_r_cmd f_r_xpt f_r_eth f_r_eng f_r_cel f_r_zl f_r_red f_r_flt f_r_pmu (commitEngines_keeps f_cmd f_flt f_xpt f_red f_zl f_eng f_cel f_lease f_mem f_pmu f_out f_free f_r_cmd f_r_xpt f_r_eth f_r_eng f_r_cel f_r_zl f_r_red f_r_flt f_r_pmu h8))) h8)); clear_value xh9; intro xh11; have h12 : Keeps k s0 xh11 := (by unfold xh11; exact (serveSnapshot_keeps f_red f_out (engLines_keeps f_cmd f_flt f_xpt f_red f_zl f_eng f_cel f_lease f_mem f_pmu f_out f_free f_r_cmd f_r_xpt f_r_eth f_r_eng f_r_cel f_r_zl f_r_red f_r_flt f_r_pmu (genLines_keeps f_cmd f_flt f_xpt f_red f_zl f_eng f_cel f_lease f_pmu f_out f_free f_r_cmd f_r_xpt f_r_eth f_r_cel f_r_zl f_r_red f_r_flt f_r_pmu (fenceLines_keeps f_cmd f_flt f_xpt f_red f_zl f_eng f_cel f_lease f_pmu f_out f_free f_r_cmd f_r_xpt f_r_eth f_r_eng f_r_cel f_r_zl f_r_red f_r_flt f_r_pmu f_r_noc h10))))); clear_value xh11; intro xh13; have h15 : Keeps k s0 xh13 := (by unfold xh13; exact (keep_when (fun _ h14 => (releaseForced_keeps f_flt f_xpt f_r_xpt f_r_flt h14)) h12)); clear_value xh13; exact (keep_ite (Keeps k s0) (endCadence_keeps f_cmd f_flt f_xpt f_red f_flw f_aud f_zl f_eng f_cel f_lease f_mem f_pmu f_out f_free f_r_cmd f_r_xpt f_r_eth f_r_flw f_r_aud f_r_eng f_r_cel f_r_zl f_r_red f_r_flt f_r_pmu h15) h15)))))

theorem restampGroups_keeps {k s0 a1 a2 a3} (f_eng : k .eng = false) (k3 : Keeps k s0 a3) :
    Keeps k s0 (restampGroups a1 a2 a3) := by
  unfold restampGroups
  exact (by lift_lets -underBinder; intro xh1; (try clear_value xh1); intro xh2; intro xh3; intro xh4; exact (k3.set_eng f_eng rfl))

theorem moveSkipped_keeps {k s0 a1 a2 a3 a4}  (f_xpt : k .xpt = false) (f_aud : k .aud = false) (f_eng : k .eng = false) (f_pmu : k .pmu = false) (f_r_pmu : k (.reg .pmu) = false)
    (k4 : Keeps k s0 a4) : Keeps k s0 (moveSkipped a1 a2 a3 a4) :=
  (State.count_keeps f_pmu f_r_pmu (restampGroups_keeps f_eng (restampSkipped_keeps f_xpt f_aud k4))).set_eng f_eng
    (congrArg EngHid.lut (State.count_eng (restampGroups a1 a2 (restampSkipped a1 a2 a3 a4)) 182 _)).symm

theorem lineStart_keeps {k s0 a1 a2 a3} (f_cmd : k .cmd = false) (f_flt : k .flt = false) (f_xpt : k .xpt = false) (f_red : k .red = false) (f_flw : k .flw = false) (f_aud : k .aud = false) (f_zl : k .zl = false) (f_eng : k .eng = false) (f_cel : k .cel = false) (f_ref : k .ref = false) (f_lease : k .lease = false) (f_mem : k .mem = false) (f_house : k .house = false) (f_pmu : k .pmu = false) (f_out : k .out = false) (f_free : k .free = false) (f_r_cmd : k (.reg .cmd) = false) (f_r_xpt : k (.reg .xpt) = false) (f_r_ref : k (.reg .ref) = false) (f_r_eth : k (.reg .eth) = false) (f_r_flw : k (.reg .flw) = false) (f_r_aud : k (.reg .aud) = false) (f_r_eng : k (.reg .eng) = false) (f_r_cel : k (.reg .cel) = false) (f_r_zl : k (.reg .zl) = false) (f_r_red : k (.reg .red) = false) (f_r_flt : k (.reg .flt) = false) (f_r_pmu : k (.reg .pmu) = false) (f_r_noc : k (.reg .noc) = false) (k3 : Keeps k s0 a3) :
    Keeps k s0 (lineStart a1 a2 a3) := by
  unfold lineStart
  exact (keep_ite (Keeps k s0) k3 (by split; exact k3; exact (by lift_lets -underBinder; intro xh1; have h2 : Keeps k s0 xh1 := (by unfold xh1; exact (judgeLine_keeps f_cmd f_flt f_xpt f_red f_zl f_eng f_cel f_lease f_pmu f_out f_free f_r_cmd f_r_xpt f_r_eth f_r_cel f_r_zl f_r_red f_r_flt f_r_pmu k3)); clear_value xh1; intro xh3; (try clear_value xh3); intro xh4; (try clear_value xh4); intro xh5; have h6 : Keeps k s0 xh5 := (by unfold xh5; exact (State.setCad_keeps f_xpt h2)); clear_value xh5; exact (atLine_keeps f_cmd f_flt f_xpt f_red f_flw f_aud f_zl f_eng f_cel f_ref f_lease f_mem f_house f_pmu f_out f_free f_r_cmd f_r_xpt f_r_ref f_r_eth f_r_flw f_r_aud f_r_eng f_r_cel f_r_zl f_r_red f_r_flt f_r_pmu f_r_noc (keep_when (fun _ h7 => (moveSkipped_keeps f_xpt f_aud f_eng f_pmu f_r_pmu h7)) h6)))))

theorem startCadence_keeps {k s0 a1 a2 a3} (f_cmd : k .cmd = false) (f_flt : k .flt = false) (f_xpt : k .xpt = false) (f_red : k .red = false) (f_flw : k .flw = false) (f_aud : k .aud = false) (f_zl : k .zl = false) (f_eng : k .eng = false) (f_cel : k .cel = false) (f_ref : k .ref = false) (f_lease : k .lease = false) (f_mem : k .mem = false) (f_house : k .house = false) (f_pmu : k .pmu = false) (f_out : k .out = false) (f_free : k .free = false) (f_r_cmd : k (.reg .cmd) = false) (f_r_xpt : k (.reg .xpt) = false) (f_r_ref : k (.reg .ref) = false) (f_r_eth : k (.reg .eth) = false) (f_r_flw : k (.reg .flw) = false) (f_r_aud : k (.reg .aud) = false) (f_r_eng : k (.reg .eng) = false) (f_r_cel : k (.reg .cel) = false) (f_r_zl : k (.reg .zl) = false) (f_r_red : k (.reg .red) = false) (f_r_flt : k (.reg .flt) = false) (f_r_pmu : k (.reg .pmu) = false) (f_r_noc : k (.reg .noc) = false) (k3 : Keeps k s0 a3) :
    Keeps k s0 (startCadence a1 a2 a3) := by
  unfold startCadence
  exact (by lift_lets -underBinder; intro xh1; (try clear_value xh1); exact (by split; exact (keep_ite (Keeps k s0) (atLine_keeps f_cmd f_flt f_xpt f_red f_flw f_aud f_zl f_eng f_cel f_ref f_lease f_mem f_house f_pmu f_out f_free f_r_cmd f_r_xpt f_r_ref f_r_eth f_r_flw f_r_aud f_r_eng f_r_cel f_r_zl f_r_red f_r_flt f_r_pmu f_r_noc (State.setCad_keeps f_xpt k3)) k3); exact k3))

theorem enableCadence_keeps {k s0 a1 a2} (f_xpt : k .xpt = false) (k2 : Keeps k s0 a2) :
    Keeps k s0 (enableCadence a1 a2) := by
  unfold enableCadence
  exact (by lift_lets -underBinder; intro xh1; (try clear_value xh1); exact (State.setCad_keeps f_xpt k2))

theorem disableCadence_keeps {k s0 a1 a2} (f_cmd : k .cmd = false) (f_flt : k .flt = false) (f_xpt : k .xpt = false) (f_red : k .red = false) (f_flw : k .flw = false) (f_aud : k .aud = false) (f_zl : k .zl = false) (f_eng : k .eng = false) (f_cel : k .cel = false) (f_lease : k .lease = false) (f_mem : k .mem = false) (f_pmu : k .pmu = false) (f_out : k .out = false) (f_free : k .free = false) (f_r_cmd : k (.reg .cmd) = false) (f_r_xpt : k (.reg .xpt) = false) (f_r_eth : k (.reg .eth) = false) (f_r_flw : k (.reg .flw) = false) (f_r_aud : k (.reg .aud) = false) (f_r_eng : k (.reg .eng) = false) (f_r_cel : k (.reg .cel) = false) (f_r_zl : k (.reg .zl) = false) (f_r_red : k (.reg .red) = false) (f_r_flt : k (.reg .flt) = false) (f_r_pmu : k (.reg .pmu) = false) (k2 : Keeps k s0 a2) :
    Keeps k s0 (disableCadence a1 a2) := by
  unfold disableCadence
  exact (by lift_lets -underBinder; intro xh1; (try clear_value xh1); exact (keep_ite (Keeps k s0) (State.setCad_keeps f_xpt k2) (endCadence_keeps f_cmd f_flt f_xpt f_red f_flw f_aud f_zl f_eng f_cel f_lease f_mem f_pmu f_out f_free f_r_cmd f_r_xpt f_r_eth f_r_flw f_r_aud f_r_eng f_r_cel f_r_zl f_r_red f_r_flt f_r_pmu (State.setCad_keeps f_xpt k2))))

theorem writeCadCfg_keeps {k s0 a1 a2 a3} (f_cmd : k .cmd = false) (f_flt : k .flt = false) (f_xpt : k .xpt = false) (f_red : k .red = false) (f_flw : k .flw = false) (f_aud : k .aud = false) (f_zl : k .zl = false) (f_eng : k .eng = false) (f_cel : k .cel = false) (f_ref : k .ref = false) (f_lease : k .lease = false) (f_mem : k .mem = false) (f_pmu : k .pmu = false) (f_out : k .out = false) (f_free : k .free = false) (f_r_cmd : k (.reg .cmd) = false) (f_r_xpt : k (.reg .xpt) = false) (f_r_eth : k (.reg .eth) = false) (f_r_flw : k (.reg .flw) = false) (f_r_aud : k (.reg .aud) = false) (f_r_eng : k (.reg .eng) = false) (f_r_cel : k (.reg .cel) = false) (f_r_zl : k (.reg .zl) = false) (f_r_red : k (.reg .red) = false) (f_r_flt : k (.reg .flt) = false) (f_r_pmu : k (.reg .pmu) = false) (k3 : Keeps k s0 a3) :
    Keeps k s0 (writeCadCfg a1 a2 a3) := by
  unfold writeCadCfg
  exact (by lift_lets -underBinder; intro xh1; (try clear_value xh1); intro xh2; (try clear_value xh2); intro xh3; have h4 : Keeps k s0 xh3 := (by unfold xh3; exact (setCadCfg_keeps f_cmd f_flt f_xpt f_red f_zl f_eng f_cel f_ref f_lease f_pmu f_out f_free f_r_cmd f_r_xpt f_r_eth f_r_cel f_r_zl f_r_red f_r_flt f_r_pmu k3)); clear_value xh3; exact (keep_ite (Keeps k s0) (State.p_keeps (.of f_r_xpt) k3) (by split; exact (enableCadence_keeps f_xpt h4); exact (disableCadence_keeps f_cmd f_flt f_xpt f_red f_flw f_aud f_zl f_eng f_cel f_lease f_mem f_pmu f_out f_free f_r_cmd f_r_xpt f_r_eth f_r_flw f_r_aud f_r_eng f_r_cel f_r_zl f_r_red f_r_flt f_r_pmu h4); exact h4)))

theorem execCadenceEnable_keeps {k s0 a1 a2 a3 a4} (f_cmd : k .cmd = false) (f_flt : k .flt = false) (f_xpt : k .xpt = false) (f_red : k .red = false) (f_flw : k .flw = false) (f_aud : k .aud = false) (f_zl : k .zl = false) (f_eng : k .eng = false) (f_cel : k .cel = false) (f_ref : k .ref = false) (f_lease : k .lease = false) (f_mem : k .mem = false) (f_pmu : k .pmu = false) (f_out : k .out = false) (f_free : k .free = false) (f_r_hif : k (.reg .hif) = false) (f_r_cmd : k (.reg .cmd) = false) (f_r_xpt : k (.reg .xpt) = false) (f_r_eth : k (.reg .eth) = false) (f_r_flw : k (.reg .flw) = false) (f_r_aud : k (.reg .aud) = false) (f_r_eng : k (.reg .eng) = false) (f_r_cel : k (.reg .cel) = false) (f_r_zl : k (.reg .zl) = false) (f_r_red : k (.reg .red) = false) (f_r_flt : k (.reg .flt) = false) (f_r_pmu : k (.reg .pmu) = false) (f_r_noc : k (.reg .noc) = false) (k4 : Keeps k s0 a4) :
    KeepsOut k s0 (execCadenceEnable a1 a2 a3 a4) := by
  unfold execCadenceEnable
  exact (KeepsOut.next (gate_keeps f_pmu f_r_hif f_r_pmu f_r_noc (fun _ h1 => (writeCadCfg_keeps f_cmd f_flt f_xpt f_red f_flw f_aud f_zl f_eng f_cel f_ref f_lease f_mem f_pmu f_out f_free f_r_cmd f_r_xpt f_r_eth f_r_flw f_r_aud f_r_eng f_r_cel f_r_zl f_r_red f_r_flt f_r_pmu h1)) k4))

theorem execCadenceLineStart_keeps {k s0 a1 a2 a3} (f_cmd : k .cmd = false) (f_flt : k .flt = false) (f_xpt : k .xpt = false) (f_red : k .red = false) (f_flw : k .flw = false) (f_aud : k .aud = false) (f_zl : k .zl = false) (f_eng : k .eng = false) (f_cel : k .cel = false) (f_ref : k .ref = false) (f_lease : k .lease = false) (f_mem : k .mem = false) (f_house : k .house = false) (f_pmu : k .pmu = false) (f_out : k .out = false) (f_free : k .free = false) (f_r_cmd : k (.reg .cmd) = false) (f_r_xpt : k (.reg .xpt) = false) (f_r_ref : k (.reg .ref) = false) (f_r_eth : k (.reg .eth) = false) (f_r_flw : k (.reg .flw) = false) (f_r_aud : k (.reg .aud) = false) (f_r_eng : k (.reg .eng) = false) (f_r_cel : k (.reg .cel) = false) (f_r_zl : k (.reg .zl) = false) (f_r_red : k (.reg .red) = false) (f_r_flt : k (.reg .flt) = false) (f_r_pmu : k (.reg .pmu) = false) (f_r_noc : k (.reg .noc) = false) (k3 : Keeps k s0 a3) :
    KeepsOut k s0 (execCadenceLineStart a1 a2 a3) := by
  unfold execCadenceLineStart
  exact (KeepsOut.next (lineStart_keeps f_cmd f_flt f_xpt f_red f_flw f_aud f_zl f_eng f_cel f_ref f_lease f_mem f_house f_pmu f_out f_free f_r_cmd f_r_xpt f_r_ref f_r_eth f_r_flw f_r_aud f_r_eng f_r_cel f_r_zl f_r_red f_r_flt f_r_pmu f_r_noc k3))

theorem execCadCfgWrite_keeps {k s0 a1 a2 a3 a4} (f_cmd : k .cmd = false) (f_flt : k .flt = false) (f_xpt : k .xpt = false) (f_red : k .red = false) (f_flw : k .flw = false) (f_aud : k .aud = false) (f_zl : k .zl = false) (f_eng : k .eng = false) (f_cel : k .cel = false) (f_ref : k .ref = false) (f_lease : k .lease = false) (f_mem : k .mem = false) (f_pmu : k .pmu = false) (f_out : k .out = false) (f_free : k .free = false) (f_r_hif : k (.reg .hif) = false) (f_r_cmd : k (.reg .cmd) = false) (f_r_xpt : k (.reg .xpt) = false) (f_r_eth : k (.reg .eth) = false) (f_r_flw : k (.reg .flw) = false) (f_r_aud : k (.reg .aud) = false) (f_r_eng : k (.reg .eng) = false) (f_r_cel : k (.reg .cel) = false) (f_r_zl : k (.reg .zl) = false) (f_r_red : k (.reg .red) = false) (f_r_flt : k (.reg .flt) = false) (f_r_pmu : k (.reg .pmu) = false) (f_r_noc : k (.reg .noc) = false) (k4 : Keeps k s0 a4) :
    KeepsOut k s0 (execCadCfgWrite a1 a2 a3 a4) := by
  unfold execCadCfgWrite
  exact (KeepsOut.next (gate_keeps f_pmu f_r_hif f_r_pmu f_r_noc (fun _ h1 => (writeCadCfg_keeps f_cmd f_flt f_xpt f_red f_flw f_aud f_zl f_eng f_cel f_ref f_lease f_mem f_pmu f_out f_free f_r_cmd f_r_xpt f_r_eth f_r_flw f_r_aud f_r_eng f_r_cel f_r_zl f_r_red f_r_flt f_r_pmu h1)) k4))

theorem execCadenceStart_keeps {k s0 a1 a2 a3} (f_cmd : k .cmd = false) (f_flt : k .flt = false) (f_xpt : k .xpt = false) (f_red : k .red = false) (f_flw : k .flw = false) (f_aud : k .aud = false) (f_zl : k .zl = false) (f_eng : k .eng = false) (f_cel : k .cel = false) (f_ref : k .ref = false) (f_lease : k .lease = false) (f_mem : k .mem = false) (f_house : k .house = false) (f_pmu : k .pmu = false) (f_out : k .out = false) (f_free : k .free = false) (f_r_cmd : k (.reg .cmd) = false) (f_r_xpt : k (.reg .xpt) = false) (f_r_ref : k (.reg .ref) = false) (f_r_eth : k (.reg .eth) = false) (f_r_flw : k (.reg .flw) = false) (f_r_aud : k (.reg .aud) = false) (f_r_eng : k (.reg .eng) = false) (f_r_cel : k (.reg .cel) = false) (f_r_zl : k (.reg .zl) = false) (f_r_red : k (.reg .red) = false) (f_r_flt : k (.reg .flt) = false) (f_r_pmu : k (.reg .pmu) = false) (f_r_noc : k (.reg .noc) = false) (k3 : Keeps k s0 a3) :
    KeepsOut k s0 (execCadenceStart a1 a2 a3) := by
  unfold execCadenceStart
  exact (KeepsOut.next (startCadence_keeps f_cmd f_flt f_xpt f_red f_flw f_aud f_zl f_eng f_cel f_ref f_lease f_mem f_house f_pmu f_out f_free f_r_cmd f_r_xpt f_r_ref f_r_eth f_r_flw f_r_aud f_r_eng f_r_cel f_r_zl f_r_red f_r_flt f_r_pmu f_r_noc k3))

theorem stageCad_keeps {k s0 a1 a2} (f_xpt : k .xpt = false) (k2 : Keeps k s0 a2) :
    Keeps k s0 (stageCad a1 a2) := by
  unfold stageCad
  exact (by lift_lets -underBinder; intro xh1; exact (k2.set_xpt f_xpt))

theorem execCadenceDisable_keeps {k s0 a1 a2 a3 a4} (f_cmd : k .cmd = false) (f_flt : k .flt = false) (f_xpt : k .xpt = false) (f_red : k .red = false) (f_flw : k .flw = false) (f_aud : k .aud = false) (f_zl : k .zl = false) (f_eng : k .eng = false) (f_cel : k .cel = false) (f_ref : k .ref = false) (f_lease : k .lease = false) (f_mem : k .mem = false) (f_pmu : k .pmu = false) (f_out : k .out = false) (f_free : k .free = false) (f_r_hif : k (.reg .hif) = false) (f_r_cmd : k (.reg .cmd) = false) (f_r_xpt : k (.reg .xpt) = false) (f_r_eth : k (.reg .eth) = false) (f_r_flw : k (.reg .flw) = false) (f_r_aud : k (.reg .aud) = false) (f_r_eng : k (.reg .eng) = false) (f_r_cel : k (.reg .cel) = false) (f_r_zl : k (.reg .zl) = false) (f_r_red : k (.reg .red) = false) (f_r_flt : k (.reg .flt) = false) (f_r_pmu : k (.reg .pmu) = false) (f_r_noc : k (.reg .noc) = false) (k4 : Keeps k s0 a4) :
    KeepsOut k s0 (execCadenceDisable a1 a2 a3 a4) := by
  unfold execCadenceDisable
  exact (KeepsOut.next (gate_keeps f_pmu f_r_hif f_r_pmu f_r_noc (fun _ h1 => (writeCadCfg_keeps f_cmd f_flt f_xpt f_red f_flw f_aud f_zl f_eng f_cel f_ref f_lease f_mem f_pmu f_out f_free f_r_cmd f_r_xpt f_r_eth f_r_flw f_r_aud f_r_eng f_r_cel f_r_zl f_r_red f_r_flt f_r_pmu h1)) k4))

theorem realignGo_keeps {k s0 a1 a2 a3 a4} (f_xpt : k .xpt = false) (f_red : k .red = false) (f_pmu : k .pmu = false) (f_out : k .out = false) (f_r_red : k (.reg .red) = false) (f_r_pmu : k (.reg .pmu) = false) (k4 : Keeps k s0 a4) :
    Keeps k s0 (realignGo a1 a2 a3 a4) := by
  unfold realignGo
  exact (by split; exact k4; exact (forward_keeps f_red f_pmu f_out f_r_red f_r_pmu (stageCad_keeps f_xpt k4)))

theorem execRealignPulses_keeps {k s0 a1 a2 a3} (f_cmd : k .cmd = false) (f_flt : k .flt = false) (f_xpt : k .xpt = false) (f_red : k .red = false) (f_zl : k .zl = false) (f_eng : k .eng = false) (f_cel : k .cel = false) (f_lease : k .lease = false) (f_pmu : k .pmu = false) (f_out : k .out = false) (f_free : k .free = false) (f_r_cmd : k (.reg .cmd) = false) (f_r_xpt : k (.reg .xpt) = false) (f_r_eth : k (.reg .eth) = false) (f_r_cel : k (.reg .cel) = false) (f_r_zl : k (.reg .zl) = false) (f_r_red : k (.reg .red) = false) (f_r_flt : k (.reg .flt) = false) (f_r_pmu : k (.reg .pmu) = false) (k3 : Keeps k s0 a3) :
    KeepsOut k s0 (execRealignPulses a1 a2 a3) := by
  unfold execRealignPulses
  exact (KeepsOut.next (present_keeps f_cmd f_flt f_xpt f_red f_zl f_eng f_cel f_lease f_pmu f_out f_free f_r_cmd f_r_xpt f_r_eth f_r_cel f_r_zl f_r_red f_r_flt f_r_pmu (fun _ _ _ _ h1 => (realignGo_keeps f_xpt f_red f_pmu f_out f_r_red f_r_pmu h1)) k3))

theorem readCadPos_keeps {k s0 a1 a2 a3} (f_latches : k .latches = false) (f_out : k .out = false) (k3 : Keeps k s0 a3) :
    Keeps k s0 (readCadPos a1 a2 a3) := by
  unfold readCadPos
  exact (answer_keeps f_out (latch_keeps f_latches k3))

theorem execCadPosRead_keeps {k s0 a1 a2 a3} (f_latches : k .latches = false) (f_pmu : k .pmu = false) (f_out : k .out = false) (f_r_pmu : k (.reg .pmu) = false) (f_r_noc : k (.reg .noc) = false) (k3 : Keeps k s0 a3) :
    KeepsOut k s0 (execCadPosRead a1 a2 a3) := by
  unfold execCadPosRead
  exact (KeepsOut.next (readHeld_keeps f_pmu f_out f_r_pmu f_r_noc (fun _ h1 => (readCadPos_keeps f_latches f_out h1)) k3))

theorem cadSetGo_keeps {k s0 a1 a2 a3 a4} (f_xpt : k .xpt = false) (f_red : k .red = false) (f_pmu : k .pmu = false) (f_out : k .out = false) (f_r_red : k (.reg .red) = false) (f_r_pmu : k (.reg .pmu) = false) (k4 : Keeps k s0 a4) :
    Keeps k s0 (cadSetGo a1 a2 a3 a4) := by
  unfold cadSetGo
  exact (by split; exact k4; exact (forward_keeps f_red f_pmu f_out f_r_red f_r_pmu (stageCad_keeps f_xpt k4)))

theorem execCadenceSet_keeps {k s0 a1 a2 a3} (f_cmd : k .cmd = false) (f_flt : k .flt = false) (f_xpt : k .xpt = false) (f_red : k .red = false) (f_zl : k .zl = false) (f_eng : k .eng = false) (f_cel : k .cel = false) (f_lease : k .lease = false) (f_pmu : k .pmu = false) (f_out : k .out = false) (f_free : k .free = false) (f_r_cmd : k (.reg .cmd) = false) (f_r_xpt : k (.reg .xpt) = false) (f_r_eth : k (.reg .eth) = false) (f_r_cel : k (.reg .cel) = false) (f_r_zl : k (.reg .zl) = false) (f_r_red : k (.reg .red) = false) (f_r_flt : k (.reg .flt) = false) (f_r_pmu : k (.reg .pmu) = false) (k3 : Keeps k s0 a3) :
    KeepsOut k s0 (execCadenceSet a1 a2 a3) := by
  unfold execCadenceSet
  exact (KeepsOut.next (present_keeps f_cmd f_flt f_xpt f_red f_zl f_eng f_cel f_lease f_pmu f_out f_free f_r_cmd f_r_xpt f_r_eth f_r_cel f_r_zl f_r_red f_r_flt f_r_pmu (fun _ _ _ _ h1 => (cadSetGo_keeps f_xpt f_red f_pmu f_out f_r_red f_r_pmu h1)) k3))

theorem insertTimecode_keeps {k s0 a1 a2 a3 a4 a5} (f_pmu : k .pmu = false) (f_free : k .free = false) (f_r_ref : k (.reg .ref) = false) (f_r_pmu : k (.reg .pmu) = false) (k5 : Keeps k s0 a5) :
    KeepsP k s0 (insertTimecode a1 a2 a3 a4 a5) := by
  unfold insertTimecode
  exact (by lift_lets -underBinder; intro xh1; (try clear_value xh1); intro xh2; (try clear_value xh2); intro xh3; (try clear_value xh3); intro xh4; (try clear_value xh4); intro xh5; (try clear_value xh5); exact (keep_ite (KeepsP k s0) k5 (keep_ite (KeepsP k s0) (State.count_keeps f_pmu f_r_pmu (State.bump_keeps (.of f_r_ref) k5)) (by split; (rename_i vh6 vh7 he; have h8 := KeepsP.of_eq he (State.freeNat_keeps f_free k5); exact (by lift_lets -underBinder; intro xh9; (try clear_value xh9); exact h8))))))

theorem compareSig_keeps {k s0 a1 a2 a3}  (f_cmd : k .cmd = false) (f_flt : k .flt = false) (f_xpt : k .xpt = false) (f_red : k .red = false) (f_zl : k .zl = false) (f_eng : k .eng = false) (f_cel : k .cel = false) (f_lease : k .lease = false) (f_pmu : k .pmu = false) (f_out : k .out = false) (f_free : k .free = false) (f_r_cmd : k (.reg .cmd) = false) (f_r_xpt : k (.reg .xpt) = false) (f_r_eth : k (.reg .eth) = false) (f_r_cel : k (.reg .cel) = false) (f_r_zl : k (.reg .zl) = false) (f_r_red : k (.reg .red) = false) (f_r_flt : k (.reg .flt) = false) (f_r_pmu : k (.reg .pmu) = false)
    (k3 : Keeps k s0 a3) : Keeps k s0 (compareSig a1 a2 a3) := by
  have k1 := State.count_keeps (a2 := 450) (a3 := 1) f_pmu f_r_pmu k3
  have e := State.count_red (a3.count 450 1) 451 1
  have k2 : ∀ r, Keeps k s0 { (a3.count 450 1).count 451 1 with red := { (a3.count 450 1).red with runs := r } } := fun r =>
    (State.count_keeps f_pmu f_r_pmu k1).set_red f_red (congrArg RedHid.plane e).symm (.inr (congrArg RedHid.tExp e).symm)
  unfold compareSig
  refine keep_ite (Keeps k s0) k3 (keep_ite (Keeps k s0) (keep_ite (Keeps k s0)
    (State.p_keeps (.of f_r_red) (k1.set_red f_red rfl (.inr rfl))) (k1.set_red f_red rfl (.inr rfl)))
    (keep_ite (Keeps k s0) (occur_keeps f_cmd f_flt f_xpt f_red f_zl f_eng f_cel f_lease f_pmu f_out f_free f_r_cmd f_r_xpt f_r_eth f_r_cel f_r_zl f_r_red f_r_flt f_r_pmu (keep_ite (Keeps k s0) ?_ ?_)) (k2 _)))
  · exact State.p_keeps (.of f_r_red) (State.count_keeps f_pmu f_r_pmu (State.bump_keeps (.of f_r_red) (k2 _)))
  · exact State.p_keeps (.of f_r_red) (State.p_keeps (.of f_r_red) (State.p_keeps (.of f_r_red) (State.p_keeps (.of f_r_red) (State.count_keeps f_pmu f_r_pmu (State.bump_keeps (.of f_r_red) (k2 _))))))

theorem sigReceived_keeps {k s0 a1 a2} (f_cmd : k .cmd = false) (f_flt : k .flt = false) (f_xpt : k .xpt = false) (f_red : k .red = false) (f_zl : k .zl = false) (f_eng : k .eng = false) (f_cel : k .cel = false) (f_lease : k .lease = false) (f_pmu : k .pmu = false) (f_out : k .out = false) (f_free : k .free = false) (f_r_cmd : k (.reg .cmd) = false) (f_r_xpt : k (.reg .xpt) = false) (f_r_eth : k (.reg .eth) = false) (f_r_cel : k (.reg .cel) = false) (f_r_zl : k (.reg .zl) = false) (f_r_red : k (.reg .red) = false) (f_r_flt : k (.reg .flt) = false) (f_r_pmu : k (.reg .pmu) = false) (k2 : Keeps k s0 a2) :
    Keeps k s0 (sigReceived a1 a2) := by
  unfold sigReceived
  exact (keep_ite (Keeps k s0) (by split; exact (by lift_lets -underBinder; intro xh1; exact (compareSig_keeps f_cmd f_flt f_xpt f_red f_zl f_eng f_cel f_lease f_pmu f_out f_free f_r_cmd f_r_xpt f_r_eth f_r_cel f_r_zl f_r_red f_r_flt f_r_pmu (k2.set_red f_red rfl (.inr rfl)))); exact (by lift_lets -underBinder; intro xh2; exact (k2.set_red f_red rfl (.inr rfl)))) k2)

theorem sigMade_keeps {k s0 a1 a2} (f_cmd : k .cmd = false) (f_flt : k .flt = false) (f_xpt : k .xpt = false) (f_red : k .red = false) (f_zl : k .zl = false) (f_eng : k .eng = false) (f_cel : k .cel = false) (f_lease : k .lease = false) (f_pmu : k .pmu = false) (f_out : k .out = false) (f_free : k .free = false) (f_r_cmd : k (.reg .cmd) = false) (f_r_xpt : k (.reg .xpt) = false) (f_r_eth : k (.reg .eth) = false) (f_r_cel : k (.reg .cel) = false) (f_r_zl : k (.reg .zl) = false) (f_r_red : k (.reg .red) = false) (f_r_flt : k (.reg .flt) = false) (f_r_pmu : k (.reg .pmu) = false) (k2 : Keeps k s0 a2) :
    Keeps k s0 (sigMade a1 a2) := by
  unfold sigMade
  exact (keep_ite (Keeps k s0) (keep_ite (Keeps k s0) (State.tell_keeps f_red f_out k2) k2) (keep_ite (Keeps k s0) (by split; exact (by lift_lets -underBinder; intro xh1; exact (compareSig_keeps f_cmd f_flt f_xpt f_red f_zl f_eng f_cel f_lease f_pmu f_out f_free f_r_cmd f_r_xpt f_r_eth f_r_cel f_r_zl f_r_red f_r_flt f_r_pmu (k2.set_red f_red rfl (.inr rfl)))); exact (by lift_lets -underBinder; intro xh2; exact (k2.set_red f_red rfl (.inr rfl)))) k2))

theorem sigMissing_keeps {k s0 a1 a2 a3} (f_red : k .red = false) (f_pmu : k .pmu = false) (f_r_red : k (.reg .red) = false) (f_r_pmu : k (.reg .pmu) = false) (k3 : Keeps k s0 a3) :
    Keeps k s0 (sigMissing a1 a2 a3) := by
  unfold sigMissing
  exact (by split; exact k3; exact (by lift_lets -underBinder; intro xh1; exact (keep_ite (Keeps k s0) (State.count_keeps f_pmu f_r_pmu (State.bump_keeps (.of f_r_red) (k3.set_red f_red rfl (.inr rfl)))) k3)))

theorem sendRecord_keeps {k s0 a1 a2 a3 a4 a5} (f_cmd : k .cmd = false) (f_flt : k .flt = false) (f_xpt : k .xpt = false) (f_red : k .red = false) (f_flw : k .flw = false) (f_zl : k .zl = false) (f_eng : k .eng = false) (f_cel : k .cel = false) (f_lease : k .lease = false) (f_mem : k .mem = false) (f_pmu : k .pmu = false) (f_out : k .out = false) (f_free : k .free = false) (f_r_cmd : k (.reg .cmd) = false) (f_r_xpt : k (.reg .xpt) = false) (f_r_eth : k (.reg .eth) = false) (f_r_eng : k (.reg .eng) = false) (f_r_cel : k (.reg .cel) = false) (f_r_zl : k (.reg .zl) = false) (f_r_red : k (.reg .red) = false) (f_r_flt : k (.reg .flt) = false) (f_r_pmu : k (.reg .pmu) = false) (k5 : Keeps k s0 a5) :
    Keeps k s0 (sendRecord a1 a2 a3 a4 a5) := by
  unfold sendRecord
  exact (by lift_lets -underBinder; intro xh1; (try clear_value xh1); exact (keep_ite (Keeps k s0) (keep_ite (Keeps k s0) k5 (keep_ite (Keeps k s0) (engInA_keeps f_cmd f_flt f_xpt f_red f_zl f_eng f_cel f_lease f_mem f_pmu f_out f_free f_r_cmd f_r_xpt f_r_eth f_r_eng f_r_cel f_r_zl f_r_red f_r_flt f_r_pmu k5) (engInB_keeps f_eng k5))) (keep_ite (Keeps k s0) (packetise_keeps f_flw f_free k5) (laneOut_keeps f_zl f_free k5))))

theorem execDestRecordEmit_keeps {k s0 a1 a2 a3} (f_cmd : k .cmd = false) (f_flt : k .flt = false) (f_xpt : k .xpt = false) (f_red : k .red = false) (f_flw : k .flw = false) (f_aud : k .aud = false) (f_zl : k .zl = false) (f_eng : k .eng = false) (f_cel : k .cel = false) (f_lease : k .lease = false) (f_mem : k .mem = false) (f_pmu : k .pmu = false) (f_out : k .out = false) (f_free : k .free = false) (f_r_cmd : k (.reg .cmd) = false) (f_r_xpt : k (.reg .xpt) = false) (f_r_ref : k (.reg .ref) = false) (f_r_eth : k (.reg .eth) = false) (f_r_aud : k (.reg .aud) = false) (f_r_eng : k (.reg .eng) = false) (f_r_cel : k (.reg .cel) = false) (f_r_zl : k (.reg .zl) = false) (f_r_red : k (.reg .red) = false) (f_r_flt : k (.reg .flt) = false) (f_r_pmu : k (.reg .pmu) = false) (k3 : Keeps k s0 a3) :
    KeepsOut k s0 (execDestRecordEmit a1 a2 a3) := by
  unfold execDestRecordEmit
  exact (KeepsOut.next (by split; exact k3; exact (by lift_lets -underBinder; intro xh1; (try clear_value xh1); intro xh2; intro xh3; have h4 : Keeps k s0 xh3 := (by unfold xh3; exact (k3.set_xpt f_xpt)); clear_value xh3; intro xh5; (try clear_value xh5); intro xh6; (try clear_value xh6); exact (by split; (rename_i vh7 vh8 he; have h9 := KeepsP.of_eq he (keep_ite (KeepsP k s0) (reembed_keeps f_cmd f_flt f_xpt f_red f_aud f_zl f_eng f_cel f_lease f_pmu f_out f_free f_r_cmd f_r_xpt f_r_eth f_r_aud f_r_cel f_r_zl f_r_red f_r_flt f_r_pmu h4) h4); exact (by split; (rename_i vh10 vh11 he; have h12 := KeepsP.of_eq he (keep_ite (KeepsP k s0) (insertTimecode_keeps f_pmu f_free f_r_ref f_r_pmu h9) h9); exact (by lift_lets -underBinder; intro xh13; (try clear_value xh13); exact (sendRecord_keeps f_cmd f_flt f_xpt f_red f_flw f_zl f_eng f_cel f_lease f_mem f_pmu f_out f_free f_r_cmd f_r_xpt f_r_eth f_r_eng f_r_cel f_r_zl f_r_red f_r_flt f_r_pmu (probeDest_keeps f_xpt (keep_when (fun _ h14 => (sigMade_keeps f_cmd f_flt f_xpt f_red f_zl f_eng f_cel f_lease f_pmu f_out f_free f_r_cmd f_r_xpt f_r_eth f_r_cel f_r_zl f_r_red f_r_flt f_r_pmu h14)) h12)))))))))))

theorem heartbeatTime_keeps {k s0 a1 a2} (f_red : k .red = false) (f_ref : k .ref = false) (f_pmu : k .pmu = false) (f_r_red : k (.reg .red) = false) (f_r_pmu : k (.reg .pmu) = false) (k2 : Keeps k s0 a2) :
    Keeps k s0 (heartbeatTime a1 a2) := by
  unfold heartbeatTime
  exact (by split; exact k2; exact (by lift_lets -underBinder; intro xh1; have h2 : Keeps k s0 xh1 := (by unfold xh1; exact (State.p_keeps (.of f_r_red) k2)); clear_value xh1; intro xh3; (try clear_value xh3); intro xh4; intro xh5; have h6 : Keeps k s0 xh5 := (by unfold xh5; exact (h2.set_red f_red rfl (.inr rfl))); clear_value xh5; exact (keep_when (fun _ h7 => (measured_keeps f_ref f_pmu f_r_pmu h7)) h6)))

theorem setClash_keeps {k s0 a1 a2} (f_cmd : k .cmd = false) (f_flt : k .flt = false) (f_xpt : k .xpt = false) (f_red : k .red = false) (f_zl : k .zl = false) (f_eng : k .eng = false) (f_cel : k .cel = false) (f_lease : k .lease = false) (f_pmu : k .pmu = false) (f_out : k .out = false) (f_free : k .free = false) (f_r_cmd : k (.reg .cmd) = false) (f_r_xpt : k (.reg .xpt) = false) (f_r_eth : k (.reg .eth) = false) (f_r_cel : k (.reg .cel) = false) (f_r_zl : k (.reg .zl) = false) (f_r_red : k (.reg .red) = false) (f_r_flt : k (.reg .flt) = false) (f_r_pmu : k (.reg .pmu) = false) (f_r_sys : k (.reg .sys) = false) (k2 : Keeps k s0 a2) :
    Keeps k s0 (setClash a1 a2) := by
  unfold setClash
  exact (by lift_lets -underBinder; intro xh1; have h2 : Keeps k s0 xh1 := (by unfold xh1; exact (level_keeps f_cmd f_flt f_xpt f_red f_zl f_eng f_cel f_lease f_pmu f_out f_free f_r_cmd f_r_xpt f_r_eth f_r_cel f_r_zl f_r_red f_r_flt f_r_pmu (State.p_keeps (.of f_r_sys) k2))); clear_value xh1; exact (keep_when (fun _ h3 => (leaveActive_keeps f_cmd f_red f_lease f_pmu f_out f_free f_r_cmd f_r_xpt f_r_red f_r_pmu h3)) h2))

theorem guardStepdown_keeps {k s0 a1} (f_cmd : k .cmd = false) (f_red : k .red = false) (f_lease : k .lease = false) (f_pmu : k .pmu = false) (f_out : k .out = false) (f_free : k .free = false) (f_r_cmd : k (.reg .cmd) = false) (f_r_xpt : k (.reg .xpt) = false) (f_r_red : k (.reg .red) = false) (f_r_pmu : k (.reg .pmu) = false) (k1 : Keeps k s0 a1) :
    Keeps k s0 (guardStepdown a1) := by
  unfold guardStepdown
  exact (by split; exact (keep_ite (Keeps k s0) (leaveActive_keeps f_cmd f_red f_lease f_pmu f_out f_free f_r_cmd f_r_xpt f_r_red f_r_pmu (State.count_keeps f_pmu f_r_pmu k1)) k1); exact k1)

theorem startSync_keeps {k s0 a1} (f_red : k .red = false) (f_pmu : k .pmu = false) (f_out : k .out = false) (f_r_red : k (.reg .red) = false) (f_r_pmu : k (.reg .pmu) = false) (k1 : Keeps k s0 a1) :
    Keeps k s0 (startSync a1) := by
  unfold startSync
  exact (by lift_lets -underBinder; intro xh1; have h3 : Keeps k s0 xh1 := (by unfold xh1; exact (keep_when (fun _ h2 => (State.bump_keeps (.of f_r_red) h2)) k1)); clear_value xh1; intro xh4; intro xh5; have h6 : Keeps k s0 xh5 := (by unfold xh5; exact (h3.set_red f_red rfl (.inr rfl))); clear_value xh5; exact (State.tell_keeps f_red f_out (State.count_keeps f_pmu f_r_pmu (State.p_keeps (.of f_r_red) (State.p_keeps (.of f_r_red) h6)))))

theorem decideSync_keeps {k s0 a1}  (f_cmd : k .cmd = false) (f_red : k .red = false) (f_leaveSync : k .leaveSync = false) (f_pmu : k .pmu = false) (f_out : k .out = false) (f_r_cmd : k (.reg .cmd) = false) (f_r_xpt : k (.reg .xpt) = false) (f_r_red : k (.reg .red) = false) (f_r_pmu : k (.reg .pmu) = false) (k1 : Keeps k s0 a1) : Keeps k s0 (decideSync a1) := by
  unfold decideSync
  split
  · rename_i h
    simp only [Bool.and_eq_true, decide_eq_true_eq] at h
    have e := h.1.1
    have k2 := movePlane_keeps (a1 := .standby) f_cmd f_red f_pmu f_r_cmd f_r_xpt f_r_pmu k1 (hl := fun _ => .inr (by rw [e]; decide)) (hm := by simp [f_leaveSync])
    dsimp only
    split
    · exact k2
    · exact keep_ite (Keeps k s0) k2 k1
    · exact startSync_keeps f_red f_pmu f_out f_r_red f_r_pmu k1
  · exact k1

theorem join_keeps {k s0 a1}  (f_cmd : k .cmd = false) (f_red : k .red = false) (f_leaveIso : k .leaveIso = false) (f_enterSync : k .enterSync = false) (f_leaveSync : k .leaveSync = false) (f_pmu : k .pmu = false) (f_out : k .out = false) (f_r_cmd : k (.reg .cmd) = false) (f_r_xpt : k (.reg .xpt) = false) (f_r_red : k (.reg .red) = false) (f_r_pmu : k (.reg .pmu) = false) (k1 : Keeps k s0 a1) : Keeps k s0 (join a1) := by
  unfold join
  split
  · rename_i h
    have e : a1.red.plane = .isolated := by simp only [Bool.and_eq_true, decide_eq_true_eq] at h; exact h.1
    exact keep_ite (Keeps k s0) (decideSync_keeps f_cmd f_red f_leaveSync f_pmu f_out f_r_cmd f_r_xpt f_r_red f_r_pmu (setPlane_keeps f_cmd f_red f_pmu f_r_cmd f_r_xpt f_r_pmu k1 (hs := by simp [f_enterSync]) (hl := by simp [f_leaveIso])))
      (setPlane_keeps f_cmd f_red f_pmu f_r_cmd f_r_xpt f_r_pmu k1 (hl := by simp [f_leaveIso]) (hm := fun _ => .inr (by rw [e]; decide)))
  · exact k1

theorem setConflict_keeps {k s0 a1 a2} (f_cmd : k .cmd = false) (f_flt : k .flt = false) (f_xpt : k .xpt = false) (f_red : k .red = false) (f_zl : k .zl = false) (f_eng : k .eng = false) (f_cel : k .cel = false) (f_lease : k .lease = false) (f_pmu : k .pmu = false) (f_out : k .out = false) (f_free : k .free = false) (f_r_cmd : k (.reg .cmd) = false) (f_r_xpt : k (.reg .xpt) = false) (f_r_eth : k (.reg .eth) = false) (f_r_cel : k (.reg .cel) = false) (f_r_zl : k (.reg .zl) = false) (f_r_red : k (.reg .red) = false) (f_r_flt : k (.reg .flt) = false) (f_r_pmu : k (.reg .pmu) = false) (k2 : Keeps k s0 a2) :
    Keeps k s0 (setConflict a1 a2) := by
  unfold setConflict
  exact (by lift_lets -underBinder; intro xh1; intro xh2; have h3 : Keeps k s0 xh2 := (by unfold xh2; exact (k2.set_red f_red rfl (.inr rfl))); clear_value xh2; exact (keep_ite (Keeps k s0) (State.count_keeps f_pmu f_r_pmu (occur_keeps f_cmd f_flt f_xpt f_red f_zl f_eng f_cel f_lease f_pmu f_out f_free f_r_cmd f_r_xpt f_r_eth f_r_cel f_r_zl f_r_red f_r_flt f_r_pmu h3)) h3))

theorem endSync_keeps {k s0 a1 a2} (f_red : k .red = false) (f_r_red : k (.reg .red) = false) (k2 : Keeps k s0 a2) :
    Keeps k s0 (endSync a1 a2) := by
  unfold endSync
  exact (by lift_lets -underBinder; intro xh1; (try clear_value xh1); intro xh2; intro xh3; have h4 : Keeps k s0 xh3 := (by unfold xh3; exact (k2.set_red f_red rfl (.inr rfl))); clear_value xh3; exact (State.p_keeps (.of f_r_red) (State.p_keeps (.of f_r_red) h4)))

theorem heartbeatReceive_keeps {k s0 a1 a2} (f_cmd : k .cmd = false) (f_flt : k .flt = false) (f_xpt : k .xpt = false) (f_red : k .red = false) (f_zl : k .zl = false) (f_eng : k .eng = false) (f_cel : k .cel = false) (f_ref : k .ref = false) (f_lease : k .lease = false) (f_leaveSync : k .leaveSync = false) (f_pmu : k .pmu = false) (f_out : k .out = false) (f_free : k .free = false) (f_r_cmd : k (.reg .cmd) = false) (f_r_xpt : k (.reg .xpt) = false) (f_r_eth : k (.reg .eth) = false) (f_r_cel : k (.reg .cel) = false) (f_r_zl : k (.reg .zl) = false) (f_r_red : k (.reg .red) = false) (f_r_flt : k (.reg .flt) = false) (f_r_pmu : k (.reg .pmu) = false) (f_r_sys : k (.reg .sys) = false) (k2 : Keeps k s0 a2) :
    Keeps k s0 (heartbeatReceive a1 a2) := by
  unfold heartbeatReceive
  exact (by lift_lets -underBinder; intro xh1; (try clear_value xh1); intro xh2; intro xh3; intro xh4; have h5 : Keeps k s0 xh4 := (by unfold xh4; exact (k2.set_many (by intro p hp; cases p <;> first | exact rfl | exact id | exact fun _ _ => rfl | simp [f_red, f_ref] at hp))); clear_value xh4; intro xh6; have h7 : Keeps k s0 xh6 := (by unfold xh6; exact (State.wr_keeps (.of f_r_red) (State.p_keeps (.of f_r_red) (State.p_keeps (.of f_r_red) h5)))); clear_value xh6; intro xh8; have h10 : Keeps k s0 xh8 := (by unfold xh8; exact (seeEpoch_keeps f_r_red (keep_when (fun _ h9 => (startRecovery_keeps f_red h9)) (heartbeatTime_keeps f_red f_ref f_pmu f_r_red f_r_pmu h7)))); clear_value xh8; intro xh11; have h12 : Keeps k s0 xh11 := (by unfold xh11; exact (setClash_keeps f_cmd f_flt f_xpt f_red f_zl f_eng f_cel f_lease f_pmu f_out f_free f_r_cmd f_r_xpt f_r_eth f_r_cel f_r_zl f_r_red f_r_flt f_r_pmu f_r_sys h10)); clear_value xh11; intro xh13; have h14 : Keeps k s0 xh13 := (by unfold xh13; exact (setConflict_keeps f_cmd f_flt f_xpt f_red f_zl f_eng f_cel f_lease f_pmu f_out f_free f_r_cmd f_r_xpt f_r_eth f_r_cel f_r_zl f_r_red f_r_flt f_r_pmu h12)); clear_value xh13; intro xh15; have h16 : Keeps k s0 xh15 := (by unfold xh15; exact (keep_ite (Keeps k s0) (endSync_keeps f_red f_r_red h14) h14)); clear_value xh15; exact (keep_ite (Keeps k s0) k2 (decideSync_keeps f_cmd f_red f_leaveSync f_pmu f_out f_r_cmd f_r_xpt f_r_red f_r_pmu h16)))

theorem enterSyncing_keeps {k s0 a1}  (f_cmd : k .cmd = false) (f_red : k .red = false) (f_enterSync : k .enterSync = false) (f_leaveSync : k .leaveSync = false) (f_pmu : k .pmu = false) (f_out : k .out = false) (f_r_cmd : k (.reg .cmd) = false) (f_r_xpt : k (.reg .xpt) = false) (f_r_red : k (.reg .red) = false) (f_r_pmu : k (.reg .pmu) = false) (k1 : Keeps k s0 a1) : Keeps k s0 (enterSyncing a1) := by
  unfold enterSyncing
  split
  · rename_i e
    exact decideSync_keeps f_cmd f_red f_leaveSync f_pmu f_out f_r_cmd f_r_xpt f_r_red f_r_pmu (movePlane_keeps f_cmd f_red f_pmu f_r_cmd f_r_xpt f_r_pmu k1 (hs := by simp [f_enterSync]) (hl := fun _ => .inr (by rw [e]; decide)))
  · exact k1

theorem grantAccept_keeps {k s0 a1 a2 a3}  (f_cmd : k .cmd = false) (f_red : k .red = false) (f_active : k .active = false) (f_lease : k .lease = false) (f_pmu : k .pmu = false) (f_r_cmd : k (.reg .cmd) = false) (f_r_xpt : k (.reg .xpt) = false) (f_r_red : k (.reg .red) = false) (f_r_pmu : k (.reg .pmu) = false)
    (k3 : Keeps k s0 a3) : Keeps k s0 (grantAccept a1 a2 a3) := by
  have h := (State.count_keeps (a2 := 434) (a3 := 1) f_pmu f_r_pmu (State.p_keeps (a2 := F.RED_LEASE_TERM_TERM) (a3 := []) (a4 := a1.term) (.of f_r_red)
    (State.p_keeps (a2 := F.RED_EPOCH_EPOCH) (a3 := []) (a4 := a1.epoch) (.of f_r_red) k3)))
  have e' : ∀ (c : Bool) (u : State), u.red.plane = .standby → (when c startRecovery u).red.plane = .standby := fun c u hu => by
    cases c
    · exact hu
    · exact (startRecovery_plane u).trans hu
  have k3 : ∀ (c : Bool) (u : State), u.red.plane = .standby → Keeps k s0 u → Keeps k s0 (setPlane .active (when c startRecovery u)) :=
    fun c u hu ku => setPlane_keeps f_cmd f_red f_pmu f_r_cmd f_r_xpt f_r_pmu (keep_when (fun _ h => startRecovery_keeps f_red h) ku)
      (ha := by simp [f_active]) (hl := fun _ => .inr (by rw [e' c u hu]; decide)) (hm := fun _ => .inr (by rw [e' c u hu]; decide))
  have h2 := h.set_red (x := { (((a3.p F.RED_EPOCH_EPOCH [] a1.epoch).p F.RED_LEASE_TERM_TERM [] a1.term).count 434 1).red with tExp := some a2 })
    f_red rfl (.inl f_lease)
  unfold grantAccept
  dsimp only
  split
  · rename_i e
    exact k3 _ _ (by simpa using e) h2
  · exact h2

theorem goIsolated_keeps {k s0 a1}  (f_cmd : k .cmd = false) (f_red : k .red = false) (f_lease : k .lease = false) (f_enterIso : k .enterIso = false) (f_leaveSync : k .leaveSync = false) (f_pmu : k .pmu = false) (f_out : k .out = false) (f_free : k .free = false) (f_r_cmd : k (.reg .cmd) = false) (f_r_xpt : k (.reg .xpt) = false) (f_r_red : k (.reg .red) = false) (f_r_pmu : k (.reg .pmu) = false) (k1 : Keeps k s0 a1) : Keeps k s0 (goIsolated a1) := by
  unfold goIsolated
  exact endSync_keeps f_red f_r_red (setPlane_keeps f_cmd f_red f_pmu f_r_cmd f_r_xpt f_r_pmu (leaveActive_keeps f_cmd f_red f_lease f_pmu f_out f_free f_r_cmd f_r_xpt f_r_red f_r_pmu k1) (hi := by simp [f_enterIso]) (hm := by simp [f_leaveSync]))

theorem partnerDown_keeps {k s0 a1}  (f_cmd : k .cmd = false) (f_flt : k .flt = false) (f_xpt : k .xpt = false) (f_red : k .red = false) (f_zl : k .zl = false) (f_eng : k .eng = false) (f_cel : k .cel = false) (f_lease : k .lease = false) (f_enterSync : k .enterSync = false) (f_pmu : k .pmu = false) (f_out : k .out = false) (f_free : k .free = false) (f_r_cmd : k (.reg .cmd) = false) (f_r_xpt : k (.reg .xpt) = false) (f_r_eth : k (.reg .eth) = false) (f_r_cel : k (.reg .cel) = false) (f_r_zl : k (.reg .zl) = false) (f_r_red : k (.reg .red) = false) (f_r_flt : k (.reg .flt) = false) (f_r_pmu : k (.reg .pmu) = false) (f_r_sys : k (.reg .sys) = false) (k1 : Keeps k s0 a1) : Keeps k s0 (partnerDown a1) := by
  unfold partnerDown
  split
  · have k2 := level_keeps (a1 := 319) (a2 := 0) (a3 := true) f_cmd f_flt f_xpt f_red f_zl f_eng f_cel f_lease f_pmu f_out f_free f_r_cmd f_r_xpt f_r_eth f_r_cel f_r_zl f_r_red f_r_flt f_r_pmu (level_keeps (a1 := 313) (a2 := 0) (a3 := false) f_cmd f_flt f_xpt f_red f_zl f_eng f_cel f_lease f_pmu f_out f_free f_r_cmd f_r_xpt f_r_eth f_r_cel f_r_zl f_r_red f_r_flt f_r_pmu
      (State.p_keeps (a2 := F.SYS_STRAP_ID_CLASH) (a3 := []) (a4 := 0) (.of f_r_sys)
        (State.p_keeps (a2 := F.RED_PARTNER_STAT_UP) (a3 := []) (a4 := 0) (.of f_r_red)
          (k1.set_red (x := { a1.red with conflict := false }) f_red rfl (.inr rfl)))))
    dsimp only
    generalize level 319 0 true _ = u at k2
    refine endSync_keeps f_red f_r_red ?_
    by_cases e : u.red.plane = .standby
    · simp only [e, decide_true, when]
      exact setPlane_keeps f_cmd f_red f_pmu f_r_cmd f_r_xpt f_r_pmu k2 (hs := by simp [f_enterSync]) (hl := fun _ => .inr (by rw [e]; decide))
    · simp only [e, decide_false, when]
      exact k2
  · exact keep_ite (Keeps k s0) (level_keeps f_cmd f_flt f_xpt f_red f_zl f_eng f_cel f_lease f_pmu f_out f_free f_r_cmd f_r_xpt f_r_eth f_r_cel f_r_zl f_r_red f_r_flt f_r_pmu (State.p_keeps (.of f_r_sys) k1)) k1

theorem badMsg_keeps {k s0 a1} (f_pmu : k .pmu = false) (f_r_red : k (.reg .red) = false) (f_r_pmu : k (.reg .pmu) = false) (k1 : Keeps k s0 a1) :
    Keeps k s0 (badMsg a1) := by
  unfold badMsg
  exact (State.count_keeps f_pmu f_r_pmu (State.bump_keeps (.of f_r_red) k1))

theorem writeLeaseCfg_keeps {k s0 a1 a2} (f_r_red : k (.reg .red) = false) (k2 : Keeps k s0 a2) :
    Keeps k s0 (writeLeaseCfg a1 a2) := by
  unfold writeLeaseCfg
  exact (by lift_lets -underBinder; intro xh1; (try clear_value xh1); exact (keep_ite (Keeps k s0) k2 (State.write_keeps (.of f_r_red) k2)))

theorem leaseExpiry_keeps {k s0 a1} (f_cmd : k .cmd = false) (f_flt : k .flt = false) (f_xpt : k .xpt = false) (f_red : k .red = false) (f_zl : k .zl = false) (f_eng : k .eng = false) (f_cel : k .cel = false) (f_lease : k .lease = false) (f_pmu : k .pmu = false) (f_out : k .out = false) (f_free : k .free = false) (f_r_cmd : k (.reg .cmd) = false) (f_r_xpt : k (.reg .xpt) = false) (f_r_eth : k (.reg .eth) = false) (f_r_cel : k (.reg .cel) = false) (f_r_zl : k (.reg .zl) = false) (f_r_red : k (.reg .red) = false) (f_r_flt : k (.reg .flt) = false) (f_r_pmu : k (.reg .pmu) = false) (k1 : Keeps k s0 a1) :
    Keeps k s0 (leaseExpiry a1) := by
  unfold leaseExpiry
  exact (by split; exact (by lift_lets -underBinder; intro xh1; exact (keep_ite (Keeps k s0) (leaveActive_keeps f_cmd f_red f_lease f_pmu f_out f_free f_r_cmd f_r_xpt f_r_red f_r_pmu (occur_keeps f_cmd f_flt f_xpt f_red f_zl f_eng f_cel f_lease f_pmu f_out f_free f_r_cmd f_r_xpt f_r_eth f_r_cel f_r_zl f_r_red f_r_flt f_r_pmu (State.count_keeps f_pmu f_r_pmu (k1.set_red f_red rfl (.inl f_lease))))) k1)); exact k1)

theorem epochStepdown_keeps {k s0 a1} (f_cmd : k .cmd = false) (f_red : k .red = false) (f_lease : k .lease = false) (f_pmu : k .pmu = false) (f_out : k .out = false) (f_free : k .free = false) (f_r_cmd : k (.reg .cmd) = false) (f_r_xpt : k (.reg .xpt) = false) (f_r_red : k (.reg .red) = false) (f_r_pmu : k (.reg .pmu) = false) (k1 : Keeps k s0 a1) :
    Keeps k s0 (epochStepdown a1) := by
  unfold epochStepdown
  exact (keep_ite (Keeps k s0) (leaveActive_keeps f_cmd f_red f_lease f_pmu f_out f_free f_r_cmd f_r_xpt f_r_red f_r_pmu (State.count_keeps f_pmu f_r_pmu k1)) k1)

theorem helloSend_keeps {k s0 a1} (f_red : k .red = false) (f_pmu : k .pmu = false) (f_out : k .out = false) (f_free : k .free = false) (f_r_pmu : k (.reg .pmu) = false) (k1 : Keeps k s0 a1) :
    Keeps k s0 (helloSend a1) := by
  unfold helloSend
  exact (by lift_lets -underBinder; intro xh1; (try clear_value xh1); exact (keep_ite (Keeps k s0) (by split; (rename_i vh2 vh3 he; have h4 := KeepsP.of_eq he (State.freeNat_keeps f_free k1); exact (by lift_lets -underBinder; intro xh5; intro xh6; have h7 : Keeps k s0 xh6 := (by unfold xh6; exact (h4.set_red f_red rfl (.inr rfl))); clear_value xh6; exact (State.count_keeps f_pmu f_r_pmu (sendLease_keeps f_red f_out h7))))) k1))

theorem isolate_keeps {k s0 a1} (f_cmd : k .cmd = false) (f_red : k .red = false) (f_lease : k .lease = false) (f_enterIso : k .enterIso = false) (f_leaveSync : k .leaveSync = false) (f_pmu : k .pmu = false) (f_out : k .out = false) (f_free : k .free = false) (f_r_cmd : k (.reg .cmd) = false) (f_r_xpt : k (.reg .xpt) = false) (f_r_red : k (.reg .red) = false) (f_r_pmu : k (.reg .pmu) = false) (k1 : Keeps k s0 a1) :
    Keeps k s0 (isolate a1) := by
  unfold isolate
  exact (keep_ite (Keeps k s0) k1 (goIsolated_keeps f_cmd f_red f_lease f_enterIso f_leaveSync f_pmu f_out f_free f_r_cmd f_r_xpt f_r_red f_r_pmu k1))

theorem writeRedCtrl_keeps {k s0 a1 a2} (f_cmd : k .cmd = false) (f_red : k .red = false) (f_lease : k .lease = false) (f_enterIso : k .enterIso = false) (f_leaveIso : k .leaveIso = false) (f_enterSync : k .enterSync = false) (f_leaveSync : k .leaveSync = false) (f_pmu : k .pmu = false) (f_out : k .out = false) (f_free : k .free = false) (f_r_cmd : k (.reg .cmd) = false) (f_r_xpt : k (.reg .xpt) = false) (f_r_red : k (.reg .red) = false) (f_r_pmu : k (.reg .pmu) = false) (k2 : Keeps k s0 a2) :
    Keeps k s0 (writeRedCtrl a1 a2) := by
  unfold writeRedCtrl
  exact (by lift_lets -underBinder; intro xh1; have h3 : Keeps k s0 xh1 := (by unfold xh1; exact (keep_when (fun _ h2 => (leaveActive_keeps f_cmd f_red f_lease f_pmu f_out f_free f_r_cmd f_r_xpt f_r_red f_r_pmu h2)) k2)); clear_value xh1; intro xh4; have h6 : Keeps k s0 xh4 := (by unfold xh4; exact (keep_when (fun _ h5 => (enterSyncing_keeps f_cmd f_red f_enterSync f_leaveSync f_pmu f_out f_r_cmd f_r_xpt f_r_red f_r_pmu h5)) h3)); clear_value xh4; intro xh7; have h9 : Keeps k s0 xh7 := (by unfold xh7; exact (keep_when (fun _ h8 => (isolate_keeps f_cmd f_red f_lease f_enterIso f_leaveSync f_pmu f_out f_free f_r_cmd f_r_xpt f_r_red f_r_pmu h8)) h6)); clear_value xh7; exact (keep_when (fun _ h10 => (join_keeps f_cmd f_red f_leaveIso f_enterSync f_leaveSync f_pmu f_out f_r_cmd f_r_xpt f_r_red f_r_pmu h10)) h9))

theorem healthSend_keeps {k s0 a1} (f_red : k .red = false) (f_pmu : k .pmu = false) (f_out : k .out = false) (f_free : k .free = false) (f_r_pmu : k (.reg .pmu) = false) (k1 : Keeps k s0 a1) :
    Keeps k s0 (healthSend a1) := by
  unfold healthSend
  exact (by lift_lets -underBinder; intro xh1; (try clear_value xh1); intro xh2; (try clear_value xh2); intro xh3; (try clear_value xh3); exact (keep_ite (Keeps k s0) (by split; (rename_i vh4 vh5 he; have h6 := KeepsP.of_eq he (State.freeNat_keeps f_free k1); exact (by lift_lets -underBinder; intro xh7; exact (State.count_keeps f_pmu f_r_pmu (sendLease_keeps f_red f_out (h6.set_red f_red rfl (.inr rfl))))))) k1))

theorem grantDiscard_keeps {k s0 a1 a2} (f_pmu : k .pmu = false) (f_r_pmu : k (.reg .pmu) = false) (g1 : RegFree k a1.reg) (k2 : Keeps k s0 a2) :
    Keeps k s0 (grantDiscard a1 a2) := by
  unfold grantDiscard
  exact (State.count_keeps f_pmu f_r_pmu (State.bump_keeps g1 k2))

theorem grantJudge_keeps {k s0 a1 a2} (f_cmd : k .cmd = false) (f_red : k .red = false) (f_active : k .active = false) (f_lease : k .lease = false) (f_pmu : k .pmu = false) (f_r_cmd : k (.reg .cmd) = false) (f_r_xpt : k (.reg .xpt) = false) (f_r_red : k (.reg .red) = false) (f_r_pmu : k (.reg .pmu) = false) (k2 : Keeps k s0 a2) :
    Keeps k s0 (grantJudge a1 a2) := by
  unfold grantJudge
  exact (by lift_lets -underBinder; intro xh1; (try clear_value xh1); exact (by split; exact (grantDiscard_keeps f_pmu f_r_pmu (.of f_r_red) k2); exact (by lift_lets -underBinder; intro xh2; (try clear_value xh2); exact (keep_ite (Keeps k s0) (grantDiscard_keeps f_pmu f_r_pmu (.of f_r_red) k2) (keep_ite (Keeps k s0) (grantDiscard_keeps f_pmu f_r_pmu (.of f_r_red) k2) (keep_ite (Keeps k s0) (grantAccept_keeps f_cmd f_red f_active f_lease f_pmu f_r_cmd f_r_xpt f_r_red f_r_pmu k2) (grantDiscard_keeps f_pmu f_r_pmu (.of f_r_red) k2)))))))

theorem leaseReceive_keeps {k s0 a1 a2} (f_cmd : k .cmd = false) (f_red : k .red = false) (f_active : k .active = false) (f_lease : k .lease = false) (f_pmu : k .pmu = false) (f_out : k .out = false) (f_free : k .free = false) (f_r_cmd : k (.reg .cmd) = false) (f_r_xpt : k (.reg .xpt) = false) (f_r_red : k (.reg .red) = false) (f_r_pmu : k (.reg .pmu) = false) (k2 : Keeps k s0 a2) :
    Keeps k s0 (leaseReceive a1 a2) := by
  unfold leaseReceive
  exact (by split; exact (keep_ite (Keeps k s0) k2 (badMsg_keeps f_pmu f_r_red f_r_pmu k2)); exact (by split; exact (badMsg_keeps f_pmu f_r_red f_r_pmu k2); exact (by lift_lets -underBinder; intro xh1; intro xh2; have h3 : Keeps k s0 xh2 := (by unfold xh2; exact (k2.set_red f_red rfl (.inr rfl))); clear_value xh2; intro xh4; have h5 : Keeps k s0 xh4 := (by unfold xh4; exact (seeEpoch_keeps f_r_red (State.count_keeps f_pmu f_r_pmu h3))); clear_value xh4; exact (keep_ite (Keeps k s0) (keep_ite (Keeps k s0) (grantDiscard_keeps f_pmu f_r_pmu (.of f_r_red) k2) (State.bump_keeps (.of f_r_red) k2)) (keep_ite (Keeps k s0) (seeEpoch_keeps f_r_red (grantJudge_keeps f_cmd f_red f_active f_lease f_pmu f_r_cmd f_r_xpt f_r_red f_r_pmu h3)) (keep_ite (Keeps k s0) (leaveActive_keeps f_cmd f_red f_lease f_pmu f_out f_free f_r_cmd f_r_xpt f_r_red f_r_pmu h5) h5))))))

theorem partnerUp_keeps {k s0 a1} (f_cmd : k .cmd = false) (f_flt : k .flt = false) (f_xpt : k .xpt = false) (f_red : k .red = false) (f_zl : k .zl = false) (f_eng : k .eng = false) (f_cel : k .cel = false) (f_lease : k .lease = false) (f_leaveSync : k .leaveSync = false) (f_pmu : k .pmu = false) (f_out : k .out = false) (f_free : k .free = false) (f_r_cmd : k (.reg .cmd) = false) (f_r_xpt : k (.reg .xpt) = false) (f_r_eth : k (.reg .eth) = false) (f_r_cel : k (.reg .cel) = false) (f_r_zl : k (.reg .zl) = false) (f_r_red : k (.reg .red) = false) (f_r_flt : k (.reg .flt) = false) (f_r_pmu : k (.reg .pmu) = false) (k1 : Keeps k s0 a1) :
    Keeps k s0 (partnerUp a1) := by
  unfold partnerUp
  exact (keep_ite (Keeps k s0) (decideSync_keeps f_cmd f_red f_leaveSync f_pmu f_out f_r_cmd f_r_xpt f_r_red f_r_pmu (level_keeps f_cmd f_flt f_xpt f_red f_zl f_eng f_cel f_lease f_pmu f_out f_free f_r_cmd f_r_xpt f_r_eth f_r_cel f_r_zl f_r_red f_r_flt f_r_pmu (State.p_keeps (.of f_r_red) k1))) k1)

theorem heartbeatSend_keeps {k s0 a1} (f_red : k .red = false) (f_out : k .out = false) (k1 : Keeps k s0 a1) :
    Keeps k s0 (heartbeatSend a1) := by
  unfold heartbeatSend
  exact (by lift_lets -underBinder; intro xh1; (try clear_value xh1); intro xh2; (try clear_value xh2); intro xh3; (try clear_value xh3); intro xh4; exact (keep_ite (Keeps k s0) (State.tell_keeps f_red f_out (k1.set_red f_red rfl (.inr rfl))) k1))

theorem noteTag_keeps {k s0 a1 a2} (f_r_red : k (.reg .red) = false) (k2 : Keeps k s0 a2) :
    Keeps k s0 (noteTag a1 a2) := by
  unfold noteTag
  exact (by lift_lets -underBinder; intro xh1; (try clear_value xh1); exact (State.p_keeps (.of f_r_red) (State.p_keeps (.of f_r_red) k2)))

theorem replLate_keeps {k s0 a1 a2} (f_cmd : k .cmd = false) (f_flt : k .flt = false) (f_xpt : k .xpt = false) (f_red : k .red = false) (f_zl : k .zl = false) (f_eng : k .eng = false) (f_cel : k .cel = false) (f_lease : k .lease = false) (f_pmu : k .pmu = false) (f_out : k .out = false) (f_free : k .free = false) (f_r_cmd : k (.reg .cmd) = false) (f_r_xpt : k (.reg .xpt) = false) (f_r_eth : k (.reg .eth) = false) (f_r_cel : k (.reg .cel) = false) (f_r_zl : k (.reg .zl) = false) (f_r_red : k (.reg .red) = false) (f_r_flt : k (.reg .flt) = false) (f_r_pmu : k (.reg .pmu) = false) (k2 : Keeps k s0 a2) :
    Keeps k s0 (replLate a1 a2) := by
  unfold replLate
  exact (occur_keeps f_cmd f_flt f_xpt f_red f_zl f_eng f_cel f_lease f_pmu f_out f_free f_r_cmd f_r_xpt f_r_eth f_r_cel f_r_zl f_r_red f_r_flt f_r_pmu (State.count_keeps f_pmu f_r_pmu (State.p_keeps (.of f_r_xpt) k2)))

theorem replTake_keeps {k s0 a1 a2 a3 a4} (f_cmd : k .cmd = false) (f_flt : k .flt = false) (f_xpt : k .xpt = false) (f_red : k .red = false) (f_zl : k .zl = false) (f_eng : k .eng = false) (f_cel : k .cel = false) (f_lease : k .lease = false) (f_pmu : k .pmu = false) (f_out : k .out = false) (f_free : k .free = false) (f_r_cmd : k (.reg .cmd) = false) (f_r_xpt : k (.reg .xpt) = false) (f_r_eth : k (.reg .eth) = false) (f_r_cel : k (.reg .cel) = false) (f_r_zl : k (.reg .zl) = false) (f_r_red : k (.reg .red) = false) (f_r_flt : k (.reg .flt) = false) (f_r_pmu : k (.reg .pmu) = false) (k4 : Keeps k s0 a4) :
    KeepsO k s0 (replTake a1 a2 a3 a4) := by
  unfold replTake
  exact (by split; exact (by lift_lets -underBinder; intro xh1; (try clear_value xh1); intro xh2; (try clear_value xh2); intro xh3; (try clear_value xh3); exact (keep_ite (KeepsO k s0) KeepsO.none (keep_ite (KeepsO k s0) (keep_ite (KeepsO k s0) (KeepsO.some (stageTake_keeps f_cmd f_flt f_xpt f_red f_zl f_eng f_cel f_lease f_pmu f_out f_free f_r_cmd f_r_xpt f_r_eth f_r_cel f_r_zl f_r_red f_r_flt f_r_pmu k4)) KeepsO.none) (by split; exact KeepsO.none; exact (keep_ite (KeepsO k s0) (by split; exact (KeepsO.some (keep_when (fun _ h4 => (replLate_keeps f_cmd f_flt f_xpt f_red f_zl f_eng f_cel f_lease f_pmu f_out f_free f_r_cmd f_r_xpt f_r_eth f_r_cel f_r_zl f_r_red f_r_flt f_r_pmu h4)) (stageTake_keeps f_cmd f_flt f_xpt f_red f_zl f_eng f_cel f_lease f_pmu f_out f_free f_r_cmd f_r_xpt f_r_eth f_r_cel f_r_zl f_r_red f_r_flt f_r_pmu k4)))) KeepsO.none))))))

theorem replOpen_keeps {k s0 a1 a2 a3 a4} (f_cmd : k .cmd = false) (f_flt : k .flt = false) (f_xpt : k .xpt = false) (f_red : k .red = false) (f_zl : k .zl = false) (f_eng : k .eng = false) (f_cel : k .cel = false) (f_lease : k .lease = false) (f_pmu : k .pmu = false) (f_out : k .out = false) (f_free : k .free = false) (f_r_cmd : k (.reg .cmd) = false) (f_r_xpt : k (.reg .xpt) = false) (f_r_eth : k (.reg .eth) = false) (f_r_cel : k (.reg .cel) = false) (f_r_zl : k (.reg .zl) = false) (f_r_red : k (.reg .red) = false) (f_r_flt : k (.reg .flt) = false) (f_r_pmu : k (.reg .pmu) = false) (k4 : Keeps k s0 a4) :
    KeepsO k s0 (replOpen a1 a2 a3 a4) := by
  unfold replOpen
  exact (by lift_lets -underBinder; intro xh1; (try clear_value xh1); intro xh2; (try clear_value xh2); exact (keep_ite (KeepsO k s0) KeepsO.none (KeepsO.some (finish_keeps f_cmd f_flt f_xpt f_red f_zl f_eng f_cel f_lease f_pmu f_out f_free f_r_cmd f_r_xpt f_r_eth f_r_cel f_r_zl f_r_red f_r_flt f_r_pmu (openSalvo_keeps f_xpt k4)))))

theorem replImage_keeps {k s0 a1 a2 a3 a4} (f_cmd : k .cmd = false) (f_flt : k .flt = false) (f_xpt : k .xpt = false) (f_red : k .red = false) (f_zl : k .zl = false) (f_eng : k .eng = false) (f_cel : k .cel = false) (f_lease : k .lease = false) (f_pmu : k .pmu = false) (f_out : k .out = false) (f_free : k .free = false) (f_r_cmd : k (.reg .cmd) = false) (f_r_xpt : k (.reg .xpt) = false) (f_r_eth : k (.reg .eth) = false) (f_r_cel : k (.reg .cel) = false) (f_r_zl : k (.reg .zl) = false) (f_r_red : k (.reg .red) = false) (f_r_flt : k (.reg .flt) = false) (f_r_pmu : k (.reg .pmu) = false) (k4 : Keeps k s0 a4) :
    KeepsO k s0 (replImage a1 a2 a3 a4) := by
  unfold replImage
  exact (by lift_lets -underBinder; intro xh1; (try clear_value xh1); intro xh2; (try clear_value xh2); exact (keep_ite (KeepsO k s0) KeepsO.none (by split; exact (by lift_lets -underBinder; intro xh3; (try clear_value xh3); intro xh4; have h6 : Keeps k s0 xh4 := (by unfold xh4; exact (keep_each (fun _ _ h5 => (endTake_keeps f_cmd f_flt f_xpt f_red f_zl f_eng f_cel f_lease f_pmu f_out f_free f_r_cmd f_r_xpt f_r_eth f_r_cel f_r_zl f_r_red f_r_flt f_r_pmu h5)) k4)); clear_value xh4; intro xh7; have h9 : Keeps k s0 xh7 := (by unfold xh7; exact (keep_each (fun _ _ h8 => (stageEntries_keeps f_r_xpt h8)) h6)); clear_value xh7; exact (KeepsO.some (keep_when (fun _ h10 => (replLate_keeps f_cmd f_flt f_xpt f_red f_zl f_eng f_cel f_lease f_pmu f_out f_free f_r_cmd f_r_xpt f_r_eth f_r_cel f_r_zl f_r_red f_r_flt f_r_pmu h10)) (closeImage_keeps f_xpt f_r_xpt h9)))))))

theorem replCommit_keeps {k s0 a1 a2 a3 a4} (f_cmd : k .cmd = false) (f_flt : k .flt = false) (f_xpt : k .xpt = false) (f_red : k .red = false) (f_aud : k .aud = false) (f_zl : k .zl = false) (f_eng : k .eng = false) (f_cel : k .cel = false) (f_lease : k .lease = false) (f_pmu : k .pmu = false) (f_out : k .out = false) (f_free : k .free = false) (f_r_cmd : k (.reg .cmd) = false) (f_r_xpt : k (.reg .xpt) = false) (f_r_eth : k (.reg .eth) = false) (f_r_aud : k (.reg .aud) = false) (f_r_cel : k (.reg .cel) = false) (f_r_zl : k (.reg .zl) = false) (f_r_red : k (.reg .red) = false) (f_r_flt : k (.reg .flt) = false) (f_r_pmu : k (.reg .pmu) = false) (k4 : Keeps k s0 a4) :
    KeepsO k s0 (replCommit a1 a2 a3 a4) := by
  unfold replCommit
  exact (by lift_lets -underBinder; intro xh1; (try clear_value xh1); exact (keep_ite (KeepsO k s0) (keep_ite (KeepsO k s0) (KeepsO.some (finish_keeps f_cmd f_flt f_xpt f_red f_zl f_eng f_cel f_lease f_pmu f_out f_free f_r_cmd f_r_xpt f_r_eth f_r_cel f_r_zl f_r_red f_r_flt f_r_pmu k4)) (keep_ite (KeepsO k s0) (KeepsO.some (finish_keeps f_cmd f_flt f_xpt f_red f_zl f_eng f_cel f_lease f_pmu f_out f_free f_r_cmd f_r_xpt f_r_eth f_r_cel f_r_zl f_r_red f_r_flt f_r_pmu (State.count_keeps f_pmu f_r_pmu (abortSalvo_keeps f_cmd f_flt f_xpt f_red f_aud f_zl f_eng f_cel f_lease f_pmu f_out f_free f_r_cmd f_r_xpt f_r_eth f_r_aud f_r_cel f_r_zl f_r_red f_r_flt f_r_pmu k4)))) KeepsO.none)) (by split; exact KeepsO.none; exact (keep_ite (KeepsO k s0) (replImage_keeps f_cmd f_flt f_xpt f_red f_zl f_eng f_cel f_lease f_pmu f_out f_free f_r_cmd f_r_xpt f_r_eth f_r_cel f_r_zl f_r_red f_r_flt f_r_pmu k4) (keep_ite (KeepsO k s0) (by split; exact (KeepsO.some (keep_when (fun _ h2 => (replLate_keeps f_cmd f_flt f_xpt f_red f_zl f_eng f_cel f_lease f_pmu f_out f_free f_r_cmd f_r_xpt f_r_eth f_r_cel f_r_zl f_r_red f_r_flt f_r_pmu h2)) (commitSalvo_keeps f_xpt f_aud k4)))) KeepsO.none)))))

theorem replAudio_keeps {k s0 a1 a2 a3 a4} (f_cmd : k .cmd = false) (f_flt : k .flt = false) (f_xpt : k .xpt = false) (f_red : k .red = false) (f_aud : k .aud = false) (f_zl : k .zl = false) (f_eng : k .eng = false) (f_cel : k .cel = false) (f_lease : k .lease = false) (f_pmu : k .pmu = false) (f_out : k .out = false) (f_free : k .free = false) (f_r_cmd : k (.reg .cmd) = false) (f_r_xpt : k (.reg .xpt) = false) (f_r_eth : k (.reg .eth) = false) (f_r_aud : k (.reg .aud) = false) (f_r_cel : k (.reg .cel) = false) (f_r_zl : k (.reg .zl) = false) (f_r_red : k (.reg .red) = false) (f_r_flt : k (.reg .flt) = false) (f_r_pmu : k (.reg .pmu) = false) (k4 : Keeps k s0 a4) :
    KeepsO k s0 (replAudio a1 a2 a3 a4) := by
  unfold replAudio
  exact (by lift_lets -underBinder; intro xh1; (try clear_value xh1); intro xh2; intro xh3; (try clear_value xh3); exact (keep_ite (KeepsO k s0) KeepsO.none (keep_ite (KeepsO k s0) (keep_ite (KeepsO k s0) (KeepsO.some (stageAud_keeps f_cmd f_flt f_xpt f_red f_aud f_zl f_eng f_cel f_lease f_pmu f_out f_free f_r_cmd f_r_xpt f_r_eth f_r_aud f_r_cel f_r_zl f_r_red f_r_flt f_r_pmu k4)) KeepsO.none) (by split; exact KeepsO.none; exact (keep_ite (KeepsO k s0) (by split; exact (KeepsO.some (keep_when (fun _ h4 => (replLate_keeps f_cmd f_flt f_xpt f_red f_zl f_eng f_cel f_lease f_pmu f_out f_free f_r_cmd f_r_xpt f_r_eth f_r_cel f_r_zl f_r_red f_r_flt f_r_pmu h4)) (stageAud_keeps f_cmd f_flt f_xpt f_red f_aud f_zl f_eng f_cel f_lease f_pmu f_out f_free f_r_cmd f_r_xpt f_r_eth f_r_aud f_r_cel f_r_zl f_r_red f_r_flt f_r_pmu k4)))) KeepsO.none)))))

theorem replCad_keeps {k s0 a1 a2 a3 a4 a5} (f_xpt : k .xpt = false) (k5 : Keeps k s0 a5) :
    KeepsO k s0 (replCad a1 a2 a3 a4 a5) := by
  unfold replCad
  exact (by split; exact KeepsO.none; exact (keep_ite (KeepsO k s0) (by split; exact (by lift_lets -underBinder; intro xh1; (try clear_value xh1); exact (KeepsO.some (stageCad_keeps f_xpt k5)))) KeepsO.none))

theorem replEngine_keeps {k s0 a1 a2 a3 a4} (f_cmd : k .cmd = false) (f_flt : k .flt = false) (f_xpt : k .xpt = false) (f_red : k .red = false) (f_zl : k .zl = false) (f_eng : k .eng = false) (f_cel : k .cel = false) (f_lease : k .lease = false) (f_pmu : k .pmu = false) (f_out : k .out = false) (f_free : k .free = false) (f_r_cmd : k (.reg .cmd) = false) (f_r_xpt : k (.reg .xpt) = false) (f_r_eth : k (.reg .eth) = false) (f_r_eng : k (.reg .eng) = false) (f_r_cel : k (.reg .cel) = false) (f_r_zl : k (.reg .zl) = false) (f_r_red : k (.reg .red) = false) (f_r_flt : k (.reg .flt) = false) (f_r_pmu : k (.reg .pmu) = false) (k4 : Keeps k s0 a4) :
    KeepsO k s0 (replEngine a1 a2 a3 a4) := by
  unfold replEngine
  exact (by split; exact KeepsO.none; exact (keep_ite (KeepsO k s0) (by split; exact (KeepsO.some (stageEngine_keeps f_cmd f_flt f_xpt f_red f_zl f_eng f_cel f_lease f_pmu f_out f_free f_r_cmd f_r_xpt f_r_eth f_r_eng f_r_cel f_r_zl f_r_red f_r_flt f_r_pmu k4))) KeepsO.none))

theorem replFlip_keeps {k s0 a1 a2 a3 a4 a5 a6} (f_cmd : k .cmd = false) (f_flt : k .flt = false) (f_xpt : k .xpt = false) (f_red : k .red = false) (f_zl : k .zl = false) (f_eng : k .eng = false) (f_cel : k .cel = false) (f_lease : k .lease = false) (f_pmu : k .pmu = false) (f_out : k .out = false) (f_free : k .free = false) (f_r_cmd : k (.reg .cmd) = false) (f_r_xpt : k (.reg .xpt) = false) (f_r_eth : k (.reg .eth) = false) (f_r_cel : k (.reg .cel) = false) (f_r_zl : k (.reg .zl) = false) (f_r_red : k (.reg .red) = false) (f_r_flt : k (.reg .flt) = false) (f_r_pmu : k (.reg .pmu) = false) (k6 : Keeps k s0 a6) :
    KeepsO k s0 (replFlip a1 a2 a3 a4 a5 a6) := by
  unfold replFlip
  exact (by lift_lets -underBinder; intro xh1; (try clear_value xh1); intro xh2; (try clear_value xh2); exact (keep_ite (KeepsO k s0) (KeepsO.some (finish_keeps f_cmd f_flt f_xpt f_red f_zl f_eng f_cel f_lease f_pmu f_out f_free f_r_cmd f_r_xpt f_r_eth f_r_cel f_r_zl f_r_red f_r_flt f_r_pmu (State.count_keeps f_pmu f_r_pmu (keep_ite (Keeps k s0) k6 (abortGroup_keeps f_cmd f_flt f_xpt f_red f_zl f_eng f_cel f_lease f_pmu f_out f_free f_r_cmd f_r_xpt f_r_eth f_r_cel f_r_zl f_r_red f_r_flt f_r_pmu k6))))) (keep_ite (KeepsO k s0) KeepsO.none (by split; exact (KeepsO.some (stageFlip_keeps f_cmd f_flt f_xpt f_red f_zl f_eng f_cel f_lease f_pmu f_out f_free f_r_cmd f_r_xpt f_r_eth f_r_cel f_r_zl f_r_red f_r_flt f_r_pmu k6)); exact (by split; exact (KeepsO.some (stageFlip_keeps f_cmd f_flt f_xpt f_red f_zl f_eng f_cel f_lease f_pmu f_out f_free f_r_cmd f_r_xpt f_r_eth f_r_cel f_r_zl f_r_red f_r_flt f_r_pmu k6)))))))

theorem replFence_keeps {k s0 a1 a2 a3 a4} (f_cmd : k .cmd = false) (k4 : Keeps k s0 a4) :
    Keeps k s0 (replFence a1 a2 a3 a4) := by
  unfold replFence
  exact (by lift_lets -underBinder; intro xh1; (try clear_value xh1); intro xh2; exact (k4.set_cmd f_cmd ))

theorem replFlow_keeps {k s0 a1 a2 a3 a4} (f_cmd : k .cmd = false) (f_flt : k .flt = false) (f_xpt : k .xpt = false) (f_red : k .red = false) (f_flw : k .flw = false) (f_zl : k .zl = false) (f_eng : k .eng = false) (f_cel : k .cel = false) (f_lease : k .lease = false) (f_table : k .table = false) (f_pmu : k .pmu = false) (f_out : k .out = false) (f_free : k .free = false) (f_r_cmd : k (.reg .cmd) = false) (f_r_xpt : k (.reg .xpt) = false) (f_r_eth : k (.reg .eth) = false) (f_r_flw : k (.reg .flw) = false) (f_r_cel : k (.reg .cel) = false) (f_r_zl : k (.reg .zl) = false) (f_r_red : k (.reg .red) = false) (f_r_flt : k (.reg .flt) = false) (f_r_pmu : k (.reg .pmu) = false) (k4 : Keeps k s0 a4) :
    KeepsO k s0 (replFlow a1 a2 a3 a4) := by
  unfold replFlow
  exact (by lift_lets -underBinder; intro xh1; (try clear_value xh1); intro xh2; (try clear_value xh2); exact (keep_ite (KeepsO k s0) KeepsO.none (KeepsO.some (finish_keeps f_cmd f_flt f_xpt f_red f_zl f_eng f_cel f_lease f_pmu f_out f_free f_r_cmd f_r_xpt f_r_eth f_r_cel f_r_zl f_r_red f_r_flt f_r_pmu (addFlow_keeps f_cmd f_flt f_xpt f_red f_flw f_zl f_eng f_cel f_lease f_table f_pmu f_out f_free f_r_cmd f_r_xpt f_r_eth f_r_flw f_r_cel f_r_zl f_r_red f_r_flt f_r_pmu k4)))))

theorem replUnflow_keeps {k s0 a1 a2 a3 a4} (f_cmd : k .cmd = false) (f_flt : k .flt = false) (f_xpt : k .xpt = false) (f_red : k .red = false) (f_flw : k .flw = false) (f_zl : k .zl = false) (f_eng : k .eng = false) (f_cel : k .cel = false) (f_lease : k .lease = false) (f_table : k .table = false) (f_pmu : k .pmu = false) (f_out : k .out = false) (f_free : k .free = false) (f_r_cmd : k (.reg .cmd) = false) (f_r_xpt : k (.reg .xpt) = false) (f_r_eth : k (.reg .eth) = false) (f_r_flw : k (.reg .flw) = false) (f_r_cel : k (.reg .cel) = false) (f_r_zl : k (.reg .zl) = false) (f_r_red : k (.reg .red) = false) (f_r_flt : k (.reg .flt) = false) (f_r_pmu : k (.reg .pmu) = false) (k4 : Keeps k s0 a4) :
    KeepsO k s0 (replUnflow a1 a2 a3 a4) := by
  unfold replUnflow
  exact (by lift_lets -underBinder; intro xh1; (try clear_value xh1); exact (keep_ite (KeepsO k s0) (KeepsO.some (finish_keeps f_cmd f_flt f_xpt f_red f_zl f_eng f_cel f_lease f_pmu f_out f_free f_r_cmd f_r_xpt f_r_eth f_r_cel f_r_zl f_r_red f_r_flt f_r_pmu (delFlow_keeps f_cmd f_flt f_xpt f_red f_flw f_zl f_eng f_cel f_lease f_table f_pmu f_out f_free f_r_cmd f_r_xpt f_r_eth f_r_flw f_r_cel f_r_zl f_r_red f_r_flt f_r_pmu k4))) KeepsO.none))

theorem replGo_keeps {k s0 a1 a2 a3} (f_cmd : k .cmd = false) (f_flt : k .flt = false) (f_xpt : k .xpt = false) (f_red : k .red = false) (f_flw : k .flw = false) (f_aud : k .aud = false) (f_zl : k .zl = false) (f_eng : k .eng = false) (f_cel : k .cel = false) (f_lease : k .lease = false) (f_table : k .table = false) (f_pmu : k .pmu = false) (f_out : k .out = false) (f_free : k .free = false) (f_r_cmd : k (.reg .cmd) = false) (f_r_xpt : k (.reg .xpt) = false) (f_r_eth : k (.reg .eth) = false) (f_r_flw : k (.reg .flw) = false) (f_r_aud : k (.reg .aud) = false) (f_r_eng : k (.reg .eng) = false) (f_r_cel : k (.reg .cel) = false) (f_r_zl : k (.reg .zl) = false) (f_r_red : k (.reg .red) = false) (f_r_flt : k (.reg .flt) = false) (f_r_pmu : k (.reg .pmu) = false) (k3 : Keeps k s0 a3) :
    KeepsO k s0 (replGo a1 a2 a3) := by
  unfold replGo
  exact (by lift_lets -underBinder; intro xh1; (try clear_value xh1); intro xh2; (try clear_value xh2); exact (by split; exact (replTake_keeps f_cmd f_flt f_xpt f_red f_zl f_eng f_cel f_lease f_pmu f_out f_free f_r_cmd f_r_xpt f_r_eth f_r_cel f_r_zl f_r_red f_r_flt f_r_pmu k3); exact (replOpen_keeps f_cmd f_flt f_xpt f_red f_zl f_eng f_cel f_lease f_pmu f_out f_free f_r_cmd f_r_xpt f_r_eth f_r_cel f_r_zl f_r_red f_r_flt f_r_pmu k3); exact (replCommit_keeps f_cmd f_flt f_xpt f_red f_aud f_zl f_eng f_cel f_lease f_pmu f_out f_free f_r_cmd f_r_xpt f_r_eth f_r_aud f_r_cel f_r_zl f_r_red f_r_flt f_r_pmu k3); exact (replAudio_keeps f_cmd f_flt f_xpt f_red f_aud f_zl f_eng f_cel f_lease f_pmu f_out f_free f_r_cmd f_r_xpt f_r_eth f_r_aud f_r_cel f_r_zl f_r_red f_r_flt f_r_pmu k3); exact (replCad_keeps f_xpt k3); exact (replCad_keeps f_xpt k3); exact (replEngine_keeps f_cmd f_flt f_xpt f_red f_zl f_eng f_cel f_lease f_pmu f_out f_free f_r_cmd f_r_xpt f_r_eth f_r_eng f_r_cel f_r_zl f_r_red f_r_flt f_r_pmu k3); exact (replFlip_keeps f_cmd f_flt f_xpt f_red f_zl f_eng f_cel f_lease f_pmu f_out f_free f_r_cmd f_r_xpt f_r_eth f_r_cel f_r_zl f_r_red f_r_flt f_r_pmu k3); exact (KeepsO.some (replFence_keeps f_cmd k3)); exact (replFlip_keeps f_cmd f_flt f_xpt f_red f_zl f_eng f_cel f_lease f_pmu f_out f_free f_r_cmd f_r_xpt f_r_eth f_r_cel f_r_zl f_r_red f_r_flt f_r_pmu k3); exact (replFlow_keeps f_cmd f_flt f_xpt f_red f_flw f_zl f_eng f_cel f_lease f_table f_pmu f_out f_free f_r_cmd f_r_xpt f_r_eth f_r_flw f_r_cel f_r_zl f_r_red f_r_flt f_r_pmu k3); exact (replUnflow_keeps f_cmd f_flt f_xpt f_red f_flw f_zl f_eng f_cel f_lease f_table f_pmu f_out f_free f_r_cmd f_r_xpt f_r_eth f_r_flw f_r_cel f_r_zl f_r_red f_r_flt f_r_pmu k3); exact KeepsO.none))

theorem replApply_keeps {k s0 a1 a2} (f_cmd : k .cmd = false) (f_flt : k .flt = false) (f_xpt : k .xpt = false) (f_red : k .red = false) (f_flw : k .flw = false) (f_aud : k .aud = false) (f_zl : k .zl = false) (f_eng : k .eng = false) (f_cel : k .cel = false) (f_lease : k .lease = false) (f_table : k .table = false) (f_pmu : k .pmu = false) (f_out : k .out = false) (f_free : k .free = false) (f_r_cmd : k (.reg .cmd) = false) (f_r_xpt : k (.reg .xpt) = false) (f_r_eth : k (.reg .eth) = false) (f_r_flw : k (.reg .flw) = false) (f_r_aud : k (.reg .aud) = false) (f_r_eng : k (.reg .eng) = false) (f_r_cel : k (.reg .cel) = false) (f_r_zl : k (.reg .zl) = false) (f_r_red : k (.reg .red) = false) (f_r_flt : k (.reg .flt) = false) (f_r_pmu : k (.reg .pmu) = false) (k2 : Keeps k s0 a2) :
    Keeps k s0 (replApply a1 a2) := by
  unfold replApply
  exact (by lift_lets -underBinder; intro xh1; intro xh2; intro xh3; have h4 : Keeps k s0 xh3 := (by unfold xh3; exact (k2.set_cmd f_cmd (by first | exact id | exact live_filter | exact live_up (Nat.le_succ _) | exact live_map (fun y => by (try dsimp only); split <;> rfl) | exact live_up (Nat.le_trans (Nat.le_add_right _ _) (Nat.le_succ _)) | exact live_new rfl))); clear_value xh3; intro xh5; have h9 : Keeps k s0 xh5 := (by unfold xh5; exact (by split; (rename_i vh6 he; have h7 := KeepsO.of_eq he (replGo_keeps f_cmd f_flt f_xpt f_red f_flw f_aud f_zl f_eng f_cel f_lease f_table f_pmu f_out f_free f_r_cmd f_r_xpt f_r_eth f_r_flw f_r_aud f_r_eng f_r_cel f_r_zl f_r_red f_r_flt f_r_pmu h4); exact h7); (exact (by exact (occur_keeps f_cmd f_flt f_xpt f_red f_zl f_eng f_cel f_lease f_pmu f_out f_free f_r_cmd f_r_xpt f_r_eth f_r_cel f_r_zl f_r_red f_r_flt f_r_pmu (State.count_keeps f_pmu f_r_pmu (State.bump_keeps (.of f_r_red) (k2.set_cmd f_cmd (by first | exact id | exact live_filter | exact live_up (Nat.le_succ _) | exact live_map (fun y => by (try dsimp only); split <;> rfl) | exact live_up (Nat.le_trans (Nat.le_add_right _ _) (Nat.le_succ _)) | exact live_new rfl))))))))); clear_value xh5; intro xh10; have h11 : Keeps k s0 xh10 := (by unfold xh10; exact (State.p_keeps (.of f_r_red) (State.p_keeps (.of f_r_red) h9))); clear_value xh10; exact (State.tell_keeps f_red f_out (State.count_keeps f_pmu f_r_pmu h11)))

theorem replReceive_keeps {k s0 a1 a2} (f_cmd : k .cmd = false) (f_flt : k .flt = false) (f_xpt : k .xpt = false) (f_red : k .red = false) (f_flw : k .flw = false) (f_aud : k .aud = false) (f_zl : k .zl = false) (f_eng : k .eng = false) (f_cel : k .cel = false) (f_lease : k .lease = false) (f_table : k .table = false) (f_enterSync : k .enterSync = false) (f_leaveSync : k .leaveSync = false) (f_pmu : k .pmu = false) (f_out : k .out = false) (f_free : k .free = false) (f_r_cmd : k (.reg .cmd) = false) (f_r_xpt : k (.reg .xpt) = false) (f_r_eth : k (.reg .eth) = false) (f_r_flw : k (.reg .flw) = false) (f_r_aud : k (.reg .aud) = false) (f_r_eng : k (.reg .eng) = false) (f_r_cel : k (.reg .cel) = false) (f_r_zl : k (.reg .zl) = false) (f_r_red : k (.reg .red) = false) (f_r_flt : k (.reg .flt) = false) (f_r_pmu : k (.reg .pmu) = false) (k2 : Keeps k s0 a2) :
    Keeps k s0 (replReceive a1 a2) := by
  unfold replReceive
  exact (by lift_lets -underBinder; intro xh1; (try clear_value xh1); intro xh2; intro xh3; have h4 : Keeps k s0 xh3 := (by unfold xh3; exact (k2.set_red f_red rfl (.inr rfl))); clear_value xh3; intro xh5; have h7 : Keeps k s0 xh5 := (by unfold xh5; exact (keep_when (fun _ h6 => (State.count_keeps f_pmu f_r_pmu (State.p_keeps (.of f_r_red) h6))) (noteTag_keeps f_r_red h4))); clear_value xh5; exact (keep_ite (Keeps k s0) h4 (by split; exact (keep_ite (Keeps k s0) (enterSyncing_keeps f_cmd f_red f_enterSync f_leaveSync f_pmu f_out f_r_cmd f_r_xpt f_r_red f_r_pmu h7) (replApply_keeps f_cmd f_flt f_xpt f_red f_flw f_aud f_zl f_eng f_cel f_lease f_table f_pmu f_out f_free f_r_cmd f_r_xpt f_r_eth f_r_flw f_r_aud f_r_eng f_r_cel f_r_zl f_r_red f_r_flt f_r_pmu h7)); exact (by lift_lets -underBinder; intro xh8; exact (keep_ite (Keeps k s0) (h7.set_red f_red rfl (.inr rfl)) (replApply_keeps f_cmd f_flt f_xpt f_red f_flw f_aud f_zl f_eng f_cel f_lease f_table f_pmu f_out f_free f_r_cmd f_r_xpt f_r_eth f_r_flw f_r_aud f_r_eng f_r_cel f_r_zl f_r_red f_r_flt f_r_pmu h7))); exact h7)))

theorem lutStore_keeps {k s0 a1 a2 a3} (f_red : k .red = false) (f_eng : k .eng = false) (f_lut : k .lut = false)
    (k3 : Keeps k s0 a3) : Keeps k s0 (lutStore a1 a2 a3) := by
  unfold lutStore
  have h : Keeps k s0 { a3 with eng := { a3.eng with lut := memPuts a3.eng.lut a1 a2 } } :=
    k3.set_lut f_eng f_lut (fun h => memPuts_wf h)
  exact h.set_many (by intro p hp; cases p <;> first | exact rfl | exact id | exact fun _ _ => rfl | simp [f_red] at hp)

theorem storeUnit_keeps {k s0 a1 a2 a3 a4} (f_red : k .red = false) (f_eng : k .eng = false) (f_cel : k .cel = false) (f_mem : k .mem = false) (f_lut : k .lut = false) (f_pmu : k .pmu = false) (f_r_cel : k (.reg .cel) = false) (f_r_red : k (.reg .red) = false) (f_r_pmu : k (.reg .pmu) = false) (k4 : Keeps k s0 a4) :
    Keeps k s0 (storeUnit a1 a2 a3 a4) := by
  unfold storeUnit
  exact (by lift_lets -underBinder; intro xh1; (try clear_value xh1); intro xh2; have h3 : Keeps k s0 xh2 := (by unfold xh2; exact (celPut_keeps f_cel f_mem f_pmu f_r_cel f_r_pmu k4)); clear_value xh2; intro xh4; (try clear_value xh4); intro xh5; intro xh6; have h7 : Keeps k s0 xh6 := (by unfold xh6; exact (h3.set_cel f_cel rfl)); clear_value xh6; exact (keep_ite (Keeps k s0) (lutStore_keeps f_red f_eng f_lut k4) (keep_ite (Keeps k s0) (celHoldReq_keeps f_cel f_r_cel k4) (keep_ite (Keeps k s0) h7 (State.count_keeps f_pmu f_r_pmu (State.bump_keeps (.of f_r_red) h7))))))

theorem copyArrives_keeps {k s0 a1 a2 a3 a4} (f_red : k .red = false) (f_eng : k .eng = false) (f_cel : k .cel = false) (f_mem : k .mem = false) (f_lut : k .lut = false) (f_pmu : k .pmu = false) (f_out : k .out = false) (f_r_cel : k (.reg .cel) = false) (f_r_red : k (.reg .red) = false) (f_r_pmu : k (.reg .pmu) = false) (k4 : Keeps k s0 a4) :
    Keeps k s0 (copyArrives a1 a2 a3 a4) := by
  unfold copyArrives
  exact (by split; exact k4; exact (by lift_lets -underBinder; intro xh1; intro xh2; have h3 : Keeps k s0 xh2 := (by unfold xh2; exact (keep_ite (Keeps k s0) k4 (storeUnit_keeps f_red f_eng f_cel f_mem f_lut f_pmu f_r_cel f_r_red f_r_pmu k4))); clear_value xh2; intro xh4; intro xh5; have h6 : Keeps k s0 xh5 := (by unfold xh5; exact (h3.set_red f_red rfl (.inr rfl))); clear_value xh5; intro xh7; intro xh8; have h9 : Keeps k s0 xh8 := (by unfold xh8; exact (h6.set_red f_red rfl (.inr rfl))); clear_value xh8; exact (keep_ite (Keeps k s0) k4 (keep_ite (Keeps k s0) (State.tell_keeps f_red f_out (k4.set_red f_red rfl (.inr rfl))) (keep_ite (Keeps k s0) (State.tell_keeps f_red f_out (State.p_keeps (.of f_r_red) h6)) (State.tell_keeps f_red f_out (State.p_keeps (.of f_r_red) (State.p_keeps (.of f_r_red) h9))))))))

theorem serveCopy_keeps {k s0 a1 a2} (f_cmd : k .cmd = false) (f_flt : k .flt = false) (f_xpt : k .xpt = false) (f_red : k .red = false) (f_zl : k .zl = false) (f_eng : k .eng = false) (f_cel : k .cel = false) (f_lease : k .lease = false) (f_pmu : k .pmu = false) (f_out : k .out = false) (f_free : k .free = false) (f_r_cmd : k (.reg .cmd) = false) (f_r_xpt : k (.reg .xpt) = false) (f_r_eth : k (.reg .eth) = false) (f_r_cel : k (.reg .cel) = false) (f_r_zl : k (.reg .zl) = false) (f_r_red : k (.reg .red) = false) (f_r_flt : k (.reg .flt) = false) (f_r_pmu : k (.reg .pmu) = false) (f_r_noc : k (.reg .noc) = false) (k2 : Keeps k s0 a2) :
    Keeps k s0 (serveCopy a1 a2) := by
  unfold serveCopy
  exact (by split; exact (by lift_lets -underBinder; intro xh1; exact (keep_ite (Keeps k s0) (k2.set_red f_red rfl (.inr rfl)) (State.tell_keeps f_red f_out k2))); exact (by lift_lets -underBinder; intro xh2; have h3 : Keeps k s0 xh2 := (by unfold xh2; exact (wakePort_keeps f_pmu f_r_pmu f_r_noc (wakePort_keeps f_pmu f_r_pmu f_r_noc k2))); clear_value xh2; intro xh4; (try clear_value xh4); exact (keep_ite (Keeps k s0) (State.tell_keeps f_red f_out k2) (keep_ite (Keeps k s0) k2 (keep_ite (Keeps k s0) (celHoldReq_keeps f_cel f_r_cel h3) (keep_ite (Keeps k s0) (State.tell_keeps f_red f_out h3) (by split; (rename_i vh5 vh6 vh7 he; have h8 := KeepsT.of_eq he (celRead_keeps f_cmd f_flt f_xpt f_red f_zl f_eng f_cel f_lease f_pmu f_out f_free f_r_cmd f_r_xpt f_r_eth f_r_cel f_r_zl f_r_red f_r_flt f_r_pmu h3); exact (State.tell_keeps f_red f_out h8)))))))))

theorem dueNow_keeps {k s0 a1} (f_xpt : k .xpt = false) (f_aud : k .aud = false) (f_eng : k .eng = false) (k1 : Keeps k s0 a1) :
    Keeps k s0 (dueNow a1) := by
  unfold dueNow
  exact (by lift_lets -underBinder; intro xh1; intro xh2; intro xh3; intro xh4; intro xh5; exact (k1.set_many (by intro p hp; cases p <;> first | exact rfl | exact id | exact fun _ _ => rfl | simp [f_xpt, f_aud, f_eng] at hp)))

theorem installFences_keeps {k s0 a1 a2}  (f_r_eng : k (.reg .eng) = false) (k2 : Keeps k s0 a2) :
    Keeps k s0 (installFences a1 a2) := by
  unfold installFences
  exact keep_each (fun _ _ h1 => keep_each (fun _ _ h2 => State.wr_keeps (.of f_r_eng) (State.wr_keeps (.of f_r_eng) h2)) h1) k2

theorem installFlows_keeps {k s0 a1 a2} (f_cmd : k .cmd = false) (f_flt : k .flt = false) (f_xpt : k .xpt = false) (f_red : k .red = false) (f_flw : k .flw = false) (f_zl : k .zl = false) (f_eng : k .eng = false) (f_cel : k .cel = false) (f_lease : k .lease = false) (f_table : k .table = false) (f_pmu : k .pmu = false) (f_out : k .out = false) (f_free : k .free = false) (f_r_cmd : k (.reg .cmd) = false) (f_r_xpt : k (.reg .xpt) = false) (f_r_eth : k (.reg .eth) = false) (f_r_flw : k (.reg .flw) = false) (f_r_cel : k (.reg .cel) = false) (f_r_zl : k (.reg .zl) = false) (f_r_red : k (.reg .red) = false) (f_r_flt : k (.reg .flt) = false) (f_r_pmu : k (.reg .pmu) = false) (k2 : Keeps k s0 a2) :
    Keeps k s0 (installFlows a1 a2) := by
  unfold installFlows
  exact (by lift_lets -underBinder; intro xh1; (try clear_value xh1); intro xh2; have h4 : Keeps k s0 xh2 := (by unfold xh2; exact (keep_each (fun _ _ h3 => (dropFlow_keeps f_cmd f_flt f_xpt f_red f_flw f_zl f_eng f_cel f_lease f_table f_pmu f_out f_free f_r_cmd f_r_xpt f_r_eth f_r_flw f_r_cel f_r_zl f_r_red f_r_flt f_r_pmu h3)) k2)); clear_value xh2; intro xh5; (try clear_value xh5); intro xh6; exact (keep_each (fun _ _ h7 => (addFlow_keeps f_cmd f_flt f_xpt f_red f_flw f_zl f_eng f_cel f_lease f_table f_pmu f_out f_free f_r_cmd f_r_xpt f_r_eth f_r_flw f_r_cel f_r_zl f_r_red f_r_flt f_r_pmu h7)) h4))

theorem carryDue_keeps {k s0 a1 a2} (f_cmd : k .cmd = false) (f_flt : k .flt = false) (f_xpt : k .xpt = false) (f_red : k .red = false) (f_aud : k .aud = false) (f_zl : k .zl = false) (f_eng : k .eng = false) (f_cel : k .cel = false) (f_ref : k .ref = false) (f_lease : k .lease = false) (f_mem : k .mem = false) (f_house : k .house = false) (f_pmu : k .pmu = false) (f_out : k .out = false) (f_free : k .free = false) (f_r_cmd : k (.reg .cmd) = false) (f_r_xpt : k (.reg .xpt) = false) (f_r_ref : k (.reg .ref) = false) (f_r_eth : k (.reg .eth) = false) (f_r_aud : k (.reg .aud) = false) (f_r_eng : k (.reg .eng) = false) (f_r_cel : k (.reg .cel) = false) (f_r_zl : k (.reg .zl) = false) (f_r_red : k (.reg .red) = false) (f_r_flt : k (.reg .flt) = false) (f_r_pmu : k (.reg .pmu) = false) (k2 : Keeps k s0 a2) :
    Keeps k s0 (carryDue a1 a2) := by
  unfold carryDue
  exact (keep_each (fun _ _ h1 => (flipsDue_keeps f_cmd f_flt f_xpt f_red f_zl f_eng f_cel f_lease f_pmu f_out f_free f_r_cmd f_r_xpt f_r_eth f_r_eng f_r_cel f_r_zl f_r_red f_r_flt f_r_pmu (commitEngines_keeps f_cmd f_flt f_xpt f_red f_zl f_eng f_cel f_lease f_mem f_pmu f_out f_free f_r_cmd f_r_xpt f_r_eth f_r_eng f_r_cel f_r_zl f_r_red f_r_flt f_r_pmu (cadOpsDue_keeps f_cmd f_flt f_xpt f_red f_aud f_zl f_eng f_cel f_ref f_lease f_mem f_house f_pmu f_out f_free f_r_cmd f_r_xpt f_r_ref f_r_eth f_r_aud f_r_eng f_r_cel f_r_zl f_r_red f_r_flt f_r_pmu (commitDue_keeps f_cmd f_flt f_xpt f_red f_aud f_zl f_eng f_cel f_lease f_pmu f_out f_free f_r_cmd f_r_xpt f_r_eth f_r_aud f_r_cel f_r_zl f_r_red f_r_flt f_r_pmu (cadOpsDue_keeps f_cmd f_flt f_xpt f_red f_aud f_zl f_eng f_cel f_ref f_lease f_mem f_house f_pmu f_out f_free f_r_cmd f_r_xpt f_r_ref f_r_eth f_r_aud f_r_eng f_r_cel f_r_zl f_r_red f_r_flt f_r_pmu h1)))))) (dueNow_keeps f_xpt f_aud f_eng k2))

theorem settleEnd_keeps {k s0 a1}  (f_cmd : k .cmd = false) (f_red : k .red = false) (f_leaveSync : k .leaveSync = false) (f_pmu : k .pmu = false) (f_r_cmd : k (.reg .cmd) = false) (f_r_xpt : k (.reg .xpt) = false) (f_r_red : k (.reg .red) = false) (f_r_pmu : k (.reg .pmu) = false) (k1 : Keeps k s0 a1) : Keeps k s0 (settleEnd a1) := by
  unfold settleEnd
  split
  · split
    · rename_i h
      simp only [Bool.and_eq_true, decide_eq_true_eq] at h
      exact setPlane_keeps f_cmd f_red f_pmu f_r_cmd f_r_xpt f_r_pmu (endSync_keeps f_red f_r_red k1)
        (hl := fun _ => .inr (by show a1.red.plane ≠ _; rw [h.1.1.1]; decide)) (hm := by simp [f_leaveSync])
    · exact k1
  · exact k1

theorem clearPending_keeps {k s0 a1} (f_cmd : k .cmd = false) (f_flt : k .flt = false) (f_xpt : k .xpt = false) (f_red : k .red = false) (f_aud : k .aud = false) (f_zl : k .zl = false) (f_eng : k .eng = false) (f_cel : k .cel = false) (f_lease : k .lease = false) (f_pmu : k .pmu = false) (f_out : k .out = false) (f_free : k .free = false) (f_r_cmd : k (.reg .cmd) = false) (f_r_xpt : k (.reg .xpt) = false) (f_r_eth : k (.reg .eth) = false) (f_r_aud : k (.reg .aud) = false) (f_r_eng : k (.reg .eng) = false) (f_r_cel : k (.reg .cel) = false) (f_r_zl : k (.reg .zl) = false) (f_r_red : k (.reg .red) = false) (f_r_flt : k (.reg .flt) = false) (f_r_pmu : k (.reg .pmu) = false) (k1 : Keeps k s0 a1) :
    Keeps k s0 (clearPending a1) := by
  unfold clearPending
  exact (by lift_lets -underBinder; intro xh1; have h2 : Keeps k s0 xh1 := (by unfold xh1; exact (endAuds_keeps f_cmd f_flt f_xpt f_red f_aud f_zl f_eng f_cel f_lease f_pmu f_out f_free f_r_cmd f_r_xpt f_r_eth f_r_aud f_r_cel f_r_zl f_r_red f_r_flt f_r_pmu (endTakes_keeps f_cmd f_flt f_xpt f_red f_zl f_eng f_cel f_lease f_pmu f_out f_free f_r_cmd f_r_xpt f_r_eth f_r_cel f_r_zl f_r_red f_r_flt f_r_pmu k1))); clear_value xh1; intro xh3; have h5 : Keeps k s0 xh3 := (by unfold xh3; exact (keep_each (fun _ _ h4 => (by split; exact (finish_keeps f_cmd f_flt f_xpt f_red f_zl f_eng f_cel f_lease f_pmu f_out f_free f_r_cmd f_r_xpt f_r_eth f_r_cel f_r_zl f_r_red f_r_flt f_r_pmu h4); exact h4)) h2)); clear_value xh3; intro xh6; have h8 : Keeps k s0 xh6 := (by unfold xh6; exact (keep_each (fun _ _ h7 => (finish_keeps f_cmd f_flt f_xpt f_red f_zl f_eng f_cel f_lease f_pmu f_out f_free f_r_cmd f_r_xpt f_r_eth f_r_cel f_r_zl f_r_red f_r_flt f_r_pmu h7)) h5)); clear_value xh6; intro xh9; have h11 : Keeps k s0 xh9 := (by unfold xh9; exact (commitSamples_keeps f_cmd f_flt f_xpt f_red f_aud f_zl f_eng f_cel f_lease f_pmu f_out f_free f_r_cmd f_r_xpt f_r_eth f_r_aud f_r_cel f_r_zl f_r_red f_r_flt f_r_pmu (endMembers_keeps f_cmd f_flt f_xpt f_red f_zl f_eng f_cel f_lease f_pmu f_out f_free f_r_cmd f_r_xpt f_r_eth f_r_cel f_r_zl f_r_red f_r_flt f_r_pmu (keep_each (fun _ _ h10 => (endEngine_keeps f_cmd f_flt f_xpt f_red f_zl f_eng f_cel f_lease f_pmu f_out f_free f_r_cmd f_r_xpt f_r_eth f_r_eng f_r_cel f_r_zl f_r_red f_r_flt f_r_pmu h10)) h8)))); clear_value xh9; intro xh12; intro xh13; exact (h11.set_many (by intro p hp; cases p <;> first | exact rfl | exact id | exact fun _ _ => rfl | simp [f_xpt, f_eng] at hp)))

theorem installEngines_keeps {k s0 a1 a2} (f_cmd : k .cmd = false) (f_flt : k .flt = false) (f_xpt : k .xpt = false) (f_red : k .red = false) (f_zl : k .zl = false) (f_eng : k .eng = false) (f_cel : k .cel = false) (f_lease : k .lease = false) (f_mem : k .mem = false) (f_pmu : k .pmu = false) (f_out : k .out = false) (f_free : k .free = false) (f_r_cmd : k (.reg .cmd) = false) (f_r_xpt : k (.reg .xpt) = false) (f_r_eth : k (.reg .eth) = false) (f_r_eng : k (.reg .eng) = false) (f_r_cel : k (.reg .cel) = false) (f_r_zl : k (.reg .zl) = false) (f_r_red : k (.reg .red) = false) (f_r_flt : k (.reg .flt) = false) (f_r_pmu : k (.reg .pmu) = false) (k2 : Keeps k s0 a2) :
    Keeps k s0 (installEngines a1 a2) := by
  unfold installEngines
  exact (keep_each (fun _ _ h1 => (by lift_lets -underBinder; intro xh2; intro xh3; have h4 : Keeps k s0 xh3 := (by unfold xh3; exact (keep_ite (Keeps k s0) h1 (engApply_keeps f_cmd f_flt f_xpt f_red f_zl f_eng f_cel f_lease f_mem f_pmu f_out f_free f_r_cmd f_r_xpt f_r_eth f_r_eng f_r_cel f_r_zl f_r_red f_r_flt f_r_pmu h1))); clear_value xh3; intro xh5; (try clear_value xh5); exact (engCharge_keeps f_cmd f_flt f_xpt f_red f_zl f_eng f_cel f_lease f_pmu f_out f_free f_r_cmd f_r_xpt f_r_eth f_r_eng f_r_cel f_r_zl f_r_red f_r_flt f_r_pmu h4))) k2)

theorem installPending_keeps {k s0 a1 a2} (f_cmd : k .cmd = false) (f_xpt : k .xpt = false) (f_aud : k .aud = false) (f_eng : k .eng = false) (k2 : Keeps k s0 a2) :
    Keeps k s0 (installPending a1 a2) := by
  unfold installPending
  exact (by lift_lets -underBinder; intro xh1; intro xh2; intro xh3; intro xh4; intro xh5; intro xh6; exact (k2.set_many (by intro p hp; cases p <;> first | exact rfl | exact id | exact fun _ _ => rfl | simp [f_cmd, f_xpt, f_aud, f_eng] at hp) rfl rfl rfl rfl (by first | exact id | exact live_filter | exact live_up (Nat.le_succ _) | exact live_map (fun y => by (try dsimp only); split <;> rfl) | exact live_up (Nat.le_trans (Nat.le_add_right _ _) (Nat.le_succ _)) | exact live_new rfl)))

theorem installArray_keeps {k s0 a1 a2 a3 a4 a5} (g1 : RegFree k a1) (k5 : Keeps k s0 a5) : Keeps k s0 (installArray a1 a2 a3 a4 a5) := by
  unfold installArray
  exact keep_each (fun _ _ h => State.wr_keeps g1 h) k5

theorem catchFades_keeps {k s0 a1 a2} (f_cmd : k .cmd = false) (f_flt : k .flt = false) (f_xpt : k .xpt = false) (f_red : k .red = false) (f_aud : k .aud = false) (f_zl : k .zl = false) (f_eng : k .eng = false) (f_cel : k .cel = false) (f_lease : k .lease = false) (f_pmu : k .pmu = false) (f_out : k .out = false) (f_free : k .free = false) (f_r_cmd : k (.reg .cmd) = false) (f_r_xpt : k (.reg .xpt) = false) (f_r_eth : k (.reg .eth) = false) (f_r_aud : k (.reg .aud) = false) (f_r_cel : k (.reg .cel) = false) (f_r_zl : k (.reg .zl) = false) (f_r_red : k (.reg .red) = false) (f_r_flt : k (.reg .flt) = false) (f_r_pmu : k (.reg .pmu) = false) (k2 : Keeps k s0 a2) :
    Keeps k s0 (catchFades a1 a2) := by
  unfold catchFades
  exact (by lift_lets -underBinder; intro xh1; (try clear_value xh1); intro xh2; have h3 : Keeps k s0 xh2 := (by unfold xh2; exact (commitSamples_keeps f_cmd f_flt f_xpt f_red f_aud f_zl f_eng f_cel f_lease f_pmu f_out f_free f_r_cmd f_r_xpt f_r_eth f_r_aud f_r_cel f_r_zl f_r_red f_r_flt f_r_pmu k2)); clear_value xh2; intro xh4; exact (keep_ite (Keeps k s0) k2 (h3.set_aud f_aud)))

theorem snapInstall_keeps {k s0 a1 a2 a3} (f_cmd : k .cmd = false) (f_flt : k .flt = false) (f_xpt : k .xpt = false) (f_red : k .red = false) (f_flw : k .flw = false) (f_aud : k .aud = false) (f_zl : k .zl = false) (f_eng : k .eng = false) (f_cel : k .cel = false) (f_ref : k .ref = false) (f_lease : k .lease = false) (f_mem : k .mem = false) (f_table : k .table = false) (f_house : k .house = false) (f_pmu : k .pmu = false) (f_out : k .out = false) (f_free : k .free = false) (f_r_cmd : k (.reg .cmd) = false) (f_r_xpt : k (.reg .xpt) = false) (f_r_ref : k (.reg .ref) = false) (f_r_eth : k (.reg .eth) = false) (f_r_flw : k (.reg .flw) = false) (f_r_aud : k (.reg .aud) = false) (f_r_eng : k (.reg .eng) = false) (f_r_cel : k (.reg .cel) = false) (f_r_zl : k (.reg .zl) = false) (f_r_red : k (.reg .red) = false) (f_r_flt : k (.reg .flt) = false) (f_r_pmu : k (.reg .pmu) = false) (k3 : Keeps k s0 a3) :
    Keeps k s0 (snapInstall a1 a2 a3) := by
  unfold snapInstall
  exact (by split; exact k3; exact (by lift_lets -underBinder; intro xh1; have h2 : Keeps k s0 xh1 := (by unfold xh1; exact (clearPending_keeps f_cmd f_flt f_xpt f_red f_aud f_zl f_eng f_cel f_lease f_pmu f_out f_free f_r_cmd f_r_xpt f_r_eth f_r_aud f_r_eng f_r_cel f_r_zl f_r_red f_r_flt f_r_pmu k3)); clear_value xh1; intro xh3; have h4 : Keeps k s0 xh3 := (by unfold xh3; exact (installArray_keeps (.of f_r_aud) (installArray_keeps (.of f_r_aud) (installArray_keeps (.of f_r_xpt) (installArray_keeps (.of f_r_xpt) h2))))); clear_value xh3; intro xh5; have h6 : Keeps k s0 xh5 := (by unfold xh5; exact (installFences_keeps f_r_eng (installFlows_keeps f_cmd f_flt f_xpt f_red f_flw f_zl f_eng f_cel f_lease f_table f_pmu f_out f_free f_r_cmd f_r_xpt f_r_eth f_r_flw f_r_cel f_r_zl f_r_red f_r_flt f_r_pmu (installEngines_keeps f_cmd f_flt f_xpt f_red f_zl f_eng f_cel f_lease f_mem f_pmu f_out f_free f_r_cmd f_r_xpt f_r_eth f_r_eng f_r_cel f_r_zl f_r_red f_r_flt f_r_pmu h4)))); clear_value xh5; intro xh7; have h8 : Keeps k s0 xh7 := (by unfold xh7; exact (carryDue_keeps f_cmd f_flt f_xpt f_red f_aud f_zl f_eng f_cel f_ref f_lease f_mem f_house f_pmu f_out f_free f_r_cmd f_r_xpt f_r_ref f_r_eth f_r_aud f_r_eng f_r_cel f_r_zl f_r_red f_r_flt f_r_pmu (catchFades_keeps f_cmd f_flt f_xpt f_red f_aud f_zl f_eng f_cel f_lease f_pmu f_out f_free f_r_cmd f_r_xpt f_r_eth f_r_aud f_r_cel f_r_zl f_r_red f_r_flt f_r_pmu (installPending_keeps f_cmd f_xpt f_aud f_eng h6)))); clear_value xh7; intro xh9; (try clear_value xh9); intro xh10; (try clear_value xh10); intro xh11; have h12 : Keeps k s0 xh11 := (by unfold xh11; exact (State.p_keeps (.of f_r_red) (State.p_keeps (.of f_r_red) h8))); clear_value xh11; intro xh13; intro xh14; have h15 : Keeps k s0 xh14 := (by unfold xh14; exact (h12.set_red f_red rfl (.inr rfl))); clear_value xh14; exact (keep_ite (Keeps k s0) k3 (State.p_keeps (.of f_r_red) (keep_each (fun _ _ h16 => (replApply_keeps f_cmd f_flt f_xpt f_red f_flw f_aud f_zl f_eng f_cel f_lease f_table f_pmu f_out f_free f_r_cmd f_r_xpt f_r_eth f_r_flw f_r_aud f_r_eng f_r_cel f_r_zl f_r_red f_r_flt f_r_pmu h16)) h15)))))

theorem selfTest_keeps {k s0 a1 a2 a3}  (f_cmd : k .cmd = false) (f_flt : k .flt = false) (f_xpt : k .xpt = false) (f_red : k .red = false) (f_zl : k .zl = false) (f_eng : k .eng = false) (f_cel : k .cel = false) (f_lease : k .lease = false) (f_lut : k .lut = false) (f_pmu : k .pmu = false) (f_out : k .out = false) (f_free : k .free = false) (f_r_cmd : k (.reg .cmd) = false) (f_r_xpt : k (.reg .xpt) = false) (f_r_eth : k (.reg .eth) = false) (f_r_cel : k (.reg .cel) = false) (f_r_zl : k (.reg .zl) = false) (f_r_red : k (.reg .red) = false) (f_r_flt : k (.reg .flt) = false) (f_r_pmu : k (.reg .pmu) = false)
    (k3 : Keeps k s0 a3) : Keeps k s0 (selfTest a1 a2 a3) := by
  have h : Keeps k s0 { a3 with eng := { a3.eng with lut := a2.foldl (fun m u => memPut m u.1 u.2) a3.eng.lut } } :=
    k3.set_lut f_eng f_lut (fun h => keep_foldl (fun m => Memory.wf m = true) (fun _ _ x => memPut_wf x) h)
  unfold selfTest
  exact keep_ite (Keeps k s0) h (keep_each (fun _ _ h => occur_keeps f_cmd f_flt f_xpt f_red f_zl f_eng f_cel f_lease f_pmu f_out f_free f_r_cmd f_r_xpt f_r_eth f_r_cel f_r_zl f_r_red f_r_flt f_r_pmu (State.count_keeps f_pmu f_r_pmu (State.bump_keeps (.of f_r_red) h)))
    (keep_each (fun _ _ h => occur_keeps f_cmd f_flt f_xpt f_red f_zl f_eng f_cel f_lease f_pmu f_out f_free f_r_cmd f_r_xpt f_r_eth f_r_cel f_r_zl f_r_red f_r_flt f_r_pmu (State.count_keeps f_pmu f_r_pmu (State.bump_keeps (.of f_r_red) h))) h))

theorem execAckReceive_keeps {k s0 a1 a2} (f_cmd : k .cmd = false) (f_red : k .red = false) (f_active : k .active = false) (f_lease : k .lease = false) (f_pmu : k .pmu = false) (f_out : k .out = false) (f_free : k .free = false) (f_r_cmd : k (.reg .cmd) = false) (f_r_xpt : k (.reg .xpt) = false) (f_r_red : k (.reg .red) = false) (f_r_pmu : k (.reg .pmu) = false) (k2 : Keeps k s0 a2) :
    KeepsOut k s0 (execAckReceive a1 a2) := by
  unfold execAckReceive
  exact (KeepsOut.next (leaseReceive_keeps f_cmd f_red f_active f_lease f_pmu f_out f_free f_r_cmd f_r_xpt f_r_red f_r_pmu k2))

theorem execHearsFcLapse_keeps {k s0 a1} (f_red : k .red = false) (k1 : Keeps k s0 a1) :
    KeepsOut k s0 (execHearsFcLapse a1) := by
  unfold execHearsFcLapse
  exact (KeepsOut.next (by split; exact (by lift_lets -underBinder; intro xh1; exact (keep_ite (Keeps k s0) (k1.set_red f_red rfl (.inr rfl)) k1)); exact k1))

theorem writeReplStat_keeps {k s0 a1 a2} (f_r_red : k (.reg .red) = false) (k2 : Keeps k s0 a2) :
    Keeps k s0 (writeReplStat a1 a2) := by
  unfold writeReplStat
  exact (by lift_lets -underBinder; intro xh1; have h2 : Keeps k s0 xh1 := (by unfold xh1; exact (State.write_keeps (.of f_r_red) k2)); clear_value xh1; exact (keep_ite (Keeps k s0) (State.p_keeps (.of f_r_red) h2) h2))

theorem execIsolate_keeps {k s0 a1 a2}  (f_cmd : k .cmd = false) (f_red : k .red = false) (f_lease : k .lease = false) (f_enterIso : k .enterIso = false) (f_leaveSync : k .leaveSync = false) (f_pmu : k .pmu = false) (f_out : k .out = false) (f_free : k .free = false) (f_r_hif : k (.reg .hif) = false) (f_r_cmd : k (.reg .cmd) = false) (f_r_xpt : k (.reg .xpt) = false) (f_r_red : k (.reg .red) = false) (f_r_pmu : k (.reg .pmu) = false) (f_r_noc : k (.reg .noc) = false) (k2 : Keeps k s0 a2) : KeepsOut k s0 (execIsolate a1 a2) :=
  KeepsOut.next (gate_keeps (a3 := writeRedCtrl (fldMask 1 1)) f_pmu f_r_hif f_r_pmu f_r_noc (fun _ h => isolate_keeps f_cmd f_red f_lease f_enterIso f_leaveSync f_pmu f_out f_free f_r_cmd f_r_xpt f_r_red f_r_pmu h) k2)

theorem holdDecision_keeps {k s0 a1 a2} (f_eng : k .eng = false) (k2 : Keeps k s0 a2) :
    Keeps k s0 (holdDecision a1 a2) := by
  unfold holdDecision
  exact (by split; exact (by lift_lets -underBinder; intro xh1; intro xh2; exact (k2.set_eng f_eng rfl)))

theorem execHelloSend_keeps {k s0 a1} (f_red : k .red = false) (f_pmu : k .pmu = false) (f_out : k .out = false) (f_free : k .free = false) (f_r_pmu : k (.reg .pmu) = false) (k1 : Keeps k s0 a1) :
    KeepsOut k s0 (execHelloSend a1) := by
  unfold execHelloSend
  exact (KeepsOut.next (helloSend_keeps f_red f_pmu f_out f_free f_r_pmu k1))

theorem partnerHeard_keeps {k s0 a1 a2} (k1 : Keeps k s0 a1) (k2 : ∀ x0, Keeps k s0 x0 → Keeps k s0 (a2 x0)) :
    Keeps k s0 (partnerHeard a1 a2) := by
  unfold partnerHeard
  exact (keep_ite (Keeps k s0) k1 (k2 _ k1))

theorem execSigReceive_keeps {k s0 a1 a2} (f_cmd : k .cmd = false) (f_flt : k .flt = false) (f_xpt : k .xpt = false) (f_red : k .red = false) (f_zl : k .zl = false) (f_eng : k .eng = false) (f_cel : k .cel = false) (f_lease : k .lease = false) (f_pmu : k .pmu = false) (f_out : k .out = false) (f_free : k .free = false) (f_r_cmd : k (.reg .cmd) = false) (f_r_xpt : k (.reg .xpt) = false) (f_r_eth : k (.reg .eth) = false) (f_r_cel : k (.reg .cel) = false) (f_r_zl : k (.reg .zl) = false) (f_r_red : k (.reg .red) = false) (f_r_flt : k (.reg .flt) = false) (f_r_pmu : k (.reg .pmu) = false) (k2 : Keeps k s0 a2) :
    KeepsOut k s0 (execSigReceive a1 a2) := by
  unfold execSigReceive
  exact (KeepsOut.next (partnerHeard_keeps k2 (fun _ h1 => (sigReceived_keeps f_cmd f_flt f_xpt f_red f_zl f_eng f_cel f_lease f_pmu f_out f_free f_r_cmd f_r_xpt f_r_eth f_r_cel f_r_zl f_r_red f_r_flt f_r_pmu h1))))

theorem decisionReceive_keeps {k s0 a1 a2} (f_cmd : k .cmd = false) (f_flt : k .flt = false) (f_xpt : k .xpt = false) (f_red : k .red = false) (f_zl : k .zl = false) (f_eng : k .eng = false) (f_cel : k .cel = false) (f_lease : k .lease = false) (f_pmu : k .pmu = false) (f_out : k .out = false) (f_free : k .free = false) (f_r_cmd : k (.reg .cmd) = false) (f_r_xpt : k (.reg .xpt) = false) (f_r_eth : k (.reg .eth) = false) (f_r_cel : k (.reg .cel) = false) (f_r_zl : k (.reg .zl) = false) (f_r_red : k (.reg .red) = false) (f_r_flt : k (.reg .flt) = false) (f_r_pmu : k (.reg .pmu) = false) (k2 : Keeps k s0 a2) :
    Keeps k s0 (decisionReceive a1 a2) := by
  unfold decisionReceive
  exact (by lift_lets -underBinder; intro xh1; have h2 : Keeps k s0 xh1 := (by unfold xh1; exact (holdDecision_keeps f_eng k2)); clear_value xh1; exact (keep_ite (Keeps k s0) k2 (by split; exact (keep_ite (Keeps k s0) (occur_keeps f_cmd f_flt f_xpt f_red f_zl f_eng f_cel f_lease f_pmu f_out f_free f_r_cmd f_r_xpt f_r_eth f_r_cel f_r_zl f_r_red f_r_flt f_r_pmu (State.count_keeps f_pmu f_r_pmu (State.p_keeps (.of f_r_xpt) h2))) h2); exact h2)))

theorem execDecisionReceive_keeps {k s0 a1 a2} (f_cmd : k .cmd = false) (f_flt : k .flt = false) (f_xpt : k .xpt = false) (f_red : k .red = false) (f_zl : k .zl = false) (f_eng : k .eng = false) (f_cel : k .cel = false) (f_lease : k .lease = false) (f_pmu : k .pmu = false) (f_out : k .out = false) (f_free : k .free = false) (f_r_cmd : k (.reg .cmd) = false) (f_r_xpt : k (.reg .xpt) = false) (f_r_eth : k (.reg .eth) = false) (f_r_cel : k (.reg .cel) = false) (f_r_zl : k (.reg .zl) = false) (f_r_red : k (.reg .red) = false) (f_r_flt : k (.reg .flt) = false) (f_r_pmu : k (.reg .pmu) = false) (k2 : Keeps k s0 a2) :
    KeepsOut k s0 (execDecisionReceive a1 a2) := by
  unfold execDecisionReceive
  exact (KeepsOut.next (partnerHeard_keeps k2 (fun _ h1 => (decisionReceive_keeps f_cmd f_flt f_xpt f_red f_zl f_eng f_cel f_lease f_pmu f_out f_free f_r_cmd f_r_xpt f_r_eth f_r_cel f_r_zl f_r_red f_r_flt f_r_pmu h1))))

theorem execEpochStepdown_keeps {k s0 a1} (f_cmd : k .cmd = false) (f_red : k .red = false) (f_lease : k .lease = false) (f_pmu : k .pmu = false) (f_out : k .out = false) (f_free : k .free = false) (f_r_cmd : k (.reg .cmd) = false) (f_r_xpt : k (.reg .xpt) = false) (f_r_red : k (.reg .red) = false) (f_r_pmu : k (.reg .pmu) = false) (k1 : Keeps k s0 a1) :
    KeepsOut k s0 (execEpochStepdown a1) := by
  unfold execEpochStepdown
  exact (KeepsOut.next (epochStepdown_keeps f_cmd f_red f_lease f_pmu f_out f_free f_r_cmd f_r_xpt f_r_red f_r_pmu k1))

theorem execRecoveryEnd_keeps {k s0 a1} (f_red : k .red = false) (k1 : Keeps k s0 a1) :
    KeepsOut k s0 (execRecoveryEnd a1) := by
  unfold execRecoveryEnd
  exact (by lift_lets -underBinder; intro xh1; exact (KeepsOut.next (keep_ite (Keeps k s0) (k1.set_red f_red rfl (.inr rfl)) k1)))

theorem execRelinquish_keeps {k s0 a1 a2}  (f_cmd : k .cmd = false) (f_red : k .red = false) (f_lease : k .lease = false) (f_pmu : k .pmu = false) (f_out : k .out = false) (f_free : k .free = false) (f_r_hif : k (.reg .hif) = false) (f_r_cmd : k (.reg .cmd) = false) (f_r_xpt : k (.reg .xpt) = false) (f_r_red : k (.reg .red) = false) (f_r_pmu : k (.reg .pmu) = false) (f_r_noc : k (.reg .noc) = false) (k2 : Keeps k s0 a2) : KeepsOut k s0 (execRelinquish a1 a2) :=
  KeepsOut.next (gate_keeps (a3 := writeRedCtrl (fldMask 3 3)) f_pmu f_r_hif f_r_pmu f_r_noc (fun _ h => leaveActive_keeps (a1 := false) f_cmd f_red f_lease f_pmu f_out f_free f_r_cmd f_r_xpt f_r_red f_r_pmu h) k2)

theorem execReplReceive_keeps {k s0 a1 a2} (f_cmd : k .cmd = false) (f_flt : k .flt = false) (f_xpt : k .xpt = false) (f_red : k .red = false) (f_flw : k .flw = false) (f_aud : k .aud = false) (f_zl : k .zl = false) (f_eng : k .eng = false) (f_cel : k .cel = false) (f_lease : k .lease = false) (f_table : k .table = false) (f_enterSync : k .enterSync = false) (f_leaveSync : k .leaveSync = false) (f_pmu : k .pmu = false) (f_out : k .out = false) (f_free : k .free = false) (f_r_cmd : k (.reg .cmd) = false) (f_r_xpt : k (.reg .xpt) = false) (f_r_eth : k (.reg .eth) = false) (f_r_flw : k (.reg .flw) = false) (f_r_aud : k (.reg .aud) = false) (f_r_eng : k (.reg .eng) = false) (f_r_cel : k (.reg .cel) = false) (f_r_zl : k (.reg .zl) = false) (f_r_red : k (.reg .red) = false) (f_r_flt : k (.reg .flt) = false) (f_r_pmu : k (.reg .pmu) = false) (k2 : Keeps k s0 a2) :
    KeepsOut k s0 (execReplReceive a1 a2) := by
  unfold execReplReceive
  exact (KeepsOut.next (partnerHeard_keeps k2 (fun _ h1 => (replReceive_keeps f_cmd f_flt f_xpt f_red f_flw f_aud f_zl f_eng f_cel f_lease f_table f_enterSync f_leaveSync f_pmu f_out f_free f_r_cmd f_r_xpt f_r_eth f_r_flw f_r_aud f_r_eng f_r_cel f_r_zl f_r_red f_r_flt f_r_pmu h1))))

theorem writeSigCnt_keeps {k s0 a1} (f_r_red : k (.reg .red) = false) (k1 : Keeps k s0 a1) :
    Keeps k s0 (writeSigCnt a1) := by
  unfold writeSigCnt
  exact (State.restore_keeps (.of f_r_red) k1)

theorem execHeartbeatReceive_keeps {k s0 a1 a2} (f_cmd : k .cmd = false) (f_flt : k .flt = false) (f_xpt : k .xpt = false) (f_red : k .red = false) (f_zl : k .zl = false) (f_eng : k .eng = false) (f_cel : k .cel = false) (f_ref : k .ref = false) (f_lease : k .lease = false) (f_leaveSync : k .leaveSync = false) (f_pmu : k .pmu = false) (f_out : k .out = false) (f_free : k .free = false) (f_r_cmd : k (.reg .cmd) = false) (f_r_xpt : k (.reg .xpt) = false) (f_r_eth : k (.reg .eth) = false) (f_r_cel : k (.reg .cel) = false) (f_r_zl : k (.reg .zl) = false) (f_r_red : k (.reg .red) = false) (f_r_flt : k (.reg .flt) = false) (f_r_pmu : k (.reg .pmu) = false) (f_r_sys : k (.reg .sys) = false) (k2 : Keeps k s0 a2) :
    KeepsOut k s0 (execHeartbeatReceive a1 a2) := by
  unfold execHeartbeatReceive
  exact (KeepsOut.next (heartbeatReceive_keeps f_cmd f_flt f_xpt f_red f_zl f_eng f_cel f_ref f_lease f_leaveSync f_pmu f_out f_free f_r_cmd f_r_xpt f_r_eth f_r_cel f_r_zl f_r_red f_r_flt f_r_pmu f_r_sys k2))

theorem execSelftestTick_keeps {k s0 a1 a2 a3} (f_cmd : k .cmd = false) (f_flt : k .flt = false) (f_xpt : k .xpt = false) (f_red : k .red = false) (f_zl : k .zl = false) (f_eng : k .eng = false) (f_cel : k .cel = false) (f_lease : k .lease = false) (f_lut : k .lut = false) (f_pmu : k .pmu = false) (f_out : k .out = false) (f_free : k .free = false) (f_r_cmd : k (.reg .cmd) = false) (f_r_xpt : k (.reg .xpt) = false) (f_r_eth : k (.reg .eth) = false) (f_r_cel : k (.reg .cel) = false) (f_r_zl : k (.reg .zl) = false) (f_r_red : k (.reg .red) = false) (f_r_flt : k (.reg .flt) = false) (f_r_pmu : k (.reg .pmu) = false) (k3 : Keeps k s0 a3) :
    KeepsOut k s0 (execSelftestTick a1 a2 a3) := by
  unfold execSelftestTick
  exact (KeepsOut.next (selfTest_keeps f_cmd f_flt f_xpt f_red f_zl f_eng f_cel f_lease f_lut f_pmu f_out f_free f_r_cmd f_r_xpt f_r_eth f_r_cel f_r_zl f_r_red f_r_flt f_r_pmu k3))

theorem execBadMsgReceive_keeps {k s0 a1 a2 a3} (f_pmu : k .pmu = false) (f_r_red : k (.reg .red) = false) (f_r_pmu : k (.reg .pmu) = false) (k3 : Keeps k s0 a3) :
    KeepsOut k s0 (execBadMsgReceive a1 a2 a3) := by
  unfold execBadMsgReceive
  exact (KeepsOut.next (by split; exact (badMsg_keeps f_pmu f_r_red f_r_pmu k3); exact (keep_ite (Keeps k s0) (badMsg_keeps f_pmu f_r_red f_r_pmu k3) k3); exact (keep_ite (Keeps k s0) k3 (badMsg_keeps f_pmu f_r_red f_r_pmu k3))))

theorem execReplAckReceive_keeps {k s0 a1 a2} (f_r_red : k (.reg .red) = false) (k2 : Keeps k s0 a2) :
    KeepsOut k s0 (execReplAckReceive a1 a2) := by
  unfold execReplAckReceive
  exact (KeepsOut.next (partnerHeard_keeps k2 (fun _ h1 => (by lift_lets -underBinder; intro xh2; (try clear_value xh2); exact (State.p_keeps (.of f_r_red) (State.p_keeps (.of f_r_red) h1))))))

theorem writeCheckStat_keeps {k s0 a1} (f_r_red : k (.reg .red) = false) (k1 : Keeps k s0 a1) :
    Keeps k s0 (writeCheckStat a1) := by
  unfold writeCheckStat
  exact (State.restore_keeps (.of f_r_red) k1)

theorem execCheckStatClear_keeps {k s0 a1 a2} (f_pmu : k .pmu = false) (f_r_hif : k (.reg .hif) = false) (f_r_red : k (.reg .red) = false) (f_r_pmu : k (.reg .pmu) = false) (f_r_noc : k (.reg .noc) = false) (k2 : Keeps k s0 a2) :
    KeepsOut k s0 (execCheckStatClear a1 a2) := by
  unfold execCheckStatClear
  exact (KeepsOut.next (gate_keeps f_pmu f_r_hif f_r_pmu f_r_noc (fun _ h1 => (writeCheckStat_keeps f_r_red h1)) k2))

theorem execSigCntClear_keeps {k s0 a1 a2} (f_pmu : k .pmu = false) (f_r_hif : k (.reg .hif) = false) (f_r_red : k (.reg .red) = false) (f_r_pmu : k (.reg .pmu) = false) (f_r_noc : k (.reg .noc) = false) (k2 : Keeps k s0 a2) :
    KeepsOut k s0 (execSigCntClear a1 a2) := by
  unfold execSigCntClear
  exact (KeepsOut.next (gate_keeps f_pmu f_r_hif f_r_pmu f_r_noc (fun _ h1 => (writeSigCnt_keeps f_r_red h1)) k2))

theorem execPartnerLinkDown_keeps {k s0 a1} (f_cmd : k .cmd = false) (f_flt : k .flt = false) (f_xpt : k .xpt = false) (f_red : k .red = false) (f_zl : k .zl = false) (f_eng : k .eng = false) (f_cel : k .cel = false) (f_lease : k .lease = false) (f_enterSync : k .enterSync = false) (f_pmu : k .pmu = false) (f_out : k .out = false) (f_free : k .free = false) (f_r_cmd : k (.reg .cmd) = false) (f_r_xpt : k (.reg .xpt) = false) (f_r_eth : k (.reg .eth) = false) (f_r_cel : k (.reg .cel) = false) (f_r_zl : k (.reg .zl) = false) (f_r_red : k (.reg .red) = false) (f_r_flt : k (.reg .flt) = false) (f_r_pmu : k (.reg .pmu) = false) (f_r_sys : k (.reg .sys) = false) (k1 : Keeps k s0 a1) :
    KeepsOut k s0 (execPartnerLinkDown a1) := by
  unfold execPartnerLinkDown
  exact (KeepsOut.next (partnerDown_keeps f_cmd f_flt f_xpt f_red f_zl f_eng f_cel f_lease f_enterSync f_pmu f_out f_free f_r_cmd f_r_xpt f_r_eth f_r_cel f_r_zl f_r_red f_r_flt f_r_pmu f_r_sys k1))

theorem execLeaseGuardStepdown_keeps {k s0 a1} (f_cmd : k .cmd = false) (f_red : k .red = false) (f_lease : k .lease = false) (f_pmu : k .pmu = false) (f_out : k .out = false) (f_free : k .free = false) (f_r_cmd : k (.reg .cmd) = false) (f_r_xpt : k (.reg .xpt) = false) (f_r_red : k (.reg .red) = false) (f_r_pmu : k (.reg .pmu) = false) (k1 : Keeps k s0 a1) :
    KeepsOut k s0 (execLeaseGuardStepdown a1) := by
  unfold execLeaseGuardStepdown
  exact (KeepsOut.next (guardStepdown_keeps f_cmd f_red f_lease f_pmu f_out f_free f_r_cmd f_r_xpt f_r_red f_r_pmu k1))

theorem execReplDroppedClr_keeps {k s0 a1 a2} (f_pmu : k .pmu = false) (f_r_hif : k (.reg .hif) = false) (f_r_red : k (.reg .red) = false) (f_r_pmu : k (.reg .pmu) = false) (f_r_noc : k (.reg .noc) = false) (k2 : Keeps k s0 a2) :
    KeepsOut k s0 (execReplDroppedClr a1 a2) := by
  unfold execReplDroppedClr
  exact (KeepsOut.next (gate_keeps f_pmu f_r_hif f_r_pmu f_r_noc (fun _ h1 => (writeReplStat_keeps f_r_red h1)) k2))

theorem writeLeaseCnt_keeps {k s0 a1} (f_r_red : k (.reg .red) = false) (k1 : Keeps k s0 a1) :
    Keeps k s0 (writeLeaseCnt a1) := by
  unfold writeLeaseCnt
  exact (State.restore_keeps (.of f_r_red) k1)

theorem execSigMissingTimeout_keeps {k s0 a1 a2 a3} (f_red : k .red = false) (f_pmu : k .pmu = false) (f_r_red : k (.reg .red) = false) (f_r_pmu : k (.reg .pmu) = false) (k3 : Keeps k s0 a3) :
    KeepsOut k s0 (execSigMissingTimeout a1 a2 a3) := by
  unfold execSigMissingTimeout
  exact (KeepsOut.next (sigMissing_keeps f_red f_pmu f_r_red f_r_pmu k3))

theorem execResyncSettleEnd_keeps {k s0 a1} (f_cmd : k .cmd = false) (f_red : k .red = false) (f_leaveSync : k .leaveSync = false) (f_pmu : k .pmu = false) (f_r_cmd : k (.reg .cmd) = false) (f_r_xpt : k (.reg .xpt) = false) (f_r_red : k (.reg .red) = false) (f_r_pmu : k (.reg .pmu) = false) (k1 : Keeps k s0 a1) :
    KeepsOut k s0 (execResyncSettleEnd a1) := by
  unfold execResyncSettleEnd
  exact (KeepsOut.next (settleEnd_keeps f_cmd f_red f_leaveSync f_pmu f_r_cmd f_r_xpt f_r_red f_r_pmu k1))

theorem execResync_keeps {k s0 a1 a2}  (f_cmd : k .cmd = false) (f_red : k .red = false) (f_enterSync : k .enterSync = false) (f_leaveSync : k .leaveSync = false) (f_pmu : k .pmu = false) (f_out : k .out = false) (f_r_hif : k (.reg .hif) = false) (f_r_cmd : k (.reg .cmd) = false) (f_r_xpt : k (.reg .xpt) = false) (f_r_red : k (.reg .red) = false) (f_r_pmu : k (.reg .pmu) = false) (f_r_noc : k (.reg .noc) = false) (k2 : Keeps k s0 a2) : KeepsOut k s0 (execResync a1 a2) :=
  KeepsOut.next (gate_keeps (a3 := writeRedCtrl (fldMask 2 2)) f_pmu f_r_hif f_r_pmu f_r_noc (fun _ h => enterSyncing_keeps f_cmd f_red f_enterSync f_leaveSync f_pmu f_out f_r_cmd f_r_xpt f_r_red f_r_pmu h) k2)

theorem execCopyReqReceive_keeps {k s0 a1 a2} (f_cmd : k .cmd = false) (f_flt : k .flt = false) (f_xpt : k .xpt = false) (f_red : k .red = false) (f_zl : k .zl = false) (f_eng : k .eng = false) (f_cel : k .cel = false) (f_lease : k .lease = false) (f_pmu : k .pmu = false) (f_out : k .out = false) (f_free : k .free = false) (f_r_cmd : k (.reg .cmd) = false) (f_r_xpt : k (.reg .xpt) = false) (f_r_eth : k (.reg .eth) = false) (f_r_cel : k (.reg .cel) = false) (f_r_zl : k (.reg .zl) = false) (f_r_red : k (.reg .red) = false) (f_r_flt : k (.reg .flt) = false) (f_r_pmu : k (.reg .pmu) = false) (f_r_noc : k (.reg .noc) = false) (k2 : Keeps k s0 a2) :
    KeepsOut k s0 (execCopyReqReceive a1 a2) := by
  unfold execCopyReqReceive
  exact (KeepsOut.next (partnerHeard_keeps k2 (fun _ h1 => (serveCopy_keeps f_cmd f_flt f_xpt f_red f_zl f_eng f_cel f_lease f_pmu f_out f_free f_r_cmd f_r_xpt f_r_eth f_r_cel f_r_zl f_r_red f_r_flt f_r_pmu f_r_noc h1))))

theorem execGrantReceive_keeps {k s0 a1 a2} (f_cmd : k .cmd = false) (f_red : k .red = false) (f_active : k .active = false) (f_lease : k .lease = false) (f_pmu : k .pmu = false) (f_out : k .out = false) (f_free : k .free = false) (f_r_cmd : k (.reg .cmd) = false) (f_r_xpt : k (.reg .xpt) = false) (f_r_red : k (.reg .red) = false) (f_r_pmu : k (.reg .pmu) = false) (k2 : Keeps k s0 a2) :
    KeepsOut k s0 (execGrantReceive a1 a2) := by
  unfold execGrantReceive
  exact (KeepsOut.next (leaseReceive_keeps f_cmd f_red f_active f_lease f_pmu f_out f_free f_r_cmd f_r_xpt f_r_red f_r_pmu k2))

theorem execLeaseExpiry_keeps {k s0 a1} (f_cmd : k .cmd = false) (f_flt : k .flt = false) (f_xpt : k .xpt = false) (f_red : k .red = false) (f_zl : k .zl = false) (f_eng : k .eng = false) (f_cel : k .cel = false) (f_lease : k .lease = false) (f_pmu : k .pmu = false) (f_out : k .out = false) (f_free : k .free = false) (f_r_cmd : k (.reg .cmd) = false) (f_r_xpt : k (.reg .xpt) = false) (f_r_eth : k (.reg .eth) = false) (f_r_cel : k (.reg .cel) = false) (f_r_zl : k (.reg .zl) = false) (f_r_red : k (.reg .red) = false) (f_r_flt : k (.reg .flt) = false) (f_r_pmu : k (.reg .pmu) = false) (k1 : Keeps k s0 a1) :
    KeepsOut k s0 (execLeaseExpiry a1) := by
  unfold execLeaseExpiry
  exact (KeepsOut.next (leaseExpiry_keeps f_cmd f_flt f_xpt f_red f_zl f_eng f_cel f_lease f_pmu f_out f_free f_r_cmd f_r_xpt f_r_eth f_r_cel f_r_zl f_r_red f_r_flt f_r_pmu k1))

theorem execCopyDataReceive_keeps {k s0 a1 a2 a3 a4} (f_red : k .red = false) (f_eng : k .eng = false) (f_cel : k .cel = false) (f_mem : k .mem = false) (f_lut : k .lut = false) (f_pmu : k .pmu = false) (f_out : k .out = false) (f_r_cel : k (.reg .cel) = false) (f_r_red : k (.reg .red) = false) (f_r_pmu : k (.reg .pmu) = false) (k4 : Keeps k s0 a4) :
    KeepsOut k s0 (execCopyDataReceive a1 a2 a3 a4) := by
  unfold execCopyDataReceive
  exact (KeepsOut.next (partnerHeard_keeps k4 (fun _ h1 => (copyArrives_keeps f_red f_eng f_cel f_mem f_lut f_pmu f_out f_r_cel f_r_red f_r_pmu h1))))

theorem execHealthSend_keeps {k s0 a1} (f_red : k .red = false) (f_pmu : k .pmu = false) (f_out : k .out = false) (f_free : k .free = false) (f_r_pmu : k (.reg .pmu) = false) (k1 : Keeps k s0 a1) :
    KeepsOut k s0 (execHealthSend a1) := by
  unfold execHealthSend
  exact (KeepsOut.next (healthSend_keeps f_red f_pmu f_out f_free f_r_pmu k1))

theorem execJoin_keeps {k s0 a1 a2}  (f_cmd : k .cmd = false) (f_red : k .red = false) (f_leaveIso : k .leaveIso = false) (f_enterSync : k .enterSync = false) (f_leaveSync : k .leaveSync = false) (f_pmu : k .pmu = false) (f_out : k .out = false) (f_r_hif : k (.reg .hif) = false) (f_r_cmd : k (.reg .cmd) = false) (f_r_xpt : k (.reg .xpt) = false) (f_r_red : k (.reg .red) = false) (f_r_pmu : k (.reg .pmu) = false) (f_r_noc : k (.reg .noc) = false) (k2 : Keeps k s0 a2) : KeepsOut k s0 (execJoin a1 a2) :=
  KeepsOut.next (gate_keeps (a3 := writeRedCtrl (fldMask 0 0)) f_pmu f_r_hif f_r_pmu f_r_noc (fun _ h => join_keeps f_cmd f_red f_leaveIso f_enterSync f_leaveSync f_pmu f_out f_r_cmd f_r_xpt f_r_red f_r_pmu h) k2)

theorem execHeartbeatSend_keeps {k s0 a1} (f_red : k .red = false) (f_out : k .out = false) (k1 : Keeps k s0 a1) :
    KeepsOut k s0 (execHeartbeatSend a1) := by
  unfold execHeartbeatSend
  exact (KeepsOut.next (heartbeatSend_keeps f_red f_out k1))

theorem execPartnerLinkUp_keeps {k s0 a1} (f_cmd : k .cmd = false) (f_flt : k .flt = false) (f_xpt : k .xpt = false) (f_red : k .red = false) (f_zl : k .zl = false) (f_eng : k .eng = false) (f_cel : k .cel = false) (f_lease : k .lease = false) (f_leaveSync : k .leaveSync = false) (f_pmu : k .pmu = false) (f_out : k .out = false) (f_free : k .free = false) (f_r_cmd : k (.reg .cmd) = false) (f_r_xpt : k (.reg .xpt) = false) (f_r_eth : k (.reg .eth) = false) (f_r_cel : k (.reg .cel) = false) (f_r_zl : k (.reg .zl) = false) (f_r_red : k (.reg .red) = false) (f_r_flt : k (.reg .flt) = false) (f_r_pmu : k (.reg .pmu) = false) (k1 : Keeps k s0 a1) :
    KeepsOut k s0 (execPartnerLinkUp a1) := by
  unfold execPartnerLinkUp
  exact (KeepsOut.next (partnerUp_keeps f_cmd f_flt f_xpt f_red f_zl f_eng f_cel f_lease f_leaveSync f_pmu f_out f_free f_r_cmd f_r_xpt f_r_eth f_r_cel f_r_zl f_r_red f_r_flt f_r_pmu k1))

theorem execLeaseCntClear_keeps {k s0 a1 a2} (f_pmu : k .pmu = false) (f_r_hif : k (.reg .hif) = false) (f_r_red : k (.reg .red) = false) (f_r_pmu : k (.reg .pmu) = false) (f_r_noc : k (.reg .noc) = false) (k2 : Keeps k s0 a2) :
    KeepsOut k s0 (execLeaseCntClear a1 a2) := by
  unfold execLeaseCntClear
  exact (KeepsOut.next (gate_keeps f_pmu f_r_hif f_r_pmu f_r_noc (fun _ h1 => (writeLeaseCnt_keeps f_r_red h1)) k2))

theorem execSnapshotInstall_keeps {k s0 a1 a2 a3} (f_cmd : k .cmd = false) (f_flt : k .flt = false) (f_xpt : k .xpt = false) (f_red : k .red = false) (f_flw : k .flw = false) (f_aud : k .aud = false) (f_zl : k .zl = false) (f_eng : k .eng = false) (f_cel : k .cel = false) (f_ref : k .ref = false) (f_lease : k .lease = false) (f_mem : k .mem = false) (f_table : k .table = false) (f_house : k .house = false) (f_pmu : k .pmu = false) (f_out : k .out = false) (f_free : k .free = false) (f_r_cmd : k (.reg .cmd) = false) (f_r_xpt : k (.reg .xpt) = false) (f_r_ref : k (.reg .ref) = false) (f_r_eth : k (.reg .eth) = false) (f_r_flw : k (.reg .flw) = false) (f_r_aud : k (.reg .aud) = false) (f_r_eng : k (.reg .eng) = false) (f_r_cel : k (.reg .cel) = false) (f_r_zl : k (.reg .zl) = false) (f_r_red : k (.reg .red) = false) (f_r_flt : k (.reg .flt) = false) (f_r_pmu : k (.reg .pmu) = false) (k3 : Keeps k s0 a3) :
    KeepsOut k s0 (execSnapshotInstall a1 a2 a3) := by
  unfold execSnapshotInstall
  exact (KeepsOut.next (partnerHeard_keeps k3 (fun _ h1 => (snapInstall_keeps f_cmd f_flt f_xpt f_red f_flw f_aud f_zl f_eng f_cel f_ref f_lease f_mem f_table f_house f_pmu f_out f_free f_r_cmd f_r_xpt f_r_ref f_r_eth f_r_flw f_r_aud f_r_eng f_r_cel f_r_zl f_r_red f_r_flt f_r_pmu h1))))

theorem writeFltCfg_keeps {k s0 a1 a2} (f_r_flt : k (.reg .flt) = false) (k2 : Keeps k s0 a2) :
    Keeps k s0 (writeFltCfg a1 a2) := by
  unfold writeFltCfg
  exact (by lift_lets -underBinder; intro xh1; (try clear_value xh1); exact (keep_ite (Keeps k s0) (State.p_keeps (.of f_r_flt) k2) (State.write_keeps (.of f_r_flt) k2)))

theorem execFltCfgWrite_keeps {k s0 a1 a2 a3} (f_pmu : k .pmu = false) (f_r_hif : k (.reg .hif) = false) (f_r_flt : k (.reg .flt) = false) (f_r_pmu : k (.reg .pmu) = false) (f_r_noc : k (.reg .noc) = false) (k3 : Keeps k s0 a3) :
    KeepsOut k s0 (execFltCfgWrite a1 a2 a3) := by
  unfold execFltCfgWrite
  exact (KeepsOut.next (gate_keeps f_pmu f_r_hif f_r_pmu f_r_noc (fun _ h1 => (writeFltCfg_keeps f_r_flt h1)) k3))

theorem afterFatal_keeps {k s0 a1 a2} (f_cmd : k .cmd = false) (f_flw : k .flw = false) (f_pmu : k .pmu = false) (f_out : k .out = false) (f_r_cmd : k (.reg .cmd) = false) (f_r_eth : k (.reg .eth) = false) (f_r_pmu : k (.reg .pmu) = false) (k2 : Keeps k s0 a2) :
    Keeps k s0 (afterFatal a1 a2) := by
  unfold afterFatal
  exact (keep_when (fun _ h1 => (txGoAll_keeps f_cmd f_flw f_pmu f_out f_r_cmd f_r_eth f_r_pmu h1)) k2)

theorem writeLatch_keeps {k s0 a1 a2 a3} (f_cmd : k .cmd = false) (f_flt : k .flt = false) (f_flw : k .flw = false) (f_pmu : k .pmu = false) (f_out : k .out = false) (f_r_cmd : k (.reg .cmd) = false) (f_r_eth : k (.reg .eth) = false) (f_r_zl : k (.reg .zl) = false) (f_r_flt : k (.reg .flt) = false) (f_r_pmu : k (.reg .pmu) = false) (k3 : Keeps k s0 a3) :
    Keeps k s0 (writeLatch a1 a2 a3) := by
  unfold writeLatch
  exact (afterFatal_keeps f_cmd f_flw f_pmu f_out f_r_cmd f_r_eth f_r_pmu (keep_each (fun _ _ h1 => (ackSource_keeps f_flt f_r_zl f_r_flt h1)) k3))

theorem writeSafe_keeps {k s0 a1 a2 a3} (f_flt : k .flt = false) (f_r_flt : k (.reg .flt) = false) (k3 : Keeps k s0 a3) :
    Keeps k s0 (writeSafe a1 a2 a3) := by
  unfold writeSafe
  exact (by lift_lets -underBinder; intro xh1; (try clear_value xh1); intro xh2; have h3 : Keeps k s0 xh2 := (by unfold xh2; exact (State.write_keeps (.of f_r_flt) k3)); clear_value xh2; intro xh4; exact (keep_ite (Keeps k s0) (State.p_keeps (.of f_r_flt) k3) (keep_ite (Keeps k s0) (h3.set_flt f_flt) h3)))

theorem execFaultOccurrence_keeps {k s0 a1 a2 a3} (f_cmd : k .cmd = false) (f_flt : k .flt = false) (f_xpt : k .xpt = false) (f_red : k .red = false) (f_zl : k .zl = false) (f_eng : k .eng = false) (f_cel : k .cel = false) (f_lease : k .lease = false) (f_pmu : k .pmu = false) (f_out : k .out = false) (f_free : k .free = false) (f_r_cmd : k (.reg .cmd) = false) (f_r_xpt : k (.reg .xpt) = false) (f_r_eth : k (.reg .eth) = false) (f_r_cel : k (.reg .cel) = false) (f_r_zl : k (.reg .zl) = false) (f_r_red : k (.reg .red) = false) (f_r_flt : k (.reg .flt) = false) (f_r_pmu : k (.reg .pmu) = false) (k3 : Keeps k s0 a3) :
    KeepsOut k s0 (execFaultOccurrence a1 a2 a3) := by
  unfold execFaultOccurrence
  exact (KeepsOut.next (occur_keeps f_cmd f_flt f_xpt f_red f_zl f_eng f_cel f_lease f_pmu f_out f_free f_r_cmd f_r_xpt f_r_eth f_r_cel f_r_zl f_r_red f_r_flt f_r_pmu k3))

theorem execFaultAck_keeps {k s0 a1 a2 a3 a4} (f_cmd : k .cmd = false) (f_flt : k .flt = false) (f_flw : k .flw = false) (f_pmu : k .pmu = false) (f_out : k .out = false) (f_r_hif : k (.reg .hif) = false) (f_r_cmd : k (.reg .cmd) = false) (f_r_eth : k (.reg .eth) = false) (f_r_zl : k (.reg .zl) = false) (f_r_flt : k (.reg .flt) = false) (f_r_pmu : k (.reg .pmu) = false) (f_r_noc : k (.reg .noc) = false) (k4 : Keeps k s0 a4) :
    KeepsOut k s0 (execFaultAck a1 a2 a3 a4) := by
  unfold execFaultAck
  exact (KeepsOut.next (gate_keeps f_pmu f_r_hif f_r_pmu f_r_noc (fun _ h1 => (writeLatch_keeps f_cmd f_flt f_flw f_pmu f_out f_r_cmd f_r_eth f_r_zl f_r_flt f_r_pmu h1)) k4))

theorem execMaskWindowEnd_keeps {k s0 a1} (f_flt : k .flt = false) (k1 : Keeps k s0 a1) :
    KeepsOut k s0 (execMaskWindowEnd a1) := by
  unfold execMaskWindowEnd
  exact (by lift_lets -underBinder; intro xh1; exact (KeepsOut.next (k1.set_flt f_flt)))

theorem writeSrcCnt_keeps {k s0 a1 a2} (f_r_flt : k (.reg .flt) = false) (k2 : Keeps k s0 a2) :
    Keeps k s0 (writeSrcCnt a1 a2) := by
  unfold writeSrcCnt
  exact (State.p_keeps (.of f_r_flt) k2)

theorem execFltMaskedClear_keeps {k s0 a1 a2 a3} (f_pmu : k .pmu = false) (f_r_hif : k (.reg .hif) = false) (f_r_flt : k (.reg .flt) = false) (f_r_pmu : k (.reg .pmu) = false) (f_r_noc : k (.reg .noc) = false) (k3 : Keeps k s0 a3) :
    KeepsOut k s0 (execFltMaskedClear a1 a2 a3) := by
  unfold execFltMaskedClear
  exact (KeepsOut.next (gate_keeps f_pmu f_r_hif f_r_pmu f_r_noc (fun _ h1 => (writeSrcCnt_keeps f_r_flt h1)) k3))

theorem execSafeSourceWrite_keeps {k s0 a1 a2 a3 a4} (f_flt : k .flt = false) (f_pmu : k .pmu = false) (f_r_hif : k (.reg .hif) = false) (f_r_flt : k (.reg .flt) = false) (f_r_pmu : k (.reg .pmu) = false) (f_r_noc : k (.reg .noc) = false) (k4 : Keeps k s0 a4) :
    KeepsOut k s0 (execSafeSourceWrite a1 a2 a3 a4) := by
  unfold execSafeSourceWrite
  exact (KeepsOut.next (gate_keeps f_pmu f_r_hif f_r_pmu f_r_noc (fun _ h1 => (writeSafe_keeps f_flt f_r_flt h1)) k4))

theorem writeSrcCfg_keeps {k s0 a1 a2 a3} (f_cmd : k .cmd = false) (f_flt : k .flt = false) (f_xpt : k .xpt = false) (f_red : k .red = false) (f_zl : k .zl = false) (f_eng : k .eng = false) (f_cel : k .cel = false) (f_lease : k .lease = false) (f_pmu : k .pmu = false) (f_out : k .out = false) (f_free : k .free = false) (f_r_cmd : k (.reg .cmd) = false) (f_r_xpt : k (.reg .xpt) = false) (f_r_eth : k (.reg .eth) = false) (f_r_cel : k (.reg .cel) = false) (f_r_zl : k (.reg .zl) = false) (f_r_red : k (.reg .red) = false) (f_r_flt : k (.reg .flt) = false) (f_r_pmu : k (.reg .pmu) = false) (k3 : Keeps k s0 a3) :
    Keeps k s0 (writeSrcCfg a1 a2 a3) := by
  unfold writeSrcCfg
  exact (by lift_lets -underBinder; intro xh1; have h2 : Keeps k s0 xh1 := (by unfold xh1; exact (State.write_keeps (.of f_r_flt) k3)); clear_value xh1; exact (keep_ite (Keeps k s0) (occurN_keeps f_cmd f_flt f_xpt f_red f_zl f_eng f_cel f_lease f_pmu f_out f_free f_r_cmd f_r_xpt f_r_eth f_r_cel f_r_zl f_r_red f_r_flt f_r_pmu h2) h2))

theorem execFaultInject_keeps {k s0 a1 a2 a3 a4} (f_cmd : k .cmd = false) (f_flt : k .flt = false) (f_xpt : k .xpt = false) (f_red : k .red = false) (f_zl : k .zl = false) (f_eng : k .eng = false) (f_cel : k .cel = false) (f_lease : k .lease = false) (f_pmu : k .pmu = false) (f_out : k .out = false) (f_free : k .free = false) (f_r_hif : k (.reg .hif) = false) (f_r_cmd : k (.reg .cmd) = false) (f_r_xpt : k (.reg .xpt) = false) (f_r_eth : k (.reg .eth) = false) (f_r_cel : k (.reg .cel) = false) (f_r_zl : k (.reg .zl) = false) (f_r_red : k (.reg .red) = false) (f_r_flt : k (.reg .flt) = false) (f_r_pmu : k (.reg .pmu) = false) (f_r_noc : k (.reg .noc) = false) (k4 : Keeps k s0 a4) :
    KeepsOut k s0 (execFaultInject a1 a2 a3 a4) := by
  unfold execFaultInject
  exact (KeepsOut.next (gate_keeps f_pmu f_r_hif f_r_pmu f_r_noc (fun _ h1 => (writeSrcCfg_keeps f_cmd f_flt f_xpt f_red f_zl f_eng f_cel f_lease f_pmu f_out f_free f_r_cmd f_r_xpt f_r_eth f_r_cel f_r_zl f_r_red f_r_flt f_r_pmu h1)) k4))

theorem softOpen_keeps {k s0 a1} (f_cmd : k .cmd = false) (f_flt : k .flt = false) (f_xpt : k .xpt = false) (f_red : k .red = false) (f_aud : k .aud = false) (f_zl : k .zl = false) (f_eng : k .eng = false) (f_cel : k .cel = false) (f_lease : k .lease = false) (f_pmu : k .pmu = false) (f_out : k .out = false) (f_free : k .free = false) (f_r_cmd : k (.reg .cmd) = false) (f_r_xpt : k (.reg .xpt) = false) (f_r_eth : k (.reg .eth) = false) (f_r_aud : k (.reg .aud) = false) (f_r_cel : k (.reg .cel) = false) (f_r_zl : k (.reg .zl) = false) (f_r_red : k (.reg .red) = false) (f_r_flt : k (.reg .flt) = false) (f_r_pmu : k (.reg .pmu) = false) (k1 : Keeps k s0 a1) :
    Keeps k s0 (softOpen a1) := by
  unfold softOpen
  exact (by lift_lets -underBinder; intro xh1; have h3 : Keeps k s0 xh1 := (by unfold xh1; exact (keep_each (fun _ _ h2 => (abortSalvo_keeps f_cmd f_flt f_xpt f_red f_aud f_zl f_eng f_cel f_lease f_pmu f_out f_free f_r_cmd f_r_xpt f_r_eth f_r_aud f_r_cel f_r_zl f_r_red f_r_flt f_r_pmu h2)) k1)); clear_value xh1; intro xh4; have h5 : Keeps k s0 xh4 := (by unfold xh4; exact (endMembers_keeps f_cmd f_flt f_xpt f_red f_zl f_eng f_cel f_lease f_pmu f_out f_free f_r_cmd f_r_xpt f_r_eth f_r_cel f_r_zl f_r_red f_r_flt f_r_pmu h3)); clear_value xh4; intro xh6; exact (h5.set_eng f_eng rfl))

theorem rising_filterMap {α : Type} {f : Nat × α → Option (Nat × α)} (hf : ∀ e x, f e = some x → x.1 = e.1) :
    ∀ {m : List (Nat × α)}, rising m = true → rising (m.filterMap f) = true
  | [], _ => rfl
  | (j, w) :: m, hm => by
    simp only [rising, Bool.and_eq_true] at hm
    simp only [List.filterMap_cons]
    split
    · exact rising_filterMap hf hm.2
    · rename_i x hx
      obtain ⟨i, v⟩ := x
      have hi : i = j := hf _ _ hx
      subst hi
      simp only [rising, Bool.and_eq_true]
      refine ⟨?_, rising_filterMap hf hm.2⟩
      simp only [keysAbove, List.all_eq_true] at *
      intro e he
      obtain ⟨d, hd, hde⟩ := List.mem_filterMap.mp he
      exact (hf _ _ hde) ▸ hm.1 d hd

theorem restoreRegs_keeps {k s0 a1 a2 a3}  (f_latches : k .latches = false) (f_held : k .held = false) (f_regs : ∀ b, k (.reg b) = false) (k3 : Keeps k s0 a3) :
    Keeps k s0 (restoreRegs a1 a2 a3) := by
  unfold restoreRegs
  refine ((k3.set_regs (rising_filterMap ?_) (fun b a hb _ => by rw [f_regs b] at hb; cases hb)).set_latches f_latches).set_held f_held
  intro e x hx
  dsimp only at hx
  split at hx
  · cases hx; rfl
  · split at hx
    · cases hx
    · split at hx
      · cases hx
      · cases hx; rfl

theorem blkApply_keeps {k s0 a1 a2} (f_cel : k .cel = false) (f_latches : k .latches = false) (f_held : k .held = false) (f_pmu : k .pmu = false) (f_regs : ∀ b, k (.reg b) = false) (k2 : Keeps k s0 a2) :
    Keeps k s0 (blkApply a1 a2) := by
  unfold blkApply
  exact (by lift_lets -underBinder; intro xh1; have h2 : Keeps k s0 xh1 := (by unfold xh1; exact (restoreRegs_keeps f_latches f_held f_regs k2)); clear_value xh1; intro xh3; exact (keep_ite (Keeps k s0) (celHold_keeps f_cel (f_regs .cel) k2) (keep_ite (Keeps k s0) (h2.set_pmu f_pmu) h2)))

theorem writeBlkReset_keeps {k s0 a1 a2}  (f_cel : k .cel = false) (f_sys : k .sys = false) (f_latches : k .latches = false) (f_held : k .held = false) (f_pmu : k .pmu = false) (f_regs : ∀ b, k (.reg b) = false) (k2 : Keeps k s0 a2) : Keeps k s0 (writeBlkReset a1 a2) := by
  unfold writeBlkReset
  refine keep_each (fun b t h => ?_) k2
  have h1 := blkApply_keeps (a1 := b) f_cel f_latches f_held f_pmu f_regs (State.wr_keeps (a2 := R.SYS_BLK_RESET) (a3 := [])
    (a4 := t.rd R.SYS_BLK_RESET [] ||| BitVec.ofNat 32 (2 ^ b.1)) (.of (f_regs .sys)) h)
  have e := State.count_sys (blkApply b (t.wr R.SYS_BLK_RESET [] (t.rd R.SYS_BLK_RESET [] ||| BitVec.ofNat 32 (2 ^ b.1)))) 580 1
  exact (State.count_keeps f_pmu (f_regs .pmu) h1).set_sys f_sys (.inr (congrArg SysHid.root e).symm) (.inr (congrArg SysHid.por e).symm)

theorem countReset_keeps {k s0 a1 a2} (f_r_sys : k (.reg .sys) = false) (k2 : Keeps k s0 a2) :
    Keeps k s0 (countReset a1 a2) := by
  unfold countReset
  exact (State.bump_keeps (.of f_r_sys) (State.p_keeps (.of f_r_sys) k2))

theorem fuseFaults_keeps {k s0 a1} (f_cmd : k .cmd = false) (f_flt : k .flt = false) (f_xpt : k .xpt = false) (f_red : k .red = false) (f_zl : k .zl = false) (f_eng : k .eng = false) (f_cel : k .cel = false) (f_lease : k .lease = false) (f_pmu : k .pmu = false) (f_out : k .out = false) (f_free : k .free = false) (f_r_cmd : k (.reg .cmd) = false) (f_r_xpt : k (.reg .xpt) = false) (f_r_eth : k (.reg .eth) = false) (f_r_cel : k (.reg .cel) = false) (f_r_zl : k (.reg .zl) = false) (f_r_red : k (.reg .red) = false) (f_r_flt : k (.reg .flt) = false) (f_r_pmu : k (.reg .pmu) = false) (k1 : Keeps k s0 a1) :
    Keeps k s0 (fuseFaults a1) := by
  unfold fuseFaults
  exact (by lift_lets -underBinder; intro xh1; intro xh2; have h4 : Keeps k s0 xh2 := (by unfold xh2; exact (keep_each (fun _ _ h3 => (occur_keeps f_cmd f_flt f_xpt f_red f_zl f_eng f_cel f_lease f_pmu f_out f_free f_r_cmd f_r_xpt f_r_eth f_r_cel f_r_zl f_r_red f_r_flt f_r_pmu h3)) k1)); clear_value xh2; exact (keep_when (fun _ h5 => (occur_keeps f_cmd f_flt f_xpt f_red f_zl f_eng f_cel f_lease f_pmu f_out f_free f_r_cmd f_r_xpt f_r_eth f_r_cel f_r_zl f_r_red f_r_flt f_r_pmu h5)) h4))

theorem railFault_keeps {k s0 a1 a2} (f_cmd : k .cmd = false) (f_flt : k .flt = false) (f_xpt : k .xpt = false) (f_red : k .red = false) (f_zl : k .zl = false) (f_eng : k .eng = false) (f_cel : k .cel = false) (f_lease : k .lease = false) (f_pmu : k .pmu = false) (f_out : k .out = false) (f_free : k .free = false) (f_r_cmd : k (.reg .cmd) = false) (f_r_xpt : k (.reg .xpt) = false) (f_r_eth : k (.reg .eth) = false) (f_r_cel : k (.reg .cel) = false) (f_r_zl : k (.reg .zl) = false) (f_r_red : k (.reg .red) = false) (f_r_flt : k (.reg .flt) = false) (f_r_pmu : k (.reg .pmu) = false) (f_r_sys : k (.reg .sys) = false) (k2 : Keeps k s0 a2) :
    Keeps k s0 (railFault a1 a2) := by
  unfold railFault
  exact (by lift_lets -underBinder; intro xh1; have h2 : Keeps k s0 xh1 := (by unfold xh1; exact (occur_keeps f_cmd f_flt f_xpt f_red f_zl f_eng f_cel f_lease f_pmu f_out f_free f_r_cmd f_r_xpt f_r_eth f_r_cel f_r_zl f_r_red f_r_flt f_r_pmu (State.count_keeps f_pmu f_r_pmu (State.p_keeps (.of f_r_sys) k2)))); clear_value xh1; exact (State.p_keeps (.of f_r_flt) h2))

theorem endReset_keeps {k s0 a1} (f_cmd : k .cmd = false) (f_flt : k .flt = false) (f_xpt : k .xpt = false) (f_red : k .red = false) (f_zl : k .zl = false) (f_eng : k .eng = false) (f_cel : k .cel = false) (f_ref : k .ref = false) (f_lease : k .lease = false) (f_pmu : k .pmu = false) (f_out : k .out = false) (f_free : k .free = false) (f_r_cmd : k (.reg .cmd) = false) (f_r_xpt : k (.reg .xpt) = false) (f_r_eth : k (.reg .eth) = false) (f_r_cel : k (.reg .cel) = false) (f_r_zl : k (.reg .zl) = false) (f_r_red : k (.reg .red) = false) (f_r_flt : k (.reg .flt) = false) (f_r_pmu : k (.reg .pmu) = false) (f_r_sys : k (.reg .sys) = false) (k1 : Keeps k s0 a1) :
    Keeps k s0 (endReset a1) := by
  unfold endReset
  exact (by lift_lets -underBinder; intro xh1; have h2 : Keeps k s0 xh1 := (by unfold xh1; exact (level_keeps f_cmd f_flt f_xpt f_red f_zl f_eng f_cel f_lease f_pmu f_out f_free f_r_cmd f_r_xpt f_r_eth f_r_cel f_r_zl f_r_red f_r_flt f_r_pmu (level_keeps f_cmd f_flt f_xpt f_red f_zl f_eng f_cel f_lease f_pmu f_out f_free f_r_cmd f_r_xpt f_r_eth f_r_cel f_r_zl f_r_red f_r_flt f_r_pmu k1))); clear_value xh1; intro xh3; have h5 : Keeps k s0 xh3 := (by unfold xh3; exact (keep_each (fun _ _ h4 => (railFault_keeps f_cmd f_flt f_xpt f_red f_zl f_eng f_cel f_lease f_pmu f_out f_free f_r_cmd f_r_xpt f_r_eth f_r_cel f_r_zl f_r_red f_r_flt f_r_pmu f_r_sys h4)) h2)); clear_value xh3; intro xh6; have h7 : Keeps k s0 xh6 := (by unfold xh6; exact (level_keeps f_cmd f_flt f_xpt f_red f_zl f_eng f_cel f_lease f_pmu f_out f_free f_r_cmd f_r_xpt f_r_eth f_r_cel f_r_zl f_r_red f_r_flt f_r_pmu (level_keeps f_cmd f_flt f_xpt f_red f_zl f_eng f_cel f_lease f_pmu f_out f_free f_r_cmd f_r_xpt f_r_eth f_r_cel f_r_zl f_r_red f_r_flt f_r_pmu h5))); clear_value xh6; intro xh8; intro xh9; exact (h7.set_many (by intro p hp; cases p <;> first | exact rfl | exact id | exact fun _ _ => rfl | simp [f_cel, f_ref] at hp)))

theorem execResetNDeassert_keeps {k s0 a1 a2} (f_cmd : k .cmd = false) (f_flt : k .flt = false) (f_xpt : k .xpt = false) (f_red : k .red = false) (f_zl : k .zl = false) (f_eng : k .eng = false) (f_cel : k .cel = false) (f_ref : k .ref = false) (f_sys : k .sys = false) (f_lease : k .lease = false) (f_pmu : k .pmu = false) (f_out : k .out = false) (f_free : k .free = false) (f_r_cmd : k (.reg .cmd) = false) (f_r_xpt : k (.reg .xpt) = false) (f_r_eth : k (.reg .eth) = false) (f_r_cel : k (.reg .cel) = false) (f_r_zl : k (.reg .zl) = false) (f_r_red : k (.reg .red) = false) (f_r_flt : k (.reg .flt) = false) (f_r_pmu : k (.reg .pmu) = false) (f_r_boot : k (.reg .boot) = false) (f_r_sys : k (.reg .sys) = false) (k2 : Keeps k s0 a2) :
    KeepsOut k s0 (execResetNDeassert a1 a2) := by
  unfold execResetNDeassert
  exact (by lift_lets -underBinder; intro xh1; intro xh2; have h3 : Keeps k s0 xh2 := (by unfold xh2; exact (State.p_keeps (.of f_r_sys) (k2.set_sys f_sys (.inr rfl) (.inr rfl)))); clear_value xh2; intro xh4; intro xh5; have h6 : Keeps k s0 xh5 := (by unfold xh5; exact (h3.set_sys f_sys (.inr rfl) (.inr rfl))); clear_value xh5; exact (KeepsOut.next (keep_ite (Keeps k s0) k2 (keep_ite (Keeps k s0) h3 (keep_when (fun _ h7 => (fuseFaults_keeps f_cmd f_flt f_xpt f_red f_zl f_eng f_cel f_lease f_pmu f_out f_free f_r_cmd f_r_xpt f_r_eth f_r_cel f_r_zl f_r_red f_r_flt f_r_pmu h7)) (endReset_keeps f_cmd f_flt f_xpt f_red f_zl f_eng f_cel f_ref f_lease f_pmu f_out f_free f_r_cmd f_r_xpt f_r_eth f_r_cel f_r_zl f_r_red f_r_flt f_r_pmu f_r_sys (State.p_keeps (.of f_r_boot) h6)))))))

theorem softRings_keeps {k s0 a1} (f_cmd : k .cmd = false) (f_flt : k .flt = false) (f_xpt : k .xpt = false) (f_red : k .red = false) (f_zl : k .zl = false) (f_eng : k .eng = false) (f_cel : k .cel = false) (f_latches : k .latches = false) (f_held : k .held = false) (f_lease : k .lease = false) (f_pmu : k .pmu = false) (f_out : k .out = false) (f_free : k .free = false) (f_regs : ∀ b, k (.reg b) = false) (k1 : Keeps k s0 a1) :
    Keeps k s0 (softRings a1) := by
  unfold softRings
  exact (by lift_lets -underBinder; intro xh1; have h3 : Keeps k s0 xh1 := (by unfold xh1; exact (keep_each (fun _ _ h2 => (resetRings_keeps f_cmd f_flt f_xpt f_red f_zl f_eng f_cel f_lease f_pmu f_out f_free (f_regs .cmd) (f_regs .xpt) (f_regs .eth) (f_regs .cel) (f_regs .zl) (f_regs .red) (f_regs .flt) (f_regs .pmu) h2)) k1)); clear_value xh1; intro xh4; have h5 : Keeps k s0 xh4 := (by unfold xh4; exact (restoreRegs_keeps f_latches f_held f_regs h3)); clear_value xh4; intro xh6; have h8 : Keeps k s0 xh6 := (by unfold xh6; exact (keep_each (fun _ _ h7 => (State.p_keeps (.of (f_regs .hif)) h7)) h5)); clear_value xh6; intro xh9; exact (h8.set_cmd f_cmd ))

theorem softReset_keeps {k s0 a1} (f_cmd : k .cmd = false) (f_flt : k .flt = false) (f_xpt : k .xpt = false) (f_red : k .red = false) (f_aud : k .aud = false) (f_zl : k .zl = false) (f_eng : k .eng = false) (f_cel : k .cel = false) (f_sys : k .sys = false) (f_latches : k .latches = false) (f_held : k .held = false) (f_lease : k .lease = false) (f_enterIso : k .enterIso = false) (f_leaveSync : k .leaveSync = false) (f_pmu : k .pmu = false) (f_out : k .out = false) (f_free : k .free = false) (f_regs : ∀ b, k (.reg b) = false) (k1 : Keeps k s0 a1) :
    Keeps k s0 (softReset a1) := by
  unfold softReset
  exact (by lift_lets -underBinder; intro xh1; have h2 : Keeps k s0 xh1 := (by unfold xh1; exact (goIsolated_keeps f_cmd f_red f_lease f_enterIso f_leaveSync f_pmu f_out f_free (f_regs .cmd) (f_regs .xpt) (f_regs .red) (f_regs .pmu) (softOpen_keeps f_cmd f_flt f_xpt f_red f_aud f_zl f_eng f_cel f_lease f_pmu f_out f_free (f_regs .cmd) (f_regs .xpt) (f_regs .eth) (f_regs .aud) (f_regs .cel) (f_regs .zl) (f_regs .red) (f_regs .flt) (f_regs .pmu) (softRings_keeps f_cmd f_flt f_xpt f_red f_zl f_eng f_cel f_latches f_held f_lease f_pmu f_out f_free f_regs k1)))); clear_value xh1; intro xh3; intro xh4; intro xh5; intro xh6; have h7 : Keeps k s0 xh6 := (by unfold xh6; exact (h2.set_many (by intro p hp; cases p <;> first | exact rfl | exact id | exact fun _ _ => rfl | simp [f_pmu, f_red, f_lease, f_sys] at hp))); clear_value xh6; intro xh8; have h10 : Keeps k s0 xh8 := (by unfold xh8; exact (by split; exact (by lift_lets -underBinder; intro xh9; exact (finish_keeps f_cmd f_flt f_xpt f_red f_zl f_eng f_cel f_lease f_pmu f_out f_free (f_regs .cmd) (f_regs .xpt) (f_regs .eth) (f_regs .cel) (f_regs .zl) (f_regs .red) (f_regs .flt) (f_regs .pmu) (h7.set_sys f_sys (.inr rfl) (.inr rfl)))); exact h7)); clear_value xh8; exact (State.count_keeps f_pmu (f_regs .pmu) (countReset_keeps (f_regs .sys) h10)))

theorem execBlockReset_keeps {k s0 a1 a2 a3} (f_cel : k .cel = false) (f_sys : k .sys = false) (f_latches : k .latches = false) (f_held : k .held = false) (f_pmu : k .pmu = false) (f_regs : ∀ b, k (.reg b) = false) (k3 : Keeps k s0 a3) :
    KeepsOut k s0 (execBlockReset a1 a2 a3) := by
  unfold execBlockReset
  exact (KeepsOut.next (gate_keeps f_pmu (f_regs .hif) (f_regs .pmu) (f_regs .noc) (fun _ h1 => (writeBlkReset_keeps f_cel f_sys f_latches f_held f_pmu f_regs h1)) k3))

theorem writeSysReset_keeps {k s0 a1 a2} (f_cmd : k .cmd = false) (f_red : k .red = false) (f_sys : k .sys = false) (f_lease : k .lease = false) (f_pmu : k .pmu = false) (f_out : k .out = false) (f_free : k .free = false) (f_r_cmd : k (.reg .cmd) = false) (f_r_xpt : k (.reg .xpt) = false) (f_r_red : k (.reg .red) = false) (f_r_pmu : k (.reg .pmu) = false) (k2 : Keeps k s0 a2) :
    Keeps k s0 (writeSysReset a1 a2) := by
  unfold writeSysReset
  exact (by lift_lets -underBinder; intro xh1; have h2 : Keeps k s0 xh1 := (by unfold xh1; exact (leaveActive_keeps f_cmd f_red f_lease f_pmu f_out f_free f_r_cmd f_r_xpt f_r_red f_r_pmu k2)); clear_value xh1; intro xh3; exact (keep_ite (Keeps k s0) (h2.set_sys f_sys (.inr rfl) (.inr rfl)) k2))

theorem porAssert_keeps {k s0 a1 a2 a3}  (f_cmd : k .cmd = false) (f_flt : k .flt = false) (f_xpt : k .xpt = false) (f_ptp : k .ptp = false) (f_red : k .red = false) (f_flw : k .flw = false) (f_aud : k .aud = false) (f_zl : k .zl = false) (f_eng : k .eng = false) (f_cel : k .cel = false) (f_ref : k .ref = false) (f_sys : k .sys = false) (f_latches : k .latches = false) (f_held : k .held = false) (f_lease : k .lease = false) (f_mem : k .mem = false) (f_lut : k .lut = false) (f_table : k .table = false) (f_root : k .root = false) (f_por : k .por = false) (f_house : k .house = false) (f_enterIso : k .enterIso = false) (f_leaveSync : k .leaveSync = false) (f_pmu : k .pmu = false) (f_regs : ∀ b, k (.reg b) = false)
    (k3 : Keeps k s0 a3) : Keeps k s0 (porAssert a1 a2 a3) :=
  ⟨k3.pending, fun _ => rfl, fun _ => rfl, fun _ => rfl, fun _ y hy => (List.not_mem_nil hy).elim, fun p hp => by
    cases p with
    | active => exact fun e => by cases e
    | enterSync => exact fun e => by cases e
    | leaveIso => exact fun _ => rfl
    | ticks => exact k3.same _ hp
    | out => exact k3.same _ hp
    | free => exact k3.same _ hp
    | _ => simp_all⟩

theorem execSoftReset_keeps {k s0 a1 a2} (f_cmd : k .cmd = false) (f_red : k .red = false) (f_sys : k .sys = false) (f_lease : k .lease = false) (f_pmu : k .pmu = false) (f_out : k .out = false) (f_free : k .free = false) (f_r_hif : k (.reg .hif) = false) (f_r_cmd : k (.reg .cmd) = false) (f_r_xpt : k (.reg .xpt) = false) (f_r_red : k (.reg .red) = false) (f_r_pmu : k (.reg .pmu) = false) (f_r_noc : k (.reg .noc) = false) (k2 : Keeps k s0 a2) :
    KeepsOut k s0 (execSoftReset a1 a2) := by
  unfold execSoftReset
  exact (KeepsOut.next (gate_keeps f_pmu f_r_hif f_r_pmu f_r_noc (fun _ h1 => (writeSysReset_keeps f_cmd f_red f_sys f_lease f_pmu f_out f_free f_r_cmd f_r_xpt f_r_red f_r_pmu h1)) k2))

theorem execPorRelease_keeps {k s0 a1 a2 a3 a4 a5 a6} (f_cmd : k .cmd = false) (f_flt : k .flt = false) (f_xpt : k .xpt = false) (f_red : k .red = false) (f_zl : k .zl = false) (f_eng : k .eng = false) (f_cel : k .cel = false) (f_ref : k .ref = false) (f_sys : k .sys = false) (f_lease : k .lease = false) (f_root : k .root = false) (f_por : k .por = false) (f_pmu : k .pmu = false) (f_out : k .out = false) (f_free : k .free = false) (f_r_cmd : k (.reg .cmd) = false) (f_r_xpt : k (.reg .xpt) = false) (f_r_eth : k (.reg .eth) = false) (f_r_cel : k (.reg .cel) = false) (f_r_zl : k (.reg .zl) = false) (f_r_red : k (.reg .red) = false) (f_r_flt : k (.reg .flt) = false) (f_r_pmu : k (.reg .pmu) = false) (f_r_key : k (.reg .key) = false) (f_r_boot : k (.reg .boot) = false) (f_r_sys : k (.reg .sys) = false) (k6 : Keeps k s0 a6) :
    KeepsOut k s0 (execPorRelease a1 a2 a3 a4 a5 a6) := by
  unfold execPorRelease
  exact (by lift_lets -underBinder; intro xh1; intro xh2; (try clear_value xh2); intro xh3; intro xh4; have h6 : Keeps k s0 xh4 := (by unfold xh4; exact (keep_each (fun _ _ h5 => (State.wr_keeps (.of f_r_key) h5)) k6)); clear_value xh4; intro xh7; have h9 : Keeps k s0 xh7 := (by unfold xh7; exact (keep_each (fun _ _ h8 => (State.p_keeps (.of f_r_key) h8)) h6)); clear_value xh7; intro xh10; have h11 : Keeps k s0 xh10 := (by unfold xh10; exact (State.p_keeps (.of f_r_boot) (State.p_keeps (.of f_r_key) (State.p_keeps (.of f_r_key) (State.p_keeps (.of f_r_key) (State.p_keeps (.of f_r_key) (State.p_keeps (.of f_r_key) (State.p_keeps (.of f_r_key) h9)))))))); clear_value xh10; intro xh12; have h14 : Keeps k s0 xh12 := (by unfold xh12; exact (keep_each (fun _ _ h13 => (State.p_keeps (.of f_r_sys) h13)) h11)); clear_value xh12; intro xh15; intro xh16; have h17 : Keeps k s0 xh16 := (by unfold xh16; exact (h14.set_sys f_sys (.inl f_root) (.inl f_por))); clear_value xh16; intro xh18; have h19 : Keeps k s0 xh18 := (by unfold xh18; exact (State.p_keeps (.of f_r_sys) h17)); clear_value xh18; exact (KeepsOut.next (keep_ite (Keeps k s0) k6 (keep_ite (Keeps k s0) h19 (fuseFaults_keeps f_cmd f_flt f_xpt f_red f_zl f_eng f_cel f_lease f_pmu f_out f_free f_r_cmd f_r_xpt f_r_eth f_r_cel f_r_zl f_r_red f_r_flt f_r_pmu (endReset_keeps f_cmd f_flt f_xpt f_red f_zl f_eng f_cel f_ref f_lease f_pmu f_out f_free f_r_cmd f_r_xpt f_r_eth f_r_cel f_r_zl f_r_red f_r_flt f_r_pmu f_r_sys (State.p_keeps (.of f_r_boot) h19)))))))

theorem execPorAssert_keeps {k s0 a1 a2} (f_cmd : k .cmd = false) (f_flt : k .flt = false) (f_xpt : k .xpt = false) (f_ptp : k .ptp = false) (f_red : k .red = false) (f_flw : k .flw = false) (f_aud : k .aud = false) (f_zl : k .zl = false) (f_eng : k .eng = false) (f_cel : k .cel = false) (f_ref : k .ref = false) (f_sys : k .sys = false) (f_latches : k .latches = false) (f_held : k .held = false) (f_lease : k .lease = false) (f_mem : k .mem = false) (f_lut : k .lut = false) (f_table : k .table = false) (f_root : k .root = false) (f_por : k .por = false) (f_house : k .house = false) (f_enterIso : k .enterIso = false) (f_leaveSync : k .leaveSync = false) (f_pmu : k .pmu = false) (f_regs : ∀ b, k (.reg b) = false) (k2 : Keeps k s0 a2) :
    KeepsOut k s0 (execPorAssert a1 a2) := by
  unfold execPorAssert
  exact (KeepsOut.next (porAssert_keeps f_cmd f_flt f_xpt f_ptp f_red f_flw f_aud f_zl f_eng f_cel f_ref f_sys f_latches f_held f_lease f_mem f_lut f_table f_root f_por f_house f_enterIso f_leaveSync f_pmu f_regs k2))

theorem execResetNAssert_keeps {k s0 a1}  (f_cmd : k .cmd = false) (f_flt : k .flt = false) (f_xpt : k .xpt = false) (f_ptp : k .ptp = false) (f_red : k .red = false) (f_flw : k .flw = false) (f_aud : k .aud = false) (f_zl : k .zl = false) (f_eng : k .eng = false) (f_cel : k .cel = false) (f_ref : k .ref = false) (f_sys : k .sys = false) (f_latches : k .latches = false) (f_held : k .held = false) (f_lease : k .lease = false) (f_table : k .table = false) (f_por : k .por = false) (f_house : k .house = false) (f_enterIso : k .enterIso = false) (f_leaveSync : k .leaveSync = false) (f_pmu : k .pmu = false) (f_regs : ∀ b, k (.reg b) = false)
    (k1 : Keeps k s0 a1) : KeepsOut k s0 (execResetNAssert a1) := by
  unfold execResetNAssert
  refine KeepsOut.next (keep_ite (Keeps k s0) (k1.set_sys f_sys (.inr rfl) (.inr rfl))
    (keep_ite (Keeps k s0) k1 (countReset_keeps (f_regs .sys) ?_)))
  have h := restoreRegs_keeps (a1 := .resetN) (a2 := fun _ => true) f_latches f_held f_regs k1
  refine ⟨k1.pending, h.regs, k1.mem, k1.lut, fun _ y hy => (List.not_mem_nil hy).elim, fun p hp => ?_⟩
  cases p with
  | active => exact fun e => by cases e
  | enterSync => exact fun e => by cases e
  | leaveIso => exact fun _ => rfl
  | ticks => exact k1.same .ticks hp
  | mem => exact k1.same .mem hp
  | lut => exact k1.same .lut hp
  | root => exact k1.same .root hp
  | out => exact k1.same .out hp
  | free => exact k1.same .free hp
  | _ => simp_all

theorem execBlockResetRelease_keeps {k s0 a1} (f_cel : k .cel = false) (f_sys : k .sys = false) (f_latches : k .latches = false) (f_held : k .held = false) (f_pmu : k .pmu = false) (f_regs : ∀ b, k (.reg b) = false) (k1 : Keeps k s0 a1) :
    KeepsOut k s0 (execBlockResetRelease a1) := by
  unfold execBlockResetRelease
  exact (KeepsOut.next (keep_each (fun _ _ h1 => (by lift_lets -underBinder; intro xh2; have h3 : Keeps k s0 xh2 := (by unfold xh2; exact (keep_ite (Keeps k s0) (celRetrain_keeps f_pmu (f_regs .cel) (f_regs .pmu) h1) (blkApply_keeps f_cel f_latches f_held f_pmu f_regs h1))); clear_value xh2; intro xh4; have h5 : Keeps k s0 xh4 := (by unfold xh4; exact (State.wr_keeps (.of (f_regs .sys)) h3)); clear_value xh4; intro xh6; exact (h5.set_sys f_sys (.inr rfl) (.inr rfl)))) k1))

theorem setClk_keeps {k s0 a1 a2 a3} (f_cmd : k .cmd = false) (f_flt : k .flt = false) (f_xpt : k .xpt = false) (f_red : k .red = false) (f_zl : k .zl = false) (f_eng : k .eng = false) (f_cel : k .cel = false) (f_sys : k .sys = false) (f_lease : k .lease = false) (f_pmu : k .pmu = false) (f_out : k .out = false) (f_free : k .free = false) (f_r_cmd : k (.reg .cmd) = false) (f_r_xpt : k (.reg .xpt) = false) (f_r_eth : k (.reg .eth) = false) (f_r_cel : k (.reg .cel) = false) (f_r_zl : k (.reg .zl) = false) (f_r_red : k (.reg .red) = false) (f_r_flt : k (.reg .flt) = false) (f_r_pmu : k (.reg .pmu) = false) (k3 : Keeps k s0 a3) :
    Keeps k s0 (setClk a1 a2 a3) := by
  unfold setClk
  exact (by lift_lets -underBinder; intro xh1; intro xh2; have h3 : Keeps k s0 xh2 := (by unfold xh2; exact (k3.set_sys f_sys (.inr rfl) (.inr rfl))); clear_value xh2; exact (keep_ite (Keeps k s0) h3 (level_keeps f_cmd f_flt f_xpt f_red f_zl f_eng f_cel f_lease f_pmu f_out f_free f_r_cmd f_r_xpt f_r_eth f_r_cel f_r_zl f_r_red f_r_flt f_r_pmu (level_keeps f_cmd f_flt f_xpt f_red f_zl f_eng f_cel f_lease f_pmu f_out f_free f_r_cmd f_r_xpt f_r_eth f_r_cel f_r_zl f_r_red f_r_flt f_r_pmu h3))))

theorem execRefclkSdsReturn_keeps {k s0 a1 a2} (f_cmd : k .cmd = false) (f_flt : k .flt = false) (f_xpt : k .xpt = false) (f_red : k .red = false) (f_zl : k .zl = false) (f_eng : k .eng = false) (f_cel : k .cel = false) (f_sys : k .sys = false) (f_lease : k .lease = false) (f_pmu : k .pmu = false) (f_out : k .out = false) (f_free : k .free = false) (f_r_cmd : k (.reg .cmd) = false) (f_r_xpt : k (.reg .xpt) = false) (f_r_eth : k (.reg .eth) = false) (f_r_cel : k (.reg .cel) = false) (f_r_zl : k (.reg .zl) = false) (f_r_red : k (.reg .red) = false) (f_r_flt : k (.reg .flt) = false) (f_r_pmu : k (.reg .pmu) = false) (k2 : Keeps k s0 a2) :
    KeepsOut k s0 (execRefclkSdsReturn a1 a2) := by
  unfold execRefclkSdsReturn
  exact (KeepsOut.next (setClk_keeps f_cmd f_flt f_xpt f_red f_zl f_eng f_cel f_sys f_lease f_pmu f_out f_free f_r_cmd f_r_xpt f_r_eth f_r_cel f_r_zl f_r_red f_r_flt f_r_pmu k2))

theorem execRefclkPcieLoss_keeps {k s0 a1} (f_cmd : k .cmd = false) (f_flt : k .flt = false) (f_xpt : k .xpt = false) (f_red : k .red = false) (f_zl : k .zl = false) (f_eng : k .eng = false) (f_cel : k .cel = false) (f_sys : k .sys = false) (f_lease : k .lease = false) (f_pmu : k .pmu = false) (f_out : k .out = false) (f_free : k .free = false) (f_r_cmd : k (.reg .cmd) = false) (f_r_xpt : k (.reg .xpt) = false) (f_r_eth : k (.reg .eth) = false) (f_r_cel : k (.reg .cel) = false) (f_r_zl : k (.reg .zl) = false) (f_r_red : k (.reg .red) = false) (f_r_flt : k (.reg .flt) = false) (f_r_pmu : k (.reg .pmu) = false) (k1 : Keeps k s0 a1) :
    KeepsOut k s0 (execRefclkPcieLoss a1) := by
  unfold execRefclkPcieLoss
  exact (KeepsOut.next (setClk_keeps f_cmd f_flt f_xpt f_red f_zl f_eng f_cel f_sys f_lease f_pmu f_out f_free f_r_cmd f_r_xpt f_r_eth f_r_cel f_r_zl f_r_red f_r_flt f_r_pmu k1))

theorem writeTempSns_keeps {k s0 a1 a2} (f_sys : k .sys = false) (f_r_sys : k (.reg .sys) = false) (k2 : Keeps k s0 a2) :
    Keeps k s0 (writeTempSns a1 a2) := by
  unfold writeTempSns
  exact (by lift_lets -underBinder; intro xh1; have h2 : Keeps k s0 xh1 := (by unfold xh1; exact (State.p_keeps (.of f_r_sys) k2)); clear_value xh1; intro xh3; exact (h2.set_sys f_sys (.inr rfl) (.inr rfl)))

theorem execTempPeakClear_keeps {k s0 a1 a2 a3} (f_sys : k .sys = false) (f_pmu : k .pmu = false) (f_r_hif : k (.reg .hif) = false) (f_r_pmu : k (.reg .pmu) = false) (f_r_noc : k (.reg .noc) = false) (f_r_sys : k (.reg .sys) = false) (k3 : Keeps k s0 a3) :
    KeepsOut k s0 (execTempPeakClear a1 a2 a3) := by
  unfold execTempPeakClear
  exact (KeepsOut.next (gate_keeps f_pmu f_r_hif f_r_pmu f_r_noc (fun _ h1 => (writeTempSns_keeps f_sys f_r_sys h1)) k3))

theorem execRailWithinTolerance_keeps {k s0 a1 a2 a3} (f_cmd : k .cmd = false) (f_flt : k .flt = false) (f_xpt : k .xpt = false) (f_red : k .red = false) (f_zl : k .zl = false) (f_eng : k .eng = false) (f_cel : k .cel = false) (f_sys : k .sys = false) (f_lease : k .lease = false) (f_pmu : k .pmu = false) (f_out : k .out = false) (f_free : k .free = false) (f_r_cmd : k (.reg .cmd) = false) (f_r_xpt : k (.reg .xpt) = false) (f_r_eth : k (.reg .eth) = false) (f_r_cel : k (.reg .cel) = false) (f_r_zl : k (.reg .zl) = false) (f_r_red : k (.reg .red) = false) (f_r_flt : k (.reg .flt) = false) (f_r_pmu : k (.reg .pmu) = false) (f_r_sys : k (.reg .sys) = false) (k3 : Keeps k s0 a3) :
    KeepsOut k s0 (execRailWithinTolerance a1 a2 a3) := by
  unfold execRailWithinTolerance
  exact (by lift_lets -underBinder; intro xh1; intro xh2; have h3 : Keeps k s0 xh2 := (by unfold xh2; exact (k3.set_sys f_sys (.inr rfl) (.inr rfl))); clear_value xh2; intro xh4; have h5 : Keeps k s0 xh4 := (by unfold xh4; exact (State.p_keeps (.of f_r_sys) h3)); clear_value xh4; exact (KeepsOut.next (keep_ite (Keeps k s0) h3 (keep_ite (Keeps k s0) (level_keeps f_cmd f_flt f_xpt f_red f_zl f_eng f_cel f_lease f_pmu f_out f_free f_r_cmd f_r_xpt f_r_eth f_r_cel f_r_zl f_r_red f_r_flt f_r_pmu h5) h5))))

theorem execCorePllRelock_keeps {k s0 a1 a2} (f_cmd : k .cmd = false) (f_flt : k .flt = false) (f_xpt : k .xpt = false) (f_red : k .red = false) (f_zl : k .zl = false) (f_eng : k .eng = false) (f_cel : k .cel = false) (f_sys : k .sys = false) (f_lease : k .lease = false) (f_pmu : k .pmu = false) (f_out : k .out = false) (f_free : k .free = false) (f_r_cmd : k (.reg .cmd) = false) (f_r_xpt : k (.reg .xpt) = false) (f_r_eth : k (.reg .eth) = false) (f_r_cel : k (.reg .cel) = false) (f_r_zl : k (.reg .zl) = false) (f_r_red : k (.reg .red) = false) (f_r_flt : k (.reg .flt) = false) (f_r_pmu : k (.reg .pmu) = false) (k2 : Keeps k s0 a2) :
    KeepsOut k s0 (execCorePllRelock a1 a2) := by
  unfold execCorePllRelock
  exact (KeepsOut.next (setClk_keeps f_cmd f_flt f_xpt f_red f_zl f_eng f_cel f_sys f_lease f_pmu f_out f_free f_r_cmd f_r_xpt f_r_eth f_r_cel f_r_zl f_r_red f_r_flt f_r_pmu k2))

theorem execRefclkPcieReturn_keeps {k s0 a1} (f_cmd : k .cmd = false) (f_flt : k .flt = false) (f_xpt : k .xpt = false) (f_red : k .red = false) (f_zl : k .zl = false) (f_eng : k .eng = false) (f_cel : k .cel = false) (f_sys : k .sys = false) (f_lease : k .lease = false) (f_pmu : k .pmu = false) (f_out : k .out = false) (f_free : k .free = false) (f_r_cmd : k (.reg .cmd) = false) (f_r_xpt : k (.reg .xpt) = false) (f_r_eth : k (.reg .eth) = false) (f_r_cel : k (.reg .cel) = false) (f_r_zl : k (.reg .zl) = false) (f_r_red : k (.reg .red) = false) (f_r_flt : k (.reg .flt) = false) (f_r_pmu : k (.reg .pmu) = false) (k1 : Keeps k s0 a1) :
    KeepsOut k s0 (execRefclkPcieReturn a1) := by
  unfold execRefclkPcieReturn
  exact (KeepsOut.next (setClk_keeps f_cmd f_flt f_xpt f_red f_zl f_eng f_cel f_sys f_lease f_pmu f_out f_free f_r_cmd f_r_xpt f_r_eth f_r_cel f_r_zl f_r_red f_r_flt f_r_pmu k1))

theorem execSupplyExcursion_keeps {k s0 a1 a2 a3} (f_cmd : k .cmd = false) (f_flt : k .flt = false) (f_xpt : k .xpt = false) (f_red : k .red = false) (f_zl : k .zl = false) (f_eng : k .eng = false) (f_cel : k .cel = false) (f_sys : k .sys = false) (f_lease : k .lease = false) (f_pmu : k .pmu = false) (f_out : k .out = false) (f_free : k .free = false) (f_r_cmd : k (.reg .cmd) = false) (f_r_xpt : k (.reg .xpt) = false) (f_r_eth : k (.reg .eth) = false) (f_r_cel : k (.reg .cel) = false) (f_r_zl : k (.reg .zl) = false) (f_r_red : k (.reg .red) = false) (f_r_flt : k (.reg .flt) = false) (f_r_pmu : k (.reg .pmu) = false) (f_r_sys : k (.reg .sys) = false) (k3 : Keeps k s0 a3) :
    KeepsOut k s0 (execSupplyExcursion a1 a2 a3) := by
  unfold execSupplyExcursion
  exact (by lift_lets -underBinder; intro xh1; intro xh2; have h3 : Keeps k s0 xh2 := (by unfold xh2; exact (k3.set_sys f_sys (.inr rfl) (.inr rfl))); clear_value xh2; exact (KeepsOut.next (keep_ite (Keeps k s0) k3 (keep_ite (Keeps k s0) h3 (railFault_keeps f_cmd f_flt f_xpt f_red f_zl f_eng f_cel f_lease f_pmu f_out f_free f_r_cmd f_r_xpt f_r_eth f_r_cel f_r_zl f_r_red f_r_flt f_r_pmu f_r_sys (State.p_keeps (.of f_r_sys) h3))))))

theorem readSensor_keeps {k s0 a1 a2 a3} (f_sys : k .sys = false) (f_r_sys : k (.reg .sys) = false) (k3 : Keeps k s0 a3) :
    Keeps k s0 (readSensor a1 a2 a3) := by
  unfold readSensor
  exact (by lift_lets -underBinder; intro xh1; (try clear_value xh1); intro xh2; (try clear_value xh2); intro xh3; have h4 : Keeps k s0 xh3 := (by unfold xh3; exact (State.p_keeps (.of f_r_sys) (State.p_keeps (.of f_r_sys) k3))); clear_value xh3; intro xh5; exact (keep_ite (Keeps k s0) h4 (h4.set_sys f_sys (.inr rfl) (.inr rfl))))

theorem tempLevel_keeps {k s0 a1 a2 a3 a4 a5} (f_cmd : k .cmd = false) (f_flt : k .flt = false) (f_xpt : k .xpt = false) (f_red : k .red = false) (f_zl : k .zl = false) (f_eng : k .eng = false) (f_cel : k .cel = false) (f_lease : k .lease = false) (f_pmu : k .pmu = false) (f_out : k .out = false) (f_free : k .free = false) (f_r_cmd : k (.reg .cmd) = false) (f_r_xpt : k (.reg .xpt) = false) (f_r_eth : k (.reg .eth) = false) (f_r_cel : k (.reg .cel) = false) (f_r_zl : k (.reg .zl) = false) (f_r_red : k (.reg .red) = false) (f_r_flt : k (.reg .flt) = false) (f_r_pmu : k (.reg .pmu) = false) (k5 : Keeps k s0 a5) :
    Keeps k s0 (tempLevel a1 a2 a3 a4 a5) := by
  unfold tempLevel
  exact (by lift_lets -underBinder; intro xh1; (try clear_value xh1); intro xh2; (try clear_value xh2); exact (level_keeps f_cmd f_flt f_xpt f_red f_zl f_eng f_cel f_lease f_pmu f_out f_free f_r_cmd f_r_xpt f_r_eth f_r_cel f_r_zl f_r_red f_r_flt f_r_pmu (keep_when (fun _ h3 => (State.count_keeps f_pmu f_r_pmu h3)) k5)))

theorem execTempSensorRead_keeps {k s0 a1 a2 a3} (f_cmd : k .cmd = false) (f_flt : k .flt = false) (f_xpt : k .xpt = false) (f_ptp : k .ptp = false) (f_red : k .red = false) (f_flw : k .flw = false) (f_aud : k .aud = false) (f_zl : k .zl = false) (f_eng : k .eng = false) (f_cel : k .cel = false) (f_ref : k .ref = false) (f_sys : k .sys = false) (f_latches : k .latches = false) (f_held : k .held = false) (f_lease : k .lease = false) (f_mem : k .mem = false) (f_lut : k .lut = false) (f_table : k .table = false) (f_root : k .root = false) (f_por : k .por = false) (f_house : k .house = false) (f_enterIso : k .enterIso = false) (f_leaveSync : k .leaveSync = false) (f_pmu : k .pmu = false) (f_out : k .out = false) (f_free : k .free = false) (f_regs : ∀ b, k (.reg b) = false) (k3 : Keeps k s0 a3) :
    KeepsOut k s0 (execTempSensorRead a1 a2 a3) := by
  unfold execTempSensorRead
  exact (KeepsOut.next (by split; exact (by lift_lets -underBinder; intro xh1; have h4 : Keeps k s0 xh1 := (by unfold xh1; exact (keep_when (fun _ h2 => (by lift_lets -underBinder; intro xh3; exact (h2.set_sys f_sys (.inr rfl) (.inr rfl)))) k3)); clear_value xh1; intro xh5; have h7 : Keeps k s0 xh5 := (by unfold xh5; exact (keep_each (fun _ _ h6 => (readSensor_keeps f_sys (f_regs .sys) h6)) h4)); clear_value xh5; intro xh8; have h10 : Keeps k s0 xh8 := (by unfold xh8; exact (keep_each (fun _ _ h9 => (State.p_keeps (.of (f_regs .sys)) h9)) h7)); clear_value xh8; intro xh11; have h12 : Keeps k s0 xh11 := (by unfold xh11; exact (State.p_keeps (.of (f_regs .sys)) (State.p_keeps (.of (f_regs .sys)) (State.p_keeps (.of (f_regs .sys)) h10)))); clear_value xh11; exact (keep_ite (Keeps k s0) (porAssert_keeps f_cmd f_flt f_xpt f_ptp f_red f_flw f_aud f_zl f_eng f_cel f_ref f_sys f_latches f_held f_lease f_mem f_lut f_table f_root f_por f_house f_enterIso f_leaveSync f_pmu f_regs k3) (keep_ite (Keeps k s0) h4 (tempLevel_keeps f_cmd f_flt f_xpt f_red f_zl f_eng f_cel f_lease f_pmu f_out f_free (f_regs .cmd) (f_regs .xpt) (f_regs .eth) (f_regs .cel) (f_regs .zl) (f_regs .red) (f_regs .flt) (f_regs .pmu) (tempLevel_keeps f_cmd f_flt f_xpt f_red f_zl f_eng f_cel f_lease f_pmu f_out f_free (f_regs .cmd) (f_regs .xpt) (f_regs .eth) (f_regs .cel) (f_regs .zl) (f_regs .red) (f_regs .flt) (f_regs .pmu) h12)))))))

theorem clkLost_keeps {k s0 a1 a2 a3} (f_cmd : k .cmd = false) (f_flt : k .flt = false) (f_xpt : k .xpt = false) (f_red : k .red = false) (f_zl : k .zl = false) (f_eng : k .eng = false) (f_cel : k .cel = false) (f_sys : k .sys = false) (f_lease : k .lease = false) (f_pmu : k .pmu = false) (f_out : k .out = false) (f_free : k .free = false) (f_r_cmd : k (.reg .cmd) = false) (f_r_xpt : k (.reg .xpt) = false) (f_r_eth : k (.reg .eth) = false) (f_r_cel : k (.reg .cel) = false) (f_r_zl : k (.reg .zl) = false) (f_r_red : k (.reg .red) = false) (f_r_flt : k (.reg .flt) = false) (f_r_pmu : k (.reg .pmu) = false) (k3 : Keeps k s0 a3) :
    Keeps k s0 (clkLost a1 a2 a3) := by
  unfold clkLost
  exact (setClk_keeps f_cmd f_flt f_xpt f_red f_zl f_eng f_cel f_sys f_lease f_pmu f_out f_free f_r_cmd f_r_xpt f_r_eth f_r_cel f_r_zl f_r_red f_r_flt f_r_pmu (keep_when (fun _ h1 => (State.count_keeps f_pmu f_r_pmu h1)) k3))

theorem execRefclkCoreReturn_keeps {k s0 a1} (f_cmd : k .cmd = false) (f_flt : k .flt = false) (f_xpt : k .xpt = false) (f_red : k .red = false) (f_zl : k .zl = false) (f_eng : k .eng = false) (f_cel : k .cel = false) (f_sys : k .sys = false) (f_lease : k .lease = false) (f_pmu : k .pmu = false) (f_out : k .out = false) (f_free : k .free = false) (f_r_cmd : k (.reg .cmd) = false) (f_r_xpt : k (.reg .xpt) = false) (f_r_eth : k (.reg .eth) = false) (f_r_cel : k (.reg .cel) = false) (f_r_zl : k (.reg .zl) = false) (f_r_red : k (.reg .red) = false) (f_r_flt : k (.reg .flt) = false) (f_r_pmu : k (.reg .pmu) = false) (k1 : Keeps k s0 a1) :
    KeepsOut k s0 (execRefclkCoreReturn a1) := by
  unfold execRefclkCoreReturn
  exact (KeepsOut.next (setClk_keeps f_cmd f_flt f_xpt f_red f_zl f_eng f_cel f_sys f_lease f_pmu f_out f_free f_r_cmd f_r_xpt f_r_eth f_r_cel f_r_zl f_r_red f_r_flt f_r_pmu k1))

theorem execRefclkCoreLoss_keeps {k s0 a1} (f_cmd : k .cmd = false) (f_flt : k .flt = false) (f_xpt : k .xpt = false) (f_red : k .red = false) (f_zl : k .zl = false) (f_eng : k .eng = false) (f_cel : k .cel = false) (f_sys : k .sys = false) (f_lease : k .lease = false) (f_pmu : k .pmu = false) (f_out : k .out = false) (f_free : k .free = false) (f_r_cmd : k (.reg .cmd) = false) (f_r_xpt : k (.reg .xpt) = false) (f_r_eth : k (.reg .eth) = false) (f_r_cel : k (.reg .cel) = false) (f_r_zl : k (.reg .zl) = false) (f_r_red : k (.reg .red) = false) (f_r_flt : k (.reg .flt) = false) (f_r_pmu : k (.reg .pmu) = false) (k1 : Keeps k s0 a1) :
    KeepsOut k s0 (execRefclkCoreLoss a1) := by
  unfold execRefclkCoreLoss
  exact (KeepsOut.next (clkLost_keeps f_cmd f_flt f_xpt f_red f_zl f_eng f_cel f_sys f_lease f_pmu f_out f_free f_r_cmd f_r_xpt f_r_eth f_r_cel f_r_zl f_r_red f_r_flt f_r_pmu k1))

theorem execRefclkSdsLoss_keeps {k s0 a1 a2} (f_cmd : k .cmd = false) (f_flt : k .flt = false) (f_xpt : k .xpt = false) (f_red : k .red = false) (f_zl : k .zl = false) (f_eng : k .eng = false) (f_cel : k .cel = false) (f_sys : k .sys = false) (f_lease : k .lease = false) (f_pmu : k .pmu = false) (f_out : k .out = false) (f_free : k .free = false) (f_r_cmd : k (.reg .cmd) = false) (f_r_xpt : k (.reg .xpt) = false) (f_r_eth : k (.reg .eth) = false) (f_r_cel : k (.reg .cel) = false) (f_r_zl : k (.reg .zl) = false) (f_r_red : k (.reg .red) = false) (f_r_flt : k (.reg .flt) = false) (f_r_pmu : k (.reg .pmu) = false) (k2 : Keeps k s0 a2) :
    KeepsOut k s0 (execRefclkSdsLoss a1 a2) := by
  unfold execRefclkSdsLoss
  exact (KeepsOut.next (refclkLost_keeps f_cmd f_flt f_xpt f_red f_zl f_eng f_cel f_lease f_pmu f_out f_free f_r_cmd f_r_xpt f_r_eth f_r_cel f_r_zl f_r_red f_r_flt f_r_pmu (setClk_keeps f_cmd f_flt f_xpt f_red f_zl f_eng f_cel f_sys f_lease f_pmu f_out f_free f_r_cmd f_r_xpt f_r_eth f_r_cel f_r_zl f_r_red f_r_flt f_r_pmu k2)))

theorem execCorePllUnlock_keeps {k s0 a1 a2} (f_cmd : k .cmd = false) (f_flt : k .flt = false) (f_xpt : k .xpt = false) (f_red : k .red = false) (f_zl : k .zl = false) (f_eng : k .eng = false) (f_cel : k .cel = false) (f_sys : k .sys = false) (f_lease : k .lease = false) (f_pmu : k .pmu = false) (f_out : k .out = false) (f_free : k .free = false) (f_r_cmd : k (.reg .cmd) = false) (f_r_xpt : k (.reg .xpt) = false) (f_r_eth : k (.reg .eth) = false) (f_r_cel : k (.reg .cel) = false) (f_r_zl : k (.reg .zl) = false) (f_r_red : k (.reg .red) = false) (f_r_flt : k (.reg .flt) = false) (f_r_pmu : k (.reg .pmu) = false) (k2 : Keeps k s0 a2) :
    KeepsOut k s0 (execCorePllUnlock a1 a2) := by
  unfold execCorePllUnlock
  exact (KeepsOut.next (clkLost_keeps f_cmd f_flt f_xpt f_red f_zl f_eng f_cel f_sys f_lease f_pmu f_out f_free f_r_cmd f_r_xpt f_r_eth f_r_cel f_r_zl f_r_red f_r_flt f_r_pmu k2))

theorem writeKeyCtrl_keeps {k s0 a1 a2} (f_sys : k .sys = false) (f_pmu : k .pmu = false) (f_r_pmu : k (.reg .pmu) = false) (f_r_key : k (.reg .key) = false) (k2 : Keeps k s0 a2) :
    Keeps k s0 (writeKeyCtrl a1 a2) := by
  unfold writeKeyCtrl
  exact (by lift_lets -underBinder; intro xh1; have h2 : Keeps k s0 xh1 := (by unfold xh1; exact (State.write_keeps (.of f_r_key) k2)); clear_value xh1; intro xh3; (try clear_value xh3); intro xh4; (try clear_value xh4); intro xh5; (try clear_value xh5); intro xh6; (try clear_value xh6); intro xh7; (try clear_value xh7); intro xh8; have h9 : Keeps k s0 xh8 := (by unfold xh8; exact (State.p_keeps (.of f_r_key) h2)); clear_value xh8; intro xh10; exact (keep_ite (Keeps k s0) h2 (keep_ite (Keeps k s0) (State.count_keeps f_pmu f_r_pmu (State.p_keeps (.of f_r_key) h2)) (keep_ite (Keeps k s0) (State.count_keeps f_pmu f_r_pmu (State.p_keeps (.of f_r_key) h2)) (keep_ite (Keeps k s0) (State.count_keeps f_pmu f_r_pmu (State.p_keeps (.of f_r_key) h2)) (keep_ite (Keeps k s0) (State.p_keeps (.of f_r_key) (State.p_keeps (.of f_r_key) (keep_each (fun _ _ h11 => (State.wr_keeps (.of f_r_key) h11)) h2))) (h9.set_sys f_sys (.inr rfl) (.inr rfl))))))))

theorem fwEnd_keeps {k s0 a1 a2 a3} (f_cmd : k .cmd = false) (f_flt : k .flt = false) (f_xpt : k .xpt = false) (f_red : k .red = false) (f_zl : k .zl = false) (f_eng : k .eng = false) (f_cel : k .cel = false) (f_sys : k .sys = false) (f_lease : k .lease = false) (f_pmu : k .pmu = false) (f_out : k .out = false) (f_free : k .free = false) (f_r_cmd : k (.reg .cmd) = false) (f_r_xpt : k (.reg .xpt) = false) (f_r_eth : k (.reg .eth) = false) (f_r_cel : k (.reg .cel) = false) (f_r_zl : k (.reg .zl) = false) (f_r_red : k (.reg .red) = false) (f_r_flt : k (.reg .flt) = false) (f_r_pmu : k (.reg .pmu) = false) (f_r_boot : k (.reg .boot) = false) (k3 : Keeps k s0 a3) :
    Keeps k s0 (fwEnd a1 a2 a3) := by
  unfold fwEnd
  exact (by split; exact k3; exact (by lift_lets -underBinder; intro xh1; (try clear_value xh1); intro xh2; (try clear_value xh2); intro xh3; intro xh4; have h5 : Keeps k s0 xh4 := (by unfold xh4; exact (k3.set_sys f_sys (.inr rfl) (.inr rfl))); clear_value xh4; intro xh6; have h7 : Keeps k s0 xh6 := (by unfold xh6; exact (keep_ite (Keeps k s0) h5 (State.p_keeps (.of f_r_boot) (State.wr_keeps (.of f_r_boot) h5)))); clear_value xh6; exact (keep_ite (Keeps k s0) (by split; (rename_i vh8 vh9 vh10 he; have h11 := KeepsT.of_eq he (celRead_keeps f_cmd f_flt f_xpt f_red f_zl f_eng f_cel f_lease f_pmu f_out f_free f_r_cmd f_r_xpt f_r_eth f_r_cel f_r_zl f_r_red f_r_flt f_r_pmu h5); exact (by lift_lets -underBinder; intro xh12; have h13 : Keeps k s0 xh12 := (by unfold xh12; exact (State.p_keeps (.of f_r_boot) (State.wr_keeps (.of f_r_boot) (State.wr_keeps (.of f_r_boot) (State.emit_keeps f_out h11))))); clear_value xh12; exact (finish_keeps f_cmd f_flt f_xpt f_red f_zl f_eng f_cel f_lease f_pmu f_out f_free f_r_cmd f_r_xpt f_r_eth f_r_cel f_r_zl f_r_red f_r_flt f_r_pmu (State.count_keeps f_pmu f_r_pmu h13))))) (finish_keeps f_cmd f_flt f_xpt f_red f_zl f_eng f_cel f_lease f_pmu f_out f_free f_r_cmd f_r_xpt f_r_eth f_r_cel f_r_zl f_r_red f_r_flt f_r_pmu h7))))

theorem enterRecovery_keeps {k s0 a1 a2} (f_sys : k .sys = false) (f_r_boot : k (.reg .boot) = false) (k2 : Keeps k s0 a2) :
    Keeps k s0 (enterRecovery a1 a2) := by
  unfold enterRecovery
  exact (by lift_lets -underBinder; intro xh1; have h2 : Keeps k s0 xh1 := (by unfold xh1; exact (State.p_keeps (.of f_r_boot) (State.p_keeps (.of f_r_boot) k2))); clear_value xh1; intro xh3; exact (h2.set_sys f_sys (.inr rfl) (.inr rfl)))

theorem stage2_keeps {k s0 a1 a2 a3 a4} (f_sys : k .sys = false) (f_r_boot : k (.reg .boot) = false) (k4 : Keeps k s0 a4) :
    Keeps k s0 (stage2 a1 a2 a3 a4) := by
  unfold stage2
  exact (by lift_lets -underBinder; intro xh1; have h2 : Keeps k s0 xh1 := (by unfold xh1; exact (State.p_keeps (.of f_r_boot) (State.p_keeps (.of f_r_boot) (State.p_keeps (.of f_r_boot) (State.p_keeps (.of f_r_boot) k4))))); clear_value xh1; intro xh3; have h5 : Keeps k s0 xh3 := (by unfold xh3; exact (keep_each (fun _ _ h4 => (State.wr_keeps (.of f_r_boot) (State.p_keeps (.of f_r_boot) h4))) h2)); clear_value xh3; intro xh6; subst xh6; intro xh7; have h9 : Keeps k s0 xh7 := (by unfold xh7; exact (keep_each (fun _ _ h8 => (State.p_keeps (.of f_r_boot) (State.wr_keeps (.of f_r_boot) h8))) h5)); clear_value xh7; intro xh10; exact (keep_ite (Keeps k s0) (enterRecovery_keeps f_sys f_r_boot h5) (keep_ite (Keeps k s0) (enterRecovery_keeps f_sys f_r_boot h5) (keep_ite (Keeps k s0) (enterRecovery_keeps f_sys f_r_boot (keep_each (fun _ _ h11 => (State.wr_keeps (.of f_r_boot) (State.wr_keeps (.of f_r_boot) (State.wr_keeps (.of f_r_boot) h11)))) h5)) (h9.set_sys f_sys (.inr rfl) (.inr rfl))))))

theorem keyDerived_keeps {k s0 a1} (f_sys : k .sys = false) (f_pmu : k .pmu = false) (f_r_pmu : k (.reg .pmu) = false) (f_r_key : k (.reg .key) = false) (k1 : Keeps k s0 a1) :
    Keeps k s0 (keyDerived a1) := by
  unfold keyDerived
  exact (by split; exact k1; exact (by lift_lets -underBinder; intro xh1; (try clear_value xh1); intro xh2; (try clear_value xh2); intro xh3; have h5 : Keeps k s0 xh3 := (by unfold xh3; exact (keep_each (fun _ _ h4 => (State.wr_keeps (.of f_r_key) h4)) k1)); clear_value xh3; intro xh6; have h7 : Keeps k s0 xh6 := (by unfold xh6; exact (State.p_keeps (.of f_r_key) (State.p_keeps (.of f_r_key) (State.p_keeps (.of f_r_key) h5)))); clear_value xh6; intro xh8; exact (State.count_keeps f_pmu f_r_pmu (h7.set_sys f_sys (.inr rfl) (.inr rfl)))))

theorem skipSlot_keeps {k s0 a1 a2 a3} (f_cmd : k .cmd = false) (f_flt : k .flt = false) (f_xpt : k .xpt = false) (f_red : k .red = false) (f_zl : k .zl = false) (f_eng : k .eng = false) (f_cel : k .cel = false) (f_sys : k .sys = false) (f_lease : k .lease = false) (f_pmu : k .pmu = false) (f_out : k .out = false) (f_free : k .free = false) (f_r_cmd : k (.reg .cmd) = false) (f_r_xpt : k (.reg .xpt) = false) (f_r_eth : k (.reg .eth) = false) (f_r_cel : k (.reg .cel) = false) (f_r_zl : k (.reg .zl) = false) (f_r_red : k (.reg .red) = false) (f_r_flt : k (.reg .flt) = false) (f_r_pmu : k (.reg .pmu) = false) (f_r_boot : k (.reg .boot) = false) (k3 : Keeps k s0 a3) :
    Keeps k s0 (skipSlot a1 a2 a3) := by
  unfold skipSlot
  exact (by lift_lets -underBinder; intro xh1; have h2 : Keeps k s0 xh1 := (by unfold xh1; exact (State.p_keeps (.of f_r_boot) (State.p_keeps (.of f_r_boot) k3))); clear_value xh1; intro xh3; have h4 : Keeps k s0 xh3 := (by unfold xh3; exact (State.count_keeps f_pmu f_r_pmu (occur_keeps f_cmd f_flt f_xpt f_red f_zl f_eng f_cel f_lease f_pmu f_out f_free f_r_cmd f_r_xpt f_r_eth f_r_cel f_r_zl f_r_red f_r_flt f_r_pmu h2))); clear_value xh3; intro xh5; intro xh6; have h7 : Keeps k s0 xh6 := (by unfold xh6; exact (h4.set_sys f_sys (.inr rfl) (.inr rfl))); clear_value xh6; exact (keep_ite (Keeps k s0) (enterRecovery_keeps f_sys f_r_boot h7) h7))

theorem writeRollback_keeps {k s0 a1 a2} (f_sys : k .sys = false) (f_r_boot : k (.reg .boot) = false) (k2 : Keeps k s0 a2) :
    Keeps k s0 (writeRollback a1 a2) := by
  unfold writeRollback
  exact (by lift_lets -underBinder; intro xh1; (try clear_value xh1); intro xh2; have h3 : Keeps k s0 xh2 := (by unfold xh2; exact (State.p_keeps (.of f_r_boot) (State.write_keeps (.of f_r_boot) k2))); clear_value xh2; intro xh4; exact (keep_ite (Keeps k s0) (State.write_keeps (.of f_r_boot) k2) (keep_ite (Keeps k s0) (State.p_keeps (.of f_r_boot) k2) (h3.set_sys f_sys (.inr rfl) (.inr rfl)))))

theorem startSlot_keeps {k s0 a1 a2 a3} (f_cel : k .cel = false) (f_sys : k .sys = false) (f_pmu : k .pmu = false) (f_r_cel : k (.reg .cel) = false) (f_r_pmu : k (.reg .pmu) = false) (f_r_boot : k (.reg .boot) = false) (k3 : Keeps k s0 a3) :
    Keeps k s0 (startSlot a1 a2 a3) := by
  unfold startSlot
  exact (by lift_lets -underBinder; intro xh1; have h2 : Keeps k s0 xh1 := (by unfold xh1; exact (State.wr_keeps (.of f_r_boot) (State.p_keeps (.of f_r_boot) (State.p_keeps (.of f_r_boot) (State.p_keeps (.of f_r_boot) k3))))); clear_value xh1; intro xh3; intro xh4; have h5 : Keeps k s0 xh4 := (by unfold xh4; exact (h2.set_sys f_sys (.inr rfl) (.inr rfl))); clear_value xh4; exact (keep_ite (Keeps k s0) (startTraining_keeps f_cel f_pmu f_r_cel f_r_pmu h5) h5))

theorem slotCopied_keeps {k s0 a1 a2} (f_cmd : k .cmd = false) (f_flt : k .flt = false) (f_xpt : k .xpt = false) (f_red : k .red = false) (f_zl : k .zl = false) (f_eng : k .eng = false) (f_cel : k .cel = false) (f_sys : k .sys = false) (f_lease : k .lease = false) (f_pmu : k .pmu = false) (f_out : k .out = false) (f_free : k .free = false) (f_r_cmd : k (.reg .cmd) = false) (f_r_xpt : k (.reg .xpt) = false) (f_r_eth : k (.reg .eth) = false) (f_r_cel : k (.reg .cel) = false) (f_r_zl : k (.reg .zl) = false) (f_r_red : k (.reg .red) = false) (f_r_flt : k (.reg .flt) = false) (f_r_pmu : k (.reg .pmu) = false) (f_r_boot : k (.reg .boot) = false) (k2 : Keeps k s0 a2) :
    Keeps k s0 (slotCopied a1 a2) := by
  unfold slotCopied
  exact (by split; exact k2; exact (by lift_lets -underBinder; intro xh1; (try clear_value xh1); intro xh2; (try clear_value xh2); intro xh3; have h4 : Keeps k s0 xh3 := (by unfold xh3; exact (State.wr_keeps (.of f_r_boot) k2)); clear_value xh3; intro xh5; (try clear_value xh5); exact (keep_ite (Keeps k s0) (startSlot_keeps f_cel f_sys f_pmu f_r_cel f_r_pmu f_r_boot h4) (skipSlot_keeps f_cmd f_flt f_xpt f_red f_zl f_eng f_cel f_sys f_lease f_pmu f_out f_free f_r_cmd f_r_xpt f_r_eth f_r_cel f_r_zl f_r_red f_r_flt f_r_pmu f_r_boot h4))))

theorem fwGo_keeps {k s0 a1 a2 a3 a4} (f_sys : k .sys = false) (k4 : Keeps k s0 a4) :
    Keeps k s0 (fwGo a1 a2 a3 a4) := by
  unfold fwGo
  exact (by lift_lets -underBinder; intro xh1; (try clear_value xh1); intro xh2; exact (k4.set_sys f_sys (.inr rfl) (.inr rfl)))

theorem fwWatchdog_keeps {k s0 a1 a2 a3 a4} (f_cmd : k .cmd = false) (f_flt : k .flt = false) (f_xpt : k .xpt = false) (f_red : k .red = false) (f_zl : k .zl = false) (f_eng : k .eng = false) (f_cel : k .cel = false) (f_sys : k .sys = false) (f_lease : k .lease = false) (f_pmu : k .pmu = false) (f_out : k .out = false) (f_free : k .free = false) (f_r_cmd : k (.reg .cmd) = false) (f_r_xpt : k (.reg .xpt) = false) (f_r_eth : k (.reg .eth) = false) (f_r_cel : k (.reg .cel) = false) (f_r_zl : k (.reg .zl) = false) (f_r_red : k (.reg .red) = false) (f_r_flt : k (.reg .flt) = false) (f_r_pmu : k (.reg .pmu) = false) (f_r_boot : k (.reg .boot) = false) (k4 : Keeps k s0 a4) :
    Keeps k s0 (fwWatchdog a1 a2 a3 a4) := by
  unfold fwWatchdog
  exact (stage2_keeps f_sys f_r_boot (fwEnd_keeps f_cmd f_flt f_xpt f_red f_zl f_eng f_cel f_sys f_lease f_pmu f_out f_free f_r_cmd f_r_xpt f_r_eth f_r_cel f_r_zl f_r_red f_r_flt f_r_pmu f_r_boot (State.count_keeps f_pmu f_r_pmu (occur_keeps f_cmd f_flt f_xpt f_red f_zl f_eng f_cel f_lease f_pmu f_out f_free f_r_cmd f_r_xpt f_r_eth f_r_cel f_r_zl f_r_red f_r_flt f_r_pmu k4))))

theorem rbProgrammed_keeps {k s0 a1 a2 a3} (f_sys : k .sys = false) (f_pmu : k .pmu = false) (f_r_pmu : k (.reg .pmu) = false) (f_r_key : k (.reg .key) = false) (f_r_boot : k (.reg .boot) = false) (k3 : Keeps k s0 a3) :
    Keeps k s0 (rbProgrammed a1 a2 a3) := by
  unfold rbProgrammed
  exact (by split; exact k3; exact (by lift_lets -underBinder; intro xh1; intro xh2; (try clear_value xh2); intro xh3; have h4 : Keeps k s0 xh3 := (by unfold xh3; exact (keep_ite (Keeps k s0) (State.p_keeps (.of f_r_boot) (State.wr_keeps (.of f_r_key) k3)) k3)); clear_value xh3; intro xh5; have h6 : Keeps k s0 xh5 := (by unfold xh5; exact (State.p_keeps (.of f_r_boot) h4)); intro xh7; intro xh8; have h9 : Keeps k s0 xh8 := (by unfold xh8; exact (h6.set_sys f_sys (.inr rfl) (.inr rfl))); clear_value xh8; exact (keep_ite (Keeps k s0) (State.count_keeps f_pmu f_r_pmu (State.p_keeps (.of f_r_boot) h9)) (keep_ite (Keeps k s0) h9 h4))))

theorem execFwUpdate_keeps {k s0 a1 a2 a3} (f_cmd : k .cmd = false) (f_flt : k .flt = false) (f_xpt : k .xpt = false) (f_red : k .red = false) (f_zl : k .zl = false) (f_eng : k .eng = false) (f_cel : k .cel = false) (f_sys : k .sys = false) (f_lease : k .lease = false) (f_pmu : k .pmu = false) (f_out : k .out = false) (f_free : k .free = false) (f_r_cmd : k (.reg .cmd) = false) (f_r_xpt : k (.reg .xpt) = false) (f_r_eth : k (.reg .eth) = false) (f_r_cel : k (.reg .cel) = false) (f_r_zl : k (.reg .zl) = false) (f_r_red : k (.reg .red) = false) (f_r_flt : k (.reg .flt) = false) (f_r_pmu : k (.reg .pmu) = false) (k3 : Keeps k s0 a3) :
    KeepsOut k s0 (execFwUpdate a1 a2 a3) := by
  unfold execFwUpdate
  exact (KeepsOut.next (by split; exact (present_keeps f_cmd f_flt f_xpt f_red f_zl f_eng f_cel f_lease f_pmu f_out f_free f_r_cmd f_r_xpt f_r_eth f_r_cel f_r_zl f_r_red f_r_flt f_r_pmu (fun _ _ _ _ h1 => (fwGo_keeps f_sys h1)) k3); exact (keep_ite (Keeps k s0) (srWake_keeps f_cel f_r_cel k3) (present_keeps f_cmd f_flt f_xpt f_red f_zl f_eng f_cel f_lease f_pmu f_out f_free f_r_cmd f_r_xpt f_r_eth f_r_cel f_r_zl f_r_red f_r_flt f_r_pmu (fun _ _ _ _ h2 => (fwGo_keeps f_sys h2)) (celRead_keeps f_cmd f_flt f_xpt f_red f_zl f_eng f_cel f_lease f_pmu f_out f_free f_r_cmd f_r_xpt f_r_eth f_r_cel f_r_zl f_r_red f_r_flt f_r_pmu k3)))))

theorem execKeyDeriveDone_keeps {k s0 a1} (f_sys : k .sys = false) (f_pmu : k .pmu = false) (f_r_pmu : k (.reg .pmu) = false) (f_r_key : k (.reg .key) = false) (k1 : Keeps k s0 a1) :
    KeepsOut k s0 (execKeyDeriveDone a1) := by
  unfold execKeyDeriveDone
  exact (KeepsOut.next (keyDerived_keeps f_sys f_pmu f_r_pmu f_r_key k1))

theorem execSoftResetEffect_keeps {k s0 a1 a2 a3 a4} (f_cmd : k .cmd = false) (f_flt : k .flt = false) (f_xpt : k .xpt = false) (f_red : k .red = false) (f_aud : k .aud = false) (f_zl : k .zl = false) (f_eng : k .eng = false) (f_cel : k .cel = false) (f_sys : k .sys = false) (f_latches : k .latches = false) (f_held : k .held = false) (f_lease : k .lease = false) (f_enterIso : k .enterIso = false) (f_leaveSync : k .leaveSync = false) (f_pmu : k .pmu = false) (f_out : k .out = false) (f_free : k .free = false) (f_regs : ∀ b, k (.reg b) = false) (k4 : Keeps k s0 a4) :
    KeepsOut k s0 (execSoftResetEffect a1 a2 a3 a4) := by
  unfold execSoftResetEffect
  exact (KeepsOut.next (keep_ite (Keeps k s0) (stage2_keeps f_sys (f_regs .boot) (softReset_keeps f_cmd f_flt f_xpt f_red f_aud f_zl f_eng f_cel f_sys f_latches f_held f_lease f_enterIso f_leaveSync f_pmu f_out f_free f_regs k4)) k4))

theorem execBootReady_keeps {k s0 a1} (f_sys : k .sys = false) (f_r_boot : k (.reg .boot) = false) (k1 : Keeps k s0 a1) :
    KeepsOut k s0 (execBootReady a1) := by
  unfold execBootReady
  exact (by lift_lets -underBinder; intro xh1; have h2 : Keeps k s0 xh1 := (by unfold xh1; exact (State.p_keeps (.of f_r_boot) k1)); clear_value xh1; intro xh3; exact (KeepsOut.next (keep_ite (Keeps k s0) (h2.set_sys f_sys (.inr rfl) (.inr rfl)) k1)))

theorem execBootStage1Done_keeps {k s0 a1 a2 a3 a4} (f_sys : k .sys = false) (f_r_boot : k (.reg .boot) = false) (k4 : Keeps k s0 a4) :
    KeepsOut k s0 (execBootStage1Done a1 a2 a3 a4) := by
  unfold execBootStage1Done
  exact (by lift_lets -underBinder; intro xh1; (try clear_value xh1); intro xh2; exact (KeepsOut.next (keep_ite (Keeps k s0) (stage2_keeps f_sys f_r_boot (k4.set_sys f_sys (.inr rfl) (.inr rfl))) k4)))

theorem execDerive_keeps {k s0 a1 a2 a3} (f_sys : k .sys = false) (f_pmu : k .pmu = false) (f_r_hif : k (.reg .hif) = false) (f_r_pmu : k (.reg .pmu) = false) (f_r_key : k (.reg .key) = false) (f_r_noc : k (.reg .noc) = false) (k3 : Keeps k s0 a3) :
    KeepsOut k s0 (execDerive a1 a2 a3) := by
  unfold execDerive
  exact (KeepsOut.next (gate_keeps f_pmu f_r_hif f_r_pmu f_r_noc (fun _ h1 => (writeKeyCtrl_keeps f_sys f_pmu f_r_pmu f_r_key h1)) k3))

theorem execFwUpdateComplete_keeps {k s0 a1 a2 a3} (f_cmd : k .cmd = false) (f_flt : k .flt = false) (f_xpt : k .xpt = false) (f_red : k .red = false) (f_zl : k .zl = false) (f_eng : k .eng = false) (f_cel : k .cel = false) (f_sys : k .sys = false) (f_lease : k .lease = false) (f_pmu : k .pmu = false) (f_out : k .out = false) (f_free : k .free = false) (f_r_cmd : k (.reg .cmd) = false) (f_r_xpt : k (.reg .xpt) = false) (f_r_eth : k (.reg .eth) = false) (f_r_cel : k (.reg .cel) = false) (f_r_zl : k (.reg .zl) = false) (f_r_red : k (.reg .red) = false) (f_r_flt : k (.reg .flt) = false) (f_r_pmu : k (.reg .pmu) = false) (f_r_boot : k (.reg .boot) = false) (k3 : Keeps k s0 a3) :
    KeepsOut k s0 (execFwUpdateComplete a1 a2 a3) := by
  unfold execFwUpdateComplete
  exact (KeepsOut.next (keep_ite (Keeps k s0) (srWake_keeps f_cel f_r_cel k3) (fwEnd_keeps f_cmd f_flt f_xpt f_red f_zl f_eng f_cel f_sys f_lease f_pmu f_out f_free f_r_cmd f_r_xpt f_r_eth f_r_cel f_r_zl f_r_red f_r_flt f_r_pmu f_r_boot k3)))

theorem execFwWdogExpiry_keeps {k s0 a1 a2 a3 a4} (f_cmd : k .cmd = false) (f_flt : k .flt = false) (f_xpt : k .xpt = false) (f_red : k .red = false) (f_zl : k .zl = false) (f_eng : k .eng = false) (f_cel : k .cel = false) (f_sys : k .sys = false) (f_lease : k .lease = false) (f_pmu : k .pmu = false) (f_out : k .out = false) (f_free : k .free = false) (f_r_cmd : k (.reg .cmd) = false) (f_r_xpt : k (.reg .xpt) = false) (f_r_eth : k (.reg .eth) = false) (f_r_cel : k (.reg .cel) = false) (f_r_zl : k (.reg .zl) = false) (f_r_red : k (.reg .red) = false) (f_r_flt : k (.reg .flt) = false) (f_r_pmu : k (.reg .pmu) = false) (f_r_boot : k (.reg .boot) = false) (k4 : Keeps k s0 a4) :
    KeepsOut k s0 (execFwWdogExpiry a1 a2 a3 a4) := by
  unfold execFwWdogExpiry
  exact (KeepsOut.next (keep_ite (Keeps k s0) (fwWatchdog_keeps f_cmd f_flt f_xpt f_red f_zl f_eng f_cel f_sys f_lease f_pmu f_out f_free f_r_cmd f_r_xpt f_r_eth f_r_cel f_r_zl f_r_red f_r_flt f_r_pmu f_r_boot k4) k4))

theorem execSlotCopyDone_keeps {k s0 a1 a2} (f_cmd : k .cmd = false) (f_flt : k .flt = false) (f_xpt : k .xpt = false) (f_red : k .red = false) (f_zl : k .zl = false) (f_eng : k .eng = false) (f_cel : k .cel = false) (f_sys : k .sys = false) (f_lease : k .lease = false) (f_pmu : k .pmu = false) (f_out : k .out = false) (f_free : k .free = false) (f_r_cmd : k (.reg .cmd) = false) (f_r_xpt : k (.reg .xpt) = false) (f_r_eth : k (.reg .eth) = false) (f_r_cel : k (.reg .cel) = false) (f_r_zl : k (.reg .zl) = false) (f_r_red : k (.reg .red) = false) (f_r_flt : k (.reg .flt) = false) (f_r_pmu : k (.reg .pmu) = false) (f_r_boot : k (.reg .boot) = false) (k2 : Keeps k s0 a2) :
    KeepsOut k s0 (execSlotCopyDone a1 a2) := by
  unfold execSlotCopyDone
  exact (KeepsOut.next (keep_ite (Keeps k s0) (slotCopied_keeps f_cmd f_flt f_xpt f_red f_zl f_eng f_cel f_sys f_lease f_pmu f_out f_free f_r_cmd f_r_xpt f_r_eth f_r_cel f_r_zl f_r_red f_r_flt f_r_pmu f_r_boot k2) k2))

theorem execAdvance_keeps {k s0 a1 a2 a3} (f_sys : k .sys = false) (f_pmu : k .pmu = false) (f_r_hif : k (.reg .hif) = false) (f_r_pmu : k (.reg .pmu) = false) (f_r_boot : k (.reg .boot) = false) (f_r_noc : k (.reg .noc) = false) (k3 : Keeps k s0 a3) :
    KeepsOut k s0 (execAdvance a1 a2 a3) := by
  unfold execAdvance
  exact (KeepsOut.next (gate_keeps f_pmu f_r_hif f_r_pmu f_r_noc (fun _ h1 => (writeRollback_keeps f_sys f_r_boot h1)) k3))

theorem execClear_keeps {k s0 a1 a2 a3} (f_sys : k .sys = false) (f_pmu : k .pmu = false) (f_r_hif : k (.reg .hif) = false) (f_r_pmu : k (.reg .pmu) = false) (f_r_key : k (.reg .key) = false) (f_r_noc : k (.reg .noc) = false) (k3 : Keeps k s0 a3) :
    KeepsOut k s0 (execClear a1 a2 a3) := by
  unfold execClear
  exact (KeepsOut.next (gate_keeps f_pmu f_r_hif f_r_pmu f_r_noc (fun _ h1 => (writeKeyCtrl_keeps f_sys f_pmu f_r_pmu f_r_key h1)) k3))

theorem execRbBitProgrammed_keeps {k s0 a1 a2 a3} (f_sys : k .sys = false) (f_pmu : k .pmu = false) (f_r_pmu : k (.reg .pmu) = false) (f_r_key : k (.reg .key) = false) (f_r_boot : k (.reg .boot) = false) (k3 : Keeps k s0 a3) :
    KeepsOut k s0 (execRbBitProgrammed a1 a2 a3) := by
  unfold execRbBitProgrammed
  exact (KeepsOut.next (rbProgrammed_keeps f_sys f_pmu f_r_pmu f_r_key f_r_boot k3))

theorem imageWrite_keeps {k s0 a1 a2 a3} (f_r_xpt : k (.reg .xpt) = false) (k3 : Keeps k s0 a3) :
    Keeps k s0 (imageWrite a1 a2 a3) := by
  unfold imageWrite
  exact (by lift_lets -underBinder; intro xh1; (try clear_value xh1); intro xh2; (try clear_value xh2); intro xh3; (try clear_value xh3); exact (keep_ite (Keeps k s0) (State.wr_keeps (.of f_r_xpt) k3) (keep_ite (Keeps k s0) k3 (stageEntries_keeps f_r_xpt k3))))

theorem bdpAdvance_keeps {k s0 a1 a2 a3 a4} (f_r_hif : k (.reg .hif) = false) (k4 : Keeps k s0 a4) :
    Keeps k s0 (bdpAdvance a1 a2 a3 a4) := by
  unfold bdpAdvance
  exact (by lift_lets -underBinder; intro xh1; (try clear_value xh1); exact (keep_ite (Keeps k s0) k4 (State.p_keeps (.of f_r_hif) (State.p_keeps (.of f_r_hif) k4))))

theorem innerDword_keeps {k s0 a1 a2} (f_free : k .free = false) (k2 : Keeps k s0 a2) :
    KeepsP k s0 (innerDword a1 a2) := by
  unfold innerDword
  exact (keep_ite (KeepsP k s0) k2 (keep_ite (KeepsP k s0) k2 (keep_ite (KeepsP k s0) k2 (keep_ite (KeepsP k s0) k2 (keep_ite (KeepsP k s0) k2 (keep_ite (KeepsP k s0) (by split; (rename_i vh1 vh2 he; have h3 := KeepsP.of_eq he (State.freeNat_keeps f_free k2); exact h3)) k2))))))

theorem innerDwords_keeps {k s0 a1 a2 a3} (f_free : k .free = false) (k3 : Keeps k s0 a3) :
    KeepsP k s0 (innerDwords a1 a2 a3) := by
  unfold innerDwords
  exact (keep_foldl (KeepsP k s0) (fun _ _ h1 => (by split; (rename_i vh2 vh3 he; have h4 := KeepsP.of_eq he (innerDword_keeps f_free h1); exact h4))) k3)

theorem bdpFlag_keeps {k s0 a1 a2 a3} (f_pmu : k .pmu = false) (f_r_hif : k (.reg .hif) = false) (f_r_pmu : k (.reg .pmu) = false) (g2 : RegFree k a2.reg) (k3 : Keeps k s0 a3) :
    Keeps k s0 (bdpFlag a1 a2 a3) := by
  unfold bdpFlag
  exact (State.count_keeps f_pmu f_r_pmu (State.bump_keeps (.of f_r_hif) (State.p_keeps g2 k3)))

theorem innerWrite_keeps {k s0 a1 a2 a3} (f_red : k .red = false) (f_eng : k .eng = false) (f_lut : k .lut = false) (f_r_xpt : k (.reg .xpt) = false) (k3 : Keeps k s0 a3) :
    Keeps k s0 (innerWrite a1 a2 a3) := by
  unfold innerWrite
  exact (keep_ite (Keeps k s0) (markWrote_keeps f_red (lutStore_keeps f_red f_eng f_lut k3)) (imageWrite_keeps f_r_xpt k3))

theorem bdpWrite_keeps {k s0 a1 a2 a3 a4 a5} (f_red : k .red = false) (f_eng : k .eng = false) (f_cel : k .cel = false) (f_mem : k .mem = false) (f_lut : k .lut = false) (f_pmu : k .pmu = false) (f_r_hif : k (.reg .hif) = false) (f_r_xpt : k (.reg .xpt) = false) (f_r_eng : k (.reg .eng) = false) (f_r_cel : k (.reg .cel) = false) (f_r_pmu : k (.reg .pmu) = false) (k5 : Keeps k s0 a5) :
    Keeps k s0 (bdpWrite a1 a2 a3 a4 a5) := by
  unfold bdpWrite
  exact (by lift_lets -underBinder; intro xh1; have h2 : Keeps k s0 xh1 := (by unfold xh1; exact (State.count_keeps f_pmu f_r_pmu k5)); clear_value xh1; intro xh3; (try clear_value xh3); intro xh4; (try clear_value xh4); intro xh5; (try clear_value xh5); intro xh6; (try clear_value xh6); intro xh7; (try clear_value xh7); intro xh8; have h10 : Keeps k s0 xh8 := (by unfold xh8; exact (keep_each (fun _ _ h9 => (State.p_keeps (.of f_r_eng) h9)) h2)); clear_value xh8; intro xh11; have h13 : Keeps k s0 xh11 := (by unfold xh11; exact (keep_ite (Keeps k s0) (bdpFlag_keeps f_pmu f_r_hif f_r_pmu (.of f_r_hif) h2) (keep_ite (Keeps k s0) (bdpFlag_keeps f_pmu f_r_hif f_r_pmu (.of f_r_hif) h2) (keep_ite (Keeps k s0) (bdpFlag_keeps f_pmu f_r_hif f_r_pmu (.of f_r_hif) h2) (keep_ite (Keeps k s0) (keep_ite (Keeps k s0) (keep_each (fun _ _ h12 => (innerWrite_keeps f_red f_eng f_lut f_r_xpt h12)) h2) (bdpFlag_keeps f_pmu f_r_hif f_r_pmu (.of f_r_hif) (keep_ite (Keeps k s0) h10 (State.count_keeps f_pmu f_r_pmu h10)))) (keep_ite (Keeps k s0) (bdpFlag_keeps f_pmu f_r_hif f_r_pmu (.of f_r_hif) (State.count_keeps f_pmu f_r_pmu (State.p_keeps (.of f_r_cel) h2))) (celWrite_keeps f_red f_cel f_mem f_pmu f_r_cel f_r_pmu h2))))))); clear_value xh11; exact (bdpAdvance_keeps f_r_hif h13))

theorem celDwords_keeps {k s0 a1 a2 a3 a4} (f_cmd : k .cmd = false) (f_flt : k .flt = false) (f_xpt : k .xpt = false) (f_red : k .red = false) (f_zl : k .zl = false) (f_eng : k .eng = false) (f_cel : k .cel = false) (f_lease : k .lease = false) (f_pmu : k .pmu = false) (f_out : k .out = false) (f_free : k .free = false) (f_r_hif : k (.reg .hif) = false) (f_r_cmd : k (.reg .cmd) = false) (f_r_xpt : k (.reg .xpt) = false) (f_r_eth : k (.reg .eth) = false) (f_r_cel : k (.reg .cel) = false) (f_r_zl : k (.reg .zl) = false) (f_r_red : k (.reg .red) = false) (f_r_flt : k (.reg .flt) = false) (f_r_pmu : k (.reg .pmu) = false) (k4 : Keeps k s0 a4) :
    KeepsP k s0 (celDwords a1 a2 a3 a4) := by
  unfold celDwords
  exact (keep_ite (KeepsP k s0) (bdpFlag_keeps f_pmu f_r_hif f_r_pmu (.of f_r_hif) (State.count_keeps f_pmu f_r_pmu (State.p_keeps (.of f_r_cel) k4))) (by split; (rename_i vh1 vh2 vh3 he; have h4 := KeepsT.of_eq he (celRead_keeps f_cmd f_flt f_xpt f_red f_zl f_eng f_cel f_lease f_pmu f_out f_free f_r_cmd f_r_xpt f_r_eth f_r_cel f_r_zl f_r_red f_r_flt f_r_pmu k4); exact (by lift_lets -underBinder; intro xh5; (try clear_value xh5); exact (keep_ite (Keeps k s0) h4 (bdpFlag_keeps f_pmu f_r_hif f_r_pmu (.of f_r_hif) (State.count_keeps f_pmu f_r_pmu (State.p_keeps (.of f_r_cel) h4))))))))

theorem bdpRead_keeps {k s0 a1 a2 a3 a4} (f_cmd : k .cmd = false) (f_flt : k .flt = false) (f_xpt : k .xpt = false) (f_red : k .red = false) (f_zl : k .zl = false) (f_eng : k .eng = false) (f_cel : k .cel = false) (f_lease : k .lease = false) (f_pmu : k .pmu = false) (f_out : k .out = false) (f_free : k .free = false) (f_r_hif : k (.reg .hif) = false) (f_r_cmd : k (.reg .cmd) = false) (f_r_xpt : k (.reg .xpt) = false) (f_r_eth : k (.reg .eth) = false) (f_r_cel : k (.reg .cel) = false) (f_r_zl : k (.reg .zl) = false) (f_r_red : k (.reg .red) = false) (f_r_flt : k (.reg .flt) = false) (f_r_pmu : k (.reg .pmu) = false) (k4 : Keeps k s0 a4) :
    KeepsP k s0 (bdpRead a1 a2 a3 a4) := by
  unfold bdpRead
  exact (by lift_lets -underBinder; intro xh1; have h2 : Keeps k s0 xh1 := (by unfold xh1; exact (State.count_keeps f_pmu f_r_pmu k4)); clear_value xh1; intro xh3; (try clear_value xh3); intro xh4; (try clear_value xh4); exact (keep_ite (KeepsP k s0) (bdpAdvance_keeps f_r_hif (bdpFlag_keeps f_pmu f_r_hif f_r_pmu (.of f_r_hif) h2)) (by split; (rename_i vh5 vh6 he; have h7 := KeepsP.of_eq he (keep_ite (KeepsP k s0) h2 (keep_ite (KeepsP k s0) (innerDwords_keeps f_free h2) (celDwords_keeps f_cmd f_flt f_xpt f_red f_zl f_eng f_cel f_lease f_pmu f_out f_free f_r_hif f_r_cmd f_r_xpt f_r_eth f_r_cel f_r_zl f_r_red f_r_flt f_r_pmu h2))); exact (by lift_lets -underBinder; intro xh8; have h9 : Keeps k s0 xh8 := (by unfold xh8; exact (keep_ite (Keeps k s0) h7 (bdpFlag_keeps f_pmu f_r_hif f_r_pmu (.of f_r_hif) h7))); clear_value xh8; exact (bdpAdvance_keeps f_r_hif h9))))))

theorem readPlain_keeps {k s0 a1 a2 a3 a4} (f_latches : k .latches = false) (f_out : k .out = false) (k4 : Keeps k s0 a4) :
    Keeps k s0 (readPlain a1 a2 a3 a4) := by
  unfold readPlain
  exact (by lift_lets -underBinder; intro xh1; (try clear_value xh1); exact (by split; exact (answer_keeps f_out k4); exact (by lift_lets -underBinder; intro xh2; have h3 : Keeps k s0 xh2 := (by unfold xh2; exact (by split; exact (latch_keeps f_latches k4); exact k4)); clear_value xh2; exact (answer_keeps f_out h3))))

theorem busRead_keeps {k s0 a1 a2 a3} (f_ptp : k .ptp = false) (f_latches : k .latches = false) (f_pmu : k .pmu = false) (f_out : k .out = false) (f_r_ptp : k (.reg .ptp) = false) (f_r_pmu : k (.reg .pmu) = false) (k3 : Keeps k s0 a3) :
    Keeps k s0 (busRead a1 a2 a3) := by
  unfold busRead
  exact (keep_ite (Keeps k s0) (answer_keeps f_out k3) (by split; exact (answer_keeps f_out k3); exact (keep_ite (Keeps k s0) (answer_keeps f_out k3) (keep_ite (Keeps k s0) (readTime_keeps f_latches f_out k3) (keep_ite (Keeps k s0) (readTxts_keeps f_ptp f_latches f_pmu f_out f_r_ptp f_r_pmu k3) (keep_ite (Keeps k s0) (readCadPos_keeps f_latches f_out k3) (keep_ite (Keeps k s0) (readTdmTs_keeps f_latches f_out k3) (keep_ite (Keeps k s0) (readPlain_keeps f_latches f_out (snapDone_keeps f_r_pmu k3)) (readPlain_keeps f_latches f_out k3)))))))))

theorem writeXpt_keeps {k s0 a1 a2 a3 a4} (f_cmd : k .cmd = false) (f_flt : k .flt = false) (f_xpt : k .xpt = false) (f_red : k .red = false) (f_flw : k .flw = false) (f_aud : k .aud = false) (f_zl : k .zl = false) (f_eng : k .eng = false) (f_cel : k .cel = false) (f_ref : k .ref = false) (f_lease : k .lease = false) (f_mem : k .mem = false) (f_pmu : k .pmu = false) (f_out : k .out = false) (f_free : k .free = false) (f_r_cmd : k (.reg .cmd) = false) (f_r_xpt : k (.reg .xpt) = false) (f_r_eth : k (.reg .eth) = false) (f_r_flw : k (.reg .flw) = false) (f_r_aud : k (.reg .aud) = false) (f_r_eng : k (.reg .eng) = false) (f_r_cel : k (.reg .cel) = false) (f_r_zl : k (.reg .zl) = false) (f_r_red : k (.reg .red) = false) (f_r_flt : k (.reg .flt) = false) (f_r_pmu : k (.reg .pmu) = false) (g1 : RegFree k a1) (k4 : Keeps k s0 a4) :
    Keeps k s0 (writeXpt a1 a2 a3 a4) := by
  unfold writeXpt
  exact (by lift_lets -underBinder; intro xh1; (try clear_value xh1); exact (keep_ite (Keeps k s0) (writeXing_keeps f_xpt f_r_xpt k4) (keep_ite (Keeps k s0) (writeProbe_keeps f_xpt f_r_xpt k4) (keep_ite (Keeps k s0) (writeProbeDst_keeps f_r_xpt k4) (keep_ite (Keeps k s0) (writeGenCfg_keeps f_cmd f_flt f_xpt f_red f_zl f_eng f_cel f_lease f_pmu f_out f_free f_r_cmd f_r_xpt f_r_eth f_r_cel f_r_zl f_r_red f_r_flt f_r_pmu k4) (keep_ite (Keeps k s0) (keep_when (fun _ h2 => (State.p_keeps (.of f_r_xpt) h2)) (State.write_keeps g1 k4)) (keep_ite (Keeps k s0) (writeSrcLayout_keeps f_pmu f_r_xpt f_r_pmu k4) (keep_ite (Keeps k s0) (writeDstLayout_keeps f_pmu f_r_xpt f_r_pmu k4) (keep_ite (Keeps k s0) (writeImageOpen_keeps f_r_xpt k4) (keep_ite (Keeps k s0) (writeCadCfg_keeps f_cmd f_flt f_xpt f_red f_flw f_aud f_zl f_eng f_cel f_ref f_lease f_mem f_pmu f_out f_free f_r_cmd f_r_xpt f_r_eth f_r_flw f_r_aud f_r_eng f_r_cel f_r_zl f_r_red f_r_flt f_r_pmu k4) (keep_ite (Keeps k s0) (writeSsync_keeps f_r_xpt k4) (keep_ite (Keeps k s0) (writeCadStat_keeps f_r_xpt k4) (keep_ite (Keeps k s0) (writeSrcCad_keeps f_r_xpt k4) (keep_ite (Keeps k s0) (writeDstCad_keeps f_r_xpt k4) (keep_ite (Keeps k s0) (writeAlignStat_keeps f_r_xpt k4) (State.write_keeps g1 k4))))))))))))))))

theorem writeRedFlt_keeps {k s0 a1 a2 a3 a4} (f_cmd : k .cmd = false) (f_flt : k .flt = false) (f_xpt : k .xpt = false) (f_red : k .red = false) (f_flw : k .flw = false) (f_zl : k .zl = false) (f_eng : k .eng = false) (f_cel : k .cel = false) (f_lease : k .lease = false) (f_enterIso : k .enterIso = false) (f_leaveIso : k .leaveIso = false) (f_enterSync : k .enterSync = false) (f_leaveSync : k .leaveSync = false) (f_pmu : k .pmu = false) (f_out : k .out = false) (f_free : k .free = false) (f_r_cmd : k (.reg .cmd) = false) (f_r_xpt : k (.reg .xpt) = false) (f_r_eth : k (.reg .eth) = false) (f_r_cel : k (.reg .cel) = false) (f_r_zl : k (.reg .zl) = false) (f_r_red : k (.reg .red) = false) (f_r_flt : k (.reg .flt) = false) (f_r_pmu : k (.reg .pmu) = false) (g1 : RegFree k a1) (k4 : Keeps k s0 a4) :
    Keeps k s0 (writeRedFlt a1 a2 a3 a4) := by
  unfold writeRedFlt
  exact (by lift_lets -underBinder; intro xh1; (try clear_value xh1); exact (keep_ite (Keeps k s0) (writeRedCtrl_keeps f_cmd f_red f_lease f_enterIso f_leaveIso f_enterSync f_leaveSync f_pmu f_out f_free f_r_cmd f_r_xpt f_r_red f_r_pmu k4) (keep_ite (Keeps k s0) (writeLeaseCfg_keeps f_r_red k4) (keep_ite (Keeps k s0) (writeLeaseCnt_keeps f_r_red k4) (keep_ite (Keeps k s0) (writeSigCnt_keeps f_r_red k4) (keep_ite (Keeps k s0) (writeCheckStat_keeps f_r_red k4) (keep_ite (Keeps k s0) (writeReplStat_keeps f_r_red k4) (keep_ite (Keeps k s0) (writeFltCfg_keeps f_r_flt k4) (keep_ite (Keeps k s0) (writeLatch_keeps f_cmd f_flt f_flw f_pmu f_out f_r_cmd f_r_eth f_r_zl f_r_flt f_r_pmu k4) (keep_ite (Keeps k s0) (writeSrcCfg_keeps f_cmd f_flt f_xpt f_red f_zl f_eng f_cel f_lease f_pmu f_out f_free f_r_cmd f_r_xpt f_r_eth f_r_cel f_r_zl f_r_red f_r_flt f_r_pmu k4) (keep_ite (Keeps k s0) (writeSrcCnt_keeps f_r_flt k4) (keep_ite (Keeps k s0) (writeSafe_keeps f_flt f_r_flt k4) (State.write_keeps g1 k4)))))))))))))

theorem writeRef_keeps {k s0 a1 a2 a3 a4} (f_ref : k .ref = false) (f_pmu : k .pmu = false) (f_r_ref : k (.reg .ref) = false) (f_r_ptp : k (.reg .ptp) = false) (f_r_pmu : k (.reg .pmu) = false) (g1 : RegFree k a1) (k4 : Keeps k s0 a4) :
    Keeps k s0 (writeRef a1 a2 a3 a4) := by
  unfold writeRef
  exact (by lift_lets -underBinder; intro xh1; (try clear_value xh1); exact (keep_ite (Keeps k s0) (writeDpllCfg_keeps f_r_ref k4) (keep_ite (Keeps k s0) (writeCadLag_keeps f_ref f_r_ref k4) (keep_ite (Keeps k s0) (writeSyncOut_keeps f_ref g1 k4) (keep_ite (Keeps k s0) (writePpsOut_keeps f_ref f_r_ref k4) (keep_ite (Keeps k s0) (writeCalSet_keeps f_ref f_pmu f_r_ref f_r_pmu k4) (keep_ite (Keeps k s0) (writeLocal_keeps f_ref g1 k4) (keep_ite (Keeps k s0) (writeTcStat_keeps f_r_ref k4) (keep_ite (Keeps k s0) (writeTxtsStat_keeps f_r_ptp k4) (State.write_keeps g1 k4))))))))))

theorem writePmu_keeps {k s0 a1 a2 a3 a4} (f_pmu : k .pmu = false) (f_r_pmu : k (.reg .pmu) = false) (g1 : RegFree k a1) (k4 : Keeps k s0 a4) :
    Keeps k s0 (writePmu a1 a2 a3 a4) := by
  unfold writePmu
  exact (by lift_lets -underBinder; intro xh1; (try clear_value xh1); exact (keep_ite (Keeps k s0) (writeSnap_keeps f_r_pmu k4) (keep_ite (Keeps k s0) (writeCntCfg_keeps f_pmu f_r_pmu k4) (keep_ite (Keeps k s0) (writeSampPtr_keeps f_pmu f_r_pmu k4) (keep_ite (Keeps k s0) (writeSampStat_keeps f_r_pmu k4) (keep_ite (Keeps k s0) (writeHistCfg_keeps f_r_pmu k4) (keep_ite (Keeps k s0) (writeHistLow_keeps f_r_pmu k4) (keep_ite (Keeps k s0) (writeHistStat_keeps f_r_pmu k4) (State.write_keeps g1 k4)))))))))

theorem writeHif_keeps {k s0 a1 a2 a3 a4} (f_cmd : k .cmd = false) (f_pmu : k .pmu = false) (f_r_hif : k (.reg .hif) = false) (f_r_cmd : k (.reg .cmd) = false) (f_r_aud : k (.reg .aud) = false) (f_r_pmu : k (.reg .pmu) = false) (g1 : RegFree k a1) (k4 : Keeps k s0 a4) :
    Keeps k s0 (writeHif a1 a2 a3 a4) := by
  unfold writeHif
  exact (by lift_lets -underBinder; intro xh1; (try clear_value xh1); exact (keep_ite (Keeps k s0) (writeMgmtStat_keeps f_r_hif k4) (keep_ite (Keeps k s0) (writeProt_keeps f_cmd f_pmu f_r_hif f_r_cmd f_r_aud f_r_pmu k4) (keep_ite (Keeps k s0) (writeProt_keeps f_cmd f_pmu f_r_hif f_r_cmd f_r_aud f_r_pmu k4) (keep_ite (Keeps k s0) (writeProt_keeps f_cmd f_pmu f_r_hif f_r_cmd f_r_aud f_r_pmu k4) (keep_ite (Keeps k s0) (writeProt_keeps f_cmd f_pmu f_r_hif f_r_cmd f_r_aud f_r_pmu k4) (keep_ite (Keeps k s0) (writeProt_keeps f_cmd f_pmu f_r_hif f_r_cmd f_r_aud f_r_pmu k4) (keep_ite (Keeps k s0) (writeProt_keeps f_cmd f_pmu f_r_hif f_r_cmd f_r_aud f_r_pmu k4) (keep_ite (Keeps k s0) (writeBdpStat_keeps f_r_hif k4) (keep_ite (Keeps k s0) (writePartStat_keeps f_r_hif k4) (State.write_keeps g1 k4)))))))))))

theorem writeCmd_keeps {k s0 a1 a2 a3 a4} (f_cmd : k .cmd = false) (f_flt : k .flt = false) (f_xpt : k .xpt = false) (f_red : k .red = false) (f_zl : k .zl = false) (f_eng : k .eng = false) (f_cel : k .cel = false) (f_lease : k .lease = false) (f_pmu : k .pmu = false) (f_out : k .out = false) (f_free : k .free = false) (f_r_cmd : k (.reg .cmd) = false) (f_r_xpt : k (.reg .xpt) = false) (f_r_eth : k (.reg .eth) = false) (f_r_cel : k (.reg .cel) = false) (f_r_zl : k (.reg .zl) = false) (f_r_red : k (.reg .red) = false) (f_r_flt : k (.reg .flt) = false) (f_r_pmu : k (.reg .pmu) = false) (g1 : RegFree k a1) (k4 : Keeps k s0 a4) :
    Keeps k s0 (writeCmd a1 a2 a3 a4) := by
  unfold writeCmd
  exact (keep_ite (Keeps k s0) (writeRingCfg_keeps f_cmd f_r_cmd k4) (keep_ite (Keeps k s0) (writeRingStat_keeps f_r_cmd k4) (keep_ite (Keeps k s0) (writeCplCfg_keeps f_cmd f_flt f_xpt f_red f_zl f_eng f_cel f_lease f_pmu f_out f_free f_r_cmd f_r_xpt f_r_eth f_r_cel f_r_zl f_r_red f_r_flt f_r_pmu k4) (keep_ite (Keeps k s0) (writeEvtCfg_keeps f_cmd f_r_cmd k4) (keep_ite (Keeps k s0) (State.write_keeps g1 k4) (State.write_keeps g1 k4))))))

theorem writeEth_keeps {k s0 a1 a2 a3 a4 a5} (f_cmd : k .cmd = false) (f_flw : k .flw = false) (f_pmu : k .pmu = false) (f_out : k .out = false) (f_r_cmd : k (.reg .cmd) = false) (f_r_eth : k (.reg .eth) = false) (f_r_pmu : k (.reg .pmu) = false) (g1 : RegFree k a1) (k5 : Keeps k s0 a5) :
    Keeps k s0 (writeEth a1 a2 a3 a4 a5) := by
  unfold writeEth
  exact (keep_ite (Keeps k s0) k5 (keep_ite (Keeps k s0) (writeMacCfg_keeps f_cmd f_flw f_pmu f_out f_r_cmd f_r_eth f_r_pmu k5) (keep_ite (Keeps k s0) (writeHringCfg_keeps f_flw f_r_eth k5) (keep_ite (Keeps k s0) (writeHringTail_keeps f_cmd f_flw f_pmu f_out f_r_cmd f_r_eth f_r_pmu k5) (State.write_keeps g1 k5)))))

theorem writeAud_keeps {k s0 a1 a2 a3 a4} (f_cmd : k .cmd = false) (f_aud : k .aud = false) (f_pmu : k .pmu = false) (f_r_hif : k (.reg .hif) = false) (f_r_cmd : k (.reg .cmd) = false) (f_r_aud : k (.reg .aud) = false) (f_r_pmu : k (.reg .pmu) = false) (g1 : RegFree k a1) (k4 : Keeps k s0 a4) :
    Keeps k s0 (writeAud a1 a2 a3 a4) := by
  unfold writeAud
  exact (by lift_lets -underBinder; intro xh1; (try clear_value xh1); exact (keep_ite (Keeps k s0) (writeAudCfg_keeps f_aud f_pmu f_r_aud f_r_pmu k4) (keep_ite (Keeps k s0) (writePool_keeps f_r_aud k4) (keep_ite (Keeps k s0) (writeDcad_keeps f_cmd f_pmu f_r_hif f_r_cmd f_r_aud f_r_pmu k4) (keep_ite (Keeps k s0) (writeProt_keeps f_cmd f_pmu f_r_hif f_r_cmd f_r_aud f_r_pmu k4) (keep_ite (Keeps k s0) (writeTdmCfg_keeps f_r_aud k4) (keep_ite (Keeps k s0) (writeTdmMap_keeps f_r_aud k4) (keep_ite (Keeps k s0) (writeTdmStat_keeps f_r_aud k4) (keep_ite (Keeps k s0) (writeDeemb_keeps f_aud f_pmu f_r_aud f_r_pmu k4) (keep_ite (Keeps k s0) (writeDeembStat_keeps f_r_aud k4) (keep_ite (Keeps k s0) (writeReemb_keeps f_aud f_r_aud k4) (keep_ite (Keeps k s0) (writeReembStat_keeps f_r_aud k4) (State.write_keeps g1 k4)))))))))))))

theorem writeEngCel_keeps {k s0 a1 a2 a3 a4} (f_cmd : k .cmd = false) (f_flt : k .flt = false) (f_xpt : k .xpt = false) (f_red : k .red = false) (f_zl : k .zl = false) (f_eng : k .eng = false) (f_cel : k .cel = false) (f_lease : k .lease = false) (f_pmu : k .pmu = false) (f_out : k .out = false) (f_free : k .free = false) (f_r_cmd : k (.reg .cmd) = false) (f_r_xpt : k (.reg .xpt) = false) (f_r_eth : k (.reg .eth) = false) (f_r_eng : k (.reg .eng) = false) (f_r_cel : k (.reg .cel) = false) (f_r_zl : k (.reg .zl) = false) (f_r_red : k (.reg .red) = false) (f_r_flt : k (.reg .flt) = false) (f_r_pmu : k (.reg .pmu) = false) (g1 : RegFree k a1) (k4 : Keeps k s0 a4) :
    Keeps k s0 (writeEngCel a1 a2 a3 a4) := by
  unfold writeEngCel
  exact (by lift_lets -underBinder; intro xh1; (try clear_value xh1); exact (keep_ite (Keeps k s0) (writeEngStat_keeps f_r_eng k4) (keep_ite (Keeps k s0) (writeFsStat_keeps f_r_eng k4) (keep_ite (Keeps k s0) (writeFlipStat_keeps f_r_eng k4) (keep_ite (Keeps k s0) (writeSigStat_keeps f_r_eng k4) (keep_ite (Keeps k s0) (writeCelCfg_keeps f_cel f_r_cel k4) (keep_ite (Keeps k s0) (writeBudget_keeps f_cmd f_flt f_xpt f_red f_zl f_eng f_cel f_lease f_pmu f_out f_free f_r_cmd f_r_xpt f_r_eth f_r_cel f_r_zl f_r_red f_r_flt f_r_pmu k4) (keep_ite (Keeps k s0) (writeCelTrain_keeps f_cel f_pmu f_r_cel f_r_pmu k4) (keep_ite (Keeps k s0) (writeScrub_keeps f_r_cel k4) (keep_ite (Keeps k s0) (writeEccCtrl_keeps f_r_cel k4) (State.write_keeps g1 k4)))))))))))

theorem writeZl_keeps {k s0 a1 a2 a3 a4} (f_cmd : k .cmd = false) (f_flt : k .flt = false) (f_xpt : k .xpt = false) (f_red : k .red = false) (f_zl : k .zl = false) (f_eng : k .eng = false) (f_cel : k .cel = false) (f_lease : k .lease = false) (f_pmu : k .pmu = false) (f_out : k .out = false) (f_free : k .free = false) (f_r_cmd : k (.reg .cmd) = false) (f_r_xpt : k (.reg .xpt) = false) (f_r_eth : k (.reg .eth) = false) (f_r_cel : k (.reg .cel) = false) (f_r_zl : k (.reg .zl) = false) (f_r_red : k (.reg .red) = false) (f_r_flt : k (.reg .flt) = false) (f_r_pmu : k (.reg .pmu) = false) (g1 : RegFree k a1) (k4 : Keeps k s0 a4) :
    Keeps k s0 (writeZl a1 a2 a3 a4) := by
  unfold writeZl
  exact (by lift_lets -underBinder; intro xh1; (try clear_value xh1); exact (keep_ite (Keeps k s0) (writeLaneCtrl_keeps f_cmd f_flt f_xpt f_red f_zl f_eng f_cel f_lease f_pmu f_out f_free f_r_cmd f_r_xpt f_r_eth f_r_cel f_r_zl f_r_red f_r_flt f_r_pmu k4) (keep_ite (Keeps k s0) (writeErrclr_keeps f_r_zl k4) (keep_ite (Keeps k s0) (writePrbs_keeps f_zl f_r_zl k4) (keep_ite (Keeps k s0) (writeEyeCtrl_keeps f_pmu f_r_zl f_r_pmu k4) (keep_ite (Keeps k s0) (writeQuadCfg_keeps f_cmd f_flt f_xpt f_red f_zl f_eng f_cel f_lease f_pmu f_out f_free f_r_cmd f_r_xpt f_r_eth f_r_cel f_r_zl f_r_red f_r_flt f_r_pmu k4) (State.write_keeps g1 k4)))))))

theorem writeBoot_keeps {k s0 a1 a2 a3 a4} (f_cmd : k .cmd = false) (f_red : k .red = false) (f_cel : k .cel = false) (f_sys : k .sys = false) (f_latches : k .latches = false) (f_held : k .held = false) (f_lease : k .lease = false) (f_pmu : k .pmu = false) (f_out : k .out = false) (f_free : k .free = false) (f_regs : ∀ b, k (.reg b) = false) (g1 : RegFree k a1) (k4 : Keeps k s0 a4) :
    Keeps k s0 (writeBoot a1 a2 a3 a4) := by
  unfold writeBoot
  exact (keep_ite (Keeps k s0) (writeKeyCtrl_keeps f_sys f_pmu (f_regs .pmu) (f_regs .key) k4) (keep_ite (Keeps k s0) (writeRollback_keeps f_sys (f_regs .boot) k4) (keep_ite (Keeps k s0) (writeSysReset_keeps f_cmd f_red f_sys f_lease f_pmu f_out f_free (f_regs .cmd) (f_regs .xpt) (f_regs .red) (f_regs .pmu) k4) (keep_ite (Keeps k s0) (writeBlkReset_keeps f_cel f_sys f_latches f_held f_pmu f_regs k4) (keep_ite (Keeps k s0) (writeTempSns_keeps f_sys (f_regs .sys) k4) (State.write_keeps g1 k4))))))

theorem writeOne_keeps {k s0 a1 a2 a3 a4 a5} (f_cmd : k .cmd = false) (f_flt : k .flt = false) (f_xpt : k .xpt = false) (f_red : k .red = false) (f_flw : k .flw = false) (f_aud : k .aud = false) (f_zl : k .zl = false) (f_eng : k .eng = false) (f_cel : k .cel = false) (f_ref : k .ref = false) (f_sys : k .sys = false) (f_latches : k .latches = false) (f_held : k .held = false) (f_lease : k .lease = false) (f_mem : k .mem = false) (f_enterIso : k .enterIso = false) (f_leaveIso : k .leaveIso = false) (f_enterSync : k .enterSync = false) (f_leaveSync : k .leaveSync = false) (f_pmu : k .pmu = false) (f_out : k .out = false) (f_free : k .free = false) (f_regs : ∀ b, k (.reg b) = false) (g1 : RegFree k a1) (k5 : Keeps k s0 a5) :
    Keeps k s0 (writeOne a1 a2 a3 a4 a5) := by
  unfold writeOne
  exact (by split; exact (writeHif_keeps f_cmd f_pmu (f_regs .hif) (f_regs .cmd) (f_regs .aud) (f_regs .pmu) g1 k5); exact (writeCmd_keeps f_cmd f_flt f_xpt f_red f_zl f_eng f_cel f_lease f_pmu f_out f_free (f_regs .cmd) (f_regs .xpt) (f_regs .eth) (f_regs .cel) (f_regs .zl) (f_regs .red) (f_regs .flt) (f_regs .pmu) g1 k5); exact (writeXpt_keeps f_cmd f_flt f_xpt f_red f_flw f_aud f_zl f_eng f_cel f_ref f_lease f_mem f_pmu f_out f_free (f_regs .cmd) (f_regs .xpt) (f_regs .eth) (f_regs .flw) (f_regs .aud) (f_regs .eng) (f_regs .cel) (f_regs .zl) (f_regs .red) (f_regs .flt) (f_regs .pmu) g1 k5); exact (writeRef_keeps f_ref f_pmu (f_regs .ref) (f_regs .ptp) (f_regs .pmu) g1 k5); exact (writeRef_keeps f_ref f_pmu (f_regs .ref) (f_regs .ptp) (f_regs .pmu) g1 k5); exact (writeEth_keeps f_cmd f_flw f_pmu f_out (f_regs .cmd) (f_regs .eth) (f_regs .pmu) g1 k5); exact (keep_ite (Keeps k s0) (writeFlowCnt_keeps (f_regs .flw) k5) (State.write_keeps g1 k5)); exact (writeAud_keeps f_cmd f_aud f_pmu (f_regs .hif) (f_regs .cmd) (f_regs .aud) (f_regs .pmu) g1 k5); exact (writeEngCel_keeps f_cmd f_flt f_xpt f_red f_zl f_eng f_cel f_lease f_pmu f_out f_free (f_regs .cmd) (f_regs .xpt) (f_regs .eth) (f_regs .eng) (f_regs .cel) (f_regs .zl) (f_regs .red) (f_regs .flt) (f_regs .pmu) g1 k5); exact (writeEngCel_keeps f_cmd f_flt f_xpt f_red f_zl f_eng f_cel f_lease f_pmu f_out f_free (f_regs .cmd) (f_regs .xpt) (f_regs .eth) (f_regs .eng) (f_regs .cel) (f_regs .zl) (f_regs .red) (f_regs .flt) (f_regs .pmu) g1 k5); exact (writeZl_keeps f_cmd f_flt f_xpt f_red f_zl f_eng f_cel f_lease f_pmu f_out f_free (f_regs .cmd) (f_regs .xpt) (f_regs .eth) (f_regs .cel) (f_regs .zl) (f_regs .red) (f_regs .flt) (f_regs .pmu) g1 k5); exact (writeRedFlt_keeps f_cmd f_flt f_xpt f_red f_flw f_zl f_eng f_cel f_lease f_enterIso f_leaveIso f_enterSync f_leaveSync f_pmu f_out f_free (f_regs .cmd) (f_regs .xpt) (f_regs .eth) (f_regs .cel) (f_regs .zl) (f_regs .red) (f_regs .flt) (f_regs .pmu) g1 k5); exact (writeRedFlt_keeps f_cmd f_flt f_xpt f_red f_flw f_zl f_eng f_cel f_lease f_enterIso f_leaveIso f_enterSync f_leaveSync f_pmu f_out f_free (f_regs .cmd) (f_regs .xpt) (f_regs .eth) (f_regs .cel) (f_regs .zl) (f_regs .red) (f_regs .flt) (f_regs .pmu) g1 k5); exact (writePmu_keeps f_pmu (f_regs .pmu) g1 k5); exact (writeBoot_keeps f_cmd f_red f_cel f_sys f_latches f_held f_lease f_pmu f_out f_free f_regs g1 k5); exact (writeBoot_keeps f_cmd f_red f_cel f_sys f_latches f_held f_lease f_pmu f_out f_free f_regs g1 k5); exact (State.write_keeps g1 k5); exact (writeBoot_keeps f_cmd f_red f_cel f_sys f_latches f_held f_lease f_pmu f_out f_free f_regs g1 k5))

theorem writePair_keeps {k s0 a1 a2 a3 a4 a5 a6} (f_cmd : k .cmd = false) (f_xpt : k .xpt = false) (f_ptp : k .ptp = false) (f_ref : k .ref = false) (f_pmu : k .pmu = false) (f_r_ref : k (.reg .ref) = false) (f_r_ptp : k (.reg .ptp) = false) (f_r_pmu : k (.reg .pmu) = false) (g1 : RegFree k a1) (g2 : RegFree k a2) (k6 : Keeps k s0 a6) :
    Keeps k s0 (writePair a1 a2 a3 a4 a5 a6) := by
  unfold writePair
  exact (by lift_lets -underBinder; intro xh1; have h2 : Keeps k s0 xh1 := (by unfold xh1; exact (State.write_keeps g2 (State.write_keeps g1 k6))); clear_value xh1; intro xh3; exact (keep_ite (Keeps k s0) (writeIncr_keeps f_ptp f_pmu f_r_ptp f_r_pmu k6) (keep_ite (Keeps k s0) (writeAdj_keeps f_ptp f_ref f_pmu f_r_ref f_r_pmu k6) (keep_ite (Keeps k s0) (keep_ite (Keeps k s0) k6 h2) (keep_ite (Keeps k s0) (keep_ite (Keeps k s0) k6 h2) (keep_ite (Keeps k s0) (keep_ite (Keeps k s0) k6 h2) (keep_ite (Keeps k s0) (genWaits_keeps f_xpt h2) (keep_ite (Keeps k s0) (h2.set_cmd f_cmd ) h2))))))))

theorem writeReg_keeps {k s0 a1 a2 a3 a4 a5 a6} (f_cmd : k .cmd = false) (f_flt : k .flt = false) (f_xpt : k .xpt = false) (f_ptp : k .ptp = false) (f_red : k .red = false) (f_flw : k .flw = false) (f_aud : k .aud = false) (f_zl : k .zl = false) (f_eng : k .eng = false) (f_cel : k .cel = false) (f_ref : k .ref = false) (f_sys : k .sys = false) (f_latches : k .latches = false) (f_held : k .held = false) (f_lease : k .lease = false) (f_mem : k .mem = false) (f_enterIso : k .enterIso = false) (f_leaveIso : k .leaveIso = false) (f_enterSync : k .enterSync = false) (f_leaveSync : k .leaveSync = false) (f_pmu : k .pmu = false) (f_out : k .out = false) (f_free : k .free = false) (f_regs : ∀ b, k (.reg b) = false) (g2 : RegFree k a2) (k6 : Keeps k s0 a6) :
    Keeps k s0 (writeReg a1 a2 a3 a4 a5 a6) := by
  unfold writeReg
  exact (keep_ite (Keeps k s0) k6 (keep_ite (Keeps k s0) (hold_keeps f_held k6) (by split; exact (writePair_keeps f_cmd f_xpt f_ptp f_ref f_pmu (f_regs .ref) (f_regs .ptp) (f_regs .pmu) (.all f_regs) g2 (unhold_keeps f_held k6)); exact (writeOne_keeps f_cmd f_flt f_xpt f_red f_flw f_aud f_zl f_eng f_cel f_ref f_sys f_latches f_held f_lease f_mem f_enterIso f_leaveIso f_enterSync f_leaveSync f_pmu f_out f_free f_regs g2 k6))))

theorem busWrite_keeps {k s0 a1 a2 a3 a4 a5} (f_cmd : k .cmd = false) (f_flt : k .flt = false) (f_xpt : k .xpt = false) (f_ptp : k .ptp = false) (f_red : k .red = false) (f_flw : k .flw = false) (f_aud : k .aud = false) (f_zl : k .zl = false) (f_eng : k .eng = false) (f_cel : k .cel = false) (f_ref : k .ref = false) (f_sys : k .sys = false) (f_latches : k .latches = false) (f_held : k .held = false) (f_lease : k .lease = false) (f_mem : k .mem = false) (f_enterIso : k .enterIso = false) (f_leaveIso : k .leaveIso = false) (f_enterSync : k .enterSync = false) (f_leaveSync : k .leaveSync = false) (f_pmu : k .pmu = false) (f_out : k .out = false) (f_free : k .free = false) (f_regs : ∀ b, k (.reg b) = false) (k5 : Keeps k s0 a5) :
    Keeps k s0 (busWrite a1 a2 a3 a4 a5) := by
  unfold busWrite
  exact (by lift_lets -underBinder; intro xh1; subst xh1; exact (by split; exact (gatePage_keeps f_pmu (f_regs .hif) (f_regs .pmu) (f_regs .noc) (fun _ h2 => (by split; exact (writeReg_keeps f_cmd f_flt f_xpt f_ptp f_red f_flw f_aud f_zl f_eng f_cel f_ref f_sys f_latches f_held f_lease f_mem f_enterIso f_leaveIso f_enterSync f_leaveSync f_pmu f_out f_free f_regs (.all f_regs) h2); exact h2)) k5); exact (gate_keeps f_pmu (f_regs .hif) (f_regs .pmu) (f_regs .noc) (fun _ h3 => (by split; exact (writeReg_keeps f_cmd f_flt f_xpt f_ptp f_red f_flw f_aud f_zl f_eng f_cel f_ref f_sys f_latches f_held f_lease f_mem f_enterIso f_leaveIso f_enterSync f_leaveSync f_pmu f_out f_free f_regs (.all f_regs) h3); exact h3)) k5); exact (by split; exact (keep_ite (Keeps k s0) k5 (denyWrite_keeps f_pmu (f_regs .hif) (f_regs .pmu) k5)); exact k5)))

theorem serveReq_keeps {k s0 a1 a2 a3} (f_cmd : k .cmd = false) (f_flt : k .flt = false) (f_xpt : k .xpt = false) (f_ptp : k .ptp = false) (f_red : k .red = false) (f_flw : k .flw = false) (f_aud : k .aud = false) (f_zl : k .zl = false) (f_eng : k .eng = false) (f_cel : k .cel = false) (f_ref : k .ref = false) (f_sys : k .sys = false) (f_latches : k .latches = false) (f_held : k .held = false) (f_lease : k .lease = false) (f_mem : k .mem = false) (f_lut : k .lut = false) (f_enterIso : k .enterIso = false) (f_leaveIso : k .leaveIso = false) (f_enterSync : k .enterSync = false) (f_leaveSync : k .leaveSync = false) (f_pmu : k .pmu = false) (f_out : k .out = false) (f_free : k .free = false) (f_regs : ∀ b, k (.reg b) = false) (k3 : Keeps k s0 a3) :
    Keeps k s0 (serveReq a1 a2 a3) := by
  unfold serveReq
  exact (by split; exact (by split; (rename_i vh1 vh2 he; have h3 := KeepsP.of_eq he (keep_ite (KeepsP k s0) (bdpRead_keeps f_cmd f_flt f_xpt f_red f_zl f_eng f_cel f_lease f_pmu f_out f_free (f_regs .hif) (f_regs .cmd) (f_regs .xpt) (f_regs .eth) (f_regs .cel) (f_regs .zl) (f_regs .red) (f_regs .flt) (f_regs .pmu) k3) (bdpAdvance_keeps (f_regs .hif) (bdpFlag_keeps f_pmu (f_regs .hif) (f_regs .pmu) (.of (f_regs .hif)) (State.count_keeps f_pmu (f_regs .pmu) (State.p_keeps (.of (f_regs .cel)) (State.count_keeps f_pmu (f_regs .pmu) k3)))))); exact (State.emit_keeps f_out h3))); exact (keep_ite (Keeps k s0) (bdpWrite_keeps f_red f_eng f_cel f_mem f_lut f_pmu (f_regs .hif) (f_regs .xpt) (f_regs .eng) (f_regs .cel) (f_regs .pmu) k3) (bdpAdvance_keeps (f_regs .hif) (State.count_keeps f_pmu (f_regs .pmu) k3))); exact (busRead_keeps f_ptp f_latches f_pmu f_out (f_regs .ptp) (f_regs .pmu) k3); exact (busWrite_keeps f_cmd f_flt f_xpt f_ptp f_red f_flw f_aud f_zl f_eng f_cel f_ref f_sys f_latches f_held f_lease f_mem f_enterIso f_leaveIso f_enterSync f_leaveSync f_pmu f_out f_free f_regs k3); exact (keep_ite (Keeps k s0) (celPut_keeps f_cel f_mem f_pmu (f_regs .cel) (f_regs .pmu) k3) k3); exact (keep_ite (Keeps k s0) (serveCopy_keeps f_cmd f_flt f_xpt f_red f_zl f_eng f_cel f_lease f_pmu f_out f_free (f_regs .cmd) (f_regs .xpt) (f_regs .eth) (f_regs .cel) (f_regs .zl) (f_regs .red) (f_regs .flt) (f_regs .pmu) (f_regs .noc) k3) (State.tell_keeps f_red f_out k3)); exact (keep_ite (Keeps k s0) (storeUnit_keeps f_red f_eng f_cel f_mem f_lut f_pmu (f_regs .cel) (f_regs .red) (f_regs .pmu) k3) k3))

theorem celServe_keeps {k s0 a1} (f_cmd : k .cmd = false) (f_flt : k .flt = false) (f_xpt : k .xpt = false) (f_ptp : k .ptp = false) (f_red : k .red = false) (f_flw : k .flw = false) (f_aud : k .aud = false) (f_zl : k .zl = false) (f_eng : k .eng = false) (f_cel : k .cel = false) (f_ref : k .ref = false) (f_sys : k .sys = false) (f_latches : k .latches = false) (f_held : k .held = false) (f_lease : k .lease = false) (f_mem : k .mem = false) (f_lut : k .lut = false) (f_enterIso : k .enterIso = false) (f_leaveIso : k .leaveIso = false) (f_enterSync : k .enterSync = false) (f_leaveSync : k .leaveSync = false) (f_pmu : k .pmu = false) (f_out : k .out = false) (f_free : k .free = false) (f_regs : ∀ b, k (.reg b) = false) (k1 : Keeps k s0 a1) :
    Keeps k s0 (celServe a1) := by
  unfold celServe
  exact (by lift_lets -underBinder; intro xh1; exact (keep_each (fun _ _ h2 => (serveReq_keeps f_cmd f_flt f_xpt f_ptp f_red f_flw f_aud f_zl f_eng f_cel f_ref f_sys f_latches f_held f_lease f_mem f_lut f_enterIso f_leaveIso f_enterSync f_leaveSync f_pmu f_out f_free f_regs h2)) (k1.set_cel f_cel rfl)))

theorem refreshAll_keeps {k s0 a1} (f_cel : k .cel = false) (f_pmu : k .pmu = false) (f_r_pmu : k (.reg .pmu) = false) (k1 : Keeps k s0 a1) :
    Keeps k s0 (refreshAll a1) := by
  unfold refreshAll
  exact (by lift_lets -underBinder; intro xh1; intro xh2; (try clear_value xh2); intro xh3; exact (State.count_keeps f_pmu f_r_pmu (k1.set_cel f_cel rfl)))

theorem execSrExitComplete_keeps {k s0 a1} (f_cmd : k .cmd = false) (f_flt : k .flt = false) (f_xpt : k .xpt = false) (f_ptp : k .ptp = false) (f_red : k .red = false) (f_flw : k .flw = false) (f_aud : k .aud = false) (f_zl : k .zl = false) (f_eng : k .eng = false) (f_cel : k .cel = false) (f_ref : k .ref = false) (f_sys : k .sys = false) (f_latches : k .latches = false) (f_held : k .held = false) (f_lease : k .lease = false) (f_mem : k .mem = false) (f_lut : k .lut = false) (f_enterIso : k .enterIso = false) (f_leaveIso : k .leaveIso = false) (f_enterSync : k .enterSync = false) (f_leaveSync : k .leaveSync = false) (f_pmu : k .pmu = false) (f_out : k .out = false) (f_free : k .free = false) (f_regs : ∀ b, k (.reg b) = false) (k1 : Keeps k s0 a1) :
    KeepsOut k s0 (execSrExitComplete a1) := by
  unfold execSrExitComplete
  exact (by lift_lets -underBinder; intro xh1; have h2 : Keeps k s0 xh1 := (by unfold xh1; exact (State.count_keeps f_pmu (f_regs .pmu) (State.p_keeps (.of (f_regs .cel)) (State.p_keeps (.of (f_regs .cel)) k1)))); clear_value xh1; intro xh3; exact (KeepsOut.next (keep_ite (Keeps k s0) (celServe_keeps f_cmd f_flt f_xpt f_ptp f_red f_flw f_aud f_zl f_eng f_cel f_ref f_sys f_latches f_held f_lease f_mem f_lut f_enterIso f_leaveIso f_enterSync f_leaveSync f_pmu f_out f_free f_regs (refreshAll_keeps f_cel f_pmu (f_regs .pmu) (h2.set_cel f_cel rfl))) k1)))

theorem endTraining_keeps {k s0 a1 a2} (f_cmd : k .cmd = false) (f_flt : k .flt = false) (f_xpt : k .xpt = false) (f_ptp : k .ptp = false) (f_red : k .red = false) (f_flw : k .flw = false) (f_aud : k .aud = false) (f_zl : k .zl = false) (f_eng : k .eng = false) (f_cel : k .cel = false) (f_ref : k .ref = false) (f_sys : k .sys = false) (f_latches : k .latches = false) (f_held : k .held = false) (f_lease : k .lease = false) (f_mem : k .mem = false) (f_lut : k .lut = false) (f_enterIso : k .enterIso = false) (f_leaveIso : k .leaveIso = false) (f_enterSync : k .enterSync = false) (f_leaveSync : k .leaveSync = false) (f_pmu : k .pmu = false) (f_out : k .out = false) (f_free : k .free = false) (f_regs : ∀ b, k (.reg b) = false) (k2 : Keeps k s0 a2) :
    Keeps k s0 (endTraining a1 a2) := by
  unfold endTraining
  exact (by lift_lets -underBinder; intro xh1; (try clear_value xh1); intro xh2; have h3 : Keeps k s0 xh2 := (by unfold xh2; exact (State.p_keeps (.of (f_regs .cel)) (State.p_keeps (.of (f_regs .cel)) (State.p_keeps (.of (f_regs .cel)) k2)))); clear_value xh2; intro xh4; intro xh5; have h6 : Keeps k s0 xh5 := (by unfold xh5; exact (h3.set_cel f_cel rfl)); clear_value xh5; exact (celServe_keeps f_cmd f_flt f_xpt f_ptp f_red f_flw f_aud f_zl f_eng f_cel f_ref f_sys f_latches f_held f_lease f_mem f_lut f_enterIso f_leaveIso f_enterSync f_leaveSync f_pmu f_out f_free f_regs (level_keeps f_cmd f_flt f_xpt f_red f_zl f_eng f_cel f_lease f_pmu f_out f_free (f_regs .cmd) (f_regs .xpt) (f_regs .eth) (f_regs .cel) (f_regs .zl) (f_regs .red) (f_regs .flt) (f_regs .pmu) (keep_when (fun _ h7 => (State.count_keeps f_pmu (f_regs .pmu) h7)) h6))))

theorem execCelTrainDone_keeps {k s0 a1 a2} (f_cmd : k .cmd = false) (f_flt : k .flt = false) (f_xpt : k .xpt = false) (f_ptp : k .ptp = false) (f_red : k .red = false) (f_flw : k .flw = false) (f_aud : k .aud = false) (f_zl : k .zl = false) (f_eng : k .eng = false) (f_cel : k .cel = false) (f_ref : k .ref = false) (f_sys : k .sys = false) (f_latches : k .latches = false) (f_held : k .held = false) (f_lease : k .lease = false) (f_mem : k .mem = false) (f_lut : k .lut = false) (f_enterIso : k .enterIso = false) (f_leaveIso : k .leaveIso = false) (f_enterSync : k .enterSync = false) (f_leaveSync : k .leaveSync = false) (f_pmu : k .pmu = false) (f_out : k .out = false) (f_free : k .free = false) (f_regs : ∀ b, k (.reg b) = false) (k2 : Keeps k s0 a2) :
    KeepsOut k s0 (execCelTrainDone a1 a2) := by
  unfold execCelTrainDone
  exact (KeepsOut.next (keep_ite (Keeps k s0) (endTraining_keeps f_cmd f_flt f_xpt f_ptp f_red f_flw f_aud f_zl f_eng f_cel f_ref f_sys f_latches f_held f_lease f_mem f_lut f_enterIso f_leaveIso f_enterSync f_leaveSync f_pmu f_out f_free f_regs k2) k2))

theorem mgmtCmd_keeps {k s0 a1 a2} (f_pmu : k .pmu = false) (f_r_pmu : k (.reg .pmu) = false) (k1 : ∀ x0, Keeps k s0 x0 → Keeps k s0 (a1 x0)) (k2 : Keeps k s0 a2) :
    Keeps k s0 (mgmtCmd a1 a2) := by
  unfold mgmtCmd
  exact (keep_ite (Keeps k s0) k2 (k1 _ (State.count_keeps f_pmu f_r_pmu k2)))

theorem execReadId_keeps {k s0 a1} (f_pmu : k .pmu = false) (f_out : k .out = false) (f_r_pmu : k (.reg .pmu) = false) (k1 : Keeps k s0 a1) :
    KeepsOut k s0 (execReadId a1) := by
  unfold execReadId
  exact (KeepsOut.next (mgmtCmd_keeps f_pmu f_r_pmu (fun _ h1 => (State.emit_keeps f_out h1)) k1))

theorem mgmtAnswer_keeps {k s0 a1} (f_out : k .out = false) (k1 : Keeps k s0 a1) :
    Keeps k s0 (mgmtAnswer a1) := by
  unfold mgmtAnswer
  exact (by split; exact (k1.set_out f_out); exact k1)

theorem holdBack_keeps {k s0 a1 a2 a3} (f_cel : k .cel = false) (f_pmu : k .pmu = false) (f_r_pmu : k (.reg .pmu) = false) (f_r_noc : k (.reg .noc) = false) (k3 : Keeps k s0 a3) :
    Keeps k s0 (holdBack a1 a2 a3) := by
  unfold holdBack
  exact (by lift_lets -underBinder; intro xh1; intro xh2; have h3 : Keeps k s0 xh2 := (by unfold xh2; exact (k3.set_cel f_cel rfl)); clear_value xh2; exact (by split; exact (State.count_keeps f_pmu f_r_pmu (State.bump_keeps (.of f_r_noc) h3)); exact h3))

theorem regWrite_keeps {k s0 a1 a2 a3 a4 a5} (f_cmd : k .cmd = false) (f_flt : k .flt = false) (f_xpt : k .xpt = false) (f_ptp : k .ptp = false) (f_red : k .red = false) (f_flw : k .flw = false) (f_aud : k .aud = false) (f_zl : k .zl = false) (f_eng : k .eng = false) (f_cel : k .cel = false) (f_ref : k .ref = false) (f_sys : k .sys = false) (f_latches : k .latches = false) (f_held : k .held = false) (f_lease : k .lease = false) (f_mem : k .mem = false) (f_enterIso : k .enterIso = false) (f_leaveIso : k .leaveIso = false) (f_enterSync : k .enterSync = false) (f_leaveSync : k .leaveSync = false) (f_pmu : k .pmu = false) (f_out : k .out = false) (f_free : k .free = false) (f_regs : ∀ b, k (.reg b) = false) (k5 : Keeps k s0 a5) :
    Keeps k s0 (regWrite a1 a2 a3 a4 a5) := by
  unfold regWrite
  exact (by lift_lets -underBinder; intro xh1; have h2 : Keeps k s0 xh1 := (by unfold xh1; exact (wakeBus_keeps f_pmu (f_regs .pmu) (f_regs .noc) k5)); clear_value xh1; exact (keep_ite (Keeps k s0) (holdBack_keeps f_cel f_pmu (f_regs .pmu) (f_regs .noc) h2) (busWrite_keeps f_cmd f_flt f_xpt f_ptp f_red f_flw f_aud f_zl f_eng f_cel f_ref f_sys f_latches f_held f_lease f_mem f_enterIso f_leaveIso f_enterSync f_leaveSync f_pmu f_out f_free f_regs h2)))

theorem execPairLoWrite_keeps {k s0 a1 a2 a3 a4} (f_cmd : k .cmd = false) (f_flt : k .flt = false) (f_xpt : k .xpt = false) (f_ptp : k .ptp = false) (f_red : k .red = false) (f_flw : k .flw = false) (f_aud : k .aud = false) (f_zl : k .zl = false) (f_eng : k .eng = false) (f_cel : k .cel = false) (f_ref : k .ref = false) (f_sys : k .sys = false) (f_latches : k .latches = false) (f_held : k .held = false) (f_lease : k .lease = false) (f_mem : k .mem = false) (f_enterIso : k .enterIso = false) (f_leaveIso : k .leaveIso = false) (f_enterSync : k .enterSync = false) (f_leaveSync : k .leaveSync = false) (f_pmu : k .pmu = false) (f_out : k .out = false) (f_free : k .free = false) (f_regs : ∀ b, k (.reg b) = false) (k4 : Keeps k s0 a4) :
    KeepsOut k s0 (execPairLoWrite a1 a2 a3 a4) := by
  unfold execPairLoWrite
  exact (KeepsOut.next (regWrite_keeps f_cmd f_flt f_xpt f_ptp f_red f_flw f_aud f_zl f_eng f_cel f_ref f_sys f_latches f_held f_lease f_mem f_enterIso f_leaveIso f_enterSync f_leaveSync f_pmu f_out f_free f_regs k4))

theorem execReadStatus_keeps {k s0 a1} (f_pmu : k .pmu = false) (f_out : k .out = false) (f_r_pmu : k (.reg .pmu) = false) (k1 : Keeps k s0 a1) :
    KeepsOut k s0 (execReadStatus a1) := by
  unfold execReadStatus
  exact (KeepsOut.next (mgmtCmd_keeps f_pmu f_r_pmu (fun _ h1 => (State.emit_keeps f_out h1)) k1))

theorem mgmtError_keeps {k s0 a1} (f_pmu : k .pmu = false) (f_r_hif : k (.reg .hif) = false) (f_r_pmu : k (.reg .pmu) = false) (k1 : Keeps k s0 a1) :
    Keeps k s0 (mgmtError a1) := by
  unfold mgmtError
  exact (State.count_keeps f_pmu f_r_pmu (State.bump_keeps (.of f_r_hif) k1))

theorem execRegRead_keeps {k s0 a1 a2} (f_ptp : k .ptp = false) (f_latches : k .latches = false) (f_pmu : k .pmu = false) (f_out : k .out = false) (f_r_hif : k (.reg .hif) = false) (f_r_ptp : k (.reg .ptp) = false) (f_r_pmu : k (.reg .pmu) = false) (f_r_noc : k (.reg .noc) = false) (k2 : Keeps k s0 a2) :
    KeepsOut k s0 (execRegRead a1 a2) := by
  unfold execRegRead
  exact (KeepsOut.next (mgmtCmd_keeps f_pmu f_r_pmu (fun _ h1 => (by lift_lets -underBinder; intro xh2; have h3 : Keeps k s0 xh2 := (by unfold xh2; exact (wakeBus_keeps f_pmu f_r_pmu f_r_noc h1)); clear_value xh2; exact (keep_ite (Keeps k s0) (keep_ite (Keeps k s0) (State.emit_keeps f_out h3) (mgmtAnswer_keeps f_out (busRead_keeps f_ptp f_latches f_pmu f_out f_r_ptp f_r_pmu h3))) (State.emit_keeps f_out (mgmtError_keeps f_pmu f_r_hif f_r_pmu h1))))) k2))

theorem mgmtMove_keeps {k s0 a1 a2} (f_cmd : k .cmd = false) (k2 : Keeps k s0 a2) :
    Keeps k s0 (mgmtMove a1 a2) := by
  unfold mgmtMove
  exact (by lift_lets -underBinder; intro xh1; exact (k2.set_cmd f_cmd ))

theorem execBdpWrite_keeps {k s0 a1 a2} (f_cmd : k .cmd = false) (f_red : k .red = false) (f_eng : k .eng = false) (f_cel : k .cel = false) (f_mem : k .mem = false) (f_lut : k .lut = false) (f_pmu : k .pmu = false) (f_r_hif : k (.reg .hif) = false) (f_r_xpt : k (.reg .xpt) = false) (f_r_eng : k (.reg .eng) = false) (f_r_cel : k (.reg .cel) = false) (f_r_pmu : k (.reg .pmu) = false) (f_r_noc : k (.reg .noc) = false) (k2 : Keeps k s0 a2) :
    KeepsOut k s0 (execBdpWrite a1 a2) := by
  unfold execBdpWrite
  exact (KeepsOut.next (mgmtCmd_keeps f_pmu f_r_pmu (fun _ h1 => (by lift_lets -underBinder; intro xh2; have h3 : Keeps k s0 xh2 := (by unfold xh2; exact (wakeBulk_keeps f_pmu f_r_pmu f_r_noc h1)); clear_value xh2; exact (keep_ite (Keeps k s0) (mgmtMove_keeps f_cmd (keep_ite (Keeps k s0) (celHoldReq_keeps f_cel f_r_cel h3) (bdpWrite_keeps f_red f_eng f_cel f_mem f_lut f_pmu f_r_hif f_r_xpt f_r_eng f_r_cel f_r_pmu h3))) (mgmtError_keeps f_pmu f_r_hif f_r_pmu h1)))) k2))

theorem execPairHiWrite_keeps {k s0 a1 a2 a3 a4} (f_cmd : k .cmd = false) (f_flt : k .flt = false) (f_xpt : k .xpt = false) (f_ptp : k .ptp = false) (f_red : k .red = false) (f_flw : k .flw = false) (f_aud : k .aud = false) (f_zl : k .zl = false) (f_eng : k .eng = false) (f_cel : k .cel = false) (f_ref : k .ref = false) (f_sys : k .sys = false) (f_latches : k .latches = false) (f_held : k .held = false) (f_lease : k .lease = false) (f_mem : k .mem = false) (f_enterIso : k .enterIso = false) (f_leaveIso : k .leaveIso = false) (f_enterSync : k .enterSync = false) (f_leaveSync : k .leaveSync = false) (f_pmu : k .pmu = false) (f_out : k .out = false) (f_free : k .free = false) (f_regs : ∀ b, k (.reg b) = false) (k4 : Keeps k s0 a4) :
    KeepsOut k s0 (execPairHiWrite a1 a2 a3 a4) := by
  unfold execPairHiWrite
  exact (KeepsOut.next (regWrite_keeps f_cmd f_flt f_xpt f_ptp f_red f_flw f_aud f_zl f_eng f_cel f_ref f_sys f_latches f_held f_lease f_mem f_enterIso f_leaveIso f_enterSync f_leaveSync f_pmu f_out f_free f_regs k4))

theorem nocEnd_keeps {k s0 a1 a2 a3} (f_cmd : k .cmd = false) (f_flt : k .flt = false) (f_xpt : k .xpt = false) (f_red : k .red = false) (f_zl : k .zl = false) (f_eng : k .eng = false) (f_cel : k .cel = false) (f_lease : k .lease = false) (f_pmu : k .pmu = false) (f_out : k .out = false) (f_free : k .free = false) (f_r_hif : k (.reg .hif) = false) (f_r_cmd : k (.reg .cmd) = false) (f_r_xpt : k (.reg .xpt) = false) (f_r_eth : k (.reg .eth) = false) (f_r_eng : k (.reg .eng) = false) (f_r_cel : k (.reg .cel) = false) (f_r_zl : k (.reg .zl) = false) (f_r_red : k (.reg .red) = false) (f_r_flt : k (.reg .flt) = false) (f_r_pmu : k (.reg .pmu) = false) (f_r_noc : k (.reg .noc) = false) (k3 : Keeps k s0 a3) :
    Keeps k s0 (nocEnd a1 a2 a3) := by
  unfold nocEnd
  exact (by lift_lets -underBinder; intro xh1; exact (by split; exact (answer_keeps f_out (wakeBus_keeps f_pmu f_r_pmu f_r_noc k3)); exact (State.emit_keeps f_out (wakeBus_keeps f_pmu f_r_pmu f_r_noc k3)); exact (keep_ite (Keeps k s0) (State.emit_keeps f_out (mgmtMove_keeps f_cmd (bdpAdvance_keeps f_r_hif k3))) (State.emit_keeps f_out (bdpAdvance_keeps f_r_hif k3))); exact (by lift_lets -underBinder; intro xh2; (try clear_value xh2); intro xh3; exact (keep_ite (Keeps k s0) (State.count_keeps f_pmu f_r_pmu (k3.set_eng f_eng rfl)) (keep_ite (Keeps k s0) (fenceReturn_keeps f_cmd f_flt f_xpt f_red f_zl f_eng f_cel f_lease f_pmu f_out f_free f_r_cmd f_r_xpt f_r_eth f_r_eng f_r_cel f_r_zl f_r_red f_r_flt f_r_pmu (State.count_keeps f_pmu f_r_pmu (k3.set_eng f_eng rfl))) k3))); exact (State.tell_keeps f_red f_out k3); exact (by split; exact k3; exact (fetchDone_keeps f_cmd f_pmu f_r_cmd f_r_pmu k3)); exact (hostReadFails_keeps f_cmd f_flt f_xpt f_red f_zl f_eng f_cel f_lease f_pmu f_out f_free f_r_cmd f_r_xpt f_r_eth f_r_cel f_r_zl f_r_red f_r_flt f_r_pmu k3); exact k3))

theorem nocError_keeps {k s0 a1 a2 a3 a4 a5} (f_cmd : k .cmd = false) (f_flt : k .flt = false) (f_xpt : k .xpt = false) (f_red : k .red = false) (f_zl : k .zl = false) (f_eng : k .eng = false) (f_cel : k .cel = false) (f_lease : k .lease = false) (f_pmu : k .pmu = false) (f_out : k .out = false) (f_free : k .free = false) (f_r_cmd : k (.reg .cmd) = false) (f_r_xpt : k (.reg .xpt) = false) (f_r_eth : k (.reg .eth) = false) (f_r_cel : k (.reg .cel) = false) (f_r_zl : k (.reg .zl) = false) (f_r_red : k (.reg .red) = false) (f_r_flt : k (.reg .flt) = false) (f_r_pmu : k (.reg .pmu) = false) (f_r_noc : k (.reg .noc) = false) (k5 : Keeps k s0 a5) :
    Keeps k s0 (nocError a1 a2 a3 a4 a5) := by
  unfold nocError
  exact (by lift_lets -underBinder; intro xh1; have h2 : Keeps k s0 xh1 := (by unfold xh1; exact (keep_ite (Keeps k s0) k5 (State.p_keeps (.of f_r_noc) (State.wr_keeps (.of f_r_noc) (State.wr_keeps (.of f_r_noc) k5))))); clear_value xh1; exact (occur_keeps f_cmd f_flt f_xpt f_red f_zl f_eng f_cel f_lease f_pmu f_out f_free f_r_cmd f_r_xpt f_r_eth f_r_cel f_r_zl f_r_red f_r_flt f_r_pmu (State.count_keeps f_pmu f_r_pmu h2)))

theorem execNocDecodeError_keeps {k s0 a1 a2 a3} (f_cmd : k .cmd = false) (f_flt : k .flt = false) (f_xpt : k .xpt = false) (f_red : k .red = false) (f_zl : k .zl = false) (f_eng : k .eng = false) (f_cel : k .cel = false) (f_lease : k .lease = false) (f_pmu : k .pmu = false) (f_out : k .out = false) (f_free : k .free = false) (f_r_hif : k (.reg .hif) = false) (f_r_cmd : k (.reg .cmd) = false) (f_r_xpt : k (.reg .xpt) = false) (f_r_eth : k (.reg .eth) = false) (f_r_eng : k (.reg .eng) = false) (f_r_cel : k (.reg .cel) = false) (f_r_zl : k (.reg .zl) = false) (f_r_red : k (.reg .red) = false) (f_r_flt : k (.reg .flt) = false) (f_r_pmu : k (.reg .pmu) = false) (f_r_noc : k (.reg .noc) = false) (k3 : Keeps k s0 a3) :
    KeepsOut k s0 (execNocDecodeError a1 a2 a3) := by
  unfold execNocDecodeError
  exact (KeepsOut.next (nocEnd_keeps f_cmd f_flt f_xpt f_red f_zl f_eng f_cel f_lease f_pmu f_out f_free f_r_hif f_r_cmd f_r_xpt f_r_eth f_r_eng f_r_cel f_r_zl f_r_red f_r_flt f_r_pmu f_r_noc (nocError_keeps f_cmd f_flt f_xpt f_red f_zl f_eng f_cel f_lease f_pmu f_out f_free f_r_cmd f_r_xpt f_r_eth f_r_cel f_r_zl f_r_red f_r_flt f_r_pmu f_r_noc k3)))

theorem execBdpCtrlWrite_keeps {k s0 a1 a2 a3 a4 a5} (f_cmd : k .cmd = false) (f_flt : k .flt = false) (f_xpt : k .xpt = false) (f_ptp : k .ptp = false) (f_red : k .red = false) (f_flw : k .flw = false) (f_aud : k .aud = false) (f_zl : k .zl = false) (f_eng : k .eng = false) (f_cel : k .cel = false) (f_ref : k .ref = false) (f_sys : k .sys = false) (f_latches : k .latches = false) (f_held : k .held = false) (f_lease : k .lease = false) (f_mem : k .mem = false) (f_enterIso : k .enterIso = false) (f_leaveIso : k .leaveIso = false) (f_enterSync : k .enterSync = false) (f_leaveSync : k .leaveSync = false) (f_pmu : k .pmu = false) (f_out : k .out = false) (f_free : k .free = false) (f_regs : ∀ b, k (.reg b) = false) (k5 : Keeps k s0 a5) :
    KeepsOut k s0 (execBdpCtrlWrite a1 a2 a3 a4 a5) := by
  unfold execBdpCtrlWrite
  exact (KeepsOut.next (regWrite_keeps f_cmd f_flt f_xpt f_ptp f_red f_flw f_aud f_zl f_eng f_cel f_ref f_sys f_latches f_held f_lease f_mem f_enterIso f_leaveIso f_enterSync f_leaveSync f_pmu f_out f_free f_regs k5))

theorem execRegWrite_keeps {k s0 a1 a2 a3 a4} (f_cmd : k .cmd = false) (f_flt : k .flt = false) (f_xpt : k .xpt = false) (f_ptp : k .ptp = false) (f_red : k .red = false) (f_flw : k .flw = false) (f_aud : k .aud = false) (f_zl : k .zl = false) (f_eng : k .eng = false) (f_cel : k .cel = false) (f_ref : k .ref = false) (f_sys : k .sys = false) (f_latches : k .latches = false) (f_held : k .held = false) (f_lease : k .lease = false) (f_mem : k .mem = false) (f_enterIso : k .enterIso = false) (f_leaveIso : k .leaveIso = false) (f_enterSync : k .enterSync = false) (f_leaveSync : k .leaveSync = false) (f_pmu : k .pmu = false) (f_out : k .out = false) (f_free : k .free = false) (f_regs : ∀ b, k (.reg b) = false) (k4 : Keeps k s0 a4) :
    KeepsOut k s0 (execRegWrite a1 a2 a3 a4) := by
  unfold execRegWrite
  exact (KeepsOut.next (mgmtCmd_keeps f_pmu (f_regs .pmu) (fun _ h1 => (keep_ite (Keeps k s0) (keep_ite (Keeps k s0) (regWrite_keeps f_cmd f_flt f_xpt f_ptp f_red f_flw f_aud f_zl f_eng f_cel f_ref f_sys f_latches f_held f_lease f_mem f_enterIso f_leaveIso f_enterSync f_leaveSync f_pmu f_out f_free f_regs h1) h1) (mgmtError_keeps f_pmu (f_regs .hif) (f_regs .pmu) h1))) k4))

theorem execMgmtUnknownOpcode_keeps {k s0 a1 a2} (f_pmu : k .pmu = false) (f_r_hif : k (.reg .hif) = false) (f_r_pmu : k (.reg .pmu) = false) (k2 : Keeps k s0 a2) :
    KeepsOut k s0 (execMgmtUnknownOpcode a1 a2) := by
  unfold execMgmtUnknownOpcode
  exact (KeepsOut.next (keep_ite (Keeps k s0) k2 (mgmtCmd_keeps f_pmu f_r_pmu (fun _ h1 => (mgmtError_keeps f_pmu f_r_hif f_r_pmu h1)) k2)))

theorem execNocTimeout_keeps {k s0 a1 a2 a3 a4} (f_cmd : k .cmd = false) (f_flt : k .flt = false) (f_xpt : k .xpt = false) (f_red : k .red = false) (f_zl : k .zl = false) (f_eng : k .eng = false) (f_cel : k .cel = false) (f_lease : k .lease = false) (f_pmu : k .pmu = false) (f_out : k .out = false) (f_free : k .free = false) (f_r_hif : k (.reg .hif) = false) (f_r_cmd : k (.reg .cmd) = false) (f_r_xpt : k (.reg .xpt) = false) (f_r_eth : k (.reg .eth) = false) (f_r_eng : k (.reg .eng) = false) (f_r_cel : k (.reg .cel) = false) (f_r_zl : k (.reg .zl) = false) (f_r_red : k (.reg .red) = false) (f_r_flt : k (.reg .flt) = false) (f_r_pmu : k (.reg .pmu) = false) (f_r_noc : k (.reg .noc) = false) (k4 : Keeps k s0 a4) :
    KeepsOut k s0 (execNocTimeout a1 a2 a3 a4) := by
  unfold execNocTimeout
  exact (KeepsOut.next (nocEnd_keeps f_cmd f_flt f_xpt f_red f_zl f_eng f_cel f_lease f_pmu f_out f_free f_r_hif f_r_cmd f_r_xpt f_r_eth f_r_eng f_r_cel f_r_zl f_r_red f_r_flt f_r_pmu f_r_noc (nocError_keeps f_cmd f_flt f_xpt f_red f_zl f_eng f_cel f_lease f_pmu f_out f_free f_r_cmd f_r_xpt f_r_eth f_r_cel f_r_zl f_r_red f_r_flt f_r_pmu f_r_noc k4)))

theorem execBdpRead_keeps {k s0 a1 a2} (f_cmd : k .cmd = false) (f_flt : k .flt = false) (f_xpt : k .xpt = false) (f_red : k .red = false) (f_zl : k .zl = false) (f_eng : k .eng = false) (f_cel : k .cel = false) (f_lease : k .lease = false) (f_pmu : k .pmu = false) (f_out : k .out = false) (f_free : k .free = false) (f_r_hif : k (.reg .hif) = false) (f_r_cmd : k (.reg .cmd) = false) (f_r_xpt : k (.reg .xpt) = false) (f_r_eth : k (.reg .eth) = false) (f_r_cel : k (.reg .cel) = false) (f_r_zl : k (.reg .zl) = false) (f_r_red : k (.reg .red) = false) (f_r_flt : k (.reg .flt) = false) (f_r_pmu : k (.reg .pmu) = false) (f_r_noc : k (.reg .noc) = false) (k2 : Keeps k s0 a2) :
    KeepsOut k s0 (execBdpRead a1 a2) := by
  unfold execBdpRead
  exact (KeepsOut.next (mgmtCmd_keeps f_pmu f_r_pmu (fun _ h1 => (by lift_lets -underBinder; intro xh2; have h3 : Keeps k s0 xh2 := (by unfold xh2; exact (wakeBulk_keeps f_pmu f_r_pmu f_r_noc h1)); clear_value xh2; exact (keep_ite (Keeps k s0) (keep_ite (Keeps k s0) (State.emit_keeps f_out (srWake_keeps f_cel f_r_cel h3)) (by split; (rename_i vh4 vh5 he; have h6 := KeepsP.of_eq he (bdpRead_keeps f_cmd f_flt f_xpt f_red f_zl f_eng f_cel f_lease f_pmu f_out f_free f_r_hif f_r_cmd f_r_xpt f_r_eth f_r_cel f_r_zl f_r_red f_r_flt f_r_pmu h3); exact (State.emit_keeps f_out (mgmtMove_keeps f_cmd h6))))) (State.emit_keeps f_out (mgmtError_keeps f_pmu f_r_hif f_r_pmu h1))))) k2))

theorem regRead_keeps {k s0 a1 a2 a3} (f_ptp : k .ptp = false) (f_cel : k .cel = false) (f_latches : k .latches = false) (f_pmu : k .pmu = false) (f_out : k .out = false) (f_r_ptp : k (.reg .ptp) = false) (f_r_pmu : k (.reg .pmu) = false) (f_r_noc : k (.reg .noc) = false) (k3 : Keeps k s0 a3) :
    Keeps k s0 (regRead a1 a2 a3) := by
  unfold regRead
  exact (by lift_lets -underBinder; intro xh1; have h2 : Keeps k s0 xh1 := (by unfold xh1; exact (wakeBus_keeps f_pmu f_r_pmu f_r_noc k3)); clear_value xh1; exact (keep_ite (Keeps k s0) (holdBack_keeps f_cel f_pmu f_r_pmu f_r_noc h2) (busRead_keeps f_ptp f_latches f_pmu f_out f_r_ptp f_r_pmu h2)))

theorem execRegisterWrite_keeps {k s0 a1 a2 a3 a4 a5 a6} (f_cmd : k .cmd = false) (f_flt : k .flt = false) (f_xpt : k .xpt = false) (f_ptp : k .ptp = false) (f_red : k .red = false) (f_flw : k .flw = false) (f_aud : k .aud = false) (f_zl : k .zl = false) (f_eng : k .eng = false) (f_cel : k .cel = false) (f_ref : k .ref = false) (f_sys : k .sys = false) (f_latches : k .latches = false) (f_held : k .held = false) (f_lease : k .lease = false) (f_mem : k .mem = false) (f_enterIso : k .enterIso = false) (f_leaveIso : k .leaveIso = false) (f_enterSync : k .enterSync = false) (f_leaveSync : k .leaveSync = false) (f_pmu : k .pmu = false) (f_out : k .out = false) (f_free : k .free = false) (f_regs : ∀ b, k (.reg b) = false) (k6 : Keeps k s0 a6) :
    KeepsOut k s0 (execRegisterWrite a1 a2 a3 a4 a5 a6) := by
  unfold execRegisterWrite
  exact (KeepsOut.next (keep_ite (Keeps k s0) (regWrite_keeps f_cmd f_flt f_xpt f_ptp f_red f_flw f_aud f_zl f_eng f_cel f_ref f_sys f_latches f_held f_lease f_mem f_enterIso f_leaveIso f_enterSync f_leaveSync f_pmu f_out f_free f_regs k6) k6))

theorem execBdpApertureWrite_keeps {k s0 a1 a2 a3 a4 a5} (f_red : k .red = false) (f_eng : k .eng = false) (f_cel : k .cel = false) (f_mem : k .mem = false) (f_lut : k .lut = false) (f_pmu : k .pmu = false) (f_r_hif : k (.reg .hif) = false) (f_r_xpt : k (.reg .xpt) = false) (f_r_eng : k (.reg .eng) = false) (f_r_cel : k (.reg .cel) = false) (f_r_pmu : k (.reg .pmu) = false) (f_r_noc : k (.reg .noc) = false) (k5 : Keeps k s0 a5) :
    KeepsOut k s0 (execBdpApertureWrite a1 a2 a3 a4 a5) := by
  unfold execBdpApertureWrite
  exact (by lift_lets -underBinder; intro xh1; have h2 : Keeps k s0 xh1 := (by unfold xh1; exact (wakeBulk_keeps f_pmu f_r_pmu f_r_noc k5)); clear_value xh1; exact (KeepsOut.next (keep_ite (Keeps k s0) (keep_ite (Keeps k s0) (celHoldReq_keeps f_cel f_r_cel h2) (bdpWrite_keeps f_red f_eng f_cel f_mem f_lut f_pmu f_r_hif f_r_xpt f_r_eng f_r_cel f_r_pmu h2)) k5)))

theorem execBdpApertureRead_keeps {k s0 a1 a2 a3 a4} (f_cmd : k .cmd = false) (f_flt : k .flt = false) (f_xpt : k .xpt = false) (f_red : k .red = false) (f_zl : k .zl = false) (f_eng : k .eng = false) (f_cel : k .cel = false) (f_lease : k .lease = false) (f_pmu : k .pmu = false) (f_out : k .out = false) (f_free : k .free = false) (f_r_hif : k (.reg .hif) = false) (f_r_cmd : k (.reg .cmd) = false) (f_r_xpt : k (.reg .xpt) = false) (f_r_eth : k (.reg .eth) = false) (f_r_cel : k (.reg .cel) = false) (f_r_zl : k (.reg .zl) = false) (f_r_red : k (.reg .red) = false) (f_r_flt : k (.reg .flt) = false) (f_r_pmu : k (.reg .pmu) = false) (f_r_noc : k (.reg .noc) = false) (k4 : Keeps k s0 a4) :
    KeepsOut k s0 (execBdpApertureRead a1 a2 a3 a4) := by
  unfold execBdpApertureRead
  exact (by lift_lets -underBinder; intro xh1; have h2 : Keeps k s0 xh1 := (by unfold xh1; exact (wakeBulk_keeps f_pmu f_r_pmu f_r_noc k4)); clear_value xh1; exact (KeepsOut.next (keep_ite (Keeps k s0) (keep_ite (Keeps k s0) (celHoldReq_keeps f_cel f_r_cel h2) (by split; (rename_i vh3 vh4 he; have h5 := KeepsP.of_eq he (bdpRead_keeps f_cmd f_flt f_xpt f_red f_zl f_eng f_cel f_lease f_pmu f_out f_free f_r_hif f_r_cmd f_r_xpt f_r_eth f_r_cel f_r_zl f_r_red f_r_flt f_r_pmu h2); exact (State.emit_keeps f_out h5)))) k4)))

theorem execBdpStatRead_keeps {k s0 a1 a2 a3} (f_ptp : k .ptp = false) (f_cel : k .cel = false) (f_latches : k .latches = false) (f_pmu : k .pmu = false) (f_out : k .out = false) (f_r_ptp : k (.reg .ptp) = false) (f_r_pmu : k (.reg .pmu) = false) (f_r_noc : k (.reg .noc) = false) (k3 : Keeps k s0 a3) :
    KeepsOut k s0 (execBdpStatRead a1 a2 a3) := by
  unfold execBdpStatRead
  exact (KeepsOut.next (regRead_keeps f_ptp f_cel f_latches f_pmu f_out f_r_ptp f_r_pmu f_r_noc k3))

theorem execPairLoRead_keeps {k s0 a1 a2 a3} (f_ptp : k .ptp = false) (f_cel : k .cel = false) (f_latches : k .latches = false) (f_pmu : k .pmu = false) (f_out : k .out = false) (f_r_ptp : k (.reg .ptp) = false) (f_r_pmu : k (.reg .pmu) = false) (f_r_noc : k (.reg .noc) = false) (k3 : Keeps k s0 a3) :
    KeepsOut k s0 (execPairLoRead a1 a2 a3) := by
  unfold execPairLoRead
  exact (KeepsOut.next (regRead_keeps f_ptp f_cel f_latches f_pmu f_out f_r_ptp f_r_pmu f_r_noc k3))

end Sys2Proof.Machine
end

