-- ==== Sys2Proof/WellFormed.lean ====
section
/-! DEFINITION. What the operands of a command must satisfy beside their types: ranges that the manual gives what arrives
from outside. A meaning is total on ill-formed operands too; a well-formed command is one that the world can bring. -/
namespace Sys2Proof

/-- A rail list names each rail at most once (R453). -/
def railsOk (rails : List (Fin 6)) : Bool := decide rails.Nodup

/-- The core cycle count of XPT_PROBE_TIME and of the line starts is a counter of 32 bits or more; a count is below 2⁶⁴. -/
def cycleOk (c : Nat) : Bool := decide (c < 2 ^ 64)

/-- A difference of two record instants lies within a second of core cycles (R89). -/
def deltaOk (d : Int) : Bool := decide (d.natAbs ≤ 1000000000)

/-- A temperature in 0.01 °C that a sensor can read (R458). -/
def tempOk (t : Int) : Bool := decide (-5500 ≤ t) && decide (t ≤ 15000)

/-- A frequency offset that REF_DPLL_FREQ can hold (R208): a signed number of 32 bits. -/
def freqOk (f : Int) : Bool := decide (-(2 ^ 31 : Int) ≤ f) && decide (f < 2 ^ 31)

/-- An Ethernet frame with its FCS (R138): not empty, and no longer than a link can carry. -/
def frameOk (b : List Byte) : Bool := decide (0 < b.length) && decide (b.length ≤ 65536)

/-- A fetch asks for 1 to 16 descriptors (R328). -/
def fetchOk (n : Nat) : Bool := decide (1 ≤ n) && decide (n ≤ 16)

/-- What a descriptor stamp may say (R80): one of eight cadences. -/
def stampOk (t : Stamp) : Bool := decide (t.cad < 8) && decide (t.line ≤ 4500)

/-- A replicated descriptor (R380): epoch of 32 bits, RSEQ of 64 bits, one of eight partitions. -/
def replOk (m : ReplMsg) : Bool :=
  decide (m.epoch < 2 ^ 32) && decide (m.rseq < 2 ^ 64) && decide (m.part < 8) && m.stamp.all stampOk

/-- A heartbeat (R378): RSEQ counters of 64 bits, at most one frame start for each cadence. -/
def heartbeatOk (m : Heartbeat) : Bool :=
  decide (m.tx < 2 ^ 64) && decide (m.rx < 2 ^ 64) && m.frames.all (fun x => decide (x.1 < 8)) && decide (m.frames.map (·.1)).Nodup

/-- A line signature (R389): a destination slot and base, 16 bits of frame number, a CRC of 32 bits. -/
def sigOk (y : SigRec) : Bool := decide (y.d < 1280) && decide (y.m < 8) && decide (y.frame < 65536) && decide (y.crc < 2 ^ 32)

/-- A resync unit carries 4 KiB (R385), and its errored words lie in it (R387). -/
def unitOk (data : List Byte) (errored : List Nat) : Bool := decide (data.length = 4096) && errored.all (fun w => decide (w < 128))

/-- A snapshot names registers of BAR0 (R385) and entries of the flow table. -/
def snapOk (x : Snap) : Bool := x.regs.all (fun r => decide (r.1 < 2 ^ 26)) && x.flows.all (fun f => decide (f.1 < 16384))

/-- Link widths and speeds of the endpoint (R298, R320): up to x8 at Gen5. -/
def linkOk (width speed : Nat) : Bool := [1, 2, 4, 8].contains width && decide (1 ≤ speed) && decide (speed ≤ 5)

/-- A lease message with its TAG is shorter than 4 KiB (R363). -/
def msgOk (bytes : List Byte) : Bool := decide (bytes.length < 4096)

/-- The code groups between two control groups: the message they carry is shorter than 4 KiB (R363). -/
def groupsOk (groups : List (BitVec 10)) : Bool := decide (groups.length < 4096)

/-- Every command that carries bulk data carries at most 128 dwords (R311, R315). -/
def burstOk (data : List Word) : Bool := decide (1 ≤ data.length) && decide (data.length ≤ 128)

/-- The counts of a top-down unit's slots for one tick (R417): no more entries than the 65 units. -/
def slotsOk (td : List (Nat × Nat × Nat × Nat)) : Bool := decide (td.length ≤ 65)

/-- The levels of DIN that a TDM frame brings (R268): a frame of up to 1,024 cycles and the 31 into which a slot wraps. -/
def dinOk (din : List (Bool × Bool)) : Bool := decide (din.length ≤ 1055)

/-- The commands the world can bring. -/
def Instr.wellFormed : Instr → Bool
  | .porAssert rails => railsOk rails
  | .probeCapture _ _ _ _ cycle => cycleOk cycle
  | .cadenceLineStart _ cycle => cycleOk cycle
  | .cadenceStart _ cycle => cycleOk cycle
  | .snapshotInstall x cycle => snapOk x && cycleOk cycle
  | .lineRecordRx _ _ d => deltaOk d
  | .refSelection f t => freqOk f && tempOk t
  | .refInvalid _ x => freqOk x.freq
  | .refValidRestore x => freqOk x.freq
  | .holdoverUpdate t => tempOk t
  | .historyEntry t => tempOk t
  | .stackTempRead t => tempOk t
  | .ethFrameReceive _ _ b _ _ _ => frameOk b
  | .descriptorFetch _ _ n => fetchOk n
  | .fetchComplete _ _ data => fetchOk data.length
  | .replReceive m => replOk m
  | .heartbeatReceive m => heartbeatOk m
  | .sigReceive y => sigOk y
  | .copyDataReceive _ data errored => unitOk data errored
  | .grantReceive bytes => msgOk bytes
  | .ackReceive bytes => msgOk bytes
  | .badMsgReceive _ groups => groupsOk groups
  | .bdpApertureWrite _ _ data _ => burstOk data
  | .pcieLinkUp width speed => linkOk width speed
  | .tdmFrame _ x => dinOk x.din
  | .monitorTick td _ => slotsOk td
  | _ => true

end Sys2Proof
end

