-- ==== Sys2Proof/Tests/Slice0.lean ====
section
/-! SUPPORT. Tests of the model against the manual's worked examples, ill-formed commands that are refused, and for each statement
a state and operands that meet its hypotheses. -/
open Sys2Proof Sys2Proof.Machine
set_option Elab.async false

namespace Sys2Proof.Tests
set_option maxRecDepth 100000

/-- The state after POR and RESET_N have ended, every block out of reset. -/
def ready : State := { State.reset with sys := { State.reset.sys with por := false, held := [] } }

/-! Ill-formed commands, one for each check. -/

theorem test_wf_rails : (Instr.porAssert [2, 2]).wellFormed = false := by decide
theorem test_wf_cycle : (Instr.cadenceStart 0 (2 ^ 64)).wellFormed = false := by decide
theorem test_wf_delta : deltaOk 1000000001 = false := by decide
theorem test_wf_temp : (Instr.historyEntry 15001).wellFormed = false := by decide
theorem test_wf_freq : freqOk (2 ^ 31) = false := by decide
theorem test_wf_frame : frameOk [] = false := by decide
theorem test_wf_fetch : (Instr.descriptorFetch 0 0 17).wellFormed = false := by decide
theorem test_wf_stamp : stampOk ⟨8, 0, 1, false⟩ = false := by decide
theorem test_wf_repl : (Instr.replReceive ⟨2 ^ 32, 0, 0, 1, 0, none, false, []⟩).wellFormed = false := by decide
theorem test_wf_heartbeat : (Instr.heartbeatReceive ⟨false, 0, 0, 0, false, 0, none, 0, 0, [(1, 0, 0), (1, 0, 0)]⟩).wellFormed = false := by decide
theorem test_wf_sig : (Instr.sigReceive ⟨1280, 0, 0, 0, 0, false⟩).wellFormed = false := by decide
theorem test_wf_unit : (Instr.copyDataReceive 0 [0] []).wellFormed = false := by decide
theorem test_wf_link : (Instr.pcieLinkUp 3 5).wellFormed = false := by decide
theorem test_wf_msg : msgOk (List.replicate 4096 0) = false := by decide
theorem test_wf_burst : burstOk [] = false := by decide
theorem test_wf_snap : snapOk ⟨[(2 ^ 26, 0)], [], [], [], [], [], [], 0, [], [], [], 0⟩ = false := by decide
theorem test_wf_din : dinOk (List.replicate 1056 (true, true)) = false := by decide
theorem test_wf_groups : groupsOk (List.replicate 4096 0) = false := by decide
theorem test_wf_slots : slotsOk (List.replicate 66 (0, 0, 0, 0)) = false := by decide

/-! The manual's worked examples. -/

/-- 09, admission at full scale: one 2160p50 slate is 885, one 1080p50 slate 222. -/
theorem test_slate_charges : pictureCharge 3 5 = 885 ∧ pictureCharge 1 5 = 222 := by decide
/-- 09, admission at full scale: 491,190 is within the budget of 491,520, and 492,252 is not. -/
theorem test_budget_end : withinBudget ready 491190 = true ∧ withinBudget ready 492252 = false := by decide
/-- 08, a show change: half way from +4,000,000 to -2,000,000 a fade of 960 samples gives 1,414,214. -/
theorem test_fade_half_way :
    (fadeWord { ch := 0, old := none, n := 960, k := 480 } { smp := 4000000 } { smp := 2 ^ 24 - 2000000 }).smp = 1414214 := by decide
/-- 05, one received essence: 640 picture words of 16 B take ten blocks of 1 KiB. -/
theorem test_larder_line : ceilDiv (pictureWords 3 * 16) 1024 = 10 := by decide
/-- 11, R361: the ring registers of ring 7 of partition 7. -/
theorem test_ring_address : R.CMD_RING_BASE_LO.addr [7, 7] = 0x1070E0 := by decide
/-- R301: no register lies between the last ring of a page and the next page. -/
theorem test_no_register : findReg 0x100F00 = none := by decide
/-- 06: 2000 is a leap year and 2100 is not. -/
theorem test_leap_years : leapYear 2000 = true ∧ leapYear 2100 = false := by decide
/-- R399: source 169 is FATAL, so that its occurrence takes an ACTIVE device to STANDBY. -/
theorem test_fatal : ∃ t, exec (.faultOccurrence 169 0) { ready with red := { plane := .active, tExp := some 9 } } = .next t ∧
    t.flt.fatal = true ∧ t.red.plane = .standby ∧ t.red.tExp = none := by
  refine ⟨_, rfl, ?_⟩; decide
/-- R375: JOIN without a partner link goes to STANDBY. -/
theorem test_join : ∃ t, exec (.join .mgmt) ready = .next t ∧ t.red.plane = .standby := by
  refine ⟨_, rfl, ?_⟩; decide
/-- R24: 1080p50 in 3G has 458 words for each picture line, 138 of them beside the picture's 320. -/
theorem test_class_room :
    classRoom ((ready.p F.XPT_CAD_CFG_FORMAT [0] 1).p F.XPT_CAD_CFG_RATE [0] 5) 0 2 - pictureWords 1 = 138 := by decide
/-- R302: a VF that writes another block's register is denied and changes nothing of it. -/
theorem test_denied : ∃ t, exec (.safeSourceWrite (.part 3) 0 5#32) ready = .next t ∧ t.regs.length = 1 := by
  refine ⟨_, rfl, ?_⟩; decide

/-! States and operands that meet the hypotheses of the statements. -/

theorem witness_ResetsTakeEffect :
    (State.reset.sys.por = true ∧ State.reset.sys.railOut = [] ∧ State.reset.sys.hot = false) ∧
    (ready.sys.por = false ∧ ready.sys.rstLow = false ∧ Reaches .mgmt .sys ready) ∧
    ({ ready with sys := { ready.sys with rstLow := true } } : State).sys.rstLow = true := by decide

theorem witness_SuppliesAndSensorsAreKept :
    12000 ≤ (hottest 12000#128).1 ∧ ((hottest 9800#128).1 = 9800 ∧ ready.sys.por = false ∧ ready.sys.rstLow = false) ∧
    Reaches (.part 0) .sys ready := by decide

theorem witness_KeysAndRollback :
    (Reaches .mgmt .key ready ∧ ready.on F.KEY_FUSE_STATUS_ROOT_MARGINAL [] = false ∧ ready.holder = false ∧
      ready.on F.KEY_STAT_BUSY [] = false ∧ F.KEY_CTRL_CLEAR.of 0x10000020#32 = 0 ∧ F.KEY_CTRL_LABEL_LEN.of 0x10000020#32 = 32 ∧
      F.KEY_CTRL_USE.of 0x10000020#32 = 1 ∧ F.KEY_CTRL_DERIVE.of 0x10000020#32 = 0) ∧
    ({ ready with sys := { ready.sys with derive_ := some ([], 1) } } : State).sys.derive_ = some ([], 1) ∧
    ({ ready with red := { ready.red with tExp := some 1 } } : State).holder = true ∧
    (Reaches .mgmt .boot (ready.wr R.BOOT_VERSION [] 0x40000000#32) ∧ F.BOOT_ROLLBACK_TARGET.of 64#32 = 64 ∧
      (ready.wr R.BOOT_VERSION [] 0x40000000#32).g F.BOOT_VERSION_VERSION [] / 2 ^ 24 = 64 ∧ ready.g F.BOOT_ROLLBACK_FLOOR [] = 0) ∧
    rbNext ready = 0 := by decide

/-- A signed image of 16 bytes: its key is the base point, its nonce is 1. -/
def imageBytes : List Byte := leBytes 528 (
  0xc298d84539a1f4a033eb2d817d0377f240a463e5e6bcf847422ce1f2d1176b0400000000000000000000000400000010400000010000ff00115200013146564d +
  0xf551bf376840b6cbce5e316b5733ce2b169e0f7c4aebe78e9b7f1afee242e34f96 * 2 ^ 512 +
  0x6b1da872f5610d5204ced52e0619f0c03a62e86c0f5b894d38c2656f6d0c294e96c298d84539a1f4a033eb2d817d0377f240a463e5e6bcf847422ce1f2d1176b * 2 ^ 1024 +
  0x7345606422ae4493887f2f0d958d20670f2d0519f947adc0bbcfd46a715dd4e96c298d84539a1f4a033eb2d817d0377f240a463e5e6bcf847422ce1f2d1176b * 2 ^ 1536)
/-- Fuses that hold the hash of its key. -/
def fused (s : State) : State :=
  each ((List.range 8).zip [0x63EA8B69#32, 0x44A344DC#32, 0x42F13F66#32, 0x8410EA9A#32, 0x6B7BF22D#32, 0x58F21E99#32, 0xC0C6B266#32, 0xBEC5DC2C#32]) (fun x t => t.wr R.KEY_FUSE [8 + x.1] x.2) s
theorem witness_BootStagesFollow_image :
    (let s := { (fused ready).p F.BOOT_STAT_STAGE [] 2 with sys := { ready.sys with toTry := [1, 0] } }
     s.g F.BOOT_STAT_STAGE [] = 2 ∧ s.sys.toTry = [1, 0] ∧ imageReason s imageBytes = 0) := by decide
theorem witness_BootStagesFollow :
    (let s := ready.p F.BOOT_STAT_STAGE [] 1
     s.g F.BOOT_STAT_STAGE [] = 1 ∧ s.sys.por = false ∧ s.sys.rstLow = false ∧
       s.on F.KEY_FUSE_STATUS_PKH_MARGINAL [] = false ∧ s.on F.KEY_FUSE_STATUS_RB_MARGINAL [] = false) ∧
    (let s := { ready.p F.BOOT_STAT_STAGE [] 2 with sys := { ready.sys with toTry := [1, 0] } }
     s.g F.BOOT_STAT_STAGE [] = 2 ∧ s.sys.toTry = [1, 0] ∧ imageReason s [] ≠ 0) ∧
    (let s := ready.p F.BOOT_STAT_FW_RUNNING [] 1
     s.on F.BOOT_STAT_FW_RUNNING [] = true ∧ s.on F.BOOT_STAT_READY [] = false ∧ s.cel.training = false ∧ s.sys.por = false ∧
       s.sys.rstLow = false) ∧
    (let s : State := { ready.p F.CEL_STAT_STATE [] 1 with sys := { ready.sys with fw := some ⟨0, 0, 0, 0⟩ } }
     s.sys.fw = some ⟨0, 0, 0, 0⟩ ∧ celWaits s = false) ∧
    (let s : State := { ready.p F.CEL_STAT_STATE [] 2 with sys := { ready.sys with fw := some ⟨0, 0, 0, 0⟩ } }
     s.sys.fw.isSome = true ∧ celWaits s = true) := by decide

theorem witness_RegisterAccessesByTheirCodes :
    (0#4 ≠ 0xF) ∧ Reaches (.part 0) .flt ready ∧ ((7 : Fin 8) ≠ 0 ∧ 0x200000 ≤ 4 * (0x80000#24).toNat ∧ blkHeld ready .hif = false) ∧
    (blkHeld ready .red = false ∧ BusAwake (.part 3) ready ∧ behind ready (.part 3) none = false ∧ BusAwake (.part 7) ready ∧ latched? ready (.part 3) (R.RED_REPL_TX_LO.addr []) = none) ∧
    (let s := hold (.part 0) (R.XPT_GEN_SLATE_LO.addr [63]) 0xFFFFF000#32 ready
     Reaches (.part 0) .xpt s ∧ heldLow? s (.part 0) (R.XPT_GEN_SLATE_LO.addr [63]) = some 0xFFFFF000#32) := by decide

theorem witness_CellarReadsBackItsWrites : inCellar (2 ^ 34 - 1) [0xFF#8].length = true ∧ celWaits (ready.p F.CEL_STAT_STATE [] 1) = false ∧
    celWaits ready = true := by decide

theorem witness_BulkDataPortMovesData :
    (let s := ((ready.p F.CEL_STAT_STATE [] 1).p F.HIF_BDP_CTRL_EN [0] 1)
     BulkAwake 0 s ∧ behind s (.part 0) (some 0) = false ∧ apertureFits 1020 [0xFFFFFFFF#32].length = true ∧ blkHeld s .hif = false ∧ s.on F.HIF_BDP_CTRL_EN [0] = true ∧
       s.on F.HIF_BDP_CTRL_DIR [0] = false ∧ s.on F.HIF_BDP_CTRL_SPACE [0] = false ∧ s.on F.CEL_STAT_TRAIN_FAIL [] = false ∧
       celWaits s = false ∧ bdpOut s 0 (bdpAddr s 0 4080) = false) ∧
    (let s := ((ready.p F.CEL_STAT_STATE [] 1).p F.HIF_BDP_CTRL_EN [0] 1).p F.HIF_BDP_CTRL_DIR [0] 1
     apertureFits 1023 1 = true ∧ s.on F.HIF_BDP_CTRL_EN [0] = true ∧ s.on F.HIF_BDP_CTRL_DIR [0] = true ∧
       s.on F.HIF_BDP_CTRL_SPACE [0] = false ∧ s.on F.CEL_STAT_TRAIN_FAIL [] = false ∧ bdpOut s 0 (bdpAddr s 0 4092) = false ∧
       wordsOf (bdpAddr s 0 4092) 4 = [4064] ∧ celUe s 4064 = false) ∧
    (let s := ((ready.p F.HIF_BDP_CTRL_EN [0] 1).p F.HIF_BDP_CTRL_SPACE [0] 1).p F.HIF_BDP_ADDR_LO_W_LO [0] 0x20000
     BulkAwake 0 s ∧ s.on F.HIF_BDP_CTRL_EN [0] = true ∧ s.on F.HIF_BDP_CTRL_SPACE [0] = true ∧ bdpAddr s 0 0 = 0x20000000 ∧
       apertureFits 0 1024 = true ∧ s.on F.HIF_BDP_CTRL_DIR [0] = false ∧ s.eng.pend = [] ∧ s.engOn 63 = false) ∧
    behind (celHoldReq (.bdpRead 3 0 1) ready) (.part 3) (some 3) = true ∧
    ReachesPage (.part 7) .hif 7 ready ∧ latched? ready .mgmt (R.HIF_BDP_STAT.addr [8]) = none ∧ BusAwake .mgmt ready := by decide

theorem witness_ManagementPortAnswers :
    blkHeld ready .hif = false ∧ blkHeld ready .flt = false ∧ Reaches .mgmt .hif ready ∧ (0x3FFFFFF#32).toNat < 2 ^ 26 ∧
    2 ^ 26 ≤ (0x4000000#32).toNat ∧ (1 ≤ (128#16).toNat ∧ (128#16).toNat ≤ 128) ∧ 128 < (129#16).toNat ∧
    1 ≤ [0#32].length ∧ ¬ 0xFF#8 ∈ mgmtOpcodes ∧ BusAwake .mgmt ready ∧ behind ready .mgmt none = false ∧ findReg 0x3FFFFFC = none ∧
    ((findReg (R.HIF_ID.addr [])).map (·.1.base) = some R.HIF_ID.base ∧ regHeld ready R.HIF_ID = false ∧ highOf R.HIF_ID = none) ∧
    behind (holdBack .mgmt (.regRead .mgmt 0) ready) .mgmt (some 8) = true ∧
    (let s := (ready.p F.CEL_STAT_STATE [] 1).p F.HIF_BDP_CTRL_EN [8] 1
     BulkAwake 8 s ∧ behind s .mgmt (some 8) = false ∧ celWaits s = false ∧ s.on F.HIF_BDP_CTRL_EN [8] = true ∧
       s.on F.HIF_BDP_CTRL_DIR [8] = false ∧ s.on F.HIF_BDP_CTRL_SPACE [8] = false ∧ s.on F.CEL_STAT_TRAIN_FAIL [] = false ∧
       bdpOut s 8 (bdpAddr s 8 s.cmd.mgmtOfs) = false) ∧
    (let s := ((ready.p F.CEL_STAT_STATE [] 1).p F.HIF_BDP_CTRL_EN [8] 1).p F.HIF_BDP_CTRL_DIR [8] 1
     s.on F.HIF_BDP_CTRL_DIR [8] = true ∧ celUe s 0 = false) := by decide

theorem witness_FaultsLatchRepeatAndMask :
    (let s := { ready with flt := { ready.flt with windows := [(17, 1)] } }
     s.sys.por = false ∧ s.sys.rstLow = false ∧ masked s (srcBlock 328) = true ∧ s.g F.FLT_SRC_CFG_CLASS [328] ≠ 3) ∧
    (let s := ready.wr R.FLT_SRC_STAT [0] 0xE0000000#32
     masked s (srcBlock 0) = false ∧ latched s 0 = true ∧ latchClass s 0 = 3) ∧
    (masked ready (srcBlock 0) = false ∧ latched ready 0 = false ∧ ready.g F.FLT_SRC_CFG_CLASS [0] ≤ 1 ∧
      ready.on F.FLT_SRC_CFG_RESET_BLK [0] = false ∧ inRecovery ready = false ∧ ready.on F.FLT_FIRST_VALID [] = false) ∧
    State.reset.sys.por = true ∧
    (Reaches .mgmt .flt ready ∧ latched ready 332 = false ∧ F.FLT_SRC_CFG_CLASS.of 0x20000000#32 ≤ 1 ∧
      F.FLT_SRC_CFG_RESET_BLK.of 0x20000000#32 = 0) := by decide

theorem witness_FaultsAcknowledgeAndConfigure :
    (let s := ready.wr R.FLT_SRC_STAT [332] 0x80000000#32
     Reaches .mgmt .flt s ∧ s.flt.fatal = false ∧ latched s 332 = true ∧ s.on F.FLT_SRC_STAT_COND [332] = false) ∧
    (ready.wr R.FLT_SRC_STAT [0] 0x88000000#32).on F.FLT_SRC_STAT_COND [0] = true ∧
    F.FLT_SAFE_KIND.of 0#32 = 0 ∧ 2 ≤ F.FLT_SAFE_KIND.of 0x80000000#32 ∧
    (F.FLT_SAFE_KIND.of 0x40000000#32 = 1 ∧ safeNamed ready 1279 7 (0x40000000#32).toNat = false) ∧
    (10 ≤ F.FLT_CFG_MASK_WIN.of 1000#32 ∧ F.FLT_CFG_MASK_WIN.of 1000#32 ≤ 1000) ∧ F.FLT_CFG_MASK_WIN.of 9#32 < 10 ∧
    1000 < F.FLT_CFG_MASK_WIN.of 1001#32 := by decide

theorem witness_ProtectionAndFunctionResets :
    (Reaches .mgmt .hif ready ∧ writtenWord R.HIF_DST_OWN [1151] 7#32 0#32 ≠ 0#32 ∧ ready.rd R.HIF_DST_OWN [1151] = 0) ∧
    writtenWord R.HIF_DST_OWN [1152] 7#32 0#32 = 0#32 ∧ ReachesPage (.part 7) .hif 7 ready := by decide

theorem witness_PcieLinkAndInterrupts :
    (ready.p F.HIF_LINK_UP [] 1).on F.HIF_LINK_UP [] = true ∧ ready.on F.HIF_LINK_UP [] = false ∧
    ({ ready with cmd := { ready.cmd with perst := false } } : State).cmd.perst = false ∧
    (let s := { (ready.p F.HIF_PART_STAT_BME [7] 1).wr R.HIF_IRQ_MAP [7] 0x100F8000#32 with
       cmd := { ready.cmd with holdoffs := [⟨7, 3, 0, true⟩], unmasked := [(7, 31)], pba := [(7, 0)] } }
     s.cmd.holdoffs.find? (fun y => y.part == 7 && y.cause == 3) = some ⟨7, 3, 0, true⟩ ∧ causeVector s 7 3 = some 31 ∧
       (7, 31) ∈ s.cmd.unmasked ∧ s.on F.HIF_PART_STAT_BME [7] = true ∧ (7, 0) ∈ s.cmd.pba) ∧
    ({ ready with eng := { ready.eng with engReads := [(63, 3)] } } : State).eng.oldReads = [] ∧ 8 ∈ [1, 2, 4, 8] ∧
    ([(⟨0, 0, 0, false⟩ : Holdoff)].find? (fun y => y.part == 0 && y.cause == 0)) = some ⟨0, 0, 0, false⟩ ∧
    (ready.p F.NOC_ERR_VALID [] 1).on F.NOC_ERR_VALID [] = true ∧ ready.on F.NOC_ERR_VALID [] = false := by decide

theorem witness_CellarControllerStates :
    (let s := ready.wr R.CEL_LOAD [] 1#32
     Reaches .mgmt .cel s ∧ F.CEL_CFG_GRAIN.of 8#32 ≠ s.g F.CEL_CFG_GRAIN [] ∧ F.CEL_CFG_GRAIN.of 8#32 ≤ 8 ∧ celIdle s = false) ∧
    (Reaches .mgmt .cel ready ∧ celIdle ready = true) ∧
    (let s := startTraining ready
     s.cel.training = true ∧ s.g F.CEL_STAT_STATE [] = 3 ∧ s.cel.wait = []) ∧
    (let s := { ready.p F.CEL_STAT_STATE [] 1 with ticks := 50000 }
     s.on F.CEL_CFG_SR_EN [] = true ∧ s.g F.CEL_SR_CFG_SR_IDLE [] = 100 ∧ s.g F.CEL_STAT_STATE [] = 1 ∧
       s.cel.lastReq + 500 * s.g F.CEL_SR_CFG_SR_IDLE [] ≤ s.ticks ∧ getD 0 s.cel.refAt 1023 + refreshTicks s ≤ s.ticks ∧
       s.on F.CEL_CFG_SCRUB_EN [] = true) ∧
    (let s := { ready.p F.CEL_STAT_STATE [] 1 with xpt := { ready.xpt with genOn := [(63, { cfg := 0x81400000#32, slate := 4096 })] } }
     (∀ x, CelReader.slate 63 3 ≠ .scrub x) ∧ s.cel.training = false ∧ s.g F.CEL_STAT_STATE [] = 1 ∧
       lineAt s (.slate 63 3) = some (34816, 10240) ∧ inCellar 34816 10240 = true ∧ ∀ w ∈ wordsOf 34816 10240, celFlips (upsetWords [] s) w < 2) ∧
    (let s := { ready.p F.CEL_STAT_STATE [] 1 with ticks := 24 * 1800000000000, cel := { ready.cel with scrubPos := 2 ^ 34 - 32, flips := [(celLoc 4096 (2 ^ 34 - 32) / 32, 1)] } }
     s.g F.CEL_STAT_STATE [] = 1 ∧ s.on F.CEL_CFG_SCRUB_EN [] = true ∧ inCellar ((2 ^ 34 - 1) / 32 * 32) 32 = true ∧
       (2 ^ 34 - 1) / 32 * 32 = s.cel.scrubPos ∧ celFlips (upsetWords [] s) s.cel.scrubPos = 1 ∧
       s.cel.scrubAt + s.g F.CEL_SCRUB_PERIOD [] * 1800000000000 ≤ s.ticks) ∧
    ((ready.p F.CEL_STAT_STATE [] 2).g F.CEL_STAT_STATE [] = 2 ∧ ready.cel.training = false) ∧
    ({ ready with cel := { ready.cel with exiting := true } } : State).cel.exiting = true := by
  refine ⟨?_, ?_, ?_, ?_, ?_, ?_, ?_, ?_⟩ <;> first | decide | exact ⟨fun _ => by simp, by decide⟩

theorem witness_MonitorsTickCopyAndClear :
    (ready.sys.por = false ∧ ready.sys.rstLow = false ∧ [(0, 8, 0, 0)].find? (fun x => x.1 == 0) = some (0, 8, 0, 0)) ∧
    (Reaches .mgmt .pmu ready ∧ ready.on F.SYS_BLK_RESET_PMU [] = false ∧ ready.on F.PMU_HIST_CFG_EN [31] = false ∧
      F.PMU_HIST_CFG_CLEAR.of 0x80000000#32 = 0) ∧
    (let s := ready.p F.PMU_HIST_CFG_EN [31] 1
     Reaches .mgmt .pmu s ∧ s.on F.SYS_BLK_RESET_PMU [] = false ∧ s.on F.PMU_HIST_CFG_EN [31] = true ∧
       F.PMU_HIST_CFG_SEL.of 0x1C000000#32 ≠ s.g F.PMU_HIST_CFG_SEL [31] ∧
       F.PMU_HIST_STAT_WINDOW.of 1#32 ≠ s.g F.PMU_HIST_STAT_WINDOW [31]) := by decide

theorem witness_RingsEnableAndDoorbells :
    (let s := ((ready.p F.CMD_RING_CFG_EN [7, 7] 1).p F.CMD_CPL_CFG_EN [7] 1).p F.CMD_EVT_CFG_EN [7] 1
     blkHeld s .cmd = false ∧ s.on F.CMD_RING_CFG_EN [7, 7] = true ∧
       (15#32).toNat % 2 ^ 15 < ringEntries (s.g F.CMD_RING_CFG_SIZE [7, 7]) ∧ ReachesPage (.part 7) .cmd 7 s ∧
       s.on F.CMD_CPL_CFG_EN [7] = true ∧ s.on F.CMD_EVT_CFG_EN [7] = true) ∧
    ((0 : Fin 8) ≠ 7 ∧ blkHeld ready .hif = false ∧ ready.on F.CMD_RING_CFG_EN [7, 7] = false ∧ ready.on F.CMD_CPL_CFG_EN [7] = false ∧
      ready.on F.CMD_EVT_CFG_EN [7] = false ∧ F.CMD_RING_CFG_SIZE.of 0x2B000000#32 = 11 ∧ F.CMD_RING_CFG_VERSION.of 0x2B000000#32 = 2 ∧
      bitOf (ready.g F.CMD_CAPS_VERSIONS []) 1 = true ∧ 11 < F.CMD_RING_CFG_SIZE.of 0x1C000000#32 ∧
      F.CMD_CPL_CFG_SIZE.of 0x0B000000#32 ≤ 11 ∧ F.CMD_EVT_CFG_SIZE.of 0x0B000000#32 ≤ 11) := by decide

theorem witness_RingsFetchAndWriteRecords :
    (let s := { ((((ready.p F.CMD_RING_CFG_EN [7, 7] 1).p F.CMD_CPL_CFG_EN [7] 1).p F.CMD_EVT_CFG_EN [7] 1).p
         F.HIF_PART_STAT_BME [7] 1).p F.CMD_RING_PTR_TAIL [7, 7] 1 with
       cmd := { ready.cmd with flight := [⟨7, 7, 0, 1⟩], evq := [⟨7, 1, 0, 0, 0, 0, 0, 0, 0⟩],
                               due := [⟨⟨0, 7, 7, 1, 0, 0, 0, false, true, false, false, 0, 0, 0, 0, false, 0⟩, 0, 0, 0, 0, 0, 0, 0⟩] } }
     s.cmd.flight.find? (fun y => y.part == 7 && y.ring == 7) = some ⟨7, 7, 0, 1⟩ ∧ evtSlotFree s 7 = true ∧
       (s.cmd.due.find? (fun y => y.tok.part == 7)).isSome = true ∧ s.on F.HIF_PART_STAT_BME [7] = true ∧
       s.on F.CMD_CPL_CFG_EN [7] = true ∧
       (s.g F.CMD_CPL_PTR_WRITE [7] + 1) % ringEntries (s.g F.CMD_CPL_CFG_SIZE [7]) ≠ s.g F.CMD_CPL_PTR_HOST_HEAD [7] ∧
       s.on F.PMU_SAMP_CFG_LAT_EN [] = false ∧ (s.cmd.evq.find? (fun y => y.part == 7)).isSome = true) ∧
    (let s := ((((ready.p F.CMD_RING_CFG_EN [7, 7] 1).p F.CMD_CPL_CFG_EN [7] 1).p F.HIF_PART_STAT_BME [7] 1).p
         F.CMD_RING_PTR_TAIL [7, 7] 1)
     (fetchable s 7 7).2 = 1 ∧ nextFetch s = some (7, 7)) ∧
    (let s := (((ready.p F.CMD_EVT_CFG_EN [7] 1).p F.HIF_PART_STAT_BME [7] 1).p F.CMD_EVT_STAT_PENDING [7] 1).p F.CMD_EVT_MASK_MASK [7] 1
     bitOf (s.g F.CMD_EVT_MASK_MASK [7]) 0 = true ∧ 0 < s.g F.CMD_EVT_STAT_PENDING [7] ∧ s.cmd.evq = [] ∧ evtSlotFree s 7 = true) := by decide

theorem witness_LayoutWritesNeedWholeGroups :
    Reaches .mgmt .xpt ready ∧ (∀ e ∈ liveEntries ready ++ loftEntries ready, eValid e.2 = true → (eSource e.2).1 ≠ 1151) ∧
    (∀ e ∈ liveEntries ready ++ loftEntries ready, eValid e.2 = true → e.1 / 8 ≠ 1151) ∧
    layoutComplete 0x33333333#32 = true ∧ layoutComplete 0x13030303#32 = true ∧ layoutComplete 0x00000003#32 = false := by decide

theorem witness_CrossingsProbeAndParity :
    (Reaches .mgmt .xpt ready ∧ F.XPT_XING_CFG_MODE.of 1#32 = 1 ∧ F.XPT_XING_CFG_MODE.of 0#32 = 0) ∧
    (let s := { (ready.p F.ZL_LANE_STAT_UP [575] 1).p F.XPT_XING_STAT_FIXED_ACTIVE [] 1 with
        xpt := { ready.xpt with fixedDue := [575], fixed := [3] } }
     575 ∈ s.xpt.fixedDue ∧ laneUp s 575 = true ∧ s.on F.XPT_XING_STAT_FIXED_ACTIVE [] = true ∧ 3 ∈ s.xpt.fixed) ∧
    (ready.on F.SYS_BLK_RESET_XPT [] = false ∧ ready.on F.XPT_PROBE_CTRL_ARM [] = false) ∧
    (let r : LineRec := ⟨1, 0, 1, 0, [5, 7]⟩
     let s := { (ready.p F.XPT_PROBE_CTRL_ARM [] 1).p F.XPT_PROBE_CTRL_TRIG [] 1 with xpt := { ready.xpt with probe := some r } }
     s.xpt.probe = some r ∧ r.words[0]? = some 5 ∧ s.on F.XPT_PROBE_CTRL_ARM [] = true ∧ s.on F.XPT_PROBE_CTRL_TRIG [] = true) ∧
    ready.xpt.probe = none ∧
    (let s := ready.wr R.XPT_LIVE [8 * 9] (entryWord true false 1 0 3 0)
     ∃ e ∈ liveEntries s ++ loftEntries s, eValid e.2 = true ∧ (eSource e.2).1 = 3 ∧ e.1 / 8 = 9) := by decide

theorem witness_GeneratorsFollowTheirConfiguration :
    (Reaches .mgmt .xpt ready ∧ genLead ready 63 = 63 ∧ genRefused ready 63 0xC0200000#32 = false ∧
      genCharge ready (ready.rd R.XPT_GEN_CFG [63]) = 0 ∧ genCharge ready 0xC0200000#32 = 0 ∧
      withinBudget ready (ready.g F.CEL_LOAD_LOAD []) = true ∧ genRefused ready 63 0x80000000#32 = true) ∧
    (let s := ready.p F.CEL_STAT_TRAIN_FAIL [] 1
     genRefused s 63 0xC1400000#32 = false ∧ admits ready (genCharge ready (ready.rd R.XPT_GEN_CFG [63])) (genCharge ready 0xC1400000#32) = true ∧ admits s (genCharge s (s.rd R.XPT_GEN_CFG [63])) (genCharge s 0xC1400000#32) = false) ∧
    (let s := ready.p F.XPT_GEN_CFG_CLASS [60] 5
     Reaches .mgmt .xpt s ∧ genLead s 63 ≠ 63) ∧
    (let s := { ready.setCad 0 { running := true, line := 1, frameTick := 5000 } with
        xpt := { (ready.setCad 0 { running := true, line := 1, frameTick := 5000 }).xpt with genWait := [(63, ⟨some 5000⟩)] } }
     find? s.xpt.genWait 63 = some ⟨some 5000⟩ ∧ (s.cad (s.g F.XPT_GEN_CFG_CADENCE [63])).running = true ∧
       (s.cad (s.g F.XPT_GEN_CFG_CADENCE [63])).line = 1 ∧ (s.cad (s.g F.XPT_GEN_CFG_CADENCE [63])).frameTick = 5000) ∧
    F.XPT_GEN_STAT_CLR_REPEATS.of 4#32 = 1 := by decide

theorem witness_LanesTrainAndFail :
    (Reaches .mgmt .zl ready ∧ F.ZL_LANE_CTRL_TEST.of 0x3#32 = 0 ∧ F.ZL_LANE_CTRL_CTLE_MANUAL.of 0x3#32 = 0 ∧
      F.ZL_LANE_CTRL_RX_EN.of (F.ZL_LANE_CTRL_RX_EN.into 1 0) = 1 ∧ F.ZL_LANE_CTRL_RX_EN.of 0#32 = 0 ∧
      ready.g F.ZL_LANE_STAT_TRAIN_STATE [583] = 0 ∧ laneUp ready 583 = false) ∧
    (let at_ := fun (st : Nat) (x : LaneHid) =>
        { ((ready.p F.ZL_LANE_CTRL_RX_EN [575] 1).p F.ZL_LANE_STAT_TRAIN_STATE [575] st).setLane 575 x with ticks := 600000 }
     (at_ 1 {}).on F.ZL_LANE_CTRL_RX_EN [575] = true ∧ (at_ 1 {}).g F.ZL_LANE_STAT_TRAIN_STATE [575] = 1 ∧
     (at_ 1 {}).on F.ZL_LANE_CTRL_CTLE_MANUAL [575] = false ∧ ((at_ 1 {}).p F.ZL_LANE_CTRL_CTLE_MANUAL [575] 1).on F.ZL_LANE_CTRL_CTLE_MANUAL [575] = true ∧
     usTicks 1024 ≤ (at_ 1 {}).ticks - ((at_ 1 {}).lane 575).since ∧ runsZl (at_ 2 {}) 575 = true ∧
     4 ≤ ((at_ 3 { passes := 4 }).lane 575).passes ∧ 8 ≤ ((at_ 4 { passes := 8 }).lane 575).passes ∧
     4 ≤ ((at_ 5 { useEq := 4, use := 2 }).lane 575).useEq ∧ (at_ 5 { useEq := 4 }).g F.ZL_LANE_STAT_TRAIN_STATE [575] = 5 ∧
     trainLimit ((at_ 1 {}).g F.ZL_LANE_STAT_TRAIN_STATE [575]) = some (usTicks 1200, 7) ∧
     usTicks 1200 ≤ (at_ 1 {}).ticks - ((at_ 1 {}).lane 575).since ∧ (at_ 7 {}).g F.ZL_LANE_STAT_TRAIN_STATE [575] = 7) ∧
    (quadOn (ready.p F.ZL_LANE_CTRL_TX_EN [583] 1) 145 = true ∧ quadOn ready 145 = false ∧ ready.g F.ZL_QUAD_CFG_REFCLK [145] = 0 ∧
      ({ ready with sys := { ready.sys with clk := 1 } } : State).sys.clk.getLsbD 0 = true ∧
      ({ ready with sys := { ready.sys with clk := 0 } } : State).sys.clk.getLsbD 0 = false) ∧
    (let s := { (ready.p F.ZL_LANE_STAT_UP [575] 1).p F.ZL_QUAD_STAT_PLL_LOCK [143] 1 with zl := { windows := [(126, 0, [575])] } }
     laneUp s 575 = true ∧ runsZl s 575 = true ∧ s.on F.ZL_QUAD_STAT_PLL_LOCK [143] = true ∧
       s.zl.windows.find? (fun x => x.1 == 126) = some (126, 0, [575])) := by decide

theorem witness_LanesTestFramesAndEyes :
    (Reaches .mgmt .zl ready ∧ ready.on F.SYS_BLK_RESET_ZL [] = false) ∧
    (let s := ((ready.p F.ZL_LANE_PRBS_CHK_EN [583] 1).p F.ZL_LANE_PRBS_CHK_LOCK [583] 1).p F.ZL_LANE_EYE_CTRL_RUN [583] 1
     s.on F.ZL_LANE_PRBS_CHK_EN [583] = true ∧ s.on F.ZL_LANE_PRBS_CHK_LOCK [583] = true ∧
       prbsRun (prbsForm 1) true [] ((s.lane 583).chk, true, 0) = ({}, true, 0) ∧ 0 < (1 : Nat) ∧ 1 < 2 ^ (prbsForm 4).1 ∧ s.on F.ZL_LANE_EYE_CTRL_RUN [583] = true) ∧
    (ready.on F.ZL_LANE_EYE_CTRL_RUN [583] = false ∧ laneUp ready 583 = false) ∧
    (let s := { (ready.p F.ZL_LANE_STAT_TRAIN_STATE [575] 3).p F.ZL_LANE_CTRL_TX_EN [575] 1 with
        zl := { ready.zl with ready := [(8 * 1151 + 7, ⟨1, 0, 1, 0, [nullWord]⟩)] } }
     runsZl s 575 = true ∧ s.g F.ZL_LANE_STAT_TRAIN_STATE [575] = 3 ∧ ¬ Blk.zl ∈ s.sys.held ∧ s.on F.ZL_LANE_CTRL_TX_EN [575] = true ∧
       s.g F.ZL_LANE_CTRL_TEST [575] = 0 ∧ packetSlot s 1151 = false ∧ (nextRecord s 1151 7).1 = none ∧
       s.zl.ready.find? (fun x => x.1 == 8 * 1151 + 7) = some (8 * 1151 + 7, ⟨1, 0, 1, 0, [nullWord]⟩)) ∧
    (let s := { ready.p F.ZL_LANE_STAT_UP [575] 1 with
        zl := { ready.zl with ready := [(8 * 1151 + 7, ⟨1, 0, 1, 0, [nullWord]⟩)] } }
     laneUp s (1151 / 2) = true ∧ packetSlot s 1151 = false ∧ (nextRecord s 1151 7).1 = some ⟨1, 0, 1, 0, [nullWord]⟩) ∧
    (let s := { ready.p F.ZL_QUAD_CFG_MODE [15] 1 with flw := { ready.flw with ready := [(8 * 127 + 7, ⟨1, 0, 1, 0, [nullWord]⟩)] } }
     packetSlot s 127 = true ∧ find? s.flw.ready (8 * 127 + 7) = some ⟨1, 0, 1, 0, [nullWord]⟩) := by decide

def openPort : State :=
  let s := ((((ready.p F.ZL_QUAD_CFG_MODE [15] 2).p F.ETH_MAC_CFG_RX_EN [15, 3] 1).p F.ETH_HRING_CFG_RX_EN [15, 3] 1).p
    F.HIF_PART_STAT_BME [0] 1).p F.ETH_HRING_TAIL_RX_TAIL [15, 3] 1
  { s with flw := { ports := [(63, { paused := [(7, 0)], wire := some (⟨7, [1, 2], none, none⟩, 0, 0, 0) })] } }

theorem witness_EthernetFramesAreJudgedAndCounted :
    (rxOpen openPort 15 3 = true ∧ badFrame openPort 15 3 (List.replicate 20 0) false = some 17) ∧
    (let b := (List.replicate 6 (0xFF : Byte)) ++ List.replicate 54 0
     let f := b ++ leBytes 4 (fcs b)
     badFrame openPort 15 3 f false = none ∧ nb f 12 2 ≠ 0x8808 ∧ flowOf openPort 15 3 f = none ∧ hostReason openPort 15 3 f = some 1 ∧
       f.length ≤ bitsOf (0x1000#256 <<< 64).toNat 77 64) ∧
    (openPort.on F.ETH_HRING_CFG_RX_EN [15, 3] = true ∧ openPort.on F.HIF_PART_STAT_BME [0] = true ∧
      openPort.g F.ETH_HRING_HEAD_RX_HEAD [15, 3] ≠ openPort.g F.ETH_HRING_TAIL_RX_TAIL [15, 3]) ∧
    (find? (openPort.port 15 3).paused 7 = some 0 ∧ (openPort.port 15 3).wire = some (⟨7, [1, 2], none, none⟩, 0, 0, 0)) ∧
    (subExists openPort 15 3 = true ∧ Reaches .mgmt .eth openPort ∧ openPort.on F.ETH_HRING_CFG_TX_EN [15, 3] = false ∧
      F.ETH_HRING_CFG_TX_EN.of 0x80000000#32 = 1 ∧ ¬ Blk.eth ∈ openPort.sys.held ∧
      openPort.on F.ETH_LINK_STAT_LINK_UP [15, 3] = false ∧ openPort.on F.ETH_TXQ_CFG_PFC_EN [15, 3] = true ∧
      noFec openPort 15 3 = false ∧ noFec (openPort.p F.ETH_MAC_CFG_FEC [15, 3] 2) 15 3 = true) := by decide

def flowState (e : BitVec 512) (rx : FlowRx) (tx : FlowTx) : State :=
  { ready.p F.FLW_STAT_LEG_OK [16383] 1 with ticks := 100000000, flw := { tbl := [(16383, e)], rx := [(16383, rx)], tx := [(16383, tx)] } }

theorem witness_PacketFlowsSendAndPlay :
    (let e : BitVec 512 := BitVec.ofNat 512 0xC0000000
     let a : BitVec 512 := BitVec.ofNat 512 0xD0000000
     let s := (flowState e {} { pkts := [⟨[1], 0, 8100000000000⟩] }).p F.FLW_CFG_TX_ANY_STATE [] 1
     let x : FlowTx := { pkts := [⟨[1], 0, 8100000000000⟩] }
     (txFlows s).find? (fun y => y.1 == 16383 && !y.2.2.1.pkts.isEmpty) = some (16383, e, x, false) ∧
       fKind e ≠ 1 ∧ linesPassed s (fCad s e) 1 (s.ticks - 0) = true ∧ 8100000000000 ≤ s.ticks * 81000 ∧ fKind a = 1 ∧ flowsLeave s = true ∧
       queueBytes (s.port (fPort e) (fSub e)) (fQueue e) = 0) ∧
    (let e : BitVec 512 := BitVec.ofNat 512 0x80000000
     let s := flowState e { from_ := some 5, g0 := some 0, empty := 16 } {}
     (s.frx 16383).from_ = some 5 ∧ fValid (s.flow 16383) = true ∧ 5 ≤ s.ticks ∧ leads s 16383 = true ∧ (s.frx 16383).g0 = some 0 ∧
       0 + (s.frx 16383).next * lineU s (fCad s (s.flow 16383)) + fDelay (s.flow 16383) * 40500 ≤ s.domU (fDomain (s.flow 16383)) ∧
       fTx (s.flow 16383) = false ∧ (fPair (s.flow 16383) && fSecondary (s.flow 16383)) = false ∧ isLost s 16383 = false ∧
       16 ≤ (s.frx 16383).empty) ∧
    (let s := flowState (BitVec.ofNat 512 0x90100000) {} {}
     fPair (s.flow 16383) = true ∧ s.on F.FLW_STAT_LEG_OK [16383] = true ∧ fKind (s.flow 16383) = 1) ∧
    Reaches .mgmt .flw ready := by decide

theorem witness_IncrementsAreTakenWithin1000Ppm :
    Reaches .mgmt .ptp ready ∧ (((0x00020083126E978D#64).toNat : Int) - 2 ^ 49).natAbs * 10 ^ 6 ≤ 1000 * 2 ^ 49 ∧
    1000 * 2 ^ 49 < (((0x00020083126E978E#64).toNat : Int) - 2 ^ 49).natAbs * 10 ^ 6 ∧
    ready.sys.por = false ∧ ready.sys.rstLow = false := by decide

theorem witness_CountersStepAndAreRead :
    (ready.sys.por = false ∧ ready.sys.rstLow = false ∧ State.reset.sys.por = true) ∧ Reaches .mgmt .ptp ready ∧
    (let s := { ready with ptp := { ready.ptp with txts := [(63, [⟨65535, 1, 2, 1⟩])] } }
     blkHeld s .ptp = false ∧ getD [] s.ptp.txts (4 * 15 + 3) = [⟨65535, 1, 2, 1⟩]) ∧
    getD [] ready.ptp.txts (4 * 15 + 3) = [] := by decide

theorem witness_ReferencesAreWatchedAndTracked :
    (let s := ready.p F.REF_IN_CFG_ENABLE [5] 1
     s.on F.REF_IN_CFG_ENABLE [2 + 3] = true ∧ s.g F.REF_IN_SRC_POL [2 + 3] = b2n (!true) ∧ ¬ Blk.ref ∈ s.sys.held ∧
       refValid s 5 = false ∧ refCond s 5 = true ∧ freqIn s 5 1000000 = true ∧ freqIn s 5 12700001 = false ∧
       ({ s with ref := { s.ref with lockN := 999 } } : State).ref.lockN = 999 ∧ s.ref.selAt ≤ s.ticks ∧ frozen s = false ∧ dpllTracks s = false) ∧
    (let s := { (ready.p F.REF_IN_STAT_VALID [14] 1).p F.REF_DPLL_STAT_STATE [] 2 with
        ticks := 5000000000000, ref := { current := some 14, holdEnd := some 3, wtr := [(14, 3)], failed := [14], lockSecs := 70000, lockBad := true } }
     refValid s 14 = true ∧ refCond s 14 = false ∧ s.ref.lockBad = true ∧ ¬ Blk.ref ∈ s.sys.held ∧ s.ref.current = some 14 ∧ dpllTracks s = true ∧ s.ref.holdEnd = some 3 ∧ 3 ≤ s.ticks ∧
       find? s.ref.wtr 14 = some 3 ∧ frozen s = false ∧ dpllState s = 2 ∧ s.ref.histAt < s.ticks ∧
       msTicks (1000 * s.g F.REF_HO_CFG_HIST_INT []) ≤ s.ticks - s.ref.histAt ∧ s.g F.REF_HO_CFG_AVG_S [] ≤ s.ref.lockSecs) ∧
    (let s := ready.p F.REF_DPLL_STAT_STATE [] 3
     dpllState s = 3 ∧ s.ref.hoNext ≤ s.ticks) ∧ dpllState (ready.p F.REF_DPLL_STAT_STATE [] 1) = 1 ∧
    10 ≤ ({ ready with ref := { ready.ref with lockGood := 10 } } : State).ref.lockGood := by decide

theorem witness_CalendarPulsesAndLag :
    (Reaches .mgmt .ref ready ∧ realDate (F.REF_CAL_SET_YEAR.of 0x07D0021D#32) (F.REF_CAL_SET_MONTH.of 0x07D0021D#32)
        (F.REF_CAL_SET_DAY.of 0x07D0021D#32) = true ∧
      realDate (F.REF_CAL_SET_YEAR.of 0x0834021D#32) (F.REF_CAL_SET_MONTH.of 0x0834021D#32) (F.REF_CAL_SET_DAY.of 0x0834021D#32) = false) ∧
    (let s := ready.p F.REF_LEAP_PENDING [] 1
     s.g F.REF_LEAP_PENDING [] = 1 ∧ utcSeconds s % 86400 = 0) ∧
    (let s := { ready.p F.REF_LEAP_PENDING [] 2 with ptp := { tc0 := { sec := 86399 } } }
     s.g F.REF_LEAP_PENDING [] = 2 ∧ utcSeconds s % 86400 = 86399) ∧
    (let s := { ((ready.p F.REF_SYNC_OUT_ENABLE [3] 1).p F.REF_SYNC_OUT_TYPE [3] 2).p F.REF_PPS_OUT_ENABLE [] 1 with
        ref := { h := 2 * 10 ^ 9 * hUnit } }
     s.on F.REF_SYNC_OUT_ENABLE [3] = true ∧ getD 0 s.ref.pulses 3 < pulseBefore s 3 ∧ s.on F.REF_PPS_OUT_ENABLE [] = true ∧
       getD 0 s.ref.pulses 4 < pulseBefore s 4) ∧
    (cadOn ready 7 = false ∧ (33366666 : Nat) * (rateOf (ready.g F.XPT_CAD_CFG_RATE [7])).1 <
      (rateOf (ready.g F.XPT_CAD_CFG_RATE [7])).2 * 10 ^ 9 + 30000 * 10 ^ 9 ∧
      (rateOf (ready.g F.XPT_CAD_CFG_RATE [7])).2 * 10 ^ 9 ≤ 4000000000 * (rateOf (ready.g F.XPT_CAD_CFG_RATE [7])).1) := by decide

theorem witness_CadencesAreSetUpAndRun :
    (let w := ready.rd R.XPT_CAD_CFG [7]
     Reaches .mgmt .xpt ready ∧ cadCfgRefused ready 7 (writtenWord R.XPT_CAD_CFG [7] 0 w) = true ∧
       cadCfgRefused ready 7 (writtenWord R.XPT_CAD_CFG [7] w w) = false ∧ cadOn ready 7 = false ∧
       F.XPT_CAD_CFG_ENABLE.of w = ready.g F.XPT_CAD_CFG_ENABLE [7] ∧ F.XPT_CAD_CFG_FORMAT.of w = ready.g F.XPT_CAD_CFG_FORMAT [7] ∧
       F.XPT_CAD_CFG_RATE.of w = ready.g F.XPT_CAD_CFG_RATE [7] ∧
       cadCfgRefused ready 7 (writtenWord R.XPT_CAD_CFG [7] (w ||| 0x80000000#32) w) = false) ∧
    (let s := { (ready.p F.XPT_CAD_CFG_ENABLE [7] 1).setCad 7 { running := true, frame := 3, line := 1125, n := 4499 } with
        ref := { h := 2 ^ 120 } }
     let w := s.rd R.XPT_CAD_CFG [7]
     (s.cad 7).running = true ∧ cadOn s 7 = true ∧ cadCfgRefused s 7 (writtenWord R.XPT_CAD_CFG [7] (w &&& 0x7FFFFFFF#32) w) = false ∧
       (nextLine s 7).isSome = true ∧ s.xpt.judging = [] ∧ s.xpt.salvoEnds = []) ∧
    (let s := (ready.p F.XPT_CAD_CFG_ENABLE [7] 1).setCad 7 { startN := some 0 }
     (s.cad 7).startN = some 0 ∧ (s.cad 7).running = false ∧ cadOn s 7 = true ∧ 0 ≤ gridNow s 7) ∧
    (let s := { ready.wr R.XPT_DST_LAYOUT [1151] 0x11111111#32 with
        xpt := { ready.xpt with takes := [⟨0, 1151, 7, none, ⟨0, 0, 1, false⟩, false, none⟩], missed := [(10239, 3)] } }
     bindingWhole (ready.rd R.XPT_SRC_LAYOUT [1151]) 1#32 = true ∧ bindingWhole 0x33333333#32 1#32 = false ∧ ready.xpt.takes = [] ∧
       (∃ x ∈ s.xpt.takes, x.d = 1151 ∧ dstSub s x.d x.m ≠ 5 ∧
         bitsOf (0x200000#32).toNat (3 * x.m + 2) (3 * x.m) ≠ dstCad s 1151 x.m) ∧ 3 ≤ framesSince s 10239) := by decide

theorem witness_TakesStageAndCommit :
    (takeOf ready 1279 7 = none ∧ (∃ e ∈ routeEntries 1 1279 7 0 0, e.1 < 10240) ∧
      dstSub (ready.wr R.XPT_DST_LAYOUT [1279] 0x11111111#32) 1279 7 = 1) ∧
    (let s := ready.wr R.XPT_DST_LAYOUT [1279] 0x11111111#32
     s.flt.forceAll = false ∧ latchedSources s = [] ∧ (∃ i ∈ keyEntries s (8 * 1279 + 7), i < 10240)) ∧
    (let s := { (ready.p F.XPT_CAD_CTRL_SSYNC_EN [7] 1).setCad 7 { running := true, line := 7 } with red := { plane := .active } }
     let t := s.setCad 7 { running := true, line := 900 }
     (s.cad 7).running = true ∧ s.on F.XPT_CAD_CTRL_SSYNC_EN [7] = true ∧ s.isActive = true ∧ -32 ≤ (windowFrame s 7).2 ∧
       (windowFrame s 7).2 ≤ 32 ∧ (∀ x ∈ (s.cad 7).points, x.1 ≠ (windowFrame s 7).1) ∧ (s.cad 7).edgeFrame = none ∧
       (s.cad 7).line ≠ s.raster 7 ∧ ((windowFrame t 7).2 < -32 ∨ 32 < (windowFrame t 7).2)) ∧
    (Reaches .mgmt .xpt ready ∧ (ready.p F.XPT_BANK_CTRL_IMAGE_OPEN [] 1).on F.XPT_BANK_CTRL_IMAGE_OPEN [] = true) ∧
    (let s := (((ready.wr R.XPT_DST_LAYOUT [1151] 0x11111111#32).wr R.XPT_LIVE [8 * 1151 + 7] (entryWord true false 1 0 3 0)).p
        F.ZL_LANE_CTRL_TX_EN [575] 1)
     let r : LineRec := ⟨1, 0, 1, 0, [nullWord]⟩
     let s1 := { s with xpt := { s.xpt with lastRec := [(8 * 3, 5, r)] } }
     destRecord s1 1151 7 = some (r, 10, some (3, 0)) ∧ destRecord s 1151 7 = none ∧ s1.on F.AUD_REEMB_EN [8 * 1151 + 7] = false ∧ bitOf (s1.g F.REF_TC_DST_EN [1151]) 7 = false ∧
       s1.isActive = false ∧ comparesSigs s1 = false ∧ packetSlot s1 1151 = false ∧ runsZl s1 (1151 / 2) = true ∧
       s1.on F.ZL_LANE_CTRL_TX_EN [1151 / 2] = true) := by decide

/-- A state in which a descriptor of the last ring of the last partition, with bits b, waits to be presented. -/
def offers (b : BitVec 512) (v : Nat) : State :=
  let s := (ready.p F.CMD_RING_CFG_VERSION [7, 7] v).p F.CMD_CPL_CFG_EN [7] 1
  { s with cmd := { s.cmd with fetched := [⟨7, 7, b, 0x1000, 5, 0, 0, [], v⟩] } }
/-- The same on the first ring of partition 0. -/
def offers0 (b : BitVec 512) (v : Nat) : State :=
  let s := (ready.p F.CMD_RING_CFG_VERSION [0, 0] v).p F.CMD_CPL_CFG_EN [0] 1
  { s with cmd := { s.cmd with fetched := [⟨0, 0, b, 0x1000, 5, 0, 0, [], v⟩] } }
/-- The descriptor in it. -/
def offered (s : State) : Desc := s.cmd.fetched.headD ⟨0, 0, 0, 0, 0, 0, 0, [], 0⟩
theorem witness_DescriptorsAreJudgedInOrder :
    (let s := offers 0x7402#512 1
     Presented s 7 7 (offered s) ∧ (0x40, Instr.fwUpdate 7 7) ∈ presenting 7 7 ∧ dOpcode (offered s) = 0x40 ∧
       dBits (offered s) 3 0 ≠ ringVer s 7 7) ∧
    (let s := offers 0x6401#512 1
     Presented s 7 7 (offered s) ∧ dBits (offered s) 3 0 = ringVer s 7 7 ∧ dBits (offered s) 14 12 ≠ (offered s).part) ∧
    (let s := (offers 0xFFFF7001#512 1).p F.CMD_RING_CFG_SEQ_CHECK [7, 7] 1
     Presented s 7 7 (offered s) ∧ dBits (offered s) 3 0 = ringVer s 7 7 ∧ dBits (offered s) 14 12 = (offered s).part ∧
       s.on F.CMD_RING_CFG_SEQ_CHECK [7, 7] = true ∧ dSeq (ringVer s 7 7) (offered s) ≠ s.g F.CMD_RING_SEQ_EXPECT [7, 7] ∧
       HeaderOk (s.p F.CMD_RING_SEQ_EXPECT [7, 7] 0xFFFF) 7 7 (offered s)) ∧
    (let s := offers (0x7001#512 ||| (1#512 <<< 511)) 1
     Presented s 7 7 (offered s) ∧ headerBad (ringVer s 7 7) (offered s) = true) ∧
    (let s := offers 0x7141#512 1
     Presented s 7 7 (offered s) ∧ HeaderOk s 7 7 (offered s) ∧ dOpcode (offered s) = 0x14 ∧
       cbBad [0, 1] false (ringVer s 7 7) (offered s) = false ∧ body (ringVer s 7 7) (offered s) 383 86 = 0) ∧
    (let s := { offers 0x7311#512 1 with red := { plane := .standby } }
     Presented s 7 7 (offered s) ∧ HeaderOk s 7 7 (offered s) ∧ dOpcode (offered s) = 0x31 ∧
       body (ringVer s 7 7) (offered s) 383 14 = 0) ∧
    (let s := { offers 0x7101#512 1 with red := { plane := .syncing } }
     HeaderOk s 7 7 (offered s) ∧ dOpcode (offered s) = 0x10 ∧ takeBad (ringVer s 7 7) (offered s) = false) ∧
    (let s := { offers (0x7211#512 ||| (1#512 <<< 139)) 1 with red := { plane := .syncing } }
     HeaderOk s 7 7 (offered s) ∧ dOpcode (offered s) = 0x21 ∧ layerFlipBad (ringVer s 7 7) (offered s) = false) ∧
    (let s := offers 0x7FF1#512 1
     Presented s 7 7 (offered s) ∧ dOpcode (offered s) ∉ knownOpcodes ∧ dBits (offered s) 3 0 = ringVer s 7 7 ∧
       s.on F.CMD_CPL_CFG_EN [7] = true) ∧
    (let s := offers 0x17002#512 2
     let t := { s with cmd := { s.cmd with ann := [⟨7, 0, 3, 4, 0, 0⟩] } }
     headDesc t 7 7 = some (offered s) ∧ dOpcode (offered s) = 0x00 ∧
       (dBarrier (ringVer t 7 7) (offered s) && earlierWaits t 7 (offered s).bell) = true) := by
  refine ⟨?_, ?_, ?_, ?_, ?_, ?_, ?_, ?_, ?_, ?_⟩ <;> decide

theorem witness_QueriesMarksAndReadsAreAnswered :
    (let s := offers 0x7002#512 2
     let d := offered s
     Presented s 7 7 d ∧ HeaderOk s 7 7 d ∧ FreshTok s ∧ s.on F.CMD_CPL_CFG_EN [7] = true ∧ dNoCpl d = false ∧ dOpcode d = 0x00 ∧
       body (ringVer s 7 7) d 383 0 = 0) ∧
    (let s := offers (0x7011#512 ||| (0xFFFFFFFFFFFFFFC0#512 <<< 64)) 1
     let d := offered s
     Presented s 7 7 d ∧ HeaderOk s 7 7 d ∧ FreshTok s ∧ s.on F.CMD_CPL_CFG_EN [7] = true ∧ dNoCpl d = false ∧ dOpcode d = 0x01 ∧
       body (ringVer s 7 7) d 383 64 = 0 ∧ body (ringVer s 7 7) d 5 0 = 0) ∧
    (let s := offers (0x7021#512 ||| (0x1FFFFFFFF#512 <<< 64)) 1
     let d := offered s
     Presented s 7 7 d ∧ HeaderOk s 7 7 d ∧ dOpcode d = 0x02 ∧ body (ringVer s 7 7) d 383 33 = 0) ∧
    (let k : Tok := { id := 3, part := 7, ring := 7, ver := 1, opcode := 2, tag := 0, seq := 0, noCpl := false, credit := true, dead := false, repl := false, addr := 0, bellTick := 0, bellNs := 0, accTick := 0, period := false, bell := 5 }
     let s := offers 0#512 1
     let t := { s with cmd := { s.cmd with fetched := [], live := [k], marks := [⟨3, 9, true, 5, 8⟩] } }
     t.cmd.marks.find? (markReady t 7) = some ⟨3, 9, true, 5, 8⟩ ∧ tokOf t 3 = some k ∧ t.on F.CMD_CPL_CFG_EN [k.part] = true) ∧
    (let s := offers0 (0x0221#512 ||| (0x1FF#512 <<< 64)) 1
     let d := offered s
     Presented s 0 0 d ∧ HeaderOk s 0 0 d ∧ dOpcode d = 0x22 ∧ body (ringVer s 0 0) d 63 9 = 0 ∧ body (ringVer s 0 0) d 383 128 = 0 ∧
       d.part = 0) ∧
    (let s := offers 0x7201#512 1
     let d := offered s
     0 < (64 : Nat) ∧ 64 ≤ readMax s 7 ∧ Presented s 7 7 d ∧ HeaderOk s 7 7 d ∧ s.red.plane = .isolated ∧ dOpcode d = 0x20 ∧ engineSetBad (ringVer s 7 7) d = false) ∧
    (let s := offers 0x7301#512 1
     let d := offered s
     let t := { s with cmd := { s.cmd with fetched := [], reads := [⟨d, 0⟩] } }
     Presented s 7 7 d ∧ HeaderOk s 7 7 d ∧ dOpcode d = 0x30 ∧ flowAddBad (ringVer s 7 7) d = false ∧
       t.cmd.reads.find? (fun y => y.desc.part == 7 && y.desc.ring == 7) = some ⟨d, 0⟩) := by
  refine ⟨?_, ?_, ?_, ?_, ?_, ?_, ?_⟩ <;> decide

/-- The same state with cadence 0 enabled and standing on line 8, a source and a destination slot of eight HD signals. -/
def takes (s : State) : State :=
  (((s.p F.XPT_CAD_CFG_ENABLE [0] 1).wr R.XPT_SRC_LAYOUT [0] 0x11111111#32).wr R.XPT_DST_LAYOUT [1] 0x11111111#32).setCad 0
    { running := true, line := 8, frame := 3 }
/-- Whether a check passes with a stamp, or for a salvo member. -/
def stamped {ε : Type} (x : Except ε (Option (Stamp × Bool))) : Option Bool :=
  match x with
  | .ok y => some y.isSome
  | .error _ => none
def plainStamp {ε : Type} (x : Except ε (Stamp × Bool)) : Bool :=
  match x with
  | .ok _ => true
  | .error _ => false
def takeBits (mode : Nat) (rest : Nat) : BitVec 512 := BitVec.ofNat 512 (rest * 2 ^ 64 + mode * 2 ^ (45 + 64))
theorem witness_TakesSalvosAndAudioTakesAreAccepted_take :
    (let s := takes (offers0 (0x0101#512 ||| takeBits 0 (1 * 2 ^ 64 + 7 * 2 ^ 75)) 1)
     let d := offered s
     Presented s 0 0 d ∧ HeaderOk s 0 0 d ∧ dOpcode d = 0x10 ∧ takeBad (ringVer s 0 0) d = false ∧ s.takesHost = true ∧
       takeOwn (ringVer s 0 0) d (judgedIn s 0 0 d) = none ∧ takeDst (ringVer s 0 0) d = (1, 7) ∧ takeSrc (ringVer s 0 0) d = some (0, 0) ∧
       stamped (takeCheck (judgedIn s 0 0 d) (ringVer s 0 0) d 1 7 (some (0, 0))) = some true ∧ takeOf s 1 7 = none) ∧
    (let s0 := takes (offers0 (0x0101#512 ||| takeBits 1 (2 ^ 32 * 100 + 4 + 1 * 2 ^ 64 + 7 * 2 ^ 75)) 1)
     let k : Tok := { id := 0, part := 0, ring := 0, ver := 1, opcode := 16, tag := 0, seq := 0, noCpl := false, credit := true, dead := false, repl := false, addr := 0, bellTick := 0, bellNs := 0, accTick := 0, period := false, bell := 5 }
     let s := { s0 with xpt := { s0.xpt with takes := [⟨0, 1, 7, none, ⟨0, 9, 7, true⟩, true, none⟩] }, cmd := { s0.cmd with live := [k], nextId := 1 } }
     let d := offered s
     Presented s 0 0 d ∧ HeaderOk s 0 0 d ∧ takeBad (ringVer s 0 0) d = false ∧ takeOwn (ringVer s 0 0) d (judgedIn s 0 0 d) = none ∧
       stamped (takeCheck (judgedIn s 0 0 d) (ringVer s 0 0) d 1 7 (some (0, 0))) = some true ∧
       takeOf s 1 7 = some ⟨0, 1, 7, none, ⟨0, 9, 7, true⟩, true, none⟩ ∧ tokOf s 0 = some k ∧ s.on F.CMD_CPL_CFG_EN [0] = true) ∧
    (let s0 := takes (offers0 (0x0101#512 ||| takeBits 2 (7 * 2 ^ 47 + 1 * 2 ^ 64 + 7 * 2 ^ 75 + 2 ^ 92)) 1)
     let s := { s0 with xpt := { s0.xpt with salvos := [⟨⟨0, 7⟩, 0, none, false⟩] } }
     let d := offered s
     Presented s 0 0 d ∧ HeaderOk s 0 0 d ∧ takeBad (ringVer s 0 0) d = false ∧ takeOwn (ringVer s 0 0) d (judgedIn s 0 0 d) = none ∧
       stamped (takeCheck (judgedIn s 0 0 d) (ringVer s 0 0) d 1 7 none) = some false ∧ takeOf s 1 7 = none ∧ FreshTok s) := by
  refine ⟨?_, ?_, ?_⟩ <;> decide
theorem witness_TakesSalvosAndAudioTakesAreAccepted :
    (let s := takes (offers0 (0x0111#512 ||| takeBits 0 7) 1)
     let d := offered s
     Presented s 0 0 d ∧ HeaderOk s 0 0 d ∧ dOpcode d = 0x11 ∧ body (ringVer s 0 0) d 383 6 = 0 ∧ s.takesHost = true ∧
       salvoOpenOwn (ringVer s 0 0) d (judgedIn s 0 0 d) = none ∧ FreshTok s ∧ s.on F.CMD_CPL_CFG_EN [0] = true ∧ dNoCpl d = false) ∧
    (let s0 := takes (offers0 (0x0121#512 ||| takeBits 0 (7 * 2 ^ 47)) 1)
     let s := { s0 with xpt := { s0.xpt with salvos := [⟨⟨0, 7⟩, 0, none, false⟩] } }
     let d := offered s
     Presented s 0 0 d ∧ HeaderOk s 0 0 d ∧ dOpcode d = 0x12 ∧ salvoCommitBadIn s (ringVer s 0 0) d = false ∧
       salvoCommitOwn (ringVer s 0 0) d (judgedIn s 0 0 d) = none ∧ salvoOf s ⟨d.part, cbSalvo (ringVer s 0 0) d⟩ = some ⟨⟨0, 7⟩, 0, none, false⟩ ∧
       plainStamp (stampOf (judgedIn s 0 0 d) (ringVer s 0 0) d 0 false) = true) ∧
    (let s0 := takes (offers0 (0x0121#512 ||| takeBits 0 (7 * 2 ^ 47 + 2 ^ 64)) 1)
     let k : Tok := { id := 0, part := 0, ring := 0, ver := 1, opcode := 16, tag := 0, seq := 0, noCpl := false, credit := false, dead := false, repl := false, addr := 0, bellTick := 0, bellNs := 0, accTick := 0, period := false, bell := 5 }
     let s := { s0 with xpt := { s0.xpt with salvos := [⟨⟨0, 7⟩, 0, none, false⟩], takes := [⟨0, 1, 7, none, ⟨0, 0, 0, false⟩, false, some ⟨0, 7⟩⟩] }, cmd := { s0.cmd with live := [k], nextId := 1 } }
     let d := offered s
     Presented s 0 0 d ∧ HeaderOk s 0 0 d ∧ salvoCommitBadIn s (ringVer s 0 0) d = false ∧ scAbort (ringVer s 0 0) d = true ∧
       salvoCommitOwn (ringVer s 0 0) d (judgedIn s 0 0 d) = none ∧ FreshTok s ∧ s.on F.PMU_SAMP_CFG_LAT_EN [] = false ∧
       tokOf s 0 = some k ∧ k.credit = false ∧ k.repl = false ∧ k.period = false) ∧
    (let s := (takes (offers0 (0x0121#512 ||| takeBits 0 (2 ^ 65)) 1)).p F.XPT_BANK_CTRL_IMAGE_OPEN [] 1
     let d := offered s
     Presented s 0 0 d ∧ HeaderOk s 0 0 d ∧ salvoCommitBadIn s (ringVer s 0 0) d = false ∧ scImage (ringVer s 0 0) d = true ∧
       salvoCommitOwn (ringVer s 0 0) d (judgedIn s 0 0 d) = none ∧
       plainStamp (stampOf (judgedIn s 0 0 d) (ringVer s 0 0) d (body (ringVer s 0 0) d 68 66) false) = true) ∧
    (let s := takes (offers0 (0x0131#512 ||| takeBits 0 (2 ^ 79 + 2 ^ 103)) 1)
     let d := offered s
     Presented s 0 0 d ∧ HeaderOk s 0 0 d ∧ dOpcode d = 0x13 ∧ cbBad [0, 1, 2] true (ringVer s 0 0) d = false ∧ body (ringVer s 0 0) d 383 112 = 0 ∧
       audOwn (ringVer s 0 0) d (judgedIn s 0 0 d) = none ∧ stamped (audCheck (judgedIn s 0 0 d) (ringVer s 0 0) d) = some true) ∧
    (let s := takes (offers0 (0x0141#512 ||| takeBits 0 (2 ^ 64 * (1 * 2 ^ 3 + 3 * 2 ^ 6 + 7 * 2 ^ 9))) 1)
     let d := offered s
     Presented s 0 0 d ∧ HeaderOk s 0 0 d ∧ s.takesHost = true ∧ dOpcode d = 0x14 ∧ cbBad [0, 1] false (ringVer s 0 0) d = false ∧
       body (ringVer s 0 0) d 383 86 = 0 ∧ plainStamp (stampOf (judgedIn s 0 0 d) (ringVer s 0 0) d (csCad (ringVer s 0 0) d) true) = true ∧
       cadSetOwn (ringVer s 0 0) d (judgedIn s 0 0 d) = none) ∧
    (let s := takes (offers0 0x0151#512 1)
     let d := offered s
     Presented s 0 0 d ∧ HeaderOk s 0 0 d ∧ dOpcode d = 0x15 ∧ cbBad [0, 1] false (ringVer s 0 0) d = false ∧ body (ringVer s 0 0) d 383 67 = 0 ∧
       plainStamp (stampOf (judgedIn s 0 0 d) (ringVer s 0 0) d (csCad (ringVer s 0 0) d) true) = true ∧
       realignOwn (ringVer s 0 0) d (judgedIn s 0 0 d) = none) := by
  refine ⟨?_, ?_, ?_, ?_, ?_, ?_, ?_⟩ <;> decide

def onEngine (s : State) : State :=
  (((s.p F.XPT_CAD_CFG_ENABLE [0] 1).p F.ENG_STAT_RUNNING [63] 1).wr R.ENG_ECB [63, 6] 1#32).setCad 0 { running := true, line := 8, frame := 3 }
def aTok : Tok := { id := 0, part := 7, ring := 0, ver := 1, opcode := 34, tag := 0, seq := 0, noCpl := false, credit := true, dead := false, repl := false, addr := 0, bellTick := 0, bellNs := 0, accTick := 0, period := false, bell := 5 }
theorem witness_EnginesFlipsAndFencesAreSetUp :
    (let s0 := onEngine (offers0 0x0201#512 1)
     let d : Desc := { offered s0 with bits := 0x0201#512 ||| takeBits 0 (63 * 2 ^ 64) }
     let s := { s0 with cmd := { s0.cmd with fetched := [], reads := [⟨d, 0⟩] } }
     readOf s 0 0 0x20 = some ⟨d, 0⟩ ∧ s.takesHost = true ∧ edEngine (ringVer s 0 0) d = 63 ∧
       plainStamp (engineCheck (dropRead 0 0 s) (ringVer s 0 0) d (toWords 64 (0#2048).toNat)) = true) ∧
    (let s := onEngine (offers0 (0x0211#512 ||| takeBits 0 (63 * 2 ^ 64 + 3 * 2 ^ 70 + 2 ^ 75)) 1)
     let d := offered s
     let v := ringVer s 0 0
     let m := lfMember v d s.cmd.nextId
     Presented s 0 0 d ∧ HeaderOk s 0 0 d ∧ dOpcode d = 0x21 ∧ layerFlipBad v d = false ∧ s.takesHost = true ∧ lfGroup v d = 0 ∧ lfAbort v d = false ∧
       flipOwn (lfGroup v d) (lfClose v d) (lfAbort v d) false ((m.buf.isSome && decide (m.item < 2)) || (m.en.isSome && m.item == 0)) v d
         (judgedIn s 0 0 d) = none ∧ (flipStamp (judgedIn s 0 0 d) v d (s.engCad m.eng) (groupLead s d.part 0 m.eng false)).isSome = true) ∧
    (let s := onEngine (offers0 (0x0211#512 ||| takeBits 0 (63 * 2 ^ 64 + 3 * 2 ^ 70 + 2 ^ 75 + 15 * 2 ^ 91)) 1)
     let d := offered s
     let v := ringVer s 0 0
     let m := lfMember v d s.cmd.nextId
     layerFlipBad v d = false ∧ lfGroup v d = 15 ∧ lfClose v d = false ∧ groupOf s d.part 15 = none ∧
       flipOwn (lfGroup v d) (lfClose v d) (lfAbort v d) false ((m.buf.isSome && decide (m.item < 2)) || (m.en.isSome && m.item == 0)) v d
         (judgedIn s 0 0 d) = none) ∧
    (let s0 := onEngine (offers0 (0x0211#512 ||| takeBits 0 (63 * 2 ^ 64 + 3 * 2 ^ 70 + 2 ^ 75 + 15 * 2 ^ 91 + 2 ^ 95)) 1)
     let g : FlipGroup := ⟨0, 15, 0, 0, false, false, 0, none, [⟨0, 63, false, 2, some 1, none, none, 0, none, some true, false⟩]⟩
     let s := { s0 with eng := { s0.eng with groups := [g] } }
     let d := offered s
     let v := ringVer s 0 0
     let m := lfMember v d s.cmd.nextId
     layerFlipBad v d = false ∧ lfGroup v d = 15 ∧ lfClose v d = true ∧ groupOf s d.part 15 = some g ∧
       flipOwn (lfGroup v d) (lfClose v d) (lfAbort v d) false ((m.buf.isSome && decide (m.item < 2)) || (m.en.isSome && m.item == 0)) v d
         (judgedIn s 0 0 d) = none ∧ (flipStamp (judgedIn s 0 0 d) v d (s.engCad m.eng) (groupLead s d.part 15 m.eng false)).isSome = true) ∧
    (let s := onEngine (offers0 (0x0211#512 ||| takeBits 0 (63 * 2 ^ 64 + 2 ^ 96)) 1)
     let d := offered s
     let v := ringVer s 0 0
     let m := lfMember v d s.cmd.nextId
     layerFlipBad v d = false ∧ lfGroup v d = 0 ∧ lfAbort v d = true ∧ FreshTok s ∧
       flipOwn (lfGroup v d) (lfClose v d) (lfAbort v d) false ((m.buf.isSome && decide (m.item < 2)) || (m.en.isSome && m.item == 0)) v d
         (judgedIn s 0 0 d) = none) ∧
    (let s := onEngine (offers0 (0x0231#512 ||| takeBits 0 (63 * 2 ^ 64 + 3 * 2 ^ 70 + 0xFFFFFFFF * 2 ^ 96)) 1)
     let d := offered s
     let v := ringVer s 0 0
     Presented s 0 0 d ∧ HeaderOk s 0 0 d ∧ dOpcode d = 0x23 ∧ sigExpectBad v d = false ∧ s.takesHost = true ∧ seGroup v d = 0 ∧ seAbort v d = false ∧
       flipOwn 0 (seClose v d) false true false v d (judgedIn s 0 0 d) = none ∧
       (flipStamp (judgedIn s 0 0 d) v d (s.engCad (edEngine v d)) 0).isSome = true) ∧
    (let s0 := ready.p F.CMD_CPL_CFG_EN [7] 1
     let s := { s0 with cmd := { s0.cmd with live := [aTok], fences := [⟨0, 63, 3, false, 2 ^ 63⟩] } }
     s.cmd.fences = ⟨0, 63, 3, false, 2 ^ 63⟩ :: [] ∧ tokOf s 0 = some aTok ∧ aTok.repl = false ∧ aTok.dead = false ∧ aTok.credit = true ∧
       aTok.noCpl = false ∧ aTok.part < 8 ∧ s.on F.CMD_CPL_CFG_EN [aTok.part] = true ∧ reached (2 ^ 63) (fenceVal s 63 3) = false) := by
  refine ⟨?_, ?_, ?_, ?_, ?_, ?_, ?_⟩ <;> decide

theorem witness_EnginesReportWhatTheyMiss :
    (let s0 := (ready.p F.ENG_STAT_RUNNING [63] 1).wr R.ENG_ECB [63, 0] 0xC0550000#32
     let s := { s0 with ticks := 10 ^ 9 }
     s.engOn 63 = true ∧ 3 ∈ channels (s.ecb 63) ∧ (s.fsc 63 3).lost = false ∧
       linesPassed s (s.engCad 63) 4 (s.ticks - (s.fsc 63 3).lastBegin) = true) ∧
    (let s0 := (((ready.p F.ENG_STAT_RUNNING [63] 1).wr R.ENG_ECB [63, 41] 0x40100000#32).wr R.ENG_ECB [63, 43] 0#32).setCad 0 { running := true, frame := 5, line := 1125 }
     s0.engOn 63 = true ∧ s0.eb 63 41 31 30 ≠ 0 ∧ regionEnd s0 63 3 < (s0.cad (s0.engCad 63)).line ∧ (({} : SigAcc).judged ≠ some 5) ∧
       Reaches (.part 0) .eng s0) ∧
    (let s := { ready with eng := { ready.eng with wb := [(63, 9)], engReads := [(63, 3)], groups := [⟨0, 0, 0, 4, true, false, 0, none,
        [⟨0, 63, false, 3, some 1, none, none, 0, some (3, 2 ^ 63), none, true⟩]⟩] } }
     find? s.eng.wb 63 = some 9 ∧ (63, 3) ∈ s.eng.engReads ∧ s.eb 63 23 31 30 ≠ 2 ∧
       (∃ g ∈ s.eng.groups, ∃ m ∈ g.members, m.reading = true ∧ m.eng = 63 ∧ m.fence = some (3, 2 ^ 63))) := by
  refine ⟨?_, ?_, ?_⟩ <;> decide

/-- A transmit entry of an audio flow of one channel on sub-port 15.3. -/
def anEntry : BitVec 512 := BitVec.ofNat 512 (0xDFC00000 + 1 * 2 ^ (32 * 8 + 10))
def runsImage : State :=
  let s := ((fused (offers0 (0x0401#512 ||| BitVec.ofNat 512 (1 * 2 ^ 64 + 528 * 2 ^ 128)) 1)).p F.BOOT_STAT_FW_RUNNING [] 1).p F.CEL_STAT_STATE [] 1
  { s with cel := { s.cel with mem := ((List.range 528).zip imageBytes).foldl (fun m x => memPut m (celLoc s.grain (4096 + x.1)) x.2) [] } }
theorem witness_FlowsAndUpdatesAreTakenUp_update :
    (let s := runsImage
     let d := offered s
     Presented s 0 0 d ∧ HeaderOk s 0 0 d ∧ dOpcode d = 0x40 ∧ body (ringVer s 0 0) d 63 22 = 0 ∧ body (ringVer s 0 0) d 383 96 = 0 ∧
       fwEarly (ringVer s 0 0) d (judgedIn s 0 0 d) = none ∧ celWaits s = false ∧ celWaits (s.p F.CEL_STAT_STATE [] 2) = true ∧
       (∀ w ∈ wordsOf (fwAddr (ringVer s 0 0) d) 512, celFlips s w = 0) ∧
       fwOwn (ringVer s 0 0) d (judgedIn s 0 0 d) = none) := by decide
theorem witness_FlowsAndUpdatesAreTakenUp :
    (let s0 := (ready.p F.CMD_RING_CFG_VERSION [0, 0] 1).p F.ZL_QUAD_CFG_MODE [15] 2
     let d : Desc := ⟨0, 0, 0x0301#512 ||| (16383#512 <<< 64), 0, 0, 0, 0, [], 1⟩
     let s := { s0 with cmd := { s0.cmd with reads := [⟨d, 0⟩] } }
     readOf s 0 0 0x30 = some ⟨d, 0⟩ ∧ faFlow (ringVer s 0 0) d = 16383 ∧ s.takesHost = true ∧ flowCheck (dropRead 0 0 s) false d 16383 anEntry = none ∧
       fTx anEntry = true ∧ fPair anEntry = false ∧ flowCheck (dropRead 0 0 s) false d 16383 0 = some 0x14) ∧
    (let s0 := offers0 (0x0311#512 ||| (16383#512 <<< 64)) 1
     let s := { s0 with flw := { s0.flw with tbl := [(16383, anEntry)] } }
     let d := offered s
     Presented s 0 0 d ∧ HeaderOk s 0 0 d ∧ dOpcode d = 0x31 ∧ body (ringVer s 0 0) d 383 14 = 0 ∧ s.takesHost = true ∧
       inFlowRange d (faFlow (ringVer s 0 0) d) = true ∧ fValid (s.flow (faFlow (ringVer s 0 0) d)) = true) ∧
    (let e : BitVec 512 := BitVec.ofNat 512 (0xD0100000 + 5 * 2 ^ (32 * 9 + 18))
     fValid e = true ∧ fTx e = true ∧ fPair e = true ∧ fSecondary e = false ∧ fMate e = 5) := by
  refine ⟨?_, ?_, ?_⟩ <;> decide

theorem witness_AudioMatrixMovesAndIsMapped :
    (let s0 := ready.wr R.AUD_LIVE [32767] 0x80007FFF#32
     let s := { s0 with ref := { h := 2 ^ 120 }, aud := { s0.aud with fades := [⟨32767, none, 480, 0⟩], src := [(32767, { smp := 5 })] } }
     let u := commitSamples (endFades (fun f => decide (f.n ≤ f.k)) { s with aud := { s.aud with inst := s.aud.inst + 1 } })
     s.aud.inst < instNow s ∧ Blk.aud ∉ s.sys.held ∧ s.aud.commits = [] ∧ u.wf = true ∧ (∀ e ∈ u.regs, e.1 % 4 = 0) ∧
       eValid (u.rd R.AUD_LIVE [32767]) = true) ∧
    (let s := ready.setDeg 10239 7 { run := true }
     let t := { s with ticks := 10 ^ 9 }
     (t.deg 10239 7).run = true ∧
       linesPassed t (srcCad t (10239 / 8) (10239 % 8)) (t.raster (srcCad t (10239 / 8) (10239 % 8))) (t.ticks - (t.deg 10239 7).seen) = true) ∧
    (Reaches (.part 0) .aud ready ∧ F.AUD_CFG_RATE.of 0xFFFFFFFF#32 ≠ ready.g F.AUD_CFG_RATE [] ∧ ready.aud.pend = [] ∧ ready.flw.tbl = [] ∧
      (∀ t : Fin 16, ready.on F.AUD_TDM_CFG_EN [t] = false) ∧ listed ready R.AUD_DEEMB 10240 = [] ∧ listed ready R.AUD_REEMB 9216 = []) ∧
    (let w := writtenWord R.AUD_DEEMB [10239] 0xFFFFFFFF#32 (ready.rd R.AUD_DEEMB [10239])
     ¬ (F.AUD_DEEMB_EN.of w = 0 ∨ (1 ≤ F.AUD_DEEMB_GROUPS.of w ∧ F.AUD_DEEMB_GROUPS.of w ≤ 8 ∧
        runFree ready 0 10239 (F.AUD_DEEMB_CHAN_BASE.of w) (4 * F.AUD_DEEMB_GROUPS.of w) = true)) ∧
       F.AUD_DEEMB_EN.of (writtenWord R.AUD_DEEMB [10239] 0#32 (ready.rd R.AUD_DEEMB [10239])) = 0) ∧
    (let w := writtenWord R.AUD_REEMB [9215] 0xFFFFFFFF#32 (ready.rd R.AUD_REEMB [9215])
     let u := writtenWord R.AUD_TDM_MAP [15] 0xFFFFFFFF#32 (ready.rd R.AUD_TDM_MAP [15])
     F.AUD_REEMB_EN.of w ≠ 0 ∧ 8 < F.AUD_REEMB_GROUPS.of w ∧ F.AUD_TDM_MAP_OUT_EN.of u ≠ 0 ∧
       audChans ready < F.AUD_TDM_MAP_OUT_BASE.of u + (ready.g F.AUD_TDM_CFG_SLOTS [15] + 1)) ∧
    (let s := { ready with aud := { ready.aud with pend := [⟨0, 32767, 1, none, 0, ⟨0, 0, 1, false⟩, false, none⟩] } }
     writtenWord R.AUD_DCAD [1023] 0x703#32 (ready.rd R.AUD_DCAD [1023]) ≠ ready.rd R.AUD_DCAD [1023] ∧
       (∃ x ∈ s.aud.pend, runsMeet x.n x.c (32 * 1023) 32 = true) ∧ ready.aud.pend = [] ∧ listed ready R.AUD_REEMB 9216 = []) := by
  refine ⟨?_, ?_, ?_, ?_, ?_, ?_⟩ <;> decide

theorem witness_TdmPortsRunFrames :
    (let new := writtenWord R.AUD_TDM_CFG [15] 0x80000000#32 (ready.rd R.AUD_TDM_CFG [15])
     let bad := writtenWord R.AUD_TDM_CFG [15] 0xFFFFFFFF#32 (ready.rd R.AUD_TDM_CFG [15])
     Reaches (.part 0) .aud ready ∧ F.AUD_TDM_CFG_WIDTH.of new ≤ 2 ∧ F.AUD_TDM_CFG_FRAME_BITS.of new ≤ 4 ∧
       (F.AUD_TDM_CFG_SLOTS.of new + 1) * (16 + 8 * F.AUD_TDM_CFG_WIDTH.of new) ≤ 64 * 2 ^ F.AUD_TDM_CFG_FRAME_BITS.of new ∧
       F.AUD_TDM_CFG_OFFSET.of new < 64 ∧ 64 * audRate ready ≤ 49152000 ∧ F.AUD_TDM_CFG_EN.of (ready.rd R.AUD_TDM_CFG [15]) ≠ 1 ∧
       2 < F.AUD_TDM_CFG_WIDTH.of bad) ∧
    (let s := ready.p F.AUD_TDM_CFG_EN [15] 1
     let r := s.p F.AUD_TDM_STAT_RUNNING [15] 1
     let o := ready.p F.AUD_TDM_STAT_RUNNING [15] 1
     s.on F.AUD_TDM_CFG_EN [15] = true ∧ tdmRuns s 15 = false ∧ s.aud.inst % 48 = 0 ∧ o.on F.AUD_TDM_CFG_EN [15] = false ∧ tdmRuns o 15 = true ∧
       tdmRuns r 15 = true ∧ tdmExt r 15 = false ∧ (r.tdm 15).at_ ≠ some r.aud.inst ∧
       tdmExt (s.p F.AUD_TDM_CFG_CLK_EXT [15] 1) 15 = true ∧ tdmExt (r.p F.AUD_TDM_CFG_CLK_EXT [15] 1) 15 = true ∧ (r.tdm 15).inQ.length < 4 ∧
       (r.tdm 15).outRun = false ∧ (List.replicate (s.g F.AUD_TDM_CFG_SLOTS [15] + 1) 65535).length * (16 + 8 * s.g F.AUD_TDM_CFG_WIDTH [15]) ≤ 64 * 2 ^ s.g F.AUD_TDM_CFG_FRAME_BITS [15]) ∧
    ((ready.setTdm 15 { block := some (2 ^ 48 - 1, 999999999) }).tdm 15).block = some (2 ^ 48 - 1, 999999999) ∧
    blkHeld ready .aud = false ∧ BusAwake .mgmt ready := by
  refine ⟨?_, ?_, ?_, ?_, ?_⟩ <;> decide

/-- A state with a lease key of zeros and one HELLO sent at 0 with nonce 7. -/
def keyed (p : Plane) : State :=
  let s := (ready.p F.KEY_STAT_LOADED [] 1).p F.KEY_STAT_USE [] 1
  { s with red := { plane := p, hellos := [(7, 0)] } }
def zeroKey : List Byte := List.replicate 32 0
/-- A message from the frame controller under that key. -/
def fcMsg (type plane state epoch nonce term : Nat) : List Byte :=
  let b : List Byte := leBytes 1 type ++ leBytes 1 1 ++ leBytes 1 plane ++ leBytes 1 state ++ leBytes 4 epoch ++ leBytes 8 nonce ++
    leBytes 2 term ++ leBytes 2 0
  b ++ hmac zeroKey b
theorem witness_GrantsAreJudgedInOrder_accepted :
    (let s := keyed .standby
     leaseKey s = some zeroKey ∧ leaseParse zeroKey (fcMsg 0x81 0 0 1 7 500) = some ⟨0x81, 0, 0, 1, 7, 500⟩ ∧ s.planeId = 0 ∧
       ¬ ((∀ h ∈ s.red.hellos, h.1 ≠ 7) ∨ 500 < 5 ∨ 500 < 500 ∨ (1 : Nat) = 0 ∨ 1 < s.g F.RED_SEEN_SEEN [] ∨
         (s.holder = true ∧ 1 < s.g F.RED_EPOCH_EPOCH [])) ∧
       s.red.hellos.find? (fun h => h.1 == 7) = some (7, 0) ∧ s.on F.SYS_STRAP_ID_CLASH [] = false ∧ s.flt.fatal = false ∧
       s.ticks + min (msTicks 10) (msTicks 500 / 2) < 0 + msTicks 500) := by decide
theorem witness_GrantsAreJudgedInOrder :
    (let s := keyed .syncing
     leaseKey s = some zeroKey ∧ leaseParse zeroKey [] = none ∧
       leaseParse zeroKey (fcMsg 0x81 1 0 1 7 500) = some ⟨0x81, 1, 0, 1, 7, 500⟩ ∧ 1 ≠ s.planeId ∧
       leaseParse zeroKey (fcMsg 0x81 0 0 1 7 501) = some ⟨0x81, 0, 0, 1, 7, 501⟩ ∧ 500 < 501 ∧
       ¬ (s.red.plane = .standby ∨ s.red.plane = .active)) := by decide

theorem witness_LeaseMessagesAreSentAndHeard :
    (lineRead false [] = none ∧ lineRead false ((codeGroups false ((true, 0xFB) :: [(true, 0xFD)])).1) = some [] ∧ framed [] = false ∧
      leaseKey (keyed .active) = some zeroKey ∧ leaseKey ready = none ∧ framed (fcMsg 0x81 0 0 1 7 500) = true) ∧
    (let s := keyed .active
     leaseKey s = some zeroKey ∧ leaseParse zeroKey (fcMsg 0x82 0 1 5 0 0) = some ⟨0x82, 0, 1, 5, 0, 0⟩ ∧ 0 = s.planeId ∧ 1 ≠ s.planeId) ∧
    (let s := (keyed .standby).p F.RED_LEASE_CFG_EN [] 1
     let t := { s with red := { s.red with helloAt := some 0 } }
     leaseKey s = some zeroKey ∧ s.on F.RED_LEASE_CFG_EN [] = true ∧ s.red.helloAt = none ∧ t.ticks < 0 + helloInterval t ∧
       s.red.healthAt = none) ∧
    (let s0 := (ready.p F.RED_SEEN_SEEN [] 9).p F.RED_LEASE_TERM_TERM [] 500
     let s := { s0 with ticks := 249000000, red := { plane := .active, tExp := some 250000000, heard := some 248000000 } }
     s.red.tExp = some 250000000 ∧ s.ticks < 250000000 ∧ hearsFc s = true ∧ 250000000 ≤ s.ticks + leaseGuard (s.g F.RED_LEASE_TERM_TERM []) ∧
       s.g F.RED_EPOCH_EPOCH [] < s.g F.RED_SEEN_SEEN [] ∧ hearsFc ready = false ∧ s.red.plane = .active ∧ ready.red.recov ≤ ready.ticks) := by
  refine ⟨?_, ?_, ?_, ?_⟩ <;> decide

/-- The partner link up with one lane, its last heartbeat at 0. -/
def linked (p : Plane) (twin : Nat) : State :=
  let s := ((((ready.p F.RED_PARTNER_STAT_LANES [] 0x80).p F.RED_PARTNER_CFG_MIN_LANES [] 1).p F.RED_PARTNER_STAT_UP [] 1).p
    F.RED_PARTNER_STAT_TWIN_STATE [] twin)
  { s with red := { plane := p, hbAt := some 0 } }
def aBeat (plane : Bool) (state : Fin 4) (epoch : BitVec 32) : Heartbeat := ⟨plane, state, epoch, 0, false, 0, none, 0, 0, []⟩
theorem witness_PlaneStatesFollowHostAndPartner :
    (let s := linked .isolated 3
     let u := linked .isolated 2
     Reaches .mgmt .red s ∧ s.red.plane = .isolated ∧ s.on F.RED_PARTNER_STAT_UP [] = true ∧ s.g F.RED_PARTNER_STAT_TWIN_STATE [] = 3 ∧
       s.red.sync = none ∧ u.g F.RED_PARTNER_STAT_TWIN_STATE [] ≠ 3 ∧ Reaches .mgmt .red u ∧ s.on F.SYS_STRAP_ID_CLASH [] = false ∧
       Reaches .mgmt .red (s.p F.SYS_STRAP_ID_CLASH [] 1) ∧ (s.p F.SYS_STRAP_ID_CLASH [] 1).on F.SYS_STRAP_ID_CLASH [] = true ∧
       partnerSilent (ready.p F.SYS_STRAP_ID_CLASH [] 1) = true ∧ ready.on F.RED_PARTNER_STAT_UP [] = false) ∧
    (let s := linked .standby 2
     let u := s.p F.RED_PARTNER_STAT_UP [] 0
     s.red.plane = .standby ∧ s.on F.RED_PARTNER_STAT_UP [] = true ∧ 2 ≤ s.g F.RED_PARTNER_STAT_TWIN_STATE [] ∧ s.red.sync = none ∧
       u.on F.RED_PARTNER_STAT_UP [] = false ∧ linkHolds u = true ∧ linkHolds { s with ticks := 50001 } = false) ∧
    (let s := (linked .syncing 2).p F.RED_PARTNER_STAT_UP [] 0
     let u := (linked .syncing 0).p F.RED_PARTNER_STAT_UP [] 0
     s.red.plane = .syncing ∧ s.red.sync = none ∧ linkHolds s = true ∧ s.g F.RED_PARTNER_STAT_TWIN_STATE [] ≠ 1 ∧ linkHolds u = true ∧
       u.g F.RED_PARTNER_STAT_TWIN_STATE [] = 0) ∧
    (let s := linked .active 2
     let m := aBeat true 3 5#32
     s.g F.RED_PARTNER_STAT_LANES [] ≠ 0 ∧ s.red.hbSent = none ∧ b2n m.plane ≠ s.planeId ∧ m.echo = none ∧ m.state = 3 ∧
       ¬ (s.red.plane = .active ∧ m.state = 3 ∧ m.epoch = s.rd R.RED_EPOCH []) ∧ b2n (aBeat false 3 5#32).plane = s.planeId) ∧
    (let y : Sync := { phase := 3, settle := 7 }
     let s := { ready with ticks := 7, red := { plane := .syncing, sync := some y } }
     s.red.plane = .syncing ∧ s.red.sync = some y ∧ y.phase = 3 ∧ y.settle ≤ s.ticks ∧ s.on F.SYS_STRAP_ID_CLASH [] = false) := by
  refine ⟨?_, ?_, ?_, ?_, ?_⟩ <;> decide

theorem witness_ReplicationAndCopiesAreApplied :
    (let s0 := ((((linked .standby 3).p F.XPT_CAD_CFG_ENABLE [0] 1).wr R.XPT_SRC_LAYOUT [0] 0x11111111#32).wr R.XPT_DST_LAYOUT [1] 0x11111111#32).setCad 0
       { running := true, line := 8, frame := 3 }
     let s := { s0 with red := { s0.red with rx := some (4, 2 ^ 64 - 2) } }
     let m : ReplMsg := ⟨4, 2 ^ 64 - 1, 7, 1, 0x7101#512 ||| takeBits 1 (1 * 2 ^ 64 + 7 * 2 ^ 75), some ⟨0, 4, 1, false⟩, false, []⟩
     s.g F.RED_PARTNER_STAT_LANES [] ≠ 0 ∧ s.red.plane = .standby ∧ replWant s m.epoch = some m.rseq ∧ dOpcode (replDesc m) = 0x10 ∧
       cbMode m.ver (replDesc m) ≠ 2 ∧ cadOn s 0 = true ∧ (localStamp s ⟨0, 4, 1, false⟩).2 = false ∧ takeDst m.ver (replDesc m) = (1, 7) ∧
       takeSrc m.ver (replDesc m) = some (0, 0) ∧ replRouteBad s 1 7 (some (0, 0)) = false ∧ takeOf s 1 7 = none) ∧
    (let s0 := (linked .standby 3).p F.RED_PARTNER_STAT_UP [] 0
     let s := { s0 with red := { s0.red with rx := some (4, 9) } }
     replWant s 4 = some 10 ∧ 10 ≠ 12 ∧ s.on F.RED_PARTNER_STAT_UP [] = false ∧ s.on F.SYS_STRAP_ID_CLASH [] = false ∧ s.takesHost = false ∧ (linked .active 2).takesHost = true ∧
       (linked .active 2).g F.RED_PARTNER_STAT_LANES [] ≠ 0) ∧
    (let y : Sync := { next := 5119 }
     let z : Sync := { next := syncUnits - 1, wrote := [syncUnits - 1] }
     y.phase = 0 ∧ y.next < lutPages ∧ 5119 ∉ y.wrote ∧ z.next + 1 = syncUnits ∧ z.next ∈ z.wrote ∧ y.again ≠ some 5119) ∧
    (let y : Sync := { phase := 1 }
     let s0 := linked .syncing 3
     let s := { s0 with red := { s0.red with sync := some y } }
     s.g F.RED_PARTNER_STAT_LANES [] ≠ 0 ∧ s.red.sync = some y ∧ y.phase = 1 ∧ ∀ m ∈ y.queue, m.rseq ≤ 0) := by
  refine ⟨?_, ?_, ?_, ?_⟩ <;> decide

theorem witness_SignaturesAndChecksAreCounted :
    (let s0 := (linked .standby 3).p F.RED_SIG_CFG_EN [] 1
     let y : SigRec := ⟨1279, 7, 65535, 1, 5, false⟩
     let x : SigRec × Nat := (⟨1279, 7, 65535, 1, 6, false⟩, 0)
     let s := { s0 with ticks := 10 ^ 9, red := { s0.red with sigs := [x] } }
     let p := s.p F.RED_SIG_CFG_PERSIST [] 1
     s.g F.RED_PARTNER_STAT_LANES [] ≠ 0 ∧ s.red.plane = .standby ∧ s.on F.RED_SIG_CFG_EN [] = true ∧
       s0.red.sigs.find? (fun x => sameRecord x.1 y) = none ∧ s.red.sigs.find? (fun x => sameRecord x.1 y) = some x ∧ x.1.crc ≠ y.crc ∧
       p.g F.RED_SIG_CFG_PERSIST [] ≤ getD 0 p.red.runs (8 * 1279 + 7) + 1 ∧
       getD 0 s.red.runs (8 * 1279 + 7) + 1 < s.g F.RED_SIG_CFG_PERSIST [] ∧
       getD 0 ({ s with red := { s.red with runs := [(8 * 1279 + 7, 256)] } } : State).red.runs (8 * 1279 + 7) = 256 ∧
       s.red.sigs.find? (fun z => z.1.d == 1279 && z.1.m == 7) = some x ∧ sigOld s x = true) ∧
    (let s := linked .standby 3
     s.red.plane = .standby ∧ (∀ e : Fin 64, s.engOn e = false) ∧ eValid (s.rd R.XPT_LIVE [10239]) = false ∧ Reaches .mgmt .red s) := by
  refine ⟨?_, ?_⟩ <;> decide

theorem witness_StepTakesTheFront : ready.pending = [] ∧
    ∃ t, step { ready with pending := [.tempPeakClear .mgmt 3, .ppsInEdge] } = .next t ∧ t.pending = [.ppsInEdge] :=
  ⟨rfl, _, rfl, by decide⟩

theorem witness_EveryStepKeepsTheInvariants :
    let s := { ready with pending := [.tempPeakClear .mgmt 3, .ppsInEdge] }
    (∃ t, step s = .next t) ∧ s.wf = true ∧ FreshTok s := by
  refine ⟨⟨_, rfl⟩, ?_, ?_⟩ <;> decide

theorem witness_OtherPartsStay : (∃ t, exec (.prbsChkLock 3 [true]) ready = .next t) ∧ Part.reg .eng ∉ mayTouch (.prbsChkLock 3 [true]) ∧
    Part.root ∉ mayTouch (.prbsChkLock 3 [true]) ∧ Part.reg .zl ∈ mayTouch (.prbsChkLock 3 [true]) := by
  refine ⟨⟨_, rfl⟩, ?_, ?_, ?_⟩ <;> decide

theorem witness_PlaneMovesOnlyByItsTable :
    (∃ t, exec (.join .mgmt) ready = .next t ∧ ready.red.plane = .isolated ∧ t.red.plane ≠ .isolated) ∧
    (∃ t, exec (.isolate .mgmt) { ready with red := { plane := .syncing } } = .next t ∧ t.red.plane = .isolated) := by
  refine ⟨⟨_, rfl, ?_, ?_⟩, ⟨_, rfl, ?_⟩⟩ <;> decide

theorem witness_StoresChangeOnlyByTheirCommands :
    (∃ t, exec .timeCounterTick ready = .next t ∧ t.ticks ≠ ready.ticks) ∧
    (∃ t, exec (.selftestTick [] [(5, 9#8)]) ready = .next t ∧ t.eng.lut ≠ ready.eng.lut) ∧
    (∃ t, exec (.porRelease false 1#4096 1#4096 1#4096 0#96) State.reset = .next t ∧ t.sys.root ≠ State.reset.sys.root) := by
  refine ⟨⟨_, rfl, ?_⟩, ⟨_, rfl, ?_⟩, ⟨_, rfl, ?_⟩⟩ <;> decide

theorem witness_CountersAddAndWrap :
    let s : State := { ready with pmu := { ready.pmu with cnt := [(0, 2 ^ 48 - 1)] } }
    s.levelMode 0 = false ∧ 2 ^ 48 ≤ s.cnt 0 + 1 ∧ s.cnt 1 + 1 < 2 ^ 48 ∧ s.levelMode 553 = false ∧
    (s.p F.PMU_CNT_CFG_MODE [585] 1).levelMode 585 = true := by decide

theorem witness_BudgetFollowsItsPercentage :
    Reaches .mgmt .cel ready ∧ F.CEL_BUDGET_PCT.of 1#32 = 1 ∧ ready.g F.CEL_LOAD_LOAD [] * 100 ≤ 655360 * 1 ∧
    F.CEL_BUDGET_PCT.of 75#32 = 75 ∧ 75 < F.CEL_BUDGET_PCT.of 76#32 ∧
    (let s := ready.p F.CEL_LOAD_LOAD [] 6554
     Reaches .mgmt .cel s ∧ ¬ s.g F.CEL_LOAD_LOAD [] * 100 ≤ 655360 * F.CEL_BUDGET_PCT.of 1#32) := by decide

theorem witness_QuadModesNeedAnIdleQuad :
    (Reaches .mgmt .zl ready ∧ F.ZL_QUAD_CFG_MODE.of (F.ZL_QUAD_CFG_MODE.into 1 0) ≠ ready.g F.ZL_QUAD_CFG_MODE [15] ∧ F.ZL_QUAD_CFG_MODE.of (F.ZL_QUAD_CFG_MODE.into 1 0) ≠ 3 ∧
      (∀ k : Fin 4, ready.on F.ZL_LANE_CTRL_RX_EN [60 + k.val] = false ∧ ready.on F.ZL_LANE_CTRL_TX_EN [60 + k.val] = false) ∧
      liveEntries ready ++ loftEntries ready = [] ∧ ready.flw.tbl = []) ∧
    (let s := ready.p F.ZL_LANE_CTRL_RX_EN [63] 1
     Reaches .mgmt .zl s ∧ s.on F.ZL_LANE_CTRL_RX_EN [63] = true) ∧
    (let s := ready.wr R.XPT_LIVE [64 * 15] (entryWord true false 0 5 0 0)
     Reaches .mgmt .zl s ∧ (liveEntries s).any (fun x => eValid x.2 && x.1 / 8 / 8 == 15) = true) := by
  refine ⟨?_, ?_, ?_⟩ <;> decide

theorem witness_MidnightAdvancesTheDate :
    let at_ := fun (y m d : Nat) => (((({ ready with ref := { ready.ref with calDay := -1 } } : State).p F.REF_CAL_DATE_YEAR [] y).p
      F.REF_CAL_DATE_MONTH [] m).p F.REF_CAL_DATE_DAY [] d)
    ∀ x ∈ [(2000, 2, 28), (2100, 2, 28), (2024, 12, 31), (2399, 12, 31)],
      ¬ Blk.ref ∈ (at_ x.1 x.2.1 x.2.2).sys.held ∧ localDay (at_ x.1 x.2.1 x.2.2) = (at_ x.1 x.2.1 x.2.2).ref.calDay + 1 ∧
      realDate x.1 x.2.1 x.2.2 = true ∧ (at_ x.1 x.2.1 x.2.2).g F.REF_CAL_DATE_YEAR [] = x.1 ∧
      (at_ x.1 x.2.1 x.2.2).g F.REF_CAL_DATE_MONTH [] = x.2.1 ∧ (at_ x.1 x.2.1 x.2.2).g F.REF_CAL_DATE_DAY [] = x.2.2 := by decide

theorem witness_SequenceNumbersAreCompared :
    (let s := (offers 0xFFFF7001#512 1).p F.CMD_RING_CFG_SEQ_CHECK [7, 7] 1
     let t := s.p F.CMD_RING_SEQ_EXPECT [7, 7] 0xFFFF
     (0x00, Instr.nop 7 7) ∈ presenting 7 7 ∧ Presented s 7 7 (offered s) ∧ dOpcode (offered s) = 0x00 ∧ ringVer s 7 7 = 1 ∧
       dBits (offered s) 3 0 = ringVer s 7 7 ∧ dBits (offered s) 14 12 = (offered s).part ∧ (offered s).part = 7 ∧ (offered s).ring = 7 ∧
       s.on F.CMD_RING_CFG_SEQ_CHECK [7, 7] = true ∧ dSeq (ringVer s 7 7) (offered s) ≠ s.g F.CMD_RING_SEQ_EXPECT [7, 7] ∧
       Presented t 7 7 (offered t) ∧ dSeq (ringVer t 7 7) (offered t) = t.g F.CMD_RING_SEQ_EXPECT [7, 7] ∧ ringVer t 7 7 = 1) ∧
    (let s := offers 0x7002#512 2
     Presented s 7 7 (offered s) ∧ ringVer s 7 7 = 2 ∧ dBits (offered s) 3 0 = 2 ∧ s.on F.CMD_RING_CFG_SEQ_CHECK [7, 7] = false) := by
  refine ⟨?_, ?_⟩ <;> decide

theorem witness_RegistersAreAccessedByTheMap :
    ReachesReg (.part 7) (R.HIF_IRQ_MAP.addr [7]) false R.HIF_IRQ_MAP [7] ready ∧ ((highOf R.HIF_IRQ_MAP).isSome && loWritable R.HIF_IRQ_MAP) = false ∧
    (lowOf R.HIF_IRQ_MAP).filter loWritable = none ∧
    ReachesReg .mgmt (R.FLT_DEP.addr [17]) false R.FLT_DEP [17] (ready.count 27 1) ∧
    (ReachesReg (.part 0) (R.XPT_GEN_SLATE_LO.addr [63]) false R.XPT_GEN_SLATE_LO [63] ready ∧ (highOf R.XPT_GEN_SLATE_LO).isSome = true ∧
      loWritable R.XPT_GEN_SLATE_LO = true) ∧
    (ReachesReg (.part 0) (R.XPT_GEN_SLATE_HI.addr [63]) false R.XPT_GEN_SLATE_HI [63] ready ∧ highOf R.XPT_GEN_SLATE_HI = none ∧
      (lowOf R.XPT_GEN_SLATE_HI).map (·.base) = some R.XPT_GEN_SLATE_LO.base) ∧
    (ReachesReg .mgmt (R.RED_REPL_TX_LO.addr []) true R.RED_REPL_TX_LO [] ready ∧ (highOf R.RED_REPL_TX_LO).isSome = true ∧
      latched? ready .mgmt (R.RED_REPL_TX_LO.addr []) = none) ∧
    (findReg (4 * (0xFFFFFF#24).toNat) = none ∧ BusAwake .mgmt ready ∧ behind ready .mgmt (bdpChan (4 * (0xFFFFFF#24).toNat) true) = false) :=
  ⟨⟨rfl, ⟨Or.inr (Or.inr ⟨7, rfl, rfl⟩), rfl⟩, by decide, by decide, by decide, by decide⟩, by decide, by decide,
    ⟨rfl, ⟨Or.inl rfl, fun _ h => (Option.some.inj (show some Blk.flt = some _ from h)) ▸ rfl⟩, by decide, by decide, by decide, by decide⟩,
    ⟨⟨rfl, ⟨Or.inr rfl, fun _ h => (Option.some.inj (show some Blk.xpt = some _ from h)) ▸ rfl⟩, by decide, by decide, by decide, by decide⟩, by decide, by decide⟩,
    ⟨⟨rfl, ⟨Or.inr rfl, fun _ h => (Option.some.inj (show some Blk.xpt = some _ from h)) ▸ rfl⟩, by decide, by decide, by decide, by decide⟩, by decide, by decide⟩,
    ⟨⟨rfl, ⟨Or.inl rfl, fun _ h => (Option.some.inj (show some Blk.red = some _ from h)) ▸ rfl⟩, by decide, by decide, by decide, by decide⟩, by decide, by decide⟩,
    by decide, by decide, by decide⟩

theorem witness_IdlePortsWakeOnTheirNextRequest :
    requester (.readId) = none ∧ requester (.join (.part 0)) = some (.part 0) ∧ blkHeld ready .hif = false ∧ apertureFits 0 128 = true ∧
    (let s := ready.p F.NOC_IDLE_IDLE [] 0x7FF
     s.g F.NOC_IDLE_IDLE [] < 2 ^ 11 ∧ bitOf (s.g F.NOC_IDLE_IDLE []) 10 = true ∧ s.levelMode 578 = false ∧ s.cnt 578 + 1 < 2 ^ 48) ∧
    BusAwake .mgmt ready ∧ BulkAwake 7 ready := by decide

theorem witness_ConfigurationSpaceAndMsixTableRead :
    (let s : State := { ready with cmd := { ready.cmd with perst := false } }
     blkHeld s .hif = false ∧ s.cmd.perst = false ∧ s.cmd.vfEnable = false) ∧
    (let s : State := { ready with cmd := { ready.cmd with perst := false, vfEnable := true } }
     blkHeld s .hif = false ∧ s.cmd.perst = false ∧ s.cmd.vfEnable = true) := by decide

end Sys2Proof.Tests
end

