-- ==== Sys2Proof/Proofs/Grants.lean ====
section
/-! PROOFS. Messages on LEASE_RX (R362 to R367): how a GRANT is judged, and what an accepted one leaves. -/
namespace Sys2Proof.Machine

/-! Facts for every family: little-endian numbers, registers of a kept block, the change of plane state. -/

theorem ofLE_lt : ∀ bs : List Byte, ofLE bs < 256 ^ bs.length
  | [] => by decide
  | b :: bs => by
    have hb := b.isLt
    have ih := ofLE_lt bs
    simp only [ofLE, List.length_cons, Nat.pow_succ]
    omega

/-- A number read from at most `n` bytes fits in them. -/
theorem ofLE_take_lt (n : Nat) (bs : List Byte) : ofLE (bs.take n) < 256 ^ n :=
  Nat.lt_of_lt_of_le (ofLE_lt _) (Nat.pow_le_pow_right (by decide) (List.length_take_le n bs))

/-- The registers of a block that `k` selects read the same. -/
theorem Keeps.rd {k : Part → Bool} {s t : State} (h : Keeps k s t) {r : Reg} (i : List Nat) (hk : k (.reg r.blk) = true)
    (hr : (r.inBlock && r.dims.all fun x => x.1 != 0) = true := by rfl) : t.rd r i = s.rd r i := by
  rw [Bool.and_eq_true] at hr
  have e := h.same (.reg r.blk) hk (r.addr i) (r.blkAt_addr hr.1 hr.2 i)
  simp only [State.rd, getD, e]

theorem Keeps.g {k : Part → Bool} {s t : State} (h : Keeps k s t) {f : FR} (i : List Nat) (hk : k (.reg f.reg.blk) = true)
    (hr : (f.reg.inBlock && f.reg.dims.all fun x => x.1 != 0) = true := by rfl) : t.g f i = s.g f i := by
  simp only [State.g, h.rd i hk hr]

/-- The present is before t_exp (R367). -/
theorem State.holder_iff (s : State) : s.holder = true ↔ ∃ e, s.red.tExp = some e ∧ s.ticks < e := by
  unfold State.holder
  cases s.red.tExp with
  | none => simp only [Bool.false_eq_true, reduceCtorEq, false_and, exists_false]
  | some e => simp only [decide_eq_true_eq, Option.some.injEq, exists_eq_left']

@[simp] theorem discardImage_red (s : State) : (discardImage s).red = s.red :=
  (discardImage_keeps (k := fun p => p == .red) rfl (.refl _ s)).same .red rfl

@[simp] theorem raiseEvent_red (code cls index detail : Nat) (ps : List Nat) (s : State) :
    (raiseEvent code cls index detail ps s).red = s.red :=
  (raiseEvent_keeps (k := fun p => p == .red) rfl rfl rfl rfl (.refl _ s)).same .red rfl

/-- A change of plane state changes no hidden part of RED but the state itself and the step-down owed (R375). -/
theorem setPlane_red {p : Plane} {s : State} (h : s.red.plane ≠ p) :
    (setPlane p s).red = { s.red with plane := p, owed := s.red.owed && s.red.plane != .active } := by
  unfold setPlane
  rw [if_neg h]
  simp only [raiseEvent_red, State.count_red, when]
  split
  · split
    · rw [discardImage_red]
    · rfl
  · rfl

/-- An epoch seen changes no hidden part of RED. -/
@[simp] theorem seeEpoch_red (src e : Nat) (s : State) : (seeEpoch src e s).red = s.red :=
  (seeEpoch_keeps (k := fun p => p == .red) rfl (.refl _ s)).same .red rfl

@[simp] theorem seeEpoch_ticks (src e : Nat) (s : State) : (seeEpoch src e s).ticks = s.ticks :=
  (seeEpoch_keeps (k := fun p => p == .ticks) rfl (.refl _ s)).same .ticks rfl

/-- It writes RED_SEEN and RED_SEEN_SRC alone (R372). -/
theorem seeEpoch_g (src e : Nat) (s : State) {f : FR} {i : List Nat} (hs : R.RED_SEEN.addr [] ≠ f.reg.addr i)
    (hc : R.RED_SEEN_SRC.addr [] ≠ f.reg.addr i) : (seeEpoch src e s).g f i = s.g f i := by
  unfold seeEpoch
  split
  · rw [State.g_p_ne _ _ hc, State.g_p_ne _ _ hs]
  · rfl

/-! The first two checks of R366. -/

/-- The device has heard the frame controller now (R368). -/
def heardNow (s : State) : State := { s with red := { s.red with heard := some s.ticks } }

/-- The EPOCH read from a message has four bytes (R363). -/
theorem leaseParse_epoch_lt {key bytes : List Byte} {m : LeaseMsg} (h : leaseParse key bytes = some m) : m.epoch < 2 ^ 32 := by
  unfold leaseParse at h
  dsimp only at h
  split at h
  · cases h
    exact ofLE_take_lt 4 _
  · cases h

section
variable {bytes key : List Byte} {m : LeaseMsg} {s : State}

theorem leaseReceive_bad (hk : leaseKey s = some key) (hm : leaseParse key bytes = none) : leaseReceive bytes s = badMsg s := by
  simp only [leaseReceive, hk, hm]

theorem leaseReceive_grant_wrongPlane (hk : leaseKey s = some key) (hm : leaseParse key bytes = some m) (ht : m.type = 0x81)
    (hp : m.plane ≠ s.planeId) : leaseReceive bytes s = grantDiscard F.RED_LEASE_CNT_WRONG_PLANE s := by
  simp only [leaseReceive, hk, hm, bne_iff_ne, if_pos hp, if_pos ht]

/-- A GRANT for this plane is heard, judged, and its epoch seen. -/
theorem leaseReceive_grant (hk : leaseKey s = some key) (hm : leaseParse key bytes = some m) (ht : m.type = 0x81)
    (hp : m.plane = s.planeId) :
    leaseReceive bytes s = seeEpoch 0 m.epoch (grantJudge m (heardNow s)) := by
  simp only [leaseReceive, heardNow, hk, hm, hp, bne_self_eq_false, Bool.false_eq_true, if_false, if_pos ht]

end

/-! The checks on NONCE, TERM, EPOCH and on the device (R366). -/

/-- The checks that STALE counts. -/
def GrantStale (s : State) (m : LeaseMsg) : Prop :=
  (∀ h ∈ s.red.hellos, h.1 ≠ m.nonce) ∨ m.term < 5 ∨ 500 < m.term ∨ m.epoch = 0 ∨ m.epoch < s.g F.RED_SEEN_SEEN [] ∨
    (s.holder = true ∧ m.epoch < s.g F.RED_EPOCH_EPOCH [])

/-- The checks that REFUSED counts, for a lease that would end at `e`. -/
def GrantPasses (s : State) (m : LeaseMsg) (e : Nat) : Prop :=
  (s.red.plane = .standby ∨ s.red.plane = .active) ∧ s.on F.SYS_STRAP_ID_CLASH [] = false ∧ s.flt.fatal = false ∧
    s.ticks + leaseGuard m.term < e

section
variable {m : LeaseMsg} {s : State}

theorem grantJudge_stale (h : GrantStale s m) : grantJudge m s = grantDiscard F.RED_LEASE_CNT_STALE s := by
  unfold grantJudge
  cases hf : s.red.hellos.find? (fun h => h.1 == m.nonce) with
  | none => rfl
  | some x =>
    have held : ¬ ∀ h ∈ s.red.hellos, h.1 ≠ m.nonce := fun no =>
      no x (List.mem_of_find?_eq_some hf) (beq_iff_eq.mp (List.find?_some hf :))
    dsimp only
    by_cases hterm : m.term < 5 ∨ 500 < m.term
    · simp only [Bool.or_eq_true, decide_eq_true_eq, if_pos hterm]
    · have hepoch : m.epoch = 0 ∨ m.epoch < s.g F.RED_SEEN_SEEN [] ∨ (s.holder = true ∧ m.epoch < s.g F.RED_EPOCH_EPOCH []) := by
        obtain none | low | high | zero | seen | own := h
        · exact absurd none held
        · exact absurd (.inl low) hterm
        · exact absurd (.inr high) hterm
        · exact .inl zero
        · exact .inr (.inl seen)
        · exact .inr (.inr own)
      simp only [Bool.or_eq_true, Bool.and_eq_true, decide_eq_true_eq, or_assoc, if_neg hterm, if_pos hepoch]

/-- A GRANT that answers a HELLO held and is not stale comes to the checks on the device. -/
theorem grantJudge_fresh {th : Nat} (h : ¬ GrantStale s m)
    (hf : s.red.hellos.find? (fun h => h.1 == m.nonce) = some (m.nonce, th)) :
    (GrantPasses s m (grantExpiry s m th) → grantJudge m s = grantAccept m (grantExpiry s m th) s) ∧
    (¬ GrantPasses s m (grantExpiry s m th) → grantJudge m s = grantDiscard F.RED_LEASE_CNT_REFUSED s) := by
  simp only [GrantStale, not_or] at h
  obtain ⟨-, hlow, hhigh, hzero, hseen, hown⟩ := h
  have hterm : ¬ (m.term < 5 ∨ 500 < m.term) := not_or.mpr ⟨hlow, hhigh⟩
  have hepoch : ¬ ((m.epoch = 0 ∨ m.epoch < s.g F.RED_SEEN_SEEN []) ∨ (s.holder = true ∧ m.epoch < s.g F.RED_EPOCH_EPOCH [])) :=
    not_or.mpr ⟨not_or.mpr ⟨hzero, hseen⟩, hown⟩
  simp only [grantJudge, hf, fatalHeld, Bool.or_eq_true, Bool.and_eq_true, decide_eq_true_eq, Bool.not_eq_true', if_neg hterm,
    if_neg hepoch, GrantPasses, and_assoc]
  exact ⟨fun p => if_pos p, fun p => if_neg p⟩

/-! What an accepted GRANT leaves (R367). -/

/-- The epoch, the term and the end of an accepted lease, recorded. -/
def grantRecorded (m : LeaseMsg) (e : Nat) (s : State) : State :=
  let t := ((s.p F.RED_EPOCH_EPOCH [] m.epoch).p F.RED_LEASE_TERM_TERM [] m.term).count 434 1
  { t with red := { t.red with tExp := some e } }

theorem grantRecorded_red (m : LeaseMsg) (e : Nat) (s : State) : (grantRecorded m e s).red = { s.red with tExp := some e } := by
  simp only [grantRecorded, State.count_red, State.p_red]

theorem grantRecorded_ticks (m : LeaseMsg) (e : Nat) (s : State) : (grantRecorded m e s).ticks = s.ticks := by
  simp only [grantRecorded, State.count_ticks, State.p_ticks]

theorem pmuWrap_addr_ne {a : Nat} (h : blkAt a ≠ some .pmu) (i : Nat) : R.PMU_WRAP.addr [i] ≠ a := fun e =>
  h (e ▸ Reg.blkAt_addr (r := R.PMU_WRAP) rfl rfl [i])

theorem grantRecorded_epoch {m : LeaseMsg} (e : Nat) (s : State) (h : m.epoch < 2 ^ 32) :
    (grantRecorded m e s).g F.RED_EPOCH_EPOCH [] = m.epoch := by
  have counted : (grantRecorded m e s).g F.RED_EPOCH_EPOCH [] =
      ((s.p F.RED_EPOCH_EPOCH [] m.epoch).p F.RED_LEASE_TERM_TERM [] m.term).g F.RED_EPOCH_EPOCH [] :=
    State.g_count _ 434 1 (pmuWrap_addr_ne (by decide))
  rw [counted, State.g_p_ne _ _ (by decide), State.g_p_same]
  exact Nat.mod_eq_of_lt h

theorem grantRecorded_term {m : LeaseMsg} (e : Nat) (s : State) (h : m.term ≤ 500) :
    (grantRecorded m e s).g F.RED_LEASE_TERM_TERM [] = m.term := by
  have counted : (grantRecorded m e s).g F.RED_LEASE_TERM_TERM [] =
      ((s.p F.RED_EPOCH_EPOCH [] m.epoch).p F.RED_LEASE_TERM_TERM [] m.term).g F.RED_LEASE_TERM_TERM [] :=
    State.g_count _ 434 1 (pmuWrap_addr_ne (by decide))
  rw [counted, State.g_p_same]
  exact Nat.mod_eq_of_lt (show m.term < 512 by omega)

theorem grantAccept_active (e : Nat) (h : s.red.plane = .active) : grantAccept m e s = grantRecorded m e s := by
  simp only [grantAccept, h, grantRecorded]

/-- A STANDBY device becomes ACTIVE, and may open the recovery window (R393). -/
theorem grantAccept_standby (e : Nat) (h : s.red.plane = .standby) :
    ∃ c, grantAccept m e s = setPlane .active (when c startRecovery (grantRecorded m e s)) :=
  ⟨decide (s.g F.RED_EPOCH_EPOCH [] < m.epoch) && s.red.twinEver, by simp only [grantAccept, h, grantRecorded]⟩

/-- The parts in which an accepted GRANT leaves just what it recorded. -/
def grantKept (p : Part) : Bool := p == .ticks || p == .lease || p == .reg .red

/-- Acceptance leaves the lease recorded and the device ACTIVE. -/
theorem grantAccept_leaves (e : Nat) (h : s.red.plane = .standby ∨ s.red.plane = .active) :
    Keeps grantKept (grantRecorded m e s) (grantAccept m e s) ∧ (grantAccept m e s).red.plane = .active ∧
      (grantAccept m e s).red.heard = s.red.heard := by
  obtain h | h := h
  · obtain ⟨c, hc⟩ := grantAccept_standby (m := m) e h
    have window : Keeps grantKept (grantRecorded m e s) (when c startRecovery (grantRecorded m e s)) :=
      keep_when (fun _ => startRecovery_keeps rfl) (.refl _ _)
    have before : (when c startRecovery (grantRecorded m e s)).red.plane = .standby ∧
        (when c startRecovery (grantRecorded m e s)).red.heard = s.red.heard := by
      cases c with
      | false => simp only [when, Bool.false_eq_true, if_false, grantRecorded_red, h, and_self]
      | true => simp only [when, if_true, startRecovery, grantRecorded_red, h, and_self]
    have moved := setPlane_red (p := .active) (s := when c startRecovery (grantRecorded m e s)) (by rw [before.1]; decide)
    rw [hc, moved]
    exact ⟨setPlane_keeps rfl rfl rfl rfl rfl rfl window (ha := nofun) (hl := nofun) (hm := nofun), rfl, before.2⟩
  · rw [grantAccept_active e h, grantRecorded_red]
    exact ⟨.refl _ _, h, rfl⟩

/-- An accepted GRANT, its epoch seen: the device is ACTIVE and holds the lease recorded. -/
theorem grantAccept_seen {e : Nat} (hp : GrantPasses s m e) (hm : m.epoch < 2 ^ 32) (ht : m.term ≤ 500) :
    let t := seeEpoch 0 m.epoch (grantAccept m e s)
    t.red.plane = .active ∧ t.red.tExp = some e ∧ t.holder = true ∧ t.g F.RED_EPOCH_EPOCH [] = m.epoch ∧
      t.g F.RED_LEASE_TERM_TERM [] = m.term ∧ t.red.heard = s.red.heard := by
  obtain ⟨hplane, -, -, hfuture⟩ := hp
  obtain ⟨kept, active, heard⟩ := grantAccept_leaves (m := m) e hplane
  have tExp : (grantAccept m e s).red.tExp = some e := Eq.trans (kept.same .lease rfl) (by rw [grantRecorded_red])
  have ticks : (grantAccept m e s).ticks = s.ticks := Eq.trans (kept.same .ticks rfl) (grantRecorded_ticks m e s)
  have holds : (seeEpoch 0 m.epoch (grantAccept m e s)).holder = true := by
    rw [State.holder_iff, seeEpoch_red, seeEpoch_ticks, ticks]
    exact ⟨e, tExp, by omega⟩
  have epoch := (kept.g (f := F.RED_EPOCH_EPOCH) [] rfl).trans (grantRecorded_epoch e s hm)
  have term := (kept.g (f := F.RED_LEASE_TERM_TERM) [] rfl).trans (grantRecorded_term e s ht)
  simp only [seeEpoch_red]
  refine ⟨active, tExp, holds, ?_, ?_, heard⟩
  · rw [seeEpoch_g _ _ _ (by decide) (by decide), epoch]
  · rw [seeEpoch_g _ _ _ (by decide) (by decide), term]

end

theorem exec_grantReceive (bytes : List Byte) (s : State) : exec (.grantReceive bytes) s = .next (leaseReceive bytes s) := rfl

/-- Settles O39: the checks of R366 in their order, then what acceptance leaves. No check reads the time of hearing, so each
is the same before and after the message is heard (`heardNow`). -/
theorem grantsAreJudgedInOrder : Obligations.GrantsAreJudgedInOrder := by
  refine ⟨fun bytes key s hk => ⟨fun hm => ?_, fun m hm ht => ⟨fun hp => ?_, fun hp hs => ?_, fun th hp hs hf =>
    ⟨fun hr => ?_, fun ha => ?_⟩⟩⟩, State.holder_iff⟩
  · rw [exec_grantReceive, leaseReceive_bad hk hm]
    rfl
  · rw [exec_grantReceive, leaseReceive_grant_wrongPlane hk hm ht hp]
    rfl
  · rw [exec_grantReceive, leaseReceive_grant hk hm ht hp, grantJudge_stale (s := heardNow s) hs]
    rfl
  · rw [exec_grantReceive, leaseReceive_grant hk hm ht hp, (grantJudge_fresh (s := heardNow s) hs hf).2 hr]
    rfl
  · refine ⟨_, exec_grantReceive bytes s, ?_⟩
    have hterm : m.term ≤ 500 := Nat.le_of_not_lt fun hlong => hs (.inr (.inr (.inl hlong)))
    rw [leaseReceive_grant hk hm ht hp, (grantJudge_fresh (s := heardNow s) hs hf).1 ha]
    exact grantAccept_seen (s := heardNow s) ha (leaseParse_epoch_lt hm) hterm

end Sys2Proof.Machine
end

