-- ==== Sys2Proof/Proofs/Layouts.lean ====
section
/-! PROOFS. Writes of the layout registers (R32 to R34): the groups of a class, and what an accepted and a refused write leave. -/
namespace Sys2Proof.Machine

/-! The sub-slot groups of R32. -/

/-- The groups of a class divide the slot: their count times their size is 8. -/
theorem subsOf_mul_groups {c : Nat} (h : subsOf c ≠ 0) : subsOf c * (8 / subsOf c) = 8 := by
  unfold subsOf at h ⊢
  split at h
  case h_6 => exact absurd rfl h
  all_goals rfl

/-- The group with a legal base holds the sub-slots of the slot whose base it is. -/
theorem mem_groupSubs_iff {c m k : Nat} (h : legalBase c m = true) : k ∈ groupSubs c m ↔ k < 8 ∧ baseOf c k = m := by
  rw [legalBase, Bool.and_eq_true, bne_iff_ne, decide_eq_true_eq] at h
  obtain ⟨hn, hm⟩ := h
  have hmul := subsOf_mul_groups hn
  rw [groupSubs, baseOf, if_neg hn]
  simp only [List.mem_map, List.mem_range]
  generalize 8 / subsOf c = w at hm hmul ⊢
  constructor
  · rintro ⟨u, hu, rfl⟩
    have hlast : u * w + w ≤ subsOf c * w := Nat.succ_mul u w ▸ Nat.mul_le_mul_right w hu
    exact ⟨by omega, by rw [Nat.add_mul_mod_self_right, Nat.mod_eq_of_lt hm]⟩
  · rintro ⟨hk, rfl⟩
    refine ⟨k / w, ?_, Nat.mod_add_div' k w⟩
    rwa [Nat.div_lt_iff_lt_mul (by omega), hmul]

/-- A class that occupies sub-slots has its groups' bases legal. -/
theorem legalBase_baseOf {c : Nat} (h : subsOf c ≠ 0) (k : Nat) : legalBase c (baseOf c k) = true := by
  have hmul := subsOf_mul_groups h
  rw [legalBase, baseOf, if_neg h, Bool.and_eq_true, bne_iff_ne, decide_eq_true_eq]
  refine ⟨h, Nat.mod_lt k (Nat.pos_of_ne_zero fun hz => ?_)⟩
  rw [hz] at hmul
  omega

/-- The model's check of one sub-slot asks for the complete group of R32 that the sub-slot lies in. -/
theorem wholeGroup_iff {c k : Nat} (hk : k < 8) (p : Nat → Prop) :
    (subsOf c ≠ 0 ∧ ∀ j ∈ groupSubs c (baseOf c k), p j) ↔
      ∃ m, legalBase c m = true ∧ k ∈ groupSubs c m ∧ ∀ j ∈ groupSubs c m, p j := by
  constructor
  · rintro ⟨hn, hall⟩
    have legal := legalBase_baseOf hn k
    exact ⟨baseOf c k, legal, (mem_groupSubs_iff legal).mpr ⟨hk, rfl⟩, hall⟩
  · rintro ⟨m, legal, hmem, hall⟩
    obtain ⟨-, rfl⟩ := (mem_groupSubs_iff legal).mp hmem
    rw [legalBase, Bool.and_eq_true, bne_iff_ne] at legal
    exact ⟨legal.1, hall⟩

/-- A layout word passes the check where every used sub-slot lies in a whole group of its class (R33). -/
theorem layoutComplete_iff (v : Word) :
    layoutComplete v = true ↔ ∀ k : Fin 8, layoutSub v k ≠ 0 → ∃ m, legalBase (layoutSub v k) m = true ∧
      k.val ∈ groupSubs (layoutSub v k) m ∧ ∀ j ∈ groupSubs (layoutSub v k) m, layoutSub v j = layoutSub v k := by
  simp only [← wholeGroup_iff (Fin.isLt _), Fin.forall_iff, layoutComplete, List.all_eq_true, List.mem_range, Bool.or_eq_true,
    Bool.and_eq_true, bne_iff_ne, beq_iff_eq, Decidable.or_iff_not_imp_left, ne_eq]

/-! A refused layout write (R33, R34). -/

/-- A step that leaves a register leaves it when done on a condition. -/
theorem rd_when {c : Bool} {f : State → State} {s : State} {r : Reg} {j : List Nat} (h : ∀ t, (f t).rd r j = t.rd r j) :
    (when c f s).rd r j = s.rd r j := by
  cases c
  · rfl
  · exact h s

section
variable (dir i : Nat) (busy err : Bool) (s : State)

/-- It writes XPT_LAYOUT_STAT alone, and counts. -/
theorem refuseLayout_rd {r : Reg} {j : List Nat} (hs : R.XPT_LAYOUT_STAT.addr [] ≠ r.addr j) (hb : blkAt (r.addr j) ≠ some .pmu) :
    (refuseLayout dir i busy err s).rd r j = s.rd r j := by
  rw [refuseLayout, State.rd_count _ 179 1 (pmuWrap_addr_ne hb), State.rd_p_ne (f := F.XPT_LAYOUT_STAT_LAST_INDEX) _ _ hs,
    State.rd_p_ne (f := F.XPT_LAYOUT_STAT_LAST_DIR) _ _ hs, rd_when fun t => t.rd_p_ne (f := F.XPT_LAYOUT_STAT_ERR) 1 hs,
    rd_when fun t => t.rd_p_ne (f := F.XPT_LAYOUT_STAT_BUSY) 1 hs]

/-- Counting leaves XPT_LAYOUT_STAT. -/
theorem State.layoutStat_count (e n : Nat) {f : FR} (hf : f.reg = R.XPT_LAYOUT_STAT) : (s.count e n).g f [] = s.g f [] :=
  s.g_count e n (pmuWrap_addr_ne (by rw [hf]; decide))

theorem refuseLayout_err : (refuseLayout dir i busy true s).g F.XPT_LAYOUT_STAT_ERR [] = 1 := by
  rw [refuseLayout, State.layoutStat_count _ _ _ rfl,
    State.g_p_other (f := F.XPT_LAYOUT_STAT_LAST_INDEX) (g := F.XPT_LAYOUT_STAT_ERR) _ _ _ rfl (by decide),
    State.g_p_other (f := F.XPT_LAYOUT_STAT_LAST_DIR) (g := F.XPT_LAYOUT_STAT_ERR) _ _ _ rfl (by decide)]
  exact State.g_p_same _ [] 1

theorem refuseLayout_dir (h : dir < 2) : (refuseLayout dir i busy err s).g F.XPT_LAYOUT_STAT_LAST_DIR [] = dir := by
  rw [refuseLayout, State.layoutStat_count _ _ _ rfl,
    State.g_p_other (f := F.XPT_LAYOUT_STAT_LAST_INDEX) (g := F.XPT_LAYOUT_STAT_LAST_DIR) _ _ _ rfl (by decide), State.g_p_same]
  exact Nat.mod_eq_of_lt h

theorem refuseLayout_index (h : i < 2 ^ 11) : (refuseLayout dir i busy err s).g F.XPT_LAYOUT_STAT_LAST_INDEX [] = i := by
  rw [refuseLayout, State.layoutStat_count _ _ _ rfl, State.g_p_same]
  exact Nat.mod_eq_of_lt h

end

/-- A register of XPT above XPT_LAYOUT_STAT is another one, and not in PMU. -/
theorem Reg.above_layoutStat {r : Reg} (hr : r.inBlock = true) (hd : (r.dims.all fun x => x.1 != 0) = true) (hx : r.blk = .xpt)
    (hl : R.XPT_LAYOUT_STAT.base < r.base) (j : List Nat) :
    R.XPT_LAYOUT_STAT.addr [] ≠ r.addr j ∧ blkAt (r.addr j) ≠ some .pmu := by
  refine ⟨Nat.ne_of_lt (Nat.lt_of_lt_of_le hl (Nat.le_add_right _ _)), ?_⟩
  rw [r.blkAt_addr hr hd, hx]
  decide

/-! The two writes, with no valid entry in the way. -/

section
variable {rq : Req} {i : Fin 1280} {s : State} (v : Word)

theorem exec_srcLayoutWrite :
    exec (.srcLayoutWrite rq i v) s = .next (gate rq .xpt (writeSrcLayout i v) s) := rfl

theorem exec_srcLayoutWrite_free (h : Reaches rq .xpt s) (hi : i.val < 1152)
    (free : ∀ e ∈ liveEntries s ++ loftEntries s, eValid e.2 = true → (eSource e.2).1 ≠ i.val) :
    exec (.srcLayoutWrite rq i v) s =
      .next (if layoutComplete v then s.wr R.XPT_SRC_LAYOUT [i] v else refuseLayout 0 i false true s) := by
  have idle : (liveEntries s ++ loftEntries s).any (fun e => eValid e.2 && (eSource e.2).1 == i.val) = false := by
    simpa only [List.any_eq_false, Bool.and_eq_true, beq_iff_eq, not_and] using free
  rw [exec_srcLayoutWrite, gate_reaches h, writeSrcLayout, if_neg (Nat.not_le.mpr hi), idle]
  cases layoutComplete v <;> rfl

theorem exec_dstLayoutWrite :
    exec (.dstLayoutWrite rq i v) s = .next (gate rq .xpt (writeDstLayout i v) s) := rfl

theorem exec_dstLayoutWrite_free (h : Reaches rq .xpt s) (hi : i.val < 1152)
    (free : ∀ e ∈ liveEntries s ++ loftEntries s, eValid e.2 = true → e.1 / 8 ≠ i.val) :
    exec (.dstLayoutWrite rq i v) s =
      .next (if layoutComplete v then s.wr R.XPT_DST_LAYOUT [i] v else refuseLayout 1 i false true s) := by
  have idle : (liveEntries s ++ loftEntries s).any (fun e => eValid e.2 && e.1 / 8 == i.val) = false := by
    simpa only [List.any_eq_false, Bool.and_eq_true, beq_iff_eq, not_and] using free
  rw [exec_dstLayoutWrite, gate_reaches h, writeDstLayout, if_neg (Nat.not_le.mpr hi), idle]
  cases layoutComplete v <;> rfl

/-- What such a write leaves, for the layout register `r` of direction `dir`. -/
theorem layoutWrite_leaves {o : Out} {r : Reg} {dir : Nat}
    (ho : o = .next (if layoutComplete v then s.wr r [i] v else refuseLayout dir i false true s)) (hdir : dir < 2)
    (hother : R.XPT_LAYOUT_STAT.addr [] ≠ r.addr [i] ∧ blkAt (r.addr [i]) ≠ some .pmu) :
    (layoutComplete v = true → o = .next (s.wr r [i] v)) ∧
    (layoutComplete v = false → ∃ t, o = .next t ∧ t.rd r [i] = s.rd r [i] ∧ t.g F.XPT_LAYOUT_STAT_ERR [] = 1 ∧
      t.g F.XPT_LAYOUT_STAT_LAST_DIR [] = dir ∧ t.g F.XPT_LAYOUT_STAT_LAST_INDEX [] = i) := by
  refine ⟨fun whole => by rw [ho, if_pos whole], fun broken => ⟨refuseLayout dir i false true s, ?_, ?_, ?_, ?_, ?_⟩⟩
  · rw [ho, broken]
    rfl
  · exact refuseLayout_rd dir i false true s hother.1 hother.2
  · exact refuseLayout_err dir i false s
  · exact refuseLayout_dir dir i false true s hdir
  · exact refuseLayout_index dir i false true s (by omega)

end

/-- Settles O17: with no entry in the way the check of R33 alone decides each write, and that check finds the group of R32
around every used sub-slot. -/
theorem layoutWritesNeedWholeGroups : Obligations.LayoutWritesNeedWholeGroups := by
  refine ⟨fun rq i v s h hi free => ?_, fun rq i v s h hi free => ?_, layoutComplete_iff⟩
  · exact layoutWrite_leaves v (exec_srcLayoutWrite_free v h hi free) (by decide)
      (R.XPT_SRC_LAYOUT.above_layoutStat rfl rfl rfl (by decide) [i])
  · exact layoutWrite_leaves v (exec_dstLayoutWrite_free v h hi free) (by decide)
      (R.XPT_DST_LAYOUT.above_layoutStat rfl rfl rfl (by decide) [i])

end Sys2Proof.Machine
end

