-- ==== Sys2Proof/Proofs/Increments.lean ====
section
/-! PROOFS. Writes of the increment pair of a time counter (R171, R172): what an accepted and a refused one leave, and what the
next cycle makes of the increment. -/
namespace Sys2Proof.Machine

/-! A counter's cycle (R171). -/

/-- The time a counter shows, in units of 2 to the -48 ns. -/
def TCnt.units (t : TCnt) : Nat := (t.sec * 10 ^ 9 + t.ns) * 2 ^ 48 + t.frac

/-- A cycle carries the increment from the fraction to the nanoseconds to the seconds, which wrap. -/
theorem TCnt.tick_units (t : TCnt) : t.tick.units = (t.units + t.incr) % (2 ^ 48 * 10 ^ 9 * 2 ^ 48) := by
  simp only [TCnt.units, TCnt.tick]
  omega

theorem timeTick_tc {s : State} (d : Nat) (hp : s.sys.por = false) (hr : s.sys.rstLow = false) :
    (timeTick s).tc d = (s.tc d).tick := by
  simp only [timeTick, hp, hr, Bool.or_self, Bool.false_eq_true, if_false, State.tc]
  split <;> rfl

/-! The counter of a domain replaced. -/

section
variable (s : State) (d : Nat) (c : TCnt)

@[simp] theorem State.tc_setTc : (s.setTc d c).tc d = c := by
  unfold State.setTc State.tc
  split <;> rfl

@[simp] theorem State.setTc_g (f : FR) (i : List Nat) : (s.setTc d c).g f i = s.g f i := by
  unfold State.setTc
  split <;> rfl

@[simp] theorem State.setTc_sys : (s.setTc d c).sys = s.sys := by
  unfold State.setTc
  split <;> rfl

end

@[simp] theorem State.tc_count (s : State) (e n d : Nat) : (s.count e n).tc d = s.tc d := by
  simp only [State.tc, State.count_ptp]

/-- Registers with the same strides differ at every index. -/
theorem Reg.addr_ne_of_base (q r : Reg) (i : List Nat) (hd : q.dims = r.dims := by rfl) (hb : q.base ≠ r.base := by decide) :
    q.addr i ≠ r.addr i := by
  rw [Reg.addr, Reg.addr, hd]
  exact fun e => hb (Nat.add_right_cancel e)

/-- Counting leaves the registers of every block but PMU. -/
theorem State.rd_count_of_blk (s : State) (e n : Nat) {r : Reg} (i : List Nat) (hb : r.blk ≠ .pmu)
    (hr : (r.inBlock && r.dims.all fun x => x.1 != 0) = true := by rfl) : (s.count e n).rd r i = s.rd r i := by
  rw [Bool.and_eq_true] at hr
  exact s.rd_count e n (pmuWrap_addr_ne fun h => hb (Option.some.inj ((r.blkAt_addr hr.1 hr.2 i).symm.trans h)))

theorem State.g_count_of_blk (s : State) (e n : Nat) {f : FR} (i : List Nat) (hb : f.reg.blk ≠ .pmu)
    (hr : (f.reg.inBlock && f.reg.dims.all fun x => x.1 != 0) = true := by rfl) : (s.count e n).g f i = s.g f i :=
  congrArg f.of (s.rd_count_of_blk e n i hb hr)

/-! The write of the pair (R172). -/

/-- The increment `v` in the registers and in the counter of domain `d`. -/
def takeIncr (d v : Nat) (s : State) : State :=
  let s1 := (s.p F.PTP_INCR_LO_INCR_LO [d] v).p F.PTP_INCR_HI_INCR_HI [d] (v / 2 ^ 32)
  s1.setTc d { s1.tc d with incr := v }

/-- The test of R172 in thousandths, as the model has it, and in millionths. -/
theorem withinPpm_iff (v : Nat) :
    ((v : Int) - 2 * 2 ^ 48).natAbs * 1000 ≤ 2 * 2 ^ 48 ↔ ((v : Int) - 2 ^ 49).natAbs * 10 ^ 6 ≤ 1000 * 2 ^ 49 := by
  rw [show (2 : Int) * 2 ^ 48 = 2 ^ 49 from rfl]
  generalize ((v : Int) - 2 ^ 49).natAbs = n
  omega

section
variable {d v : Nat} {s : State}

/-- A difference of exactly 1,000 ppm is on the accepting side. -/
theorem writeIncr_near (h : ((v : Int) - 2 ^ 49).natAbs * 10 ^ 6 ≤ 1000 * 2 ^ 49) :
    writeIncr d v s = (takeIncr d v s).count (200 + 4 * d) 1 := by
  rw [writeIncr, if_pos ((withinPpm_iff v).mpr h), takeIncr]

theorem writeIncr_far (h : 1000 * 2 ^ 49 < ((v : Int) - 2 ^ 49).natAbs * 10 ^ 6) :
    writeIncr d v s = (s.p F.PTP_DOM_STAT_INCR_ERR [d] 1).count (201 + 4 * d) 1 := by
  rw [writeIncr, if_neg fun near => Nat.not_le.mpr h ((withinPpm_iff v).mp near)]

/-- The counter keeps its time. -/
theorem takeIncr_tc : (takeIncr d v s).tc d = { s.tc d with incr := v } :=
  State.tc_setTc _ _ _

theorem takeIncr_sys : (takeIncr d v s).sys = s.sys := by
  simp only [takeIncr, State.setTc_sys, State.p_sys]

theorem takeIncr_hi (hv : v < 2 ^ 64) : (takeIncr d v s).g F.PTP_INCR_HI_INCR_HI [d] = v / 2 ^ 32 := by
  rw [takeIncr, State.setTc_g, State.g_p_same]
  exact Nat.mod_eq_of_lt (show v / 2 ^ 32 < 2 ^ 32 by omega)

theorem takeIncr_lo : (takeIncr d v s).g F.PTP_INCR_LO_INCR_LO [d] = v % 2 ^ 32 := by
  rw [takeIncr, State.setTc_g, State.g_p_ne _ _ (R.PTP_INCR_HI.addr_ne_of_base R.PTP_INCR_LO [d]), State.g_p_same]
  rfl

/-- From an accepted pair on, a cycle outside reset advances the counter by it. -/
theorem timeTick_units_of_incr {t : State} (ht : t.tc d = { s.tc d with incr := v }) (hp : t.sys.por = false)
    (hr : t.sys.rstLow = false) : ((timeTick t).tc d).units = ((s.tc d).units + v) % (2 ^ 48 * 10 ^ 9 * 2 ^ 48) := by
  rw [timeTick_tc d hp hr, TCnt.tick_units, ht]
  rfl

/-- A refused pair leaves every other register of its domain. -/
theorem incrErr_rd {r : Reg} (e : Nat) (hb : r.blk ≠ .pmu) (ha : R.PTP_DOM_STAT.addr [d] ≠ r.addr [d])
    (hr : (r.inBlock && r.dims.all fun x => x.1 != 0) = true := by rfl) :
    ((s.p F.PTP_DOM_STAT_INCR_ERR [d] 1).count e 1).rd r [d] = s.rd r [d] :=
  (State.rd_count_of_blk _ e 1 [d] hb hr).trans (s.rd_p_ne _ ha)

end

theorem exec_incrWrite {rq : Req} {d : Fin 2} {v : BitVec 64} {s : State} (h : Reaches rq .ptp s) :
    exec (.incrWrite rq d v) s = .next (writeIncr d v.toNat s) :=
  congrArg Host.Outcome.next (gate_reaches h)

/-- Settles O25: the test of R172 decides between the two writes, and the counter keeps its time in both. -/
theorem incrementsAreTakenWithin1000Ppm : Obligations.IncrementsAreTakenWithin1000Ppm := by
  intro rq d v s h
  rw [exec_incrWrite h]
  refine ⟨fun near => ?_, fun far => ?_⟩
  · rw [writeIncr_near near]
    refine ⟨_, rfl, ?_, ?_, fun hp hr => ⟨_, rfl, ?_⟩⟩
    · rw [State.tc_count, takeIncr_tc]
    · rw [State.g_count_of_blk _ _ _ _ (by decide), State.g_count_of_blk _ _ _ _ (by decide), takeIncr_hi v.isLt, takeIncr_lo]
      omega
    · have sys : ((takeIncr d v.toNat s).count (200 + 4 * d) 1).sys = s.sys := (State.count_sys ..).trans takeIncr_sys
      exact timeTick_units_of_incr ((State.tc_count ..).trans takeIncr_tc) (sys ▸ hp) (sys ▸ hr)
  · rw [writeIncr_far far]
    refine ⟨_, rfl, ?_, ?_, incrErr_rd _ (by decide) (R.PTP_DOM_STAT.addr_ne_of_base R.PTP_INCR_LO _),
      incrErr_rd _ (by decide) (R.PTP_DOM_STAT.addr_ne_of_base R.PTP_INCR_HI _)⟩
    · rw [State.count_ptp, State.p_ptp]
    · rw [State.on, State.g_count_of_blk _ _ _ _ (by decide), State.g_p_same]
      rfl

end Sys2Proof.Machine
end

