-- ==== Sys2Proof/Proofs/Calendar.lean ====
section
/-! PROOFS. A midnight of local time (R201 to R203): how the date advances by a day of the Gregorian calendar, and where it stays. -/
namespace Sys2Proof.Machine

/-! Real dates (R201). -/

theorem monthDays_le (y m : Nat) : monthDays y m ≤ 31 := by
  unfold monthDays
  split
  case h_2 => split <;> decide
  all_goals decide

theorem monthDays_pos_iff (y m : Nat) : 0 < monthDays y m ↔ 1 ≤ m ∧ m ≤ 12 := by
  unfold monthDays
  split
  case h_2 => split <;> decide
  case h_13 =>
    simp only [imp_false] at *
    omega
  all_goals decide

/-- What fits in the fields of REF_CAL_DATE, and what orders the days of a year. -/
theorem realDate_bounds {y m d : Nat} (h : realDate y m d = true) : y ≤ 2399 ∧ 1 ≤ m ∧ m ≤ 12 ∧ 1 ≤ d ∧ d ≤ monthDays y m := by
  simp only [realDate, Bool.and_eq_true, decide_eq_true_eq] at h
  obtain ⟨⟨⟨_, hy⟩, hd⟩, hlast⟩ := h
  obtain ⟨hm, hm'⟩ := (monthDays_pos_iff y m).mp (Nat.lt_of_lt_of_le hd hlast)
  exact ⟨hy, hm, hm', hd, hlast⟩

/-! REF_CAL_DATE and REF_CAL_STAT. -/

/-- The date that REF_CAL_DATE shows: year, month, day. -/
def calDate (s : State) : Nat × Nat × Nat :=
  (s.g F.REF_CAL_DATE_YEAR [], s.g F.REF_CAL_DATE_MONTH [], s.g F.REF_CAL_DATE_DAY [])

/-- The state with another date in REF_CAL_DATE. -/
def putDate (y m d : Nat) (s : State) : State :=
  ((s.p F.REF_CAL_DATE_YEAR [] y).p F.REF_CAL_DATE_MONTH [] m).p F.REF_CAL_DATE_DAY [] d

section
variable {y m d : Nat} {s : State}

theorem calDate_putDate (hy : y < 2 ^ 12) (hm : m < 2 ^ 4) (hd : d < 2 ^ 5) : calDate (putDate y m d s) = (y, m, d) := by
  have year : (putDate y m d s).g F.REF_CAL_DATE_YEAR [] = y := by
    rw [putDate, State.g_p_other (f := F.REF_CAL_DATE_DAY) (g := F.REF_CAL_DATE_YEAR) _ _ _ rfl (by decide),
      State.g_p_other (f := F.REF_CAL_DATE_MONTH) (g := F.REF_CAL_DATE_YEAR) _ _ _ rfl (by decide), State.g_p_same]
    exact Nat.mod_eq_of_lt hy
  have month : (putDate y m d s).g F.REF_CAL_DATE_MONTH [] = m := by
    rw [putDate, State.g_p_other (f := F.REF_CAL_DATE_DAY) (g := F.REF_CAL_DATE_MONTH) _ _ _ rfl (by decide), State.g_p_same]
    exact Nat.mod_eq_of_lt hm
  have day : (putDate y m d s).g F.REF_CAL_DATE_DAY [] = d := by
    rw [putDate, State.g_p_same]
    exact Nat.mod_eq_of_lt hd
  rw [calDate, year, month, day]

theorem calRange_putDate : (putDate y m d s).on F.REF_CAL_STAT_CAL_RANGE [] = s.on F.REF_CAL_STAT_CAL_RANGE [] := by
  rw [State.on, putDate, State.g_p_ne _ _ (by decide), State.g_p_ne _ _ (by decide), State.g_p_ne _ _ (by decide), State.on]

/-- CAL_RANGE lies in another register than the date. -/
theorem calDate_setRange : calDate (s.p F.REF_CAL_STAT_CAL_RANGE [] 1) = calDate s := by
  rw [calDate, State.g_p_ne _ _ (by decide), State.g_p_ne _ _ (by decide), State.g_p_ne _ _ (by decide), calDate]

theorem calDate_count (e n : Nat) : calDate (s.count e n) = calDate s := by
  rw [calDate, State.g_count_of_blk _ _ _ _ (by decide), State.g_count_of_blk _ _ _ _ (by decide),
    State.g_count_of_blk _ _ _ _ (by decide), calDate]

/-! The next date (R202, R203): one equation for each of its four cases. -/

section
variable (h : calDate s = (y, m, d))
include h

theorem nextDate_eq : nextDate s =
    if d < monthDays y m then putDate y m (d + 1) (s.count 197 1)
    else if m < 12 then putDate y (m + 1) 1 (s.count 197 1)
    else if y < 2399 then putDate (y + 1) 1 1 (s.count 197 1)
    else (s.count 197 1).p F.REF_CAL_STAT_CAL_RANGE [] 1 := by
  cases h
  rfl

theorem nextDate_inMonth (hd : d < monthDays y m) : nextDate s = putDate y m (d + 1) (s.count 197 1) := by
  rw [nextDate_eq h, if_pos hd]

theorem nextDate_monthEnd (hd : d = monthDays y m) (hm : m < 12) : nextDate s = putDate y (m + 1) 1 (s.count 197 1) := by
  rw [nextDate_eq h, if_neg (Nat.not_lt.mpr (Nat.le_of_eq hd.symm)), if_pos hm]

theorem nextDate_yearEnd (hd : d = 31) (hm : m = 12) (hy : y < 2399) : nextDate s = putDate (y + 1) 1 1 (s.count 197 1) := by
  subst hd hm
  have last : ¬ 31 < monthDays y 12 := Nat.not_lt.mpr (monthDays_le y 12)
  rw [nextDate_eq h, if_neg last, if_neg (Nat.lt_irrefl 12), if_pos hy]

theorem nextDate_rangeEnd (hy : y = 2399) (hm : m = 12) (hd : d = 31) :
    nextDate s = (s.count 197 1).p F.REF_CAL_STAT_CAL_RANGE [] 1 := by
  subst hd hm hy
  rw [nextDate_eq h]
  rfl

/-- Away from the last day of the calendar a date is put, so CAL_RANGE stays. -/
theorem nextDate_calRange (real : realDate y m d = true) (hend : ¬ (y = 2399 ∧ m = 12 ∧ d = 31)) :
    (nextDate s).on F.REF_CAL_STAT_CAL_RANGE [] = s.on F.REF_CAL_STAT_CAL_RANGE [] := by
  have counted : (s.count 197 1).on F.REF_CAL_STAT_CAL_RANGE [] = s.on F.REF_CAL_STAT_CAL_RANGE [] :=
    congrArg (· != 0) (s.g_count_of_blk 197 1 [] (by decide))
  obtain ⟨hy, _, hm, _, hlast⟩ := realDate_bounds real
  by_cases hd : d < monthDays y m
  · rw [nextDate_inMonth h hd, calRange_putDate, counted]
  have hd : d = monthDays y m := by omega
  by_cases hm' : m < 12
  · rw [nextDate_monthEnd h hd hm', calRange_putDate, counted]
  have hm : m = 12 := by omega
  have hd : d = 31 := by rw [hd, hm]; rfl
  rw [nextDate_yearEnd h hd hm (by omega), calRange_putDate, counted]

end

theorem nextDate_ref (s : State) : (nextDate s).ref = s.ref :=
  (nextDate_keeps (k := fun p => p == .ref) rfl rfl rfl (.refl _ s)).same .ref rfl

theorem nextDate_ptp (s : State) : (nextDate s).ptp = s.ptp :=
  (nextDate_keeps (k := fun p => p == .ptp) rfl rfl rfl (.refl _ s)).same .ptp rfl

/-! The midnight passed (R202). -/

/-- One midnight passed advances the date once, and midnights count from the new day. -/
theorem passMidnights_one (h : localDay s = s.ref.calDay + 1) : passMidnights s = nextDate (newLocalTime s) := by
  have one : (localDay s - s.ref.calDay).toNat = 1 := by omega
  have latest : max s.ref.calDay (localDay s) = localDay s := by omega
  rw [passMidnights, one, latest]
  rfl

theorem exec_midnight_one (run : ¬ Blk.ref ∈ s.sys.held) (h : localDay s = s.ref.calDay + 1) :
    exec .midnight s = .next (nextDate (newLocalTime s)) := by
  rw [← passMidnights_one h]
  exact congrArg Host.Outcome.next (if_neg (by simpa using run))

end

/-- Settles O56: of the four cases of the next date, the real date of the state picks one. -/
theorem midnightAdvancesTheDate : Obligations.MidnightAdvancesTheDate := by
  intro y m d s run passed real hy hm hd
  obtain ⟨year, _, month, _, day⟩ := realDate_bounds real
  have days := monthDays_le y m
  have date : calDate (newLocalTime s) = (y, m, d) := by rw [← hy, ← hm, ← hd]; rfl
  refine ⟨_, exec_midnight_one run passed, ?_, nextDate_ptp _, ?_, ?_, ?_, ?_, nextDate_calRange date real⟩
  · rw [nextDate_ref, newLocalTime]
  · intro inMonth
    rw [nextDate_inMonth date inMonth]
    exact calDate_putDate (by omega) (by omega) (by omega)
  · intro last before
    rw [nextDate_monthEnd date last before]
    exact calDate_putDate (by omega) (by omega) (by decide)
  · intro last december before
    rw [nextDate_yearEnd date last december before]
    exact calDate_putDate (by omega) (by decide) (by decide)
  · intro lastYear december last
    rw [nextDate_rangeEnd date lastYear december last]
    constructor
    · subst lastYear december last
      exact calDate_setRange.trans ((calDate_count 197 1).trans date)
    · rw [State.on, State.g_p_same]
      rfl

end Sys2Proof.Machine
end

