-- ==== Sys2Proof/Proofs/Budget.lean ====
section
/-! PROOFS. The cellar budget (R293): when a percentage covers a load, and what a set and a refused one leave. -/
namespace Sys2Proof.Machine

/-- A field of a written word, put in place, reads as it was written. -/
theorem State.g_p_of (s : State) {f : FR} (i : List Nat) (v : Word) (h : f.hi < 32 := by decide) :
    (s.p f i (f.of v)).g f i = f.of v :=
  (s.g_p_same i (f.of v) h).trans (Nat.mod_mod _ _)

/-- A level source whose condition is false writes at most its own COND (R397). -/
theorem level_false_g {i inst : Nat} {s : State} {f : FR} {j : List Nat} (h : R.FLT_SRC_STAT.addr [i] ≠ f.reg.addr j) :
    (level i inst false s).g f j = s.g f j := by
  cases hc : s.on F.FLT_SRC_STAT_COND [i] with
  | false => simp only [level, hc, Bool.false_and, Bool.and_false, Bool.false_eq_true, if_false]
  | true =>
    simp only [level, hc, Bool.not_false, Bool.false_and, Bool.and_true, Bool.false_eq_true, if_false, if_true]
    exact s.g_p_ne 0 h

theorem withinBudget_iff (s : State) (load : Nat) : withinBudget s load = true ↔ load * 100 ≤ 655360 * s.g F.CEL_BUDGET_PCT [] :=
  decide_eq_true_iff

section
variable {v : Word} {s : State}

/-- The percentage put into CEL_BUDGET is the one its budget follows. -/
theorem withinBudget_putPct (load : Nat) :
    withinBudget (s.p F.CEL_BUDGET_PCT [] (F.CEL_BUDGET_PCT.of v)) load = true ↔ load * 100 ≤ 655360 * F.CEL_BUDGET_PCT.of v := by
  rw [withinBudget_iff, s.g_p_of]

/-! OVER of a load within the budget (R295). -/

theorem updateOver_within (h : withinBudget s (s.g F.CEL_LOAD_LOAD []) = true) :
    updateOver s = level 172 0 false (s.p F.CEL_STAT_OVER [] 0) := by
  rw [updateOver, h]
  rfl

theorem updateOver_within_over (h : withinBudget s (s.g F.CEL_LOAD_LOAD []) = true) : (updateOver s).g F.CEL_STAT_OVER [] = 0 := by
  rw [updateOver_within h, level_false_g (by decide), State.g_p_same]
  rfl

theorem updateOver_within_pct (h : withinBudget s (s.g F.CEL_LOAD_LOAD []) = true) :
    (updateOver s).g F.CEL_BUDGET_PCT [] = s.g F.CEL_BUDGET_PCT [] := by
  rw [updateOver_within h, level_false_g (by decide), State.g_p_ne _ _ (by decide)]

/-! The two outcomes of the write (R293). -/

theorem writeBudget_set (low : 1 ≤ F.CEL_BUDGET_PCT.of v) (high : F.CEL_BUDGET_PCT.of v ≤ 75)
    (covers : s.g F.CEL_LOAD_LOAD [] * 100 ≤ 655360 * F.CEL_BUDGET_PCT.of v) :
    writeBudget v s = updateOver (s.p F.CEL_BUDGET_PCT [] (F.CEL_BUDGET_PCT.of v)) := by
  have within := (withinBudget_putPct (v := v) (s := s) _).mpr covers
  have nonzero : F.CEL_BUDGET_PCT.of v ≠ 0 := Nat.ne_of_gt low
  simp only [writeBudget, within, nonzero, Nat.not_lt.mpr high, decide_false, Bool.not_true, Bool.or_self, Bool.false_eq_true,
    if_false]

theorem writeBudget_refused (h : 75 < F.CEL_BUDGET_PCT.of v ∨ ¬ s.g F.CEL_LOAD_LOAD [] * 100 ≤ 655360 * F.CEL_BUDGET_PCT.of v) :
    writeBudget v s = s.p F.CEL_STAT_CFG_ERR [] 1 := by
  rw [← withinBudget_putPct (s := s), Bool.not_eq_true] at h
  refine if_pos ?_
  obtain high | exceeds := h
  · simp only [high, decide_true, Bool.or_true, Bool.true_or]
  · simp only [exceeds, Bool.not_false, Bool.or_true]

end

theorem exec_budgetWrite {rq : Req} {v : Word} {s : State} (h : Reaches rq .cel s) :
    exec (.budgetWrite rq v) s = .next (writeBudget v s) :=
  congrArg Host.Outcome.next (gate_reaches h)

/-- Settles O54: the write is set or refused as R293 says, and a percentage set covers the load, so that OVER falls. -/
theorem budgetFollowsItsPercentage : Obligations.BudgetFollowsItsPercentage := by
  refine ⟨rfl, fun rq v s h => ⟨fun low high covers => ?_, fun refused => ?_⟩⟩
  · have within : withinBudget (s.p F.CEL_BUDGET_PCT [] (F.CEL_BUDGET_PCT.of v))
        ((s.p F.CEL_BUDGET_PCT [] (F.CEL_BUDGET_PCT.of v)).g F.CEL_LOAD_LOAD []) = true := by
      rw [State.g_p_ne _ _ (by decide)]
      exact (withinBudget_putPct _).mpr covers
    rw [exec_budgetWrite h, writeBudget_set low high covers]
    exact ⟨_, rfl, (updateOver_within_pct within).trans (s.g_p_of [] v), updateOver_within_over within⟩
  · rw [exec_budgetWrite h, writeBudget_refused refused]

end Sys2Proof.Machine
end

