-- ==== Sys2Proof/Proofs/SequenceNumbers.lean ====
section
/-! PROOFS. The sequence check (R333): what it leaves of the expected sequence and of SEQ_ERR, and that every command that
presents a descriptor refuses one that a status before its own BAD_FIELD stops (R334). -/
namespace Sys2Proof.Machine

/-! What the sequence check leaves. -/

/-- The sequence numbers of a ring's version count modulo this (R333). -/
def seqModulus (v : Nat) : Nat := if v = 2 then 2 ^ 32 else 2 ^ 16

/-- The expected sequence follows the descriptor's own. -/
def expectAfter (v : Nat) (d : Desc) (s : State) : State :=
  s.p F.CMD_RING_SEQ_EXPECT [d.part, d.ring] ((dSeq v d + 1) % seqModulus v)

/-- It follows that of a descriptor out of sequence, which SEQ_ERR shows. -/
def outOfSequence (v : Nat) (d : Desc) (s : State) : State :=
  (expectAfter v d s).p F.CMD_RING_STAT_SEQ_ERR [d.part, d.ring] 1

section
variable {v : Nat} {d : Desc} {s : State}

theorem seqCheck_off (off : s.on F.CMD_RING_CFG_SEQ_CHECK [d.part, d.ring] = false) : seqCheck v d s = (false, s) := by
  rw [seqCheck, off]
  rfl

theorem seqCheck_match (on : s.on F.CMD_RING_CFG_SEQ_CHECK [d.part, d.ring] = true)
    (same : dSeq v d = s.g F.CMD_RING_SEQ_EXPECT [d.part, d.ring]) : seqCheck v d s = (false, expectAfter v d s) := by
  rw [seqCheck, if_pos on]
  exact if_pos (beq_iff_eq.mpr same)

theorem seqCheck_mismatch (on : s.on F.CMD_RING_CFG_SEQ_CHECK [d.part, d.ring] = true)
    (other : dSeq v d ≠ s.g F.CMD_RING_SEQ_EXPECT [d.part, d.ring]) : seqCheck v d s = (true, outOfSequence v d s) := by
  rw [seqCheck, if_pos on]
  exact if_neg (mt beq_iff_eq.mp other)

theorem expectAfter_expect :
    (expectAfter v d s).g F.CMD_RING_SEQ_EXPECT [d.part, d.ring] = (dSeq v d + 1) % seqModulus v := by
  have bounds : 0 < seqModulus v ∧ seqModulus v ≤ 2 ^ 32 := by
    unfold seqModulus
    split <;> decide
  rw [expectAfter, State.g_p_same]
  exact Nat.mod_eq_of_lt (Nat.lt_of_lt_of_le (Nat.mod_lt _ bounds.1) bounds.2)

theorem expectAfter_seqErr :
    (expectAfter v d s).g F.CMD_RING_STAT_SEQ_ERR [d.part, d.ring] = s.g F.CMD_RING_STAT_SEQ_ERR [d.part, d.ring] :=
  s.g_p_ne _ (R.CMD_RING_SEQ.addr_ne_of_base R.CMD_RING_STAT _)

theorem outOfSequence_expect :
    (outOfSequence v d s).g F.CMD_RING_SEQ_EXPECT [d.part, d.ring] = (dSeq v d + 1) % seqModulus v := by
  rw [outOfSequence, State.g_p_ne _ _ (R.CMD_RING_STAT.addr_ne_of_base R.CMD_RING_SEQ _), expectAfter_expect]

theorem outOfSequence_seqErr : (outOfSequence v d s).on F.CMD_RING_STAT_SEQ_ERR [d.part, d.ring] = true := by
  rw [outOfSequence, State.on, State.g_p_same]
  rfl

theorem outOfSequence_cmd : (outOfSequence v d s).cmd = s.cmd := rfl

/-- BAD_SEQ is the first status that applies to a descriptor of the ring's version, a known opcode and its own partition that is
out of sequence (R334). -/
theorem generalCheck_badSeq (version : dBits d 3 0 = v) (tag : dBits d 14 12 = d.part)
    (on : s.on F.CMD_RING_CFG_SEQ_CHECK [d.part, d.ring] = true)
    (other : dSeq v d ≠ s.g F.CMD_RING_SEQ_EXPECT [d.part, d.ring]) (bad p0only refusedIdle : Bool) :
    generalCheck v d true bad p0only refusedIdle s = (some 0x13, outOfSequence v d s) := by
  simp only [generalCheck, version, tag, seqCheck_mismatch on other, bne_self_eq_false, Bool.not_true, Bool.false_eq_true,
    if_false, if_true]

end

/-! A descriptor that a general status stops, whatever its opcode's own fields hold. -/

section
variable {p r : Fin 8} {d : Desc} {s u : State} {c : Nat}
variable (front : Presented s p r d)
variable (stopped : ∀ bad p0only refusedIdle,
  generalCheck (ringVer s p r) d true bad p0only refusedIdle (popDesc p r s) = (some c, u))
include front stopped

theorem present_stopped {op : Nat} (opcode : dOpcode d = op) (bad : Nat → Desc → Bool) (p0only refusedIdle : Bool)
    (own : Nat → Desc → State → Option (Nat × Nat)) (go : Nat → Nat → Desc → State → State) :
    present p r op bad p0only refusedIdle own go s = refuse (ringVer s p r) d c 0 u := by
  obtain ⟨head, opened⟩ := front
  simp only [present, head, opcode, opened, stopped, bne_self_eq_false, Bool.false_eq_true, if_false]

theorem presentRead_stopped {op : Nat} (opcode : dOpcode d = op) (len : Nat) (bad : Nat → Desc → Bool) (refusedIdle : Bool)
    (addr : Nat → Desc → Nat) : presentRead p r op len bad refusedIdle addr s = refuse (ringVer s p r) d c 0 u := by
  obtain ⟨head, opened⟩ := front
  simp only [presentRead, head, opcode, opened, stopped, bne_self_eq_false, Bool.false_eq_true, if_false]

/-- No header is read for it, so an FW_UPDATE does not wait for the stack. -/
theorem fwReads_stopped : fwReads p r s = none := by
  obtain ⟨head, opened⟩ := front
  simp only [fwReads, head, opened, stopped, Bool.or_false, ite_self]

theorem execFwUpdate_stopped (opcode : dOpcode d = 0x40) :
    execFwUpdate p r s = .next (refuse (ringVer s p r) d c 0 u) := by
  rw [execFwUpdate, fwReads_stopped front stopped]
  exact congrArg Host.Outcome.next (present_stopped front stopped opcode _ _ _ _ _)

/-- Every command that presents it refuses it: ENGINE_SET and FLOW_ADD before their read of host memory, FW_UPDATE before that of
its header, the others at the same check. -/
theorem exec_presenting_stopped {x : Nat × Instr} (hx : x ∈ presenting p r) (opcode : dOpcode d = x.1) :
    exec x.2 s = .next (refuse (ringVer s p r) d c 0 u) := by
  have plain {op bad p0only idle own go} (h : dOpcode d = op) :
      (.next (present p r op bad p0only idle own go s) : Out) = .next (refuse (ringVer s p r) d c 0 u) :=
    congrArg Host.Outcome.next (present_stopped front stopped h _ _ _ _ _)
  have read {op len bad idle addr} (h : dOpcode d = op) :
      (.next (presentRead p r op len bad idle addr s) : Out) = .next (refuse (ringVer s p r) d c 0 u) :=
    congrArg Host.Outcome.next (presentRead_stopped front stopped h _ _ _ _)
  revert x
  simp only [presenting, List.forall_mem_cons, List.not_mem_nil, false_imp_iff, implies_true, and_true]
  exact ⟨plain, plain, plain, plain, plain, plain, plain, plain, plain, read, plain, plain, plain, read, plain,
    execFwUpdate_stopped front stopped⟩

end

/-- Settles O57: the check is that of the state off the queue, whose registers are the same; a mismatch stops the descriptor for
every command that presents it. -/
theorem sequenceNumbersAreCompared : Obligations.SequenceNumbersAreCompared := by
  intro p r x d s hx front opcode _ version tag part ring
  have stopped := generalCheck_badSeq (s := popDesc p r s) version tag
  simp only [judgedIn, ← part, ← ring] at stopped ⊢
  refine ⟨fun on same => ?_, fun on other => ?_, fun off => ?_⟩
  · rw [seqCheck_match (s := popDesc d.part d.ring s) on same, ← same]
    exact ⟨expectAfter_expect, expectAfter_seqErr⟩
  · have refused := exec_presenting_stopped front (part ▸ ring ▸ stopped on other) hx opcode
    rw [← part, ← ring] at refused
    exact ⟨_, refused, outOfSequence_cmd, outOfSequence_expect, outOfSequence_seqErr⟩
  · rw [seqCheck_off (s := popDesc d.part d.ring s) off]

end Sys2Proof.Machine
end

