-- ==== Sys2Proof/Proofs/CfgSpace.lean ====
section
/-! PROOFS. What the host finds outside the registers: the configuration space (R298, R443), and the entries and pending bits of
BAR4 (R299, R319). -/
namespace Sys2Proof.Machine

/-! The configuration space. -/

section
variable {s : State} {f : Nat}

/-- The test that cfgWord begins with, of a function that answers. -/
theorem not_silent (h : cfgAnswers s f = true) : ¬ (!cfgAnswers s f) = true := by
  rw [h]
  decide

/-- A function that does not answer has no dword to read. -/
theorem cfgWord_silent (h : cfgAnswers s f = false) (off : Nat) : cfgWord s f off = none :=
  if_pos (by rw [h]; rfl)

theorem cfgIds_vf (h : f ≠ 0) : cfgIds f = 0x11531F3B := congrArg (0x1F3B + · * 2 ^ 16) (if_neg h)

end

/-- The low halves of two words, packed into one. -/
theorem ofNat_halves (a b : Word) :
    BitVec.ofNat 32 (a.toNat % 2 ^ 16 + b.toNat % 2 ^ 16 * 2 ^ 16) = b.extractLsb' 0 16 ++ a.extractLsb' 0 16 := by
  have low : a.toNat % 2 ^ 16 < 2 ^ 16 := Nat.mod_lt _ (by decide)
  apply BitVec.eq_of_toNat_eq
  rw [BitVec.toNat_append, BitVec.extractLsb'_toNat, BitVec.extractLsb'_toNat, Nat.shiftRight_zero, Nat.shiftRight_zero,
    ← Nat.shiftLeft_add_eq_or_of_lt low, Nat.shiftLeft_eq, BitVec.toNat_ofNat]
  omega

section
variable {s : State} (hif : blkHeld s .hif = false) (perst : s.cmd.perst = false)
include hif perst

theorem cfgAnswers_running (f : Nat) : cfgAnswers s f = (f == 0 || (s.cmd.vfEnable && decide (f ≤ sriov.1))) := by
  change (!blkHeld s .hif && !s.cmd.perst && _) = _
  rw [hif, perst]
  rfl

theorem cfgAnswers_pf : cfgAnswers s 0 = true := cfgAnswers_running hif perst 0

/-- TotalVFs is 7, so VF Enable opens every function beside the PF (R298, R309). -/
theorem cfgAnswers_vf {f : Fin 8} (hf : f ≠ 0) : cfgAnswers s f = s.cmd.vfEnable := by
  have vf : (f.val == 0) = false := beq_false_of_ne (Fin.val_ne_of_ne hf)
  have counted : f.val ≤ sriov.1 := Nat.le_of_lt_succ f.isLt
  rw [cfgAnswers_running hif perst, vf, decide_eq_true counted, Bool.and_true, Bool.false_or]

theorem cfgWord_pf_ids : cfgWord s 0 0 = some 0x11521F3B#32 :=
  if_neg (not_silent (cfgAnswers_pf hif perst))

theorem cfgWord_vsecHeader : cfgWord s 0 0x404 = some 0x01010001#32 :=
  if_neg (not_silent (cfgAnswers_pf hif perst))

theorem cfgWord_bootStat : cfgWord s 0 0x408 = some (s.rd R.BOOT_STAT []) :=
  if_neg (not_silent (cfgAnswers_pf hif perst))

theorem cfgWord_bootSlotStat : cfgWord s 0 0x40C =
    some ((s.rd R.BOOT_SLOT_STAT [1]).extractLsb' 0 16 ++ (s.rd R.BOOT_SLOT_STAT [0]).extractLsb' 0 16) :=
  (if_neg (not_silent (cfgAnswers_pf hif perst))).trans (congrArg some (ofNat_halves ..))

theorem cfgWord_vf_ids {f : Fin 8} (hf : f ≠ 0) (vfs : s.cmd.vfEnable = true) : cfgWord s f 0 = some 0x11531F3B#32 :=
  (if_neg (not_silent ((cfgAnswers_vf hif perst hf).trans vfs))).trans
    (congrArg (some <| BitVec.ofNat 32 ·) (cfgIds_vf (Fin.val_ne_of_ne hf)))

theorem cfgWord_vf_bootStat {f : Fin 8} (hf : f ≠ 0) (vfs : s.cmd.vfEnable = true) : cfgWord s f 0x408 = none :=
  (if_neg (not_silent ((cfgAnswers_vf hif perst hf).trans vfs))).trans (if_neg (Fin.val_ne_of_ne hf))

theorem cfgWord_vf_off {f : Fin 8} (hf : f ≠ 0) (vfs : s.cmd.vfEnable = false) (off : Nat) : cfgWord s f off = none :=
  cfgWord_silent ((cfgAnswers_vf hif perst hf).trans vfs) off

end

/-! The MSI-X table. -/

/-- The dwords of an entry, by their place in it (R299): address, data and mask bit. -/
def msixEntryWord (a : BitVec 64) (d : Word) (unmasked : Bool) : Nat → Word
  | 0 => a.setWidth 32
  | 1 => (a >>> 32).setWidth 32
  | 2 => d
  | _ => if unmasked then 0 else 1

/-- Entry v of the table of partition p stands at 16 v of its BAR4. -/
theorem bar4Word_entry (s : State) (p : Nat) (v : Fin 32) (k : Fin 4) :
    bar4Word s p (16 * v + 4 * k) = msixEntryWord (getD (0, 0) s.cmd.msix (32 * p + v)).1 (getD (0, 0) s.cmd.msix (32 * p + v)).2
      (s.cmd.unmasked.contains (p, v.val)) k := by
  have entry : (16 * v.val + 4 * k.val) / 16 = v := by omega
  have dword : (16 * v.val + 4 * k.val) / 4 % 4 = k := by omega
  rw [bar4Word, if_pos (by omega), entry, dword]
  match k with
  | 0 | 1 | 2 | 3 => rfl

/-- What the tables of all partitions hold: the addresses and data, and which vectors are unmasked. -/
def msixTables (s : State) : List (Nat × (BitVec 64 × Word)) × List (Nat × Nat) := (s.cmd.msix, s.cmd.unmasked)

/-- What no round of a loop changes, the loop leaves. -/
theorem each_view {α β : Type} {view : State → β} {f : α → State → State} (h : ∀ a t, view (f a t) = view t) :
    ∀ (l : List α) (s : State), view (each l f s) = view s
  | [], _ => rfl
  | a :: l, s => (each_view h l (f a s)).trans (h a s)

theorem count_msixTables (s : State) (e n : Nat) : msixTables (s.count e n) = msixTables s :=
  congrArg (fun c : CmdHid => (c.msix, c.unmasked)) (s.count_cmd e n)

theorem startHoldoff_msixTables (p k : Nat) (s : State) : msixTables (startHoldoff p k s) = msixTables s := by
  unfold startHoldoff
  dsimp only
  split <;> rfl

theorem msixOut_msixTables (p v : Nat) (s : State) : msixTables (msixOut p v s) = msixTables s :=
  (each_view (fun (x : Nat × Nat × Nat) => startHoldoff_msixTables p x.2.2) _ _).trans
    (count_msixTables ..)

/-- A message sent, pending or owed leaves the entries (R319). -/
theorem sendMsix_msixTables (p v : Nat) (s : State) : msixTables (sendMsix p v s) = msixTables s := by
  unfold sendMsix
  split
  case isTrue => split <;> rfl
  case isFalse =>
    split
    case isTrue => exact msixOut_msixTables p v s
    case isFalse => split <;> rfl

/-! MSIX_VECTOR_UNMASK (R299, R319). -/

/-- The state with the address and data of an entry written. -/
def putEntry (p : Nat) (x : MsixEntry) (s : State) : State :=
  { s with cmd := { s.cmd with msix := put s.cmd.msix (32 * p + x.vec) (x.addr, x.data) } }

/-- The state with a vector unmasked: partition and vector. -/
def unmaskVector (v : Nat × Nat) (s : State) : State :=
  if s.cmd.unmasked.contains v then s else { s with cmd := { s.cmd with unmasked := s.cmd.unmasked ++ [v] } }

/-- The state with the pending bit of a vector clear. -/
def clearPendingBit (v : Nat × Nat) (s : State) : State :=
  { s with cmd := { s.cmd with pba := s.cmd.pba.filter (· != v) } }

/-- The unmask sends the message of a pending vector, from the state with its entry written and unmasked. -/
theorem exec_msixVectorUnmask (p : Fin 8) (x : MsixEntry) (s : State) : exec (.msixVectorUnmask p x) s =
    .next (if (unmaskVector (p.val, x.vec.val) (putEntry p x s)).cmd.pba.contains (p.val, x.vec.val) then
      sendMsix p x.vec (clearPendingBit (p.val, x.vec.val) (unmaskVector (p.val, x.vec.val) (putEntry p x s)))
    else unmaskVector (p.val, x.vec.val) (putEntry p x s)) := rfl

theorem unmaskVector_tables (v : Nat × Nat) (s : State) : (unmaskVector v s).cmd.msix = s.cmd.msix ∧
    ∀ w, (unmaskVector v s).cmd.unmasked.contains w = (w == v || s.cmd.unmasked.contains w) := by
  unfold unmaskVector
  split
  case isTrue already =>
    refine ⟨rfl, fun w => ?_⟩
    by_cases same : w = v
    · rw [same, already, Bool.or_true]
    · rw [beq_false_of_ne same, Bool.false_or]
  case isFalse => exact ⟨rfl, fun w => by simp [Bool.or_comm, Bool.beq_eq_decide_eq]⟩

/-- Whether or not a message goes out, the entry has its address and data, and its vector is among the unmasked. -/
theorem exec_msixVectorUnmask_tables (p : Fin 8) (x : MsixEntry) (s : State) : ∃ t, exec (.msixVectorUnmask p x) s = .next t ∧
    t.cmd.msix = put s.cmd.msix (32 * p + x.vec) (x.addr, x.data) ∧
    ∀ w, t.cmd.unmasked.contains w = (w == (p.val, x.vec.val) || s.cmd.unmasked.contains w) := by
  have tables := unmaskVector_tables (p.val, x.vec.val) (putEntry p x s)
  refine ⟨_, exec_msixVectorUnmask p x s, ?_⟩
  split
  · obtain ⟨entries, unmasked⟩ := Prod.mk.inj (sendMsix_msixTables p x.vec
      (clearPendingBit (p.val, x.vec.val) (unmaskVector (p.val, x.vec.val) (putEntry p x s))))
    rw [entries, unmasked]
    exact tables
  · exact tables

section
variable {p : Fin 8} {v : Fin 32} {a : BitVec 64} {d : Word} {s t : State}
variable (entries : t.cmd.msix = put s.cmd.msix (32 * p + v) (a, d))
variable (unmasked : ∀ w, t.cmd.unmasked.contains w = (w == (p.val, v.val) || s.cmd.unmasked.contains w))
include entries unmasked

/-- The entry of the unmasked vector reads its address and data, with the mask bit 0. -/
theorem bar4Word_unmasked (k : Fin 4) : bar4Word t p (16 * v + 4 * k) = msixEntryWord a d true k := by
  rw [bar4Word_entry, entries, unmasked, getD_put_same, beq_self_eq_true, Bool.true_or]

/-- Every other entry reads as it did, its mask bit with it. -/
theorem bar4Word_unmasked_ne {q : Fin 8} {u : Fin 32} (other : (q, u) ≠ (p, v)) (k : Fin 4) :
    bar4Word t q (16 * u + 4 * k) = bar4Word s q (16 * u + 4 * k) := by
  have differ : ¬ (q.val = p.val ∧ u.val = v.val) := by
    simpa only [ne_eq, Prod.mk.injEq, Fin.ext_iff] using other
  have key : 32 * p.val + v.val ≠ 32 * q.val + u.val := by omega
  have vector : (q.val, u.val) ≠ (p.val, v.val) := mt Prod.mk.inj differ
  rw [bar4Word_entry, bar4Word_entry, entries, unmasked, getD_put_ne _ _ _ key, beq_false_of_ne vector, Bool.false_or]

end

/-! The Pending Bit Array. -/

/-- The number whose first n bits are those of f. -/
def bitSum (f : Nat → Bool) (n : Nat) : Nat := (List.range n).foldl (fun a v => a + b2n (f v) * 2 ^ v) 0

theorem bitSum_succ (f : Nat → Bool) (n : Nat) : bitSum f (n + 1) = 2 ^ n * (f n).toNat + bitSum f n := by
  have bit : b2n (f n) = (f n).toNat := by cases f n <;> rfl
  rw [bitSum, List.range_succ, List.foldl_append, Nat.add_comm, Nat.mul_comm, ← bit]
  rfl

theorem bitSum_lt (f : Nat → Bool) : ∀ n, bitSum f n < 2 ^ n
  | 0 => Nat.one_pos
  | n + 1 => by
    have ih := bitSum_lt f n
    have bit : 2 ^ n * (f n).toNat ≤ 2 ^ n * 1 := Nat.mul_le_mul_left _ (Bool.toNat_le _)
    rw [bitSum_succ, Nat.pow_succ]
    omega

theorem testBit_bitSum (f : Nat → Bool) {i : Nat} : ∀ {n}, i < n → (bitSum f n).testBit i = f i
  | n + 1, hi => by
    rw [bitSum_succ, Nat.testBit_two_pow_mul_add _ (bitSum_lt f n)]
    split
    case isTrue below => exact testBit_bitSum f below
    case isFalse top =>
      obtain rfl : i = n := by omega
      rw [Nat.sub_self, Nat.testBit_zero]
      cases f i <;> rfl

theorem bar4Word_pending (s : State) (p : Nat) (v : Fin 32) :
    (bar4Word s p 0x2000).getLsbD v = s.cmd.pba.contains (p, v.val) := by
  have pba : bar4Word s p 0x2000 = BitVec.ofNat 32 (bitSum (fun u => s.cmd.pba.contains (p, u)) 32) := rfl
  rw [pba, BitVec.getLsbD_ofNat, testBit_bitSum _ v.isLt, decide_eq_true v.isLt, Bool.true_and]

/-- Settles O60: by the offsets that the configuration space lists, the entries that the unmask leaves, and the bits of the Pending
Bit Array. -/
theorem configurationSpaceAndMsixTableRead : Obligations.ConfigurationSpaceAndMsixTableRead := by
  refine ⟨fun s hif perst => ?_, fun p v a d s => ?_, fun p v s => bar4Word_pending s p v⟩
  · refine ⟨rfl, cfgWord_vsecHeader hif perst, cfgWord_bootStat hif perst, ⟨_, cfgWord_bootSlotStat hif perst, ?low, ?high⟩,
      cfgWord_pf_ids hif perst, fun vfs f hf => ?_, fun vfs f hf => cfgWord_vf_off hif perst hf vfs⟩
    case low => exact BitVec.extractLsb'_append_eq_right
    case high => exact BitVec.extractLsb'_append_eq_left
    exact ⟨cfgWord_vf_ids hif perst hf vfs, cfgWord_vf_bootStat hif perst hf vfs⟩
  · obtain ⟨t, ht, entries, unmasked⟩ := exec_msixVectorUnmask_tables p ⟨v, a, d⟩ s
    have own := bar4Word_unmasked entries unmasked
    exact ⟨t, ht, own 0, own 1, own 2, own 3,
      fun q u k other => bar4Word_unmasked_ne entries unmasked other (k.castLE (by decide))⟩

end Sys2Proof.Machine
end
